-- ==== Sys2Proof/Word.lean ====
section
/-!
DEFINITION. The word types of the AX96: 32-bit registers and dwords (R8), bytes of memory, and the wide counts
that software sees as several dwords (R107).
-/
namespace Sys2Proof

/-- A register or a dword of a host structure (R8, R11). -/
abbrev Word := BitVec 32

/-- One byte of capture memory, host memory or flash. -/
abbrev Byte := BitVec 8

end Sys2Proof
end

