-- ==== Sys2Proof/Syntax.lean ====
section
/-!
DEFINITION. The commands the AX96 takes from outside: register accesses, doorbells, descriptors, pins, timers and the
events of its engines, one constructor per row of the operation table.
-/
namespace Sys2Proof

/-- What the monitor of one input has seen over a window (R56): the tap-point words in order, and whether a slice serving
the input delivered +2047 or -2047. -/
structure MonWindow where
  words : List (BitVec 16)
  clipped : Bool
deriving DecidableEq, Repr

/-- One strobe of the spare at its target phase (R170): its raw code, and the raw codes of the stream from four samples
before the incumbent's to three after it. -/
structure ShStrobe where
  spare : BitVec 12
  codes : List (BitVec 12)
deriving DecidableEq, Repr

/-- One gauge strobe: the slice's raw code, and the raw code of the gauge, or of the spare in a fall-back block (R136,
R143). -/
structure Strobe where
  c : BitVec 12
  ref : BitVec 14
deriving DecidableEq, Repr

/-- The sums of the raw codes of one converter at the five ladder levels, 4,096 conversions each (R167). -/
structure Ladder where
  /-- 0 to 103 a slice, 104 to 107 a gauge. -/
  unit : Nat
  sums : List Int
deriving DecidableEq, Repr

/-- One rising step of a trigger skew calibration (R256): the index of the first strobe of the core cycle at whose boundary
it rose, and the tap-point words from that index on. -/
structure SkewStep where
  first : BitVec 64
  words : List (BitVec 16)
deriving DecidableEq, Repr

/-- A TIME message (Table 18.3): a servo rate in 2^-40 s per second, or a tide-time step in 2^-40 s. -/
inductive TimeMsg where
  | rate (r : Int)
  | step (delta : Int)
deriving DecidableEq, Repr

/-- What a handover carries of a twin arm (R469): context, next segment number, holdoff origin and the last sample of its
segment, completions left to hold, and first and last index of the open segment. -/
structure HandCtx where
  ctx : Nat
  segment : Nat
  origin : Option Nat
  originEnd : Option Nat
  evLeft : Nat
  bounds : Option (Nat × Nat)
deriving DecidableEq, Repr

/-- A CONFIG message (Table 18.3): a remote detector's configuration at APPLY, the sender's largest D, or the state that a
handover at index `h` carries: eight words per detector, and per context its sequencer registers; its twin arms follow the old
leader's last decision. -/
inductive ConfigMsg where
  | detector (det : Nat) (words : List Word)
  | delay (d : Nat)
  | handover (h : Nat) (dets : List (List Word)) (seqs : List (List Word))
  | handArms (arms : List HandCtx)
deriving DecidableEq, Repr

/-- An arm summary (R460). -/
structure ArmSummary where
  ctx : Nat
  opcode : Nat
  armAt : Nat
  pre : Nat
  post : Nat
  nseg : Nat
  sl : Nat
  dsl : Nat
  k : Nat
deriving DecidableEq, Repr

/-- An ARM message (Table 18.3): a summary, the leader's start index or its refusal, a waiting arm that has ended, or a
stop with its cause: 2 ACQ_STOP with IMMEDIATE=0, 3 EN=0, 7 ACQ_STOP with IMMEDIATE=1. -/
inductive ArmMsg where
  | summary (a : ArmSummary)
  | go (ctx x : Nat)
  | unequal (ctx : Nat)
  | withdraw (ctx : Nat)
  | stop (ctx cause : Nat)
deriving DecidableEq, Repr

/-- What a join compares (R452, Table 18.4): role (true: leader), form, CLK_RATE, CLK_RATE_FRAC, the mode, sample index
and tide time in 2^-40 s of one core cycle, and the seeds of SYN_A and SYN_B. -/
structure JoinReq where
  leader : Bool
  interleave : Bool
  rate : Word
  frac : Word
  mode : Nat
  idx : Nat
  tide : Nat
  seedA : Word
  seedB : Word
deriving DecidableEq, Repr

/-- A CONTROL message (Table 18.3): a join request, the leader's answer with the join index, PHASE_OK, a split and the
core cycle in which the sender was ready for it, a failed lane, and the requests and results of the twin procedures (R466, R467). -/
inductive ControlMsg where
  | join (j : JoinReq)
  | joined (ok : Bool) (idx : Nat)
  | phaseOk (ok : Bool)
  | split
  | splitReady (cycle : Nat)
  | leave
  | laneFailed (lane : Nat)
  | skewRun (inputs n : Nat)
  | skewBusy
  | skewDone (means : List Int)
  | twinState (phase : Int) (gain off : Nat)
  | twinSet (phase : Int) (gain off : Nat) (ramp : Bool)
  | linesFor (part rbase rlen start count : Nat)
  | linesRefused
deriving DecidableEq, Repr


/-- What the monitors of a locked loop have seen (R69, R70): an output period in 10^-18 s, the phase errors of the reference cycles since
the last command about the loop, and a reading of the frequency counter in ppm. -/
structure Trip where
  period : Option Nat
  errs : List Int
  ppm : Option Int
deriving DecidableEq, Repr

/-- The commands of the AX96: one constructor per row of the operation table. -/
inductive Instr where
  /-- RST_N_ASSERT (R520). RST_N held low holds every island in reset, floats outputs except THERM_ALERT_N and loses stack contents. -/
  | rstNAssert
  /-- RST_N_RISE (R524). Rising edge of RST_N starts the hardware loader at step 0, loading OTP factory values. Operands: the level of the COMPAT ball at the edge. -/
  | rstNRise (compat : Bool)
  /-- STARTUP_FLASH_READ_DONE (R532). Both configuration slots have been read and checked, and the current slot or OTP defaults are chosen. -/
  | startupFlashReadDone
  /-- STARTUP_LOCK_DONE (R524). SYN_M and one sample loop are locked, so SAMPLE and CORE start and the CORE blocks become reachable. Operands: the gap measured at the change of CORE clock, in units of 2^-64 s. -/
  | startupLockDone (gap : Nat)
  /-- HBM_BOOT_TRAINING_DONE (R368). Boot training of every pseudo-channel at both rates ends, storing boot sets and making MEM reachable. Operands: a bit per pseudo-channel whose training failed. -/
  | hbmBootTrainingDone (failed : Nat)
  /-- PERST_N_PULSE (R523). PERST_N resets configuration space, HIF and rings, ending ring-carried work, and keeps everything else. -/
  | perstNPulse
  /-- REGISTER_WRITE (R29). A posted BAR0 write to a register with no behaviour of its own takes effect in issue order through X9. Operands: writing function (0 = PF), byte offset in its BAR0, width in bytes, data. -/
  | registerWrite (func : Fin 9) (off : Nat) (width : Nat) (value : BitVec 64)
  /-- WIDE_VALUE_READ (R107). A read of the lowest dword of a wide value returns live bits and snapshots the other dwords for the requesting function. Operands: reading function, byte offset in its BAR0, width in bytes. -/
  | wideValueRead (func : Fin 9) (off : Nat) (width : Nat)
  /-- CROSSING_SLIP (R21). A fixed crossing's occupancy leaves its set value, setting GLB_XSTAT, raising E012 and taking the crossing's action. Operands: the crossing: 0-7 X1.0-X1.7, 8 X2, 9 X6S, 10 X7, 11 X8R. -/
  | crossingSlip (crossing : Fin 12)
  /-- X1_RECENTRE (R21). A slipped X1.b is re-centred at the first core cycle with no context using bank b armed. Operands: the bank. -/
  | x1Recentre (bank : Fin 8)
  /-- X2_RECENTRE (R21). A slipped X2 is re-centred 64 core cycles after the slip, ending the fall-back gauge checks. -/
  | x2Recentre
  /-- X6S_RECENTRE (R21). A slipped X6S is re-centred at the next REF100 edge. -/
  | x6sRecentre
  /-- X8R_RECENTRE (R21). A slipped X8R is re-centred when the stimulus sequencer next stops. -/
  | x8rRecentre
  /-- INPUT_OVERRANGE (R32). A slice delivers +2047 or -2047, setting INP_STAT.OVR and raising the input's overrange event. Operands: the input. -/
  | inputOverrange (input : Fin 4)
  /-- INPUT_OVERLOAD (R34). The intake buffer stays beyond 0.75 V for 1 ns, setting OVERLOAD and raising E106. Operands: the input. -/
  | inputOverload (input : Fin 4)
  /-- INP_OFFSET_WRITE (R36). A write to INP_OFFSETn moves the offset DAC and marks the captured lines of that input degraded for 3,000 core cycles. Operands: the register's index and the value written. -/
  | inpOffsetWrite (input : Fin 4) (value : Word)
  /-- OFFSET_DEGRADED_END (R36). The 3,000-core-cycle degraded marking after an offset write expires. Operands: the input. -/
  | offsetDegradedEnd (input : Fin 4)
  /-- INP_MODE_WRITE (R44). An accepted write changing INP_MODE.MODE sets CHANGING and stops the monitor windows. Operands: the value written. -/
  | inpModeWrite (value : Word)
  /-- MODE_ROUTING_SWITCH (R44). At the next core-cycle boundary with SAMPLE running, the routing switches, a new epoch opens and correction sets load. -/
  | modeRoutingSwitch
  /-- MODE_CHANGE_COMPLETE (R44). 10 µs after the routing switch, CHANGING clears, ACTIVE_MODE updates, E105 is raised and monitor windows restart. -/
  | modeChangeComplete
  /-- CAL_SETTLED (R173). The gauge-estimate and neighbour-interval counts since convergence started are reached, setting CAL_SETTLED and raising E113. -/
  | calSettled
  /-- INP_REF_CTL_WRITE (R51). A write to INP_REF_CTL starts buffer settle timers or clears READY, keeping EN bits of buffers serving captured inputs. Operands: the value written. -/
  | inpRefCtlWrite (value : Word)
  /-- REF_SETTLE_TIMER_EXPIRE (R48). A buffer's 25 ms settle timer expires and its level is checked, setting READY or FAULT with E104. Operands: the buffer, and its level as a deviation from nominal in steps of 0.001 %. -/
  | refSettleTimerExpire (buffer : Fin 4) (level : Int)
  /-- REF_LEVEL_FAULT (R49). A ready buffer's level leaves its band, clearing READY, setting FAULT, raising E104 and marking its banks' lines degraded. Operands: the buffer, and its level as a deviation from nominal in steps of 0.001 %. -/
  | refLevelFault (buffer : Fin 4) (level : Int)
  /-- REF_LEVEL_RECOVER (R49). A buffer's level has stayed in band for 1 ms, setting READY again and ending the degraded marking. Operands: the buffer, and its level as a deviation from nominal in steps of 0.001 %. -/
  | refLevelRecover (buffer : Fin 4) (level : Int)
  /-- INP_MON_CTL_WRITE (R55). A write to INP_MON_CTL discards the running monitor windows and starts new ones the next core cycle. Operands: the value written. -/
  | inpMonCtlWrite (value : Word)
  /-- MONITOR_WINDOW_END (R56). At the end of a monitor window the five outputs of every sampled input are set and SEQ increments. Operands: what the monitors of IN0 to IN3 have seen. -/
  | monitorWindowEnd (windows : List MonWindow)
  /-- BAND_TRIAL_END (R66). A 20 µs band trial of a lock attempt ends, moving to the next band or ending the attempt with LOCK_FAIL and E075. Operands: the loop (0 SYN_A, 1 SYN_B, 2 SYN_M, 3 SYN_S) and the phase errors of the trial's reference cycles, in TDC LSBs. -/
  | bandTrialEnd (loop : Fin 4) (errs : List Int)
  /-- LOCK_RETRY_TIMER (R66). 1 ms after a failed lock attempt, a new lock attempt starts. Operands: the loop. -/
  | lockRetryTimer (loop : Fin 4)
  /-- LOOP_LOCKED (R68). A loop meets the phase and frequency criteria, setting LOCKED and raising its locked event. Operands: the loop, the phase errors of the reference cycles since the last command about it, the frequency counter's reading in ppm, and the gap measured at a change of CORE clock, in units of 2^-64 s. -/
  | loopLocked (loop : Fin 4) (errs : List Int) (ppm : Int) (gap : Nat)
  /-- LOOP_TRIP (R69). A locked loop trips on phase, frequency or period monitor, clearing LOCKED, setting LOST, raising its event and starting a new attempt. Operands: the loop and what trips it; what trips the other sample loop in the same reference cycle, if it does; the gap measured at a change of CORE clock, in units of 2^-64 s; for SYN_S, the last sample before STIM stops and the DAC periods since the pattern vector that plays began. -/
  | loopTrip (loop : Fin 4) (trip : Trip) (other : Option Trip) (gap : Nat) (sample : Nat) (pos : Nat)
  /-- STANDBY_TRACKED (R72). The standby loop stays within 0.5 ps of the active loop for 1,024 reference cycles, setting TRACKED and STBY_READY. Operands: active minus standby phase in each reference cycle since the last command about the pair, in 50 fs. -/
  | standbyTracked (diffs : List Int)
  /-- SWITCH_DEGRADED_END (R84). The degraded window closes 1,024 core cycles after a switch-over. -/
  | switchDegradedEnd
  /-- CLK_SWAP (R85). A write of CLK_CTL.SWAP=1 exchanges active and standby loops when idle and ready, raising E068. Operands: the value written to CLK_CTL. -/
  | clkSwap (value : Word)
  /-- CLK_RATE_GO (R77). A write of CLK_RATE_GO applies a new slice rate, stopping SAMPLE and starting lock attempts on both loops, or is rejected. Operands: the value written, and the gap measured at the change of CORE clock, in units of 2^-64 s. -/
  | clkRateGo (value : Word) (gap : Nat)
  /-- MEM_CLOCK_CHANGE_DONE (R88). The memory clock change completes, commands resume with rescaled refresh and E071 or E072 is raised. -/
  | memClockChangeDone
  /-- MEM_AUTO_RETURN (R89). SYN_M has stayed locked for 10 ms with MEM_AUTO=1, so the memory islands return to SYN_M. -/
  | memAutoReturn
  /-- CLK_MEM_RETURN (R89). A write of CLK_CTL.MEM_RETURN=1 returns the memory islands to a locked SYN_M. Operands: the value written to CLK_CTL. -/
  | clkMemReturn (value : Word)
  /-- CLK_SRATE_GO (R91). A write of CLK_SRATE_GO stops STIM and relocks SYN_S at the new DAC rate, or is rejected or discarded. Operands: the value written. -/
  | clkSrateGo (value : Word)
  /-- RAMP_SEGMENT_END (R92). A ramp profile segment's DURATION elapses, moving to segment NEXT or ending the ramp with E078. -/
  | rampSegmentEnd
  /-- REF_EDGE_MISSING (R95). No REF100_IN edge for 20 ns freezes all four loops in holdover. -/
  | refEdgeMissing
  /-- REF_ABSENT (R95). No REF100_IN edge for 100 ns sets REF_ABSENT, moves MGMT and PEER to the on-die oscillator and raises E076. -/
  | refAbsent
  /-- REF_RETURN (R96). REF100_IN returns and each loop re-acquires phase at the slew limit. -/
  | refReturn
  /-- HOLDOVER_END (R96). A loop reaches PH_OK after the reference returns, clearing HOLDOVER, with E077 when the last loop clears. Operands: the loop and the phase errors of the reference cycles since the last command about it. -/
  | holdoverEnd (loop : Fin 4) (errs : List Int)
  /-- PPS_EDGE (R113). A rising edge at PPS_IN is judged as accepted, rejected or stepped-to and runs the servo or a step. Operands: how long before now the edge was, in 2^-40 s (the timestamp with X6S's latency removed). -/
  | ppsEdge (ago : Nat)
  /-- PPS_MISSING_TIMEOUT (R113). No edge accepted by 1 ms after an expected instant increments TIME_PPS_SEC, sets PPS_MISSING and raises E082. -/
  | ppsMissingTimeout
  /-- TIME_CTL_WRITE (R111). A write to TIME_CTL enables PPS alignment with PPS_WAIT or disables it, clearing the servo state. Operands: the value written. -/
  | timeCtlWrite (value : Word)
  /-- SYNC_IN_PULSE (R116). A 0-to-1 transition sampled on SYNC_IN with EN=1 schedules a SYNC at its sync point. -/
  | syncInPulse
  /-- SOFT_SYNC (R116). A write of TIME_SYNC_CTL.SOFT_SYNC=1 acts as a SYNC sampled at the next REF100_IN edge. Operands: the value written to TIME_SYNC_CTL. -/
  | softSync (value : Word)
  /-- SYNC_POINT (R117). At its sync point a SYNC performs its selected actions or is ignored, raising E084 or E085. Operands: the gap that a clock alignment measures, in units of 2^-64 s, and the sample count with which the release arrives at the players. -/
  | syncPoint (gap : Nat) (sample : BitVec 64)
  /-- DWELL_END (R131). A spare's dwell count of 2^DWELL frames expires, making its rotation handover due. Operands: the bank. -/
  | dwellEnd (bank : Fin 8)
  /-- EPOCH_OPEN (R126). A new slice-map epoch opens at a frame boundary for a handover, substitution, interpolation or fill, incrementing EPOCH. Operands: the bank, and whether the frame is the second of its core cycle. -/
  | epochOpen (bank : Fin 8) (odd : Bool)
  /-- GAUGE_BLOCK_END (R138). A gauge block completes M valid comparisons and passes or fails, updating statistics and suspect state. Operands: the gauge and the strobes of its block. -/
  | gaugeBlockEnd (gauge : Fin 4) (strobes : List Strobe)
  /-- GAUGE_BLOCK_ABANDON (R137). A gauge block that lacks M valid comparisons after 4M strobes, or is interrupted, is abandoned without verdict. Operands: 0 to 3 the block of a gauge, 4 to 11 the fall-back block of bank unit - 4; its strobes. -/
  | gaugeBlockAbandon (unit : Fin 12) (strobes : List Strobe)
  /-- FALLBACK_BLOCK_END (R144). A fall-back block between incumbent and spare ends, and a failure makes the incumbent suspect with E107 bit 7. Operands: the bank and the strobes of its block. -/
  | fallbackBlockEnd (bank : Fin 8) (strobes : List Strobe)
  /-- GAUGE_WINDOW_START (R142). A gauge's calibration window falls due at its tide-time point, starting fall-back checks or raising E110. Operands: the gauge. -/
  | gaugeWindowStart (gauge : Fin 4)
  /-- GAUGE_WINDOW_END (R142). A gauge's 50 ms calibration window ends, spares return to CAL and the gauge resumes its sweep. Operands: the gauge and the sums of its codes at the five ladder levels. -/
  | gaugeWindowEnd (gauge : Fin 4) (ladder : List Int)
  /-- CNV_RETIRE (R152). The CNV_CMD RETIRE command declares a fault on a slice at once and retires it by substitution or interpolation. Operands: the slice. -/
  | cnvRetire (slice : BitVec 7)
  /-- CNV_READMIT (R152). The CNV_CMD READMIT command makes a retired slice the bank's spare, or is refused. Operands: the slice. -/
  | cnvReadmit (slice : BitVec 7)
  /-- CAL_TRIM_WRITE (R157). A TRIM register write that changes a field acts at the next frame boundary, clears CAL_SETTLED and restarts convergence. Operands: 0 to 103 slices, 104 to 107 gauges, 108 to 111 reference buffers; the value written. -/
  | calTrimWrite (unit : Fin 112) (value : Word)
  /-- CORR_SET_WRITE (R159). A write of dword 3 of a correction set entry starts ramps to the written targets or replaces the stored set. Operands: the writing function, whose staged dwords act, and the entry. -/
  | corrSetWrite (func : Fin 9) (mode : Fin 3) (slice : Fin 104)
  /-- CORR_RAMP_END (R163). A correction field's 4,096-frame ramp reaches its target and RAMPING clears. Operands: the slice and the field: 0 GAIN, 1 OFFSET, 2 SKEW, 3 BW. -/
  | corrRampEnd (slice : Fin 104) (field : Fin 4)
  /-- NEIGHBOUR_INTERVAL_END (R168). A neighbour-estimator interval ends and forms SKEW targets, or is starved. Operands: the input and its corrected outputs over the interval. -/
  | neighbourIntervalEnd (input : Fin 4) (words : List (BitVec 16))
  /-- SHADOW_INTERVAL_END (R170). A shadow-estimator interval ends and forms SKEW and BW targets for the spare, or is starved. Operands: the bank and the strobes of its spare over the interval, one per frame. -/
  | shadowIntervalEnd (bank : Fin 8) (strobes : List ShStrobe)
  /-- CAL_FOREGROUND (R176). Opcode 0x61 connects named inputs to the reference ladder and starts foreground calibration. Operands: the ring. -/
  | calForeground (ring : Fin 64)
  /-- FG_TRIM_SEARCH_DONE (R177). The 100 ms trim search ends and the ladder measurement begins. Operands: the ring of the request; the selected trim per converter (0 to 103 slices, 104 to 107 gauges). -/
  | fgTrimSearchDone (ring : Fin 64) (trims : List (Nat × Word))
  /-- FG_RELEASE (R177). Foreground calibration releases the inputs, writes its completion and raises E112. Operands: the ring of the request; the ladder measurements. -/
  | fgRelease (ring : Fin 64) (ladders : List Ladder)
  /-- EQ_COEFF_WRITE (R186). A write to an equaliser coefficient is accepted for a non-live bank or discarded with E117. Operands: the input, the bank, the entry and the value written. -/
  | eqCoeffWrite (input : Fin 4) (bank : Fin 2) (entry : Fin 128) (value : Word)
  /-- EQ_SWAP (R188). A write of EQ_SWAPn with REQ=1 starts, queues or clears a cross-fade request. Operands: the input and the value written to EQ_SWAPn. -/
  | eqSwap (input : Fin 4) (value : Word)
  /-- EQ_FADE_END (R187). A cross-fade of 2^FADE_EXP frames ends, the target bank becomes active and E115 is raised. Operands: the input. -/
  | eqFadeEnd (input : Fin 4)
  /-- EQ_DELAY_WRITE (R195). A write to EQ_DELAYn takes effect at the next frame boundary or is discarded while in use. Operands: the input and the value written. -/
  | eqDelayWrite (input : Fin 4) (value : Word)
  /-- EQ_CLIP (R184). An equaliser or fractional sum saturates, setting CLIP, counting and raising E118. Operands: the input. -/
  | eqClip (input : Fin 4)
  /-- DEC_PATH_WRITE (R207). A write to a decimation path register restarts the path at a common grid index or is discarded while it feeds an armed stream. Operands: 0 to 15: registers DEC_CTLn, DEC_DROPn, DEC_RAKEn, DEC_CICn of input reg / 4; 16 to 19: DEC_MA0_CTL, DEC_MA0_LEN, DEC_MA1_CTL, DEC_MA1_LEN; the value written. -/
  | decPathWrite (reg : Fin 20) (value : Word)
  /-- TRIGGER_LINE_EDGE (R212). An edge at a digital trigger line is timestamped and labelled with a sample index and fraction. Operands: the line (0 to 3 XT, 4 to 11 CT, 12 STAR_IN), the edge at the ball before INV, and how long ago it was, in steps of 8 ps. -/
  | triggerLineEdge (line : Fin 13) (rising : Bool) (ago : Nat)
  /-- DETECTOR_FIRING (R220). A detector's condition is met at a sample index and, if qualified, a firing is reported or merged. Operands: the first index of a tap-point core cycle, and per index the words of IN0 to IN3. -/
  | detectorFiring (first : BitVec 64) (obs : List (List (BitVec 16)))
  /-- TRG_APPLY (R233). A write of TRG_TDk_APPLY=1 moves staged detector values into force and restarts the detector, or is discarded with E130. Operands: the detector. -/
  | trgApply (det : Fin 16)
  /-- TRG_PTH_WRITE (R223). A write to TRG_PTHn takes effect the next core cycle and restarts that pattern comparator. Operands: the input and the value written. -/
  | trgPthWrite (input : Fin 4) (value : Word)
  /-- SEQUENCER_DECISION (R238). In the decision cycle a context's sequencer advances, resets, times out or produces completions for an index. Operands: the context and the index whose decision cycle this is. -/
  | sequencerDecision (ctx : Fin 4) (idx : BitVec 64)
  /-- TRIGGER_OUTPUT_PULSE (R249). An output pulse for a completion rises at the ball at a fixed delay after the trigger instant, or is merged. Operands: the output: 0 to 3 XO, 4 to 11 CT, 12 STAR_OUT. -/
  | triggerOutputPulse (line : Fin 13)
  /-- TRIGGER_PULSE_END (R250). An output pulse ends after WIDTH ns. Operands: the output. -/
  | triggerPulseEnd (line : Fin 13)
  /-- REACTIVE_EVENT_PRESENT (R251). A reactive line presents its event to the stimulus sequencer 120 ns after the decision cycle start. Operands: the reactive line and the sample count with which the event arrives. -/
  | reactiveEventPresent (line : Fin 4) (sample : BitVec 64)
  /-- TLOG_ENTRY_WRITE (R254). The log path drains an entry from its FIFO into the context's TLOG partition. -/
  | tlogEntryWrite
  /-- TRG_SEQ_REG_WRITE (R245). A write to a context's sequencer register is discarded with E136 while the context is armed. Operands: the context; 0 SEQ, 1 HOLD, 2 HOLDN, 3 + 5 j + i register i (ADV, RST, CTL, DMIN, DMAX) of stage j + 1; the value written. -/
  | trgSeqRegWrite (ctx : Fin 4) (reg : Fin 23) (value : Word)
  /-- TRIG_SKEWCAL (R255). Opcode 0x62 connects the named inputs' injectors and starts measuring launch-to-tap-point delays. Operands: the ring. -/
  | trigSkewcal (ring : Fin 64)
  /-- SKEWCAL_DONE (R256). After NSTEPS steps the injectors disconnect, the completion is written and E133 is raised. Operands: the ring of the request; per input and step, the tap-point words from the first strobe of the step's core cycle on. -/
  | skewcalDone (ring : Fin 64) (steps : List (List SkewStep))
  /-- SYM_APPLY (R276). A write of SYM_APPLY=1 moves staged symbol trigger values into force, or is discarded with E140. -/
  | symApply
  /-- SYM_LOCK (R263). Clock recovery meets the lock criteria over 4,096 symbols, setting LOCKED and raising E137. -/
  | symLock
  /-- SYM_UNLOCK (R264). A locked recovery loop trips, clearing LOCKED, counting SYM_UNLOCKS and raising E138. -/
  | symUnlock
  /-- SYM_LOCK_RETRY (R263). 100 µs after a loss of lock a new lock attempt starts. -/
  | symLockRetry
  /-- SYM_MATCH (R270). The latest decided symbols match the pattern, giving a firing at the symbol boundary, or a merge. Operands: the tap-point words of the symbol trigger's input from an index on. -/
  | symMatch (first : BitVec 64) (words : List (BitVec 16))
  /-- SYM_LEVEL_WINDOW_END (R267). A window of 65,536 symbols ends, updating SYM_LVL and, with AUTO, the thresholds. -/
  | symLevelWindowEnd
  /-- ACQ_ARM (R293). Opcode 0x01 checks a segmented arm descriptor and, if it passes, schedules the arm. Operands: the ring. -/
  | acqArm (ring : Fin 64)
  /-- ARM_TAKE_EFFECT (R294). An accepted arm takes effect at a core-cycle boundary, setting ARMED, slot geometry and partitions in use and raising E160. Operands: the context. -/
  | armTakeEffect (ctx : Fin 4)
  /-- SEGMENT_CLOSE (R296). The line holding a segment's last sample enters the write buffer, closing the segment and queuing its index entries. Operands: the context. -/
  | segmentClose (ctx : Fin 4)
  /-- INDEX_ENTRY_WRITE (R299). A queued segment index entry is written to the INDEX partition. -/
  | indexEntryWrite
  /-- ACQ_STOP (R302). Opcode 0x02 stops an armed context or cancels a pending arm. Operands: the ring. -/
  | acqStop (ring : Fin 64)
  /-- ACQ_CTL_EN_CLEAR (R301). A write of ACQ_ACn_CTL.EN=0 stops an armed acquisition at once, truncating its open segment. Operands: the context. -/
  | acqCtlEnClear (ctx : Fin 4)
  /-- MEM_PT_WRITE (R284). A write to a partition register is checked for range and overlap, and is accepted or refused with ERR. Operands: the partition, the register (0 BASE, 1 LEN, 2 CFG) and the value written. -/
  | memPtWrite (pt : Fin 16) (reg : Fin 3) (value : Word)
  /-- ACQ_STREAM (R306). Opcode 0x03 checks a streaming arm descriptor and, if it passes, schedules the arm. Operands: the ring. -/
  | acqStream (ring : Fin 64)
  /-- ACQ_RELEASE (R309). Opcode 0x04 advances a stream's or the log's release count. Operands: the ring. -/
  | acqRelease (ring : Fin 64)
  /-- SLUICE_TICK (R313). At each sluice tick the pressure is judged and a step up, step down, AT_MAX or gap close is decided. Operands: the context. -/
  | sluiceTick (ctx : Fin 4)
  /-- SLUICE_STEP_CHANGE (R314). A requested step change takes effect at the grid index, closing lines, writing a STEP record and raising E165. Operands: the context. -/
  | sluiceStepChange (ctx : Fin 4)
  /-- STREAM_GAP_OPEN (R316). A stream's next line finds it full, so writing stops, a GAP_START record is written and E166 is raised. Operands: the context. -/
  | streamGapOpen (ctx : Fin 4)
  /-- SECOND_RECORD (R319). At each whole second of tide time a SECOND record is written during a streaming acquisition with SEC_REC=1. Operands: the context. -/
  | secondRecord (ctx : Fin 4)
  /-- PAN_ATTACH (R339). Opcode 0x31 attaches a gang of pans to a context and input, or migrates an attached gang. Operands: the ring. -/
  | panAttach (ring : Fin 64)
  /-- PAN_SWAP (R341). Opcode 0x32 closes the gang's filling buffer with cause 0. Operands: the ring. -/
  | panSwap (ring : Fin 64)
  /-- PAN_HARVEST (R342). Opcode 0x33 starts copying a closed pan buffer with its header to host memory. Operands: the ring. -/
  | panHarvest (ring : Fin 64)
  /-- PAN_HARVEST_COMPLETE (R342). All bytes of a pan harvest are visible, the buffer becomes FREE with CLEAR, and the completion is written. Operands: the ring of the harvest. -/
  | panHarvestComplete (ring : Fin 64)
  /-- PAN_DETACH (R343). Opcode 0x34 stops forming passes and closes the gang's filling buffer with cause 4. Operands: the ring. -/
  | panDetach (ring : Fin 64)
  /-- PAN_CLEAR (R344). Opcode 0x35 starts clearing a closed pan buffer. Operands: the ring. -/
  | panClear (ring : Fin 64)
  /-- PAN_CLEAR_COMPLETE (R344). The cleared buffer becomes FREE and the completion is written. Operands: the ring of the clear. -/
  | panClearComplete (ring : Fin 64)
  /-- PAN_SELFTEST (R345). Opcode 0x36 starts a march test over every cell of the named idle pans. Operands: the ring. -/
  | panSelftest (ring : Fin 64)
  /-- PAN_SELFTEST_COMPLETE (R345). The march test ends, cells are cleared, PAN_TESTk is set and E195 is raised. Operands: the ring of the self-test; failing cells of PAN0 to PAN7. -/
  | panSelftestComplete (ring : Fin 64) (fails : List Nat)
  /-- PAN_PASS_COMPLETE (R336). A pass's last cell update completes, possibly making a closing buffer CLOSED with E192. Operands: the gang's first pan and the words of its oldest pass by point. -/
  | panPassComplete (first : Fin 8) (words : List (BitVec 16))
  /-- PAN_CELL_ECC_ERROR (R328). A cell read finds a single-bit error that is corrected or a double-bit error that poisons the cell with E194. Operands: the pan, bank and cell, and whether the error is a double-bit error. -/
  | panCellEccError (pan : Fin 8) (bank : Fin 48) (cell : Fin 43692) (double : Bool)
  /-- MEM_HASH_WRITE (R350). A write to a hash mask is accepted only while no partition is valid, otherwise discarded with HASH_DISCARD. Operands: 0 to 5 MEM_HASH_PCk, 6 to 9 MEM_HASH_BKj; the value written. -/
  | memHashWrite (reg : Fin 10) (value : Word)
  /-- WRITE_BUFFER_RESERVE (R354). Write buffer occupancy reaches the reserve mark, stopping every armed context and raising E198. -/
  | writeBufferReserve
  /-- PORT_PANIC (R357). A memory port starts to panic, counting MEM_PORTp_PANICS and, for real-time ports, raising E206. Operands: the port, and its panic measure (R357): age in ns of its oldest request or prefetch fill in lines, none where it holds no request. -/
  | portPanic (port : Fin 8) (measure : Option Nat)
  /-- REFRESH_INTERVAL (R361). A refresh interval elapses and each bank's refresh count rises by 1. Operands: the stack. -/
  | refreshInterval (stack : Fin 2)
  /-- STACK_TEMP_READ (R362). A stack temperature reading may make the stack hot or normal, changing interval and limit and raising E199. Operands: the stack and its reading, Q8.0 degrees C. -/
  | stackTempRead (stack : Fin 2) (temp : BitVec 8)
  /-- SELF_REFRESH_ENTRY (R365). After SR_IDLE µs of idle, the stacks are precharged, refreshed and put into self-refresh with E201. -/
  | selfRefreshEntry
  /-- SELF_REFRESH_EXIT (R365). A request exits self-refresh, ACTIVE sets, E202 is raised and the waiting request is served. -/
  | selfRefreshExit
  /-- RETRAIN_STEP (R370). A retraining step of one pseudo-channel runs, updating settings or failing with E203. Operands: the setting found inside the margin, counted from the boot set; none: no setting. -/
  | retrainStep (found : Option Int)
  /-- LOAD_OFFSET_RETRAIN (R371). After the first arm with a SPILL partition, each pseudo-channel in turn is retrained to learn its load offset. Operands: the 32 results of the PC's retraining, counted from the boot set. -/
  | loadOffsetRetrain (found : List (Option Int))
  /-- HBM_ECC_CORRECTED (R373). A read finds a correctable error that is corrected, counted, logged and possibly written back. Operands: the line read, the reading port, the word in error and its syndrome. -/
  | hbmEccCorrected (line : Nat) (port : Fin 8) (word : Fin 4) (syndrome : BitVec 8)
  /-- HBM_ECC_UNCORRECTABLE (R374). A read finds an uncorrectable line, which travels as a poison line, with E197. Operands: the line read, the reading port, the word in error and its syndrome. -/
  | hbmEccUncorrectable (line : Nat) (port : Fin 8) (word : Fin 4) (syndrome : BitVec 8)
  /-- BAR4_READ_TIMEOUT (R372). A BAR4 read not completed 100 µs after reaching the endpoint is completed with Completer Abort and E040. -/
  | bar4ReadTimeout
  /-- PCIE_LINK_DOWN (R378). The link goes down, aborting every enabled ring without writing completions or records. Operands: the sample count when the link goes down and the DAC periods since the pattern vector that plays began. -/
  | pcieLinkDown (sample : BitVec 64) (pos : Nat)
  /-- PCIE_LINK_UP (R378). The link trains, HIF registers hold reset values except LINK_LOST, and E037 reports speed and width. Operands: speed code 1 to 5 and lanes. -/
  | pcieLinkUp (speed : Fin 16) (width : Fin 32)
  /-- BUS_MASTER_ENABLE_CHANGE (R379). Bus Master Enable of a function changes, stopping or resuming its memory requests. Operands: the function, its new Bus Master Enable, and how many VFs the host has enabled. -/
  | busMasterEnableChange (func : Fin 9) (on : Bool) (numVfs : Fin 9)
  /-- BAR4_READ (R381). A BAR4 read reads capture memory through the window via PORT6 under the hazard rule. Operands: byte offset in BAR4, a multiple of 4, and dwords. -/
  | bar4Read (off : Nat) (dwords : Nat)
  /-- BAR4_WRITE (R382). A BAR4 write is written through the window, or discarded with E039 if its partition is in use. Operands: byte offset in BAR4 and the bytes written. -/
  | bar4Write (off : Nat) (data : List Byte)
  /-- RING_ENABLE (R385). A write setting HIF_RINGr_CTL.EN on an idle ring resets its pointers and phase, or is refused. Operands: writing function, ring, value written to HIF_RINGr_CTL. -/
  | ringEnable (func : Fin 9) (ring : Fin 64) (value : Word)
  /-- RING_DISABLE (R407). A write of EN=0 stops fetching and lets fetched descriptors run to completion. Operands: writing function, ring, value written to HIF_RINGr_CTL. -/
  | ringDisable (func : Fin 9) (ring : Fin 64) (value : Word)
  /-- RING_ABORT (R408). A write of EN=0 with ABORT=1 ends every fetched descriptor with ABORTED. Operands: writing function, ring, value written to HIF_RINGr_CTL; the sample count at the abort and the DAC periods since the pattern vector that plays began. -/
  | ringAbort (func : Fin 9) (ring : Fin 64) (value : Word) (sample : BitVec 64) (pos : Nat)
  /-- SQ_TAIL_DOORBELL (R386). A doorbell write of SQ_TAIL announces new descriptors, or is discarded with E032. Operands: writing function, ring page, value written. -/
  | sqTailDoorbell (func : Fin 9) (ring : Fin 64) (value : Word)
  /-- CQ_HEAD_DOORBELL (R386). A doorbell write of CQ_HEAD returns CQ slots to the AX96, or is discarded with E032. Operands: writing function, ring page, value written. -/
  | cqHeadDoorbell (func : Fin 9) (ring : Fin 64) (value : Word)
  /-- DESCRIPTOR_FETCH (R389). A descriptor read from the SQ returns and is started, or a read error stops fetching with E033. Operands: the ring, whether the host read failed, the dwords read. -/
  | descriptorFetch (ring : Fin 64) (err : Bool) (words : List Word)
  /-- IRQ_COAL_TIMER (R398). COAL_TIME µs pass since the earliest unsignalled completion or record, so the ring sends its MSI-X message. Operands: the ring whose timer ran out. -/
  | irqCoalTimer (ring : Fin 64)
  /-- HARV_RANGE (R399). Opcode 0x20 copies COUNT lines of a partition region to host memory. Operands: the ring. -/
  | harvRange (ring : Fin 64)
  /-- HARV_STREAM (R400). Opcode 0x21 claims lines or log entries from a streaming target's harvest cursor. Operands: the ring. -/
  | harvStream (ring : Fin 64)
  /-- HARV_STREAM_WAIT_END (R401). A waiting HARV_STREAM finds COUNT lines written past its cursor, or the acquisition ended, and claims them. Operands: the ring whose descriptor waits. -/
  | harvStreamWaitEnd (ring : Fin 64)
  /-- HARVEST_COMPLETE (R402). A harvest's data is visible, its completion is written and the stream target's release count advances. Operands: the ring whose harvest has been written. -/
  | harvestComplete (ring : Fin 64)
  /-- MGMT_NOP (R406). Opcode 0x60 completes OK with the tide time at its start. Operands: the ring. -/
  | mgmtNop (ring : Fin 64)
  /-- RING_DRAINED (R407). The last outstanding completion of a disabled ring is written, DRAINING clears and E034 is raised. Operands: the ring. -/
  | ringDrained (ring : Fin 64)
  /-- FUNCTION_LEVEL_RESET (R409). A Function Level Reset aborts the function's rings without completions and clears its snapshots and cursors. Operands: the function; the sample count and the DAC periods since the pattern vector that plays began. -/
  | functionLevelReset (func : Fin 9) (sample : BitVec 64) (pos : Nat)
  /-- EVENT_RECORD_WRITE (R414). The event unit writes a queued record to each matching EVENT ring, or counts it lost. -/
  | eventRecordWrite
  /-- EVT_TEST_GO (R420). A write of EVT_TEST.GO=1 raises the named event with the test qualifier and route PF. Operands: the value written to EVT_TEST. -/
  | evtTestGo (value : Word)
  /-- PEER_SOFT_PULSE (R425). A write of PULSE=1 sends one software pulse on a CT output or STAR_OUT. Operands: the output: 0 to 7 CT, 8 STAR_OUT; the value written to its control register. -/
  | peerSoftPulse (out : Fin 9) (value : Word)
  /-- PEER_CTL_WRITE (R433). A write to PEER_CTL enters LISTEN, or leaves the bus after one LEAVE frame. Operands: the value written. -/
  | peerCtlWrite (value : Word)
  /-- PEER_LISTEN_END (R433). After 8 ms in LISTEN, the module takes the lowest free seat or enters NO_SEAT. -/
  | peerListenEnd
  /-- ROLL_FRAME_SEND (R434). A SEATED module sends its ROLL frame at its random offset in each roll period. -/
  | rollFrameSend
  /-- TRIG_FRAME_SEND (R438). A queued TRIG frame begins once the bus has been idle for the sender's TRIG gap. -/
  | trigFrameSend
  /-- ROLL_FRAME_RX (R436). An accepted ROLL frame enters or updates the partner table. Operands: the 25 bytes received. -/
  | rollFrameRx (frame : List Byte)
  /-- TRIG_FRAME_RX (R439). An accepted TRIG frame is stored in the broadcast receive ring with E261, or discarded when full. Operands: the 25 bytes received. -/
  | trigFrameRx (frame : List Byte)
  /-- LEAVE_FRAME_RX (R436). An accepted LEAVE frame ages its sender's partner entry out at once. Operands: the 25 bytes received. -/
  | leaveFrameRx (frame : List Byte)
  /-- PEER_FRAME_REJECT (R430). A peer frame with a bad delimiter, TYPE or CRC is rejected, counted and possibly reported with E260. Operands: the bytes received. -/
  | peerFrameReject (frame : List Byte)
  /-- PARTNER_AGE_OUT (R436). A partner entry's age reaches 8 ms and it is invalidated with E257. Operands: the entry of the partner table. -/
  | partnerAgeOut (entry : Fin 64)
  /-- PAIR_PRESENT_CHANGE (R449). PAIR_PRESENT changes level, raising E270 and losing a trained link when it falls. Operands: the new level. -/
  | pairPresentChange (level : Bool)
  /-- PAIR_LINK_TRAINED (R447). Pair link training completes, setting LINK_UP and raising E264. Operands: the partner's identity, the number of its core cycle, and how far its core-cycle boundary lies from this module's, in fs. -/
  | pairLinkTrained (partner : BitVec 64) (cycle : Nat) (skew : Int)
  /-- PAIR_TRAIN_TIMEOUT (R447). Training not ended within 2 ms restarts and counts PAIR_TRAIN_FAILS. -/
  | pairTrainTimeout
  /-- PAIR_BLOCK_RX (R445). A received pair link block is CRC-checked per lane and used, rebuilt from parity or found uncorrectable. Operands: lanes 0 to 8 after descrambling, 128 bits each. -/
  | pairBlockRx (lanes : List (BitVec 128))
  /-- PAIR_SILENCE_TIMEOUT (R449). No block with a valid CRC on any lane for 1 µs loses the link. -/
  | pairSilenceTimeout
  /-- PAIR_RETRAIN_TIMER (R449). 1 ms after a link loss, retraining starts if its conditions hold. -/
  | pairRetrainTimer
  /-- DECISION_MSG_RX (R461). The follower receives a DECISION message and opens a segment with the leader's trigger data. Operands: context, first index of the core cycle of the firing index, offset of the trigger sample index from it, FRACTION, MASK, SYM. -/
  | decisionMsgRx (ctx : Fin 4) (first : BitVec 64) (off : Int) (frac : BitVec 10) (mask : BitVec 16) (sym : Bool)
  /-- FIRING_MSG_RX (R455). The leader receives a remote detector's FIRING message and presents it to its sequencers. Operands: detector, firing index, whether the trigger sample index is one less, FRACTION. -/
  | firingMsgRx (det : Fin 16) (idx : BitVec 64) (before : Bool) (frac : BitVec 10)
  /-- TIME_MSG_RX (R457). The follower receives a servo rate change or step and applies it in the same core cycle as the leader. Operands: the leader's core cycle in which the change arose, and the change. -/
  | timeMsgRx (cycle : Nat) (m : TimeMsg)
  /-- CONFIG_MSG_RX (R455). The follower receives a remote detector configuration, D_T or handover state and loads it. Operands: the message. -/
  | configMsgRx (m : ConfigMsg)
  /-- ARM_MSG_RX (R460). An arm summary or stop forwarding arrives, and the leader compares summaries to set the twin arm's start index. Operands: the message. -/
  | armMsgRx (m : ArmMsg)
  /-- CONTROL_MSG_RX (R452). A join, split, handover or lane-failure message from the partner is acted on. Operands: the message. -/
  | controlMsgRx (m : ControlMsg)
  /-- LINE_MSG_RX (R467). The leader receives a follower line for HARV_PAIR and writes the pair to host memory. Operands: the follower's line and whether it was uncorrectable. -/
  | lineMsgRx (line : Nat) (poison : Bool)
  /-- SAMPLES_MSG_RX (R466). The leader receives 64 follower IN0 words for twin skew calibration or tracking. Operands: first index, 64 follower words, and the leader's own words from six before the first index on. -/
  | samplesMsgRx (first : BitVec 64) (words : List (BitVec 16)) (leader : List (BitVec 16))
  /-- TWIN_JOIN (R452). Opcode 0x70 checks a join request and waits for the partner's request. Operands: the ring. -/
  | twinJoin (ring : Fin 64)
  /-- TWIN_JOIN_EFFECT (R453). At the join index both modules take their roles and the input-form joins complete with E267. -/
  | twinJoinEffect
  /-- TWIN_PHASE_OK (R464). The follower's strobe offset reaches its target, setting PHASE_OK and completing an interleave-form join. Operands: the follower's strobe offset as measured, in 1/16 fs. -/
  | twinPhaseOk (offset : Int)
  /-- TWIN_SPLIT (R468). Opcode 0x71 ends twin arms and returns both modules to single operation with E268. Operands: the ring. -/
  | twinSplit (ring : Fin 64)
  /-- TWIN_SKEWCAL (R466). Opcode 0x72 starts twin skew calibration on the leader. Operands: the ring. -/
  | twinSkewcal (ring : Fin 64)
  /-- TWIN_SKEWCAL_DONE (R466). Twin skew calibration ends, writing results and its completion. Operands: input form: per own input the tap-point words of the steps, as in SKEWCAL_DONE; on a follower of the interleave form, the blocks of 64 IN0 words with their first indices. -/
  | twinSkewcalDone (steps : List (List SkewStep)) (blocks : List (Nat × List (BitVec 16)))
  /-- HARV_PAIR (R467). Opcode 0x73 harvests matching lines of leader and follower partitions in pairs. Operands: the ring. -/
  | harvPair (ring : Fin 64)
  /-- TWIN_HANDOVER (R469). Opcode 0x74 sets the handover index and sends the sequencer state to the new leader. Operands: the ring. -/
  | twinHandover (ring : Fin 64)
  /-- TWIN_HANDOVER_EFFECT (R469). At the handover index the roles swap and E269 is raised on both modules. -/
  | twinHandoverEffect
  /-- STIM_LOAD (R476). Opcode 0x40 starts copying host lines into a STIM partition. Operands: the ring. -/
  | stimLoad (ring : Fin 64)
  /-- STIM_LOAD_COMPLETE (R476). A stimulus load's writes end and its completion is written. Operands: the ring and the words read from host memory. -/
  | stimLoadComplete (ring : Fin 64) (data : List Word)
  /-- STIM_SEQ_LOAD (R479). Opcode 0x41 replaces the sequence table entries after checking them. Operands: the ring and the words that host memory holds at HADDR. -/
  | stimSeqLoad (ring : Fin 64) (table : List Word)
  /-- STIM_START (R480). Opcode 0x42 checks and accepts a sequence start, entering LOADING. Operands: the ring. -/
  | stimStart (ring : Fin 64)
  /-- STIM_READY (R481). The head store and prefetch FIFO are filled and the stimulus state becomes READY. -/
  | stimReady
  /-- STIM_FIRST_SAMPLE (R482). The sequence's release arrives and its first sample plays, raising E224. Operands: where in the core cycle the reference instant of sample 0 falls, in units of 2^-40 s, and its place in its STIM cycle. -/
  | stimFirstSample (ofs : Nat) (phase : Fin 16)
  /-- STIM_DECISION_SAMPLE (R486). At the decision sample the sequencer reads its latches and decides what follows the boundary. -/
  | stimDecisionSample
  /-- STIM_SEGMENT_BOUNDARY (R484). A segment ends and control transfers to the decided entry, starting any ramp. Operands: where in the core cycle the reference instant of the boundary falls, in units of 2^-40 s. -/
  | stimSegmentBoundary (ofs : Nat)
  /-- STIM_STOP (R499). Opcode 0x43 stops the sequence at once or at the next boundary. Operands: the ring and the sample count with which the stop arrives. -/
  | stimStop (ring : Fin 64) (sample : BitVec 64)
  /-- STIM_JUMP (R488). Opcode 0x44 requests a jump to a target entry at the next decided boundary. Operands: the ring and the sample count with which the jump arrives. -/
  | stimJump (ring : Fin 64) (sample : BitVec 64)
  /-- STIM_GO (R489). Opcode 0x45 releases a sequence waiting with START=3 or sets the WAIT latch. Operands: the ring and the sample count with which the release arrives. -/
  | stimGo (ring : Fin 64) (sample : BitVec 64)
  /-- STIM_UNDERRUN_START (R496). A frame is not present when due, so outputs hold idle codes. Operands: the first sample count held. -/
  | stimUnderrunStart (k : BitVec 64)
  /-- STIM_UNDERRUN_END (R496). The FIFO catches up, playback resumes, counters update and E226 is raised. Operands: the sample count at which playback resumes. -/
  | stimUnderrunEnd (k : BitVec 64)
  /-- STIM_POISON_LINE (R497). A poison line's frames play as idle codes, counting STM_POISON and raising E230. Operands: the line. -/
  | stimPoisonLine (line : Nat)
  /-- STIM_SATURATION (R491). An output code saturates after gain and offset, setting SATo and raising E231. Operands: the output and the sample count. -/
  | stimSaturation (out : Fin 2) (k : BitVec 64)
  /-- PAT_LOAD (R510). Opcode 0x50 starts copying vectors into a PAT partition. Operands: the ring. -/
  | patLoad (ring : Fin 64)
  /-- PAT_LOAD_COMPLETE (R510). A pattern load's writes end and its completion is written. Operands: the ring and the words read from host memory. -/
  | patLoadComplete (ring : Fin 64) (data : List Word)
  /-- PAT_TSET_LOAD (R511). Opcode 0x51 loads the named timing sets and marks them valid. Operands: the ring and the words that host memory holds at HADDR, 64 per set named. -/
  | patTsetLoad (ring : Fin 64) (sets : List Word)
  /-- PAT_START (R512). Opcode 0x52 checks and accepts a pattern run, entering LOADING. Operands: the ring. -/
  | patStart (ring : Fin 64)
  /-- PAT_READY (R512). The pattern prefetch FIFO is filled and the run becomes READY. -/
  | patReady
  /-- PAT_FIRST_PERIOD (R513). The run's release arrives and its first period begins, raising E232. Operands: where in the core cycle the first period begins, in units of 2^-40 s, and its place in its STIM cycle. -/
  | patFirstPeriod (ofs : Nat) (phase : Fin 16)
  /-- PAT_VECTOR_BOUNDARY (R509). At a vector boundary the next vector plays, its timing-set switch taking effect or being refused with E235. -/
  | patVectorBoundary
  /-- PAT_STOP (R514). Opcode 0x53 stops the run at the end of the vector or at the next STIM cycle. Operands: the ring, and the DAC periods since the vector that plays began. -/
  | patStop (ring : Fin 64) (pos : Nat)
  /-- PAT_GO (R514). Opcode 0x54 releases a run waiting with START=3. Operands: the ring. -/
  | patGo (ring : Fin 64)
  /-- PAT_UNDERRUN_START (R517). A vector is not present when due, so every pin plays K. -/
  | patUnderrunStart
  /-- PAT_UNDERRUN_END (R517). The FIFO catches up, playback resumes and E234 is raised. -/
  | patUnderrunEnd
  /-- PAT_POISON_LINE (R517). A poison line's vectors play as K, counting PAT_POISON and raising E236. Operands: the line. -/
  | patPoisonLine (line : Nat)
  /-- GLB_COMPAT_WRITE (R522). A write of GLB_CTL.COMPAT=1 before any ring is enabled puts compatibility in force, otherwise sets COMPAT_LATE. Operands: the value written to GLB_CTL. -/
  | glbCompatWrite (value : Word)
  /-- CFG_COMMIT (R534). Opcode 0x63 snapshots trim, correction and map values and starts writing a new image to the non-current slot. Operands: the ring. -/
  | cfgCommit (ring : Fin 64)
  /-- COMMIT_WRITE_DONE (R534). The COMMIT slot write and read-back end, making the slot current with E003 or failing with E004. Operands: the bytes that read back otherwise than programmed, each with its place in the image. -/
  | commitWriteDone (bad : List (Nat × Byte))
  /-- CFG_PUSH (R536). Opcode 0x64 reads and checks a host image and starts writing it to the non-current slot. Operands: the ring and the bytes that host memory holds at HADDR. -/
  | cfgPush (ring : Fin 64) (image : List Byte)
  /-- PUSH_WRITE_DONE (R536). The pushed image's write and read-back end, with E005 on success. Operands: the bytes that read back otherwise than programmed, each with its place in the image. -/
  | pushWriteDone (bad : List (Nat × Byte))
  /-- CFG_READ (R537). Opcode 0x65 copies a configuration slot's bytes to host memory. Operands: the ring. -/
  | cfgRead (ring : Fin 64)
  /-- FW_UPDATE (R541). Opcode 0x66 checks a firmware image and starts writing it to the non-running bank. Operands: the ring and the bytes that host memory holds at HADDR. -/
  | fwUpdate (ring : Fin 64) (image : List Byte)
  /-- FW_UPDATE_WRITE_DONE (R541). The firmware bank write and read-back end, optionally restarting the controller from it. Operands: the bytes that read back otherwise than programmed, each with its place in the image. -/
  | fwUpdateWriteDone (bad : List (Nat × Byte))
  /-- FW_SELECT (R542). Opcode 0x67 restarts the controller from a named good bank. Operands: the ring. -/
  | fwSelect (ring : Fin 64)
  /-- FIRMWARE_START (R539). The management controller starts from a good bank and raises E006. -/
  | firmwareStart
  /-- WATCHDOG_EXPIRE (R540). The management watchdog expires, raising E009 and restarting the controller, from the other bank on a second expiry. -/
  | watchdogExpire
  /-- SENSOR_READ (R551). A junction sensor reading applies the warning, critical and shutdown limits. Operands: the sensor of Table 22.3 and its reading, Q8.0 degrees C; the sample count at the reading and the DAC periods since the pattern vector that plays began. -/
  | sensorRead (sensor : Fin 10) (temp : BitVec 8) (sample : BitVec 64) (pos : Nat)
  /-- THERMAL_SHUTDOWN (R552). 20 µs after E274 every island clock stops and outputs float, with THERM_ALERT_N held low. -/
  | thermalShutdown
  /-- RAIL_CHECK (R553). A rail found outside its operating limits sets its RAIL bit and raises E275 and fault 0x010C. Operands: the rail of Table 22.4 and its reading in mV. -/
  | railCheck (rail : Fin 11) (mv : BitVec 16)
  /-- AGE_TICK (R555). Once per second of uptime a temperature-weighted increment is added to HLTH_AGE. -/
  | ageTick
  /-- SMBUS_TRANSACTION (R572). An SMBus transaction at address 0x58 is served by the management firmware. Operands: the 7-bit address. -/
  | smbusTransaction (addr : BitVec 7)
  /-- COMMAND_SLOT (R358). In each command slot of each pseudo-channel the controller serves the first class of Table 14.5: catch-up or per-bank refresh, panicking ports, retraining, or other requests, draining write-buffer lines to the stack and issuing reads. Operands: the pseudo-channel, and how long the request it serves has waited, in ns. -/
  | commandSlot (pc : Fin 64) (wait : Nat)
  /-- LINE_PACKED (R289). The line packer completes a raw or decimated line of a capture or streaming stream and writes it into the write buffer at its slot or ring position, advancing W. Operands: the context, whether the line is decimated, and per input what it is packed from: a raw line, one window of 181 tagged raw codes; a decimated line, per output the tap-point words it covers. -/
  | linePacked (ctx : Fin 4) (dec : Bool) (data : List (List (List (BitVec 16))))
  /-- TRACKING_LOST (R72). The standby loop's phase difference to the active loop exceeds 1.0 ps, clearing TRACKED and STBY_READY. Operands: active minus standby phase in each reference cycle since the last command about the pair, in 50 fs. -/
  | trackingLost (diffs : List Int)
  /-- TWIN_JOIN_TIMEOUT (R452). The partner's TWIN_JOIN has not arrived within TIMEOUT ms, so the waiting join completes with PAIR_LOST. -/
  | twinJoinTimeout
  /-- P2P_READ_TIMEOUT (R441). The flushing read to a peer window has not completed within 50 ms, so the harvest descriptor completes with ABORTED. Operands: the ring whose harvest waits for its read. -/
  | p2pReadTimeout (ring : Fin 64)
  /-- FUNCTION_LEVEL_RESET_DONE (R409). A VF's Function Level Reset finishes within 10 ms, leaving its rings idle, and E038 is raised to the PF. Operands: the VF. -/
  | functionLevelResetDone (func : Fin 9)
  /-- LEAVE_FRAME_SEND (R433). After EN goes to 0, the SEATED module sends its one LEAVE frame once the bus is idle for its gap, and then enters OFF. -/
  | leaveFrameSend
  /-- PAIR_CTL_WRITE (R447). A write of PAIR_CTL.EN=1 starts link training when PAIR_PRESENT is high and BYPASS is 0 on both modules. Operands: the value written. -/
  | pairCtlWrite (value : Word)
deriving DecidableEq, Repr

end Sys2Proof
end

