-- ==== Sys2Proof/Decode.lean ====
section
/-!
DEFINITION. The decoder of the table's words. The operation table gives none of its rows bits: the AX96 takes commands
as register accesses, descriptors, pins and timers, never as instruction words (log entry 1).
-/
namespace Sys2Proof

/-- No word spells a command: the table gives no row any bits. -/
def decodeTableWord (_nbits _w : Nat) : Option Instr := none

end Sys2Proof
end

