-- ==== Sys2Proof/Config.lean ====
section
/-!
DEFINITION. What the implementation fixes and what the spec leaves open. The free values have no body: nothing can be
proved about their value, so a claim about them holds for every value.
-/
namespace Sys2Proof.Config

/-- A value the spec leaves open after an operation that goes on: the n-th such value drawn (log entry 4). -/
opaque freeValue (w n : Nat) : BitVec w

/-- The gains of the symbol trigger's loop filter by LBW, proportional and integral, in 2^-32 of a unit interval: R262 gives
bounds for the bandwidth and the damping, and no gains (log entry 89). -/
opaque symGains (lbw : Nat) : Int × Int

/-- Enable Relaxed Ordering of a function's Device Control register, which the host sets in configuration space
(Table 15.1, log entry 95). -/
opaque relaxedOrdering (f : Nat) : Bool

/-- The interpolation of the resampler: the codes of 8 source frames, none for one outside the stream, and the position in
2^-48 of a frame (R490, log entry 99). -/
opaque resample (codes : List (Option Int)) (phase : Nat) : Int

end Sys2Proof.Config
end

