-- ==== Sys2Proof/Machine/Bits.lean ====
section
/-!
DEFINITION. Bit fields of a word, signed readings, the roundings of R582 and the byte order of R8.
Every other file takes its field extraction and its arithmetic helpers from here.
-/
namespace Sys2Proof.Machine

/-- Bits `lo` to `lo + w - 1` of `v`, as a number. -/
def getBits (v : Word) (lo w : Nat) : Nat := (v.extractLsb' lo w).toNat

/-- The mask of bits `lo` to `lo + w - 1`. -/
def maskBits (lo w : Nat) : Word := BitVec.ofNat 32 ((2 ^ w - 1) * 2 ^ lo)

/-- `v` with bits `lo` to `lo + w - 1` replaced by the low `w` bits of `x`. -/
def putBits (v : Word) (lo w x : Nat) : Word :=
  (v &&& ~~~ maskBits lo w) ||| BitVec.ofNat 32 (x % 2 ^ w * 2 ^ lo)

/-- Bit `i` of a number. -/
def natBit (x i : Nat) : Bool := x / 2 ^ i % 2 == 1

/-- Bits `lo` to `lo + w - 1` of a number. -/
def natField (x lo w : Nat) : Nat := x / 2 ^ lo % 2 ^ w

/-- The two's-complement reading of the low `w` bits of `x` (the Q formats of chapter 0). -/
def signed (w x : Nat) : Int :=
  let y := x % 2 ^ w
  if y < 2 ^ (w - 1) then (y : Int) else (y : Int) - (2 ^ w : Nat)

/-- The `w`-bit two's-complement pattern of an integer. -/
def pattern (w : Nat) (x : Int) : Nat := (x % (2 ^ w : Nat)).toNat

/-- Shift right towards minus infinity (R582: ashr). -/
def ashr (x : Int) (n : Nat) : Int := x / (2 ^ n : Nat)

/-- Rounding of a quotient to the nearest integer, halves away from zero (R582). The divisor is positive. -/
def roundDiv (x : Int) (d : Nat) : Int :=
  if 0 ≤ x then (2 * x + d) / (2 * d : Nat) else - ((2 * (-x) + d) / (2 * d : Nat))

/-- Rounding shift, halves away from zero (R582: round_shr). -/
def roundShr (x : Int) (n : Nat) : Int := roundDiv x (2 ^ n)

/-- A rational number rounded to the nearest integer, halves away from zero (R582). -/
def roundRat (q : Rat) : Int := roundDiv q.num q.den

/-- The quotient of two natural numbers rounded to the nearest, halves up (R582). -/
def roundDivNat (x d : Nat) : Nat := (2 * x + d) / (2 * d)

/-- The quotient rounded up. -/
def ceilDiv (x d : Nat) : Nat := (x + d - 1) / d

/-- The sum of a list. -/
def sumInt (l : List Int) : Int := l.foldl (· + ·) 0

/-- An integer limited to a range. -/
def clampInt (lo hi x : Int) : Int := if x < lo then lo else if hi < x then hi else x

/-- A number limited to a maximum (a saturating count). -/
def satNat (hi x : Nat) : Nat := if hi < x then hi else x

/-- The integer square root by bisection on bits, from bit `n` down: the largest `r` with `r * r ≤ x`. -/
def isqrtFrom (x : Nat) : Nat → Nat → Nat
  | 0, r => r
  | n + 1, r =>
    let r' := r + 2 ^ n
    isqrtFrom x n (if r' * r' ≤ x then r' else r)

/-- The square root of `x` (below 2^128) rounded to the nearest integer (R582). -/
def roundSqrt (x : Nat) : Nat :=
  let r := isqrtFrom x 64 0
  if x > r * r + r then r + 1 else r

/-- The number of ones of the low `n` bits of `x`. -/
def popCount (x : Nat) : Nat → Nat
  | 0 => 0
  | n + 1 => popCount x n + (if natBit x n then 1 else 0)

/-- The square root of p / q, rounded to the nearest integer (R582). -/
def roundSqrtQuot (p q : Nat) : Nat := (isqrtFrom (4 * p / q) 40 0 + 1) / 2

/-- The list of bit positions below `n` that are 1 in `x`, ascending. -/
def bitsSet (x : Nat) (n : Nat) : List Nat := (List.range n).filter (natBit x)

/-- The number with the bits of a list set. -/
def bitsOf (l : List Nat) : Nat := l.foldl (fun a i => if natBit a i then a else a + 2 ^ i) 0

/-- The four bytes of a dword, least significant first (R8). -/
def wordBytes (w : Word) : List Byte :=
  [w.extractLsb' 0 8, w.extractLsb' 8 8, w.extractLsb' 16 8, w.extractLsb' 24 8]

/-- The bytes of a list of dwords (R8). -/
def wordsBytes (l : List Word) : List Byte := l.flatMap wordBytes

/-- A dword from four bytes, least significant first (R8). -/
def bytesWord (b0 b1 b2 b3 : Byte) : Word := b3 ++ b2 ++ b1 ++ b0

/-- `n` little-endian bytes of a number. -/
def natBytes (x : Nat) : Nat → List Byte
  | 0 => []
  | n + 1 => BitVec.ofNat 8 x :: natBytes (x / 256) n

/-- The number that little-endian bytes spell. -/
def bytesNat : List Byte → Nat
  | [] => 0
  | b :: l => b.toNat + 256 * bytesNat l

/-- One byte of the reflected CRC-32C register (polynomial 0x1EDC6F41, R430). -/
def crcByte : Nat → BitVec 32 → BitVec 32
  | 0, c => c
  | n + 1, c => crcByte n (if c.getLsbD 0 then (c >>> 1) ^^^ 0x82F63B78#32 else c >>> 1)

/-- CRC-32C of a list of bytes: initial value and final XOR 0xFFFFFFFF (R430). -/
def crc32c (l : List Byte) : Word :=
  (l.foldl (fun c b => crcByte 8 (c ^^^ b.zeroExtend 32)) 0xFFFFFFFF#32) ^^^ 0xFFFFFFFF#32

/-- One step of the 32-bit LFSR with polynomial x^32 + x^22 + x^2 + x + 1 (R63), shifting left. -/
def lfsrStep (x : Word) : Word :=
  (x <<< 1) ||| (if (x.getLsbD 31 ^^ x.getLsbD 21 ^^ x.getLsbD 1 ^^ x.getLsbD 0) then 1 else 0)

/-- An LFSR seed: 0 acts as 1 (R63). -/
def lfsrSeed (x : Word) : Word := if x = 0 then 1 else x

/-- The `n`-th element of a list of words, 0 beyond its end. -/
def dwAt (l : List Word) (i : Nat) : Word := l.getD i 0

/-- Dwords `i` and `i + 1` as one number, low dword first. -/
def dw64 (l : List Word) (i : Nat) : Nat := (dwAt l i).toNat + 2 ^ 32 * (dwAt l (i + 1)).toNat

/-- The low dword of a number. -/
def lo32 (x : Nat) : Word := BitVec.ofNat 32 x

/-- The second dword of a number. -/
def hi32 (x : Nat) : Word := BitVec.ofNat 32 (x / 2 ^ 32)

end Sys2Proof.Machine
end

