-- ==== Sys2Proof/Machine/RegTable.lean ====
section
/-!
DEFINITION. The register index as a table (Tables 23.2 to 23.13, R557 to R560): which offsets exist, which of their
bits a plain write sets (RW), sets only while no context is armed (RWL), or clears (W1C), and their values after RST_N.
Values that the spec leaves to the OTP of the part (R527) stand here as 0, gains as 1.0: DESIGN CHOICE, log entry 3.
-/
namespace Sys2Proof.Machine

/-- One row: registers at base + s1 * a + s2 * b for a < n1, b < n2, their write masks, and their reset values
(one for all, or one per a). -/
structure RegRow where
  base : Nat
  s1 : Nat
  n1 : Nat
  s2 : Nat
  n2 : Nat
  rw : Nat
  rwl : Nat
  w1c : Nat
  reset : List Nat
deriving DecidableEq, Repr

/-- Rows of the block at 0x00_0000. -/
def regRows00 : List RegRow := [
  ⟨0x0, 0x4, 1, 0x1, 1, 0x0, 0x0, 0x0, [0xA9601F2E]⟩,
  ⟨0x4, 0x4, 1, 0x1, 1, 0x0, 0x0, 0x0, [0x0]⟩,
  ⟨0x8, 0x4, 1, 0x1, 1, 0x0, 0x0, 0x8, [0x1000000]⟩,
  ⟨0x40, 0x4, 1, 0x1, 1, 0x0, 0x0, 0xFFF, [0x0]⟩]

/-- Rows of the block at 0x01_0000. -/
def regRows01 : List RegRow := [
  ⟨0x10000, 0x4, 1, 0x1, 1, 0x0, 0x0, 0x0, [0x0]⟩,
  ⟨0x10004, 0x4, 1, 0x1, 1, 0x0, 0x0, 0x0, [0x0]⟩,
  ⟨0x10008, 0x4, 1, 0x1, 1, 0x0, 0x0, 0x0, [0x0]⟩,
  ⟨0x1000C, 0x4, 1, 0x1, 1, 0x0, 0x0, 0x0, [0x0]⟩,
  ⟨0x10010, 0x4, 1, 0x1, 1, 0x0, 0x0, 0x0, [0x0]⟩,
  ⟨0x10014, 0x4, 1, 0x1, 1, 0x0, 0x0, 0x0, [0x0]⟩,
  ⟨0x10018, 0x4, 1, 0x1, 1, 0x0, 0x0, 0x0, [0x0]⟩,
  ⟨0x1001C, 0x4, 1, 0x1, 1, 0x0, 0x0, 0x0, [0x0]⟩]

/-- Rows of the block at 0x02_0000. -/
def regRows02 : List RegRow := [
  ⟨0x20000, 0x4, 1, 0x1, 1, 0x1, 0x0, 0x0, [0x0]⟩,
  ⟨0x20004, 0x4, 1, 0x1, 1, 0x0, 0x0, 0x1, [0x0]⟩,
  ⟨0x20008, 0x4, 1, 0x1, 1, 0x0, 0x0, 0x0, [0x0]⟩,
  ⟨0x2000C, 0x4, 1, 0x1, 1, 0x1FF, 0x0, 0x0, [0x0]⟩,
  ⟨0x20010, 0x4, 1, 0x1, 1, 0xFFFFFFFF, 0x0, 0x0, [0x0]⟩,
  ⟨0x20040, 0x4, 1, 0x1, 1, 0x13FF, 0x0, 0x0, [0x13FF]⟩,
  ⟨0x20044, 0x4, 1, 0x1, 1, 0x3FF, 0x0, 0x0, [0x3FF]⟩,
  ⟨0x20048, 0x4, 1, 0x1, 1, 0x3FFFFF, 0x0, 0x0, [0x2FFFFF]⟩,
  ⟨0x2004C, 0x4, 1, 0x1, 1, 0x7FFFF0, 0x0, 0x0, [0x6FFFF0]⟩,
  ⟨0x20050, 0x4, 1, 0x1, 1, 0x1FFF, 0x0, 0x0, [0x1FFF]⟩,
  ⟨0x20054, 0x4, 1, 0x1, 1, 0x3FF, 0x0, 0x0, [0x3FF]⟩,
  ⟨0x20058, 0x4, 1, 0x1, 1, 0xFFFF, 0x0, 0x0, [0xFFFF]⟩,
  ⟨0x2005C, 0x4, 1, 0x1, 1, 0x1FFF, 0x0, 0x0, [0x1FE7]⟩,
  ⟨0x20060, 0x4, 1, 0x1, 1, 0xFF7F3F, 0x0, 0x0, [0xFF7F1F]⟩,
  ⟨0x20080, 0x4, 1, 0x1, 1, 0x13FF, 0x0, 0x0, [0x1006]⟩,
  ⟨0x20084, 0x4, 1, 0x1, 1, 0x3FF, 0x0, 0x0, [0x0]⟩,
  ⟨0x20088, 0x4, 1, 0x1, 1, 0x3FFFFF, 0x0, 0x0, [0x20]⟩,
  ⟨0x2008C, 0x4, 1, 0x1, 1, 0x7FFFF0, 0x0, 0x0, [0x0]⟩,
  ⟨0x20090, 0x4, 1, 0x1, 1, 0x1FFF, 0x0, 0x0, [0x0]⟩,
  ⟨0x20094, 0x4, 1, 0x1, 1, 0x3FF, 0x0, 0x0, [0x0]⟩,
  ⟨0x20098, 0x4, 1, 0x1, 1, 0xFFFF, 0x0, 0x0, [0x60]⟩,
  ⟨0x2009C, 0x4, 1, 0x1, 1, 0x1FFF, 0x0, 0x0, [0x0]⟩,
  ⟨0x200A0, 0x4, 1, 0x1, 1, 0xFF7F3F, 0x0, 0x0, [0x60400]⟩,
  ⟨0x200C0, 0x4, 1, 0x1, 1, 0x0, 0x0, 0x13FF, [0x0]⟩,
  ⟨0x200C4, 0x4, 1, 0x1, 1, 0x0, 0x0, 0x3FF, [0x0]⟩,
  ⟨0x200C8, 0x4, 1, 0x1, 1, 0x0, 0x0, 0x3FFFFF, [0x0]⟩,
  ⟨0x200CC, 0x4, 1, 0x1, 1, 0x0, 0x0, 0x7FFFF0, [0x0]⟩,
  ⟨0x200D0, 0x4, 1, 0x1, 1, 0x0, 0x0, 0x1FFF, [0x0]⟩,
  ⟨0x200D4, 0x4, 1, 0x1, 1, 0x0, 0x0, 0x3FF, [0x0]⟩,
  ⟨0x200D8, 0x4, 1, 0x1, 1, 0x0, 0x0, 0xFFFF, [0x0]⟩,
  ⟨0x200DC, 0x4, 1, 0x1, 1, 0x0, 0x0, 0x1FFF, [0x0]⟩,
  ⟨0x200E0, 0x4, 1, 0x1, 1, 0x0, 0x0, 0xFF7F3F, [0x0]⟩]

/-- Rows of the block at 0x03_0000. -/
def regRows03 : List RegRow := [
  ⟨0x30000, 0x4, 1, 0x1, 1, 0x1, 0x0, 0x0, [0x0]⟩,
  ⟨0x30004, 0x4, 1, 0x1, 1, 0x0, 0x0, 0x180000, [0x0]⟩,
  ⟨0x30010, 0x4, 1, 0x1, 1, 0x7FFFF800, 0x0, 0x0, [0x0]⟩,
  ⟨0x30014, 0x4, 1, 0x1, 1, 0x0, 0x0, 0x0, [0x0]⟩,
  ⟨0x30020, 0x4, 9, 0x1, 1, 0x0, 0x0, 0x0, [0x0]⟩,
  ⟨0x31000, 0x40, 64, 0x1, 1, 0x8F0F033F, 0x0, 0x0, [0x1000006]⟩,
  ⟨0x31004, 0x40, 64, 0x1, 1, 0xFFFFF000, 0x0, 0x0, [0x0]⟩,
  ⟨0x31008, 0x40, 64, 0x1, 1, 0xFFFFFFFF, 0x0, 0x0, [0x0]⟩,
  ⟨0x3100C, 0x40, 64, 0x1, 1, 0xFFFFF000, 0x0, 0x0, [0x0]⟩,
  ⟨0x31010, 0x40, 64, 0x1, 1, 0xFFFFFFFF, 0x0, 0x0, [0x0]⟩,
  ⟨0x31014, 0x40, 64, 0x1, 1, 0x803FFFFF, 0x0, 0x0, [0x1]⟩,
  ⟨0x31018, 0x40, 64, 0x1, 1, 0x1FF, 0x0, 0x0, [0x0]⟩,
  ⟨0x3101C, 0x40, 64, 0x1, 1, 0x0, 0x0, 0x0, [0x0]⟩,
  ⟨0x31020, 0x40, 64, 0x1, 1, 0x0, 0x0, 0x350, [0x800]⟩,
  ⟨0x31024, 0x40, 64, 0x1, 1, 0x0, 0x0, 0x0, [0x0]⟩,
  ⟨0x31028, 0x40, 64, 0x1, 1, 0x0, 0x0, 0x0, [0x0]⟩]

/-- Rows of the block at 0x04_0000. -/
def regRows04 : List RegRow := [
  ⟨0x40000, 0x4, 1, 0x1, 1, 0x3, 0x0, 0x0, [0x0]⟩,
  ⟨0x40004, 0x4, 1, 0x1, 1, 0x0, 0x0, 0xF0, [0x8]⟩,
  ⟨0x40010, 0x4, 5, 0x1, 1, 0x0, 0x0, 0x0, [0x0]⟩,
  ⟨0x40030, 0x4, 1, 0x1, 1, 0x0, 0x0, 0x0, [0x0]⟩,
  ⟨0x40034, 0x4, 1, 0x1, 1, 0x0, 0x0, 0x0, [0x0]⟩,
  ⟨0x40040, 0x4, 1, 0x1, 1, 0xFFFFFFFF, 0x0, 0x0, [0x0]⟩,
  ⟨0x40044, 0x4, 1, 0x1, 1, 0xFF, 0x0, 0x0, [0x0]⟩,
  ⟨0x40048, 0x4, 1, 0x1, 1, 0xFFFFFFFF, 0x0, 0x0, [0x0]⟩,
  ⟨0x4004C, 0x4, 1, 0x1, 1, 0x0, 0x0, 0x0, [0x0]⟩,
  ⟨0x40050, 0x4, 1, 0x1, 1, 0x0, 0x0, 0x0, [0x0]⟩,
  ⟨0x40054, 0x4, 1, 0x1, 1, 0x0, 0x0, 0x0, [0x0]⟩,
  ⟨0x40060, 0x4, 1, 0x1, 1, 0x0, 0x0, 0x0, [0x0]⟩,
  ⟨0x40064, 0x4, 1, 0x1, 1, 0x0, 0x0, 0x0, [0x0]⟩,
  ⟨0x40068, 0x4, 1, 0x1, 1, 0x0, 0x0, 0x0, [0x0]⟩,
  ⟨0x4006C, 0x4, 1, 0x1, 1, 0x0, 0x0, 0x0, [0x0]⟩,
  ⟨0x40080, 0x4, 1, 0x1, 1, 0xFF3F, 0x0, 0x0, [0x0]⟩,
  ⟨0x40084, 0x4, 1, 0x1, 1, 0xFFFFFFFF, 0x0, 0x0, [0x0]⟩,
  ⟨0x40088, 0x4, 1, 0x1, 1, 0xFFFFFFFF, 0x0, 0x0, [0x0]⟩,
  ⟨0x4008C, 0x4, 1, 0x1, 1, 0xFFFF, 0x0, 0x0, [0x0]⟩,
  ⟨0x40090, 0x4, 1, 0x1, 1, 0x0, 0x0, 0x0, [0x0]⟩,
  ⟨0x40094, 0x4, 1, 0x1, 1, 0x0, 0x0, 0x0, [0x0]⟩]

/-- Rows of the block at 0x05_0000. -/
def regRows05 : List RegRow := [
  ⟨0x50000, 0x4, 1, 0x1, 1, 0x100, 0x0, 0x0, [0x100]⟩,
  ⟨0x50004, 0x4, 1, 0x1, 1, 0x0, 0x0, 0x700, [0x4]⟩,
  ⟨0x50008, 0x4, 1, 0x1, 1, 0x0, 0x0, 0x0, [0x0]⟩,
  ⟨0x50010, 0x4, 1, 0x1, 1, 0x0, 0x7FF, 0x0, [0x6E]⟩,
  ⟨0x50014, 0x4, 1, 0x1, 1, 0x0, 0xFFFFFFFF, 0x0, [0x0]⟩,
  ⟨0x50018, 0x4, 1, 0x1, 1, 0x0, 0x0, 0x0, [0x0]⟩,
  ⟨0x50020, 0x4, 1, 0x1, 1, 0xFF, 0x0, 0x0, [0xA0]⟩,
  ⟨0x50024, 0x4, 1, 0x1, 1, 0xFFFFFFFF, 0x0, 0x0, [0x0]⟩,
  ⟨0x50028, 0x4, 1, 0x1, 1, 0x0, 0x0, 0x0, [0x0]⟩,
  ⟨0x50100, 0x40, 4, 0x1, 1, 0x0, 0xF1F0F, 0x0, [0x30E06, 0x30E06, 0x20C05, 0x20C05]⟩,
  ⟨0x50104, 0x40, 4, 0x1, 1, 0x0, 0xFFFF, 0x0, [0x2808, 0x2808, 0x1004, 0x1004]⟩,
  ⟨0x50108, 0x40, 4, 0x1, 1, 0x0, 0x7, 0x0, [0x7]⟩,
  ⟨0x5010C, 0x40, 4, 0x1, 1, 0x0, 0xFFFFFFFF, 0x0, [0x13579BDF, 0x2468ACE0, 0xF1E2D3C, 0x5A5AA5A5]⟩,
  ⟨0x50110, 0x40, 4, 0x1, 1, 0x0, 0x0, 0x1C0, [0x0]⟩,
  ⟨0x50114, 0x40, 4, 0x1, 1, 0x0, 0x0, 0x0, [0x0]⟩,
  ⟨0x50118, 0x40, 4, 0x1, 1, 0x0, 0x0, 0x0, [0x0]⟩,
  ⟨0x50200, 0x40, 4, 0x4, 16, 0xBF, 0x0, 0x0, [0x0]⟩,
  ⟨0x50400, 0x4, 104, 0x1, 1, 0x0, 0xFF, 0x0, [0x0]⟩,
  ⟨0x505A0, 0x4, 4, 0x1, 1, 0x0, 0xFF, 0x0, [0x0]⟩]

/-- Rows of the block at 0x06_0000. -/
def regRows06 : List RegRow := [
  ⟨0x60000, 0x4, 1, 0x1, 1, 0x0, 0x3, 0x0, [0x0]⟩,
  ⟨0x60004, 0x4, 1, 0x1, 1, 0x0, 0x0, 0x0, [0x0]⟩,
  ⟨0x60010, 0x4, 1, 0x1, 1, 0xF, 0x0, 0x0, [0x0]⟩,
  ⟨0x60014, 0x4, 1, 0x1, 1, 0x0, 0x0, 0xF00, [0x0]⟩,
  ⟨0x60020, 0x4, 1, 0x1, 1, 0x0, 0x0, 0xF0F, [0x0]⟩,
  ⟨0x60030, 0x4, 1, 0x1, 1, 0x1F, 0x0, 0x0, [0x14]⟩,
  ⟨0x60040, 0x4, 1, 0x1, 1, 0xFFFF1, 0x0, 0x0, [0x4000]⟩,
  ⟨0x60100, 0x40, 4, 0x1, 1, 0xFFFF, 0x0, 0x0, [0x0]⟩,
  ⟨0x60110, 0x40, 4, 0x1, 1, 0x0, 0x0, 0x0, [0x0]⟩,
  ⟨0x60114, 0x40, 4, 0x1, 1, 0x0, 0x0, 0x0, [0x0]⟩,
  ⟨0x60118, 0x40, 4, 0x1, 1, 0x0, 0x0, 0x0, [0x0]⟩,
  ⟨0x6011C, 0x40, 4, 0x1, 1, 0x0, 0x0, 0x0, [0x0]⟩,
  ⟨0x60120, 0x40, 4, 0x1, 1, 0x0, 0x0, 0x0, [0x0]⟩,
  ⟨0x60124, 0x40, 4, 0x1, 1, 0x0, 0x0, 0x0, [0x1]⟩]

/-- Rows of the block at 0x08_0000. -/
def regRows08 : List RegRow := [
  ⟨0x80000, 0x4, 1, 0x1, 1, 0x1F, 0x0, 0x0, [0x16]⟩,
  ⟨0x80004, 0x4, 1, 0x1, 1, 0x1FF0F, 0x0, 0x0, [0x10808]⟩,
  ⟨0x80008, 0x4, 1, 0x1, 1, 0xFFFFFFFF, 0x0, 0x0, [0x1000400]⟩,
  ⟨0x80010, 0x4, 1, 0x1, 1, 0x0, 0x0, 0x0, [0x0]⟩,
  ⟨0x80014, 0x4, 1, 0x1, 1, 0x0, 0x0, 0x0, [0x0]⟩,
  ⟨0x80018, 0x4, 1, 0x1, 1, 0x0, 0x0, 0x0, [0x0]⟩,
  ⟨0x80020, 0x4, 1, 0x1, 1, 0x0, 0x0, 0x0, [0x0]⟩,
  ⟨0x80100, 0x20, 8, 0x1, 1, 0x0, 0x0, 0x0, [0x76543210]⟩,
  ⟨0x80104, 0x20, 8, 0x1, 1, 0x0, 0x0, 0x0, [0xCBA98]⟩,
  ⟨0x80108, 0x20, 8, 0x1, 1, 0x7, 0x0, 0x0, [0x7]⟩,
  ⟨0x8010C, 0x20, 8, 0x1, 1, 0x0, 0x0, 0x0, [0x0]⟩,
  ⟨0x80110, 0x20, 8, 0x1, 1, 0x0, 0x0, 0x0, [0x0]⟩,
  ⟨0x80114, 0x20, 8, 0x1, 1, 0x0, 0x0, 0x0, [0x0]⟩,
  ⟨0x80118, 0x20, 8, 0x1, 1, 0x0, 0x0, 0x0, [0x0]⟩,
  ⟨0x8011C, 0x20, 8, 0x1, 1, 0x0, 0x0, 0x0, [0x0]⟩]

/-- Rows of the block at 0x0A_0000. -/
def regRows0A : List RegRow := [
  ⟨0xA0000, 0x4, 1, 0x1, 1, 0x0, 0x771F, 0x0, [0x2314]⟩,
  ⟨0xA0004, 0x4, 1, 0x1, 1, 0x0, 0x0, 0x0, [0x0]⟩,
  ⟨0xA0040, 0x8, 4, 0x1, 1, 0xFFFF, 0x0, 0x0, [0x0]⟩,
  ⟨0xA0044, 0x8, 4, 0x1, 1, 0x3FFFF, 0x0, 0x0, [0x20000]⟩,
  ⟨0xA0100, 0x20, 8, 0x1, 1, 0x0, 0x0, 0x0, [0x0]⟩,
  ⟨0xA0104, 0x20, 8, 0x1, 1, 0x0, 0x0, 0x0, [0x0]⟩,
  ⟨0xA0108, 0x20, 8, 0x1, 1, 0x0, 0x0, 0x0, [0x0]⟩,
  ⟨0xA010C, 0x20, 8, 0x1, 1, 0x0, 0x0, 0x0, [0x0]⟩,
  ⟨0xA0110, 0x20, 8, 0x1, 1, 0x0, 0x0, 0x0, [0x0]⟩,
  ⟨0xA0200, 0x4, 4, 0x1, 1, 0x0, 0x0, 0x0, [0x0]⟩,
  ⟨0xA1000, 0x4, 104, 0x1, 1, 0x0, 0xF3FFCF3, 0x0, [0x0]⟩,
  ⟨0xA11A0, 0x4, 4, 0x1, 1, 0x0, 0xF5555, 0x0, [0x0]⟩,
  ⟨0xA11B0, 0x4, 4, 0x1, 1, 0x0, 0xFFFF, 0x0, [0x0]⟩]

/-- Rows of the block at 0x0C_0000. -/
def regRows0C : List RegRow := [
  ⟨0xC0000, 0x40, 4, 0x1, 1, 0x31F, 0x0, 0x0, [0xC]⟩,
  ⟨0xC0004, 0x40, 4, 0x1, 1, 0x0, 0x0, 0x0, [0x0]⟩,
  ⟨0xC0008, 0x40, 4, 0x1, 1, 0x0, 0x0, 0x700, [0x0]⟩,
  ⟨0xC000C, 0x40, 4, 0x1, 1, 0xFF1FFF, 0x0, 0x0, [0x0]⟩,
  ⟨0xC0010, 0x40, 4, 0x1, 1, 0x0, 0x0, 0x0, [0x0]⟩,
  ⟨0xC0014, 0x40, 4, 0x1, 1, 0x0, 0x0, 0x0, [0x0]⟩,
  ⟨0xC0018, 0x40, 4, 0x1, 1, 0x0, 0x0, 0x0, [0x0]⟩]

/-- Rows of the block at 0x0D_0000. -/
def regRows0D : List RegRow := [
  ⟨0xD0000, 0x40, 4, 0x1, 1, 0x1, 0x0, 0x0, [0x0]⟩,
  ⟨0xD0004, 0x40, 4, 0x1, 1, 0x1F, 0x0, 0x0, [0x1]⟩,
  ⟨0xD0008, 0x40, 4, 0x1, 1, 0x1F, 0x0, 0x0, [0x4]⟩,
  ⟨0xD000C, 0x40, 4, 0x1, 1, 0x131F, 0x0, 0x0, [0x4]⟩,
  ⟨0xD0010, 0x40, 4, 0x1, 1, 0x0, 0x0, 0x0, [0x0]⟩,
  ⟨0xD0100, 0x20, 2, 0x1, 1, 0xB000101F, 0x0, 0x0, [0x4]⟩,
  ⟨0xD0104, 0x20, 2, 0x1, 1, 0x1FFFF, 0x0, 0x0, [0x10]⟩,
  ⟨0xD0200, 0x4, 1, 0x1, 1, 0x0, 0x0, 0x0, [0x0]⟩,
  ⟨0xD0204, 0x4, 1, 0x1, 1, 0x0, 0x0, 0x0, [0x0]⟩,
  ⟨0xD0208, 0x4, 1, 0x1, 1, 0x0, 0x0, 0x3F, [0x0]⟩]

/-- Rows of the block at 0x0E_0000, part 1. -/
def regRows0Ea : List RegRow := [
  ⟨0xE0000, 0x40, 16, 0x1, 1, 0xEF1FF7FF, 0x0, 0x0, [0x0]⟩,
  ⟨0xE0004, 0x40, 16, 0x1, 1, 0xFFFFFFFF, 0x0, 0x0, [0x0]⟩,
  ⟨0xE0008, 0x40, 16, 0x1, 1, 0xFFFF, 0x0, 0x0, [0x100]⟩,
  ⟨0xE000C, 0x40, 16, 0x1, 1, 0xFFFFFFFF, 0x0, 0x0, [0x0]⟩,
  ⟨0xE0010, 0x40, 16, 0x1, 1, 0xFFFFFFFF, 0x0, 0x0, [0xFFFFFFFF]⟩,
  ⟨0xE0014, 0x40, 16, 0x1, 1, 0xFFFFFF, 0x0, 0x0, [0x0]⟩,
  ⟨0xE0018, 0x40, 16, 0x1, 1, 0x7FFFFFF, 0x0, 0x0, [0x0]⟩,
  ⟨0xE001C, 0x40, 16, 0x1, 1, 0xFFF, 0x0, 0x0, [0x0]⟩,
  ⟨0xE0020, 0x40, 16, 0x1, 1, 0x0, 0x0, 0x0, [0x0]⟩,
  ⟨0xE0024, 0x40, 16, 0x1, 1, 0x0, 0x0, 0x90, [0x0]⟩,
  ⟨0xE0028, 0x40, 16, 0x1, 1, 0x0, 0x0, 0x0, [0x0]⟩,
  ⟨0xE002C, 0x40, 16, 0x1, 1, 0x0, 0x0, 0x0, [0x0]⟩,
  ⟨0xE0030, 0x40, 16, 0x1, 1, 0x0, 0x0, 0x0, [0x0]⟩,
  ⟨0xE0034, 0x40, 16, 0x1, 1, 0x0, 0x0, 0x0, [0x0]⟩,
  ⟨0xE0038, 0x40, 16, 0x1, 1, 0x0, 0x0, 0x0, [0x0]⟩,
  ⟨0xE003C, 0x40, 16, 0x1, 1, 0x0, 0x0, 0x0, [0x0]⟩,
  ⟨0xE0400, 0x4, 4, 0x1, 1, 0xFFFFFFFF, 0x0, 0x0, [0x1000000]⟩,
  ⟨0xE0420, 0x4, 13, 0x1, 1, 0x0, 0x1FFFF, 0x0, [0x0]⟩,
  ⟨0xE0460, 0x4, 1, 0x1, 1, 0x0, 0x0, 0x0, [0x0]⟩,
  ⟨0xE0464, 0x4, 1, 0x1, 1, 0x0, 0x0, 0x1FFF, [0x0]⟩,
  ⟨0xE0468, 0x4, 1, 0x1, 1, 0x0, 0x0, 0x0, [0x0]⟩,
  ⟨0xE0800, 0x100, 4, 0x1, 1, 0x70F33, 0x0, 0x0, [0x0]⟩,
  ⟨0xE0804, 0x100, 4, 0x1, 1, 0xFFFFFFFF, 0x0, 0x0, [0x0]⟩,
  ⟨0xE0808, 0x100, 4, 0x1, 1, 0xFFFF, 0x0, 0x0, [0x0]⟩,
  ⟨0xE0820, 0x100, 4, 0x20, 4, 0x1FFFF, 0x0, 0x0, [0x0]⟩,
  ⟨0xE0824, 0x100, 4, 0x20, 4, 0x1FFFF, 0x0, 0x0, [0x0]⟩,
  ⟨0xE0828, 0x100, 4, 0x20, 4, 0xCF00FFFF, 0x0, 0x0, [0x1]⟩,
  ⟨0xE082C, 0x100, 4, 0x20, 4, 0xFFFFFFFF, 0x0, 0x0, [0x0]⟩,
  ⟨0xE0830, 0x100, 4, 0x20, 4, 0xFFFFFFFF, 0x0, 0x0, [0xFFFFFFFF]⟩,
  ⟨0xE08A0, 0x100, 4, 0x1, 1, 0x0, 0x0, 0x30000, [0x0]⟩,
  ⟨0xE08A4, 0x100, 4, 0x1, 1, 0x0, 0x0, 0x0, [0x0]⟩,
  ⟨0xE08A8, 0x100, 4, 0x1, 1, 0x0, 0x0, 0x0, [0x0]⟩,
  ⟨0xE08AC, 0x100, 4, 0x1, 1, 0x0, 0x0, 0x0, [0x0]⟩,
  ⟨0xE08B0, 0x100, 4, 0x1, 1, 0x0, 0x0, 0x0, [0x0]⟩,
  ⟨0xE08B4, 0x100, 4, 0x1, 1, 0x0, 0x0, 0x0, [0x0]⟩,
  ⟨0xE08B8, 0x100, 4, 0x1, 1, 0x0, 0x0, 0x0, [0x0]⟩,
  ⟨0xE08C0, 0x100, 4, 0x1, 1, 0x0, 0x0, 0x0, [0x0]⟩,
  ⟨0xE08C4, 0x100, 4, 0x1, 1, 0x0, 0x0, 0x0, [0x0]⟩,
  ⟨0xE0C00, 0x4, 4, 0x1, 1, 0xFF9F, 0x0, 0x0, [0x800]⟩,
  ⟨0xE0C10, 0x4, 1, 0x1, 1, 0x0, 0x0, 0xF, [0x0]⟩]

/-- Rows of the block at 0x0E_0000, part 2. -/
def regRows0Eb : List RegRow := [
  ⟨0xE0C20, 0x4, 4, 0x1, 1, 0x80000307, 0x0, 0x0, [0x0]⟩,
  ⟨0xE0C30, 0x4, 1, 0x1, 1, 0x0, 0x0, 0xF, [0x0]⟩,
  ⟨0xE0C40, 0x4, 4, 0x1, 1, 0x0, 0x0, 0x0, [0x0]⟩]

/-- Rows of the block at 0x0F_0000. -/
def regRows0F : List RegRow := [
  ⟨0xF0000, 0x4, 1, 0x1, 1, 0xB1C03F0F, 0x0, 0x0, [0xB]⟩,
  ⟨0xF0004, 0x4, 1, 0x1, 1, 0xFFFFFFFF, 0x0, 0x0, [0x4000000]⟩,
  ⟨0xF0008, 0x4, 3, 0x1, 1, 0xFFFF, 0x0, 0x0, [0xC000, 0x0, 0x4000]⟩,
  ⟨0xF0014, 0x4, 1, 0x1, 1, 0x1FF, 0x0, 0x0, [0x1]⟩,
  ⟨0xF0018, 0x4, 1, 0x1, 1, 0x0, 0x0, 0x0, [0x0]⟩,
  ⟨0xF001C, 0x4, 1, 0x1, 1, 0x0, 0x0, 0x38, [0x0]⟩,
  ⟨0xF0020, 0x4, 1, 0x1, 1, 0x0, 0x0, 0x0, [0x0]⟩,
  ⟨0xF0030, 0x4, 4, 0x1, 1, 0x0, 0x0, 0x0, [0x8000]⟩,
  ⟨0xF0040, 0x4, 1, 0x1, 1, 0x0, 0x0, 0x0, [0x0]⟩,
  ⟨0xF0044, 0x4, 1, 0x1, 1, 0x0, 0x0, 0x0, [0x0]⟩,
  ⟨0xF0048, 0x4, 1, 0x1, 1, 0x0, 0x0, 0x0, [0x0]⟩,
  ⟨0xF004C, 0x4, 1, 0x1, 1, 0x0, 0x0, 0x0, [0x0]⟩,
  ⟨0xF0050, 0x4, 1, 0x1, 1, 0x0, 0x0, 0x0, [0x0]⟩,
  ⟨0xF0058, 0x4, 1, 0x1, 1, 0x0, 0x0, 0x0, [0x0]⟩,
  ⟨0xF005C, 0x4, 1, 0x1, 1, 0x0, 0x0, 0x0, [0x0]⟩]

/-- Rows of the block at 0x10_0000. -/
def regRows10 : List RegRow := [
  ⟨0x100000, 0x100, 4, 0x1, 1, 0x11F01, 0x0, 0x0, [0xA01]⟩,
  ⟨0x100004, 0x100, 4, 0x1, 1, 0x0, 0x0, 0x4, [0x0]⟩,
  ⟨0x100008, 0x100, 4, 0x1, 1, 0x0, 0x0, 0x0, [0x0]⟩,
  ⟨0x10000C, 0x100, 4, 0x1, 1, 0x0, 0x0, 0x0, [0x0]⟩,
  ⟨0x100010, 0x100, 4, 0x1, 1, 0x0, 0x0, 0x0, [0x0]⟩,
  ⟨0x100014, 0x100, 4, 0x1, 1, 0x0, 0x0, 0x0, [0x0]⟩,
  ⟨0x100018, 0x100, 4, 0x1, 1, 0x0, 0x0, 0x0, [0x0]⟩,
  ⟨0x10001C, 0x100, 4, 0x1, 1, 0x0, 0x0, 0x0, [0x0]⟩,
  ⟨0x100020, 0x100, 4, 0x1, 1, 0x0, 0x0, 0x0, [0x0]⟩,
  ⟨0x100024, 0x100, 4, 0x1, 1, 0x0, 0x0, 0x0, [0x0]⟩,
  ⟨0x100040, 0x100, 4, 0x1, 1, 0xCF0FFFFF, 0x0, 0x0, [0x8C0003E8]⟩,
  ⟨0x100044, 0x100, 4, 0x1, 1, 0xFFFF, 0x0, 0x0, [0xC040]⟩,
  ⟨0x100048, 0x100, 4, 0x1, 1, 0x0, 0x0, 0x19, [0x0]⟩,
  ⟨0x10004C, 0x100, 4, 0x1, 1, 0x0, 0x0, 0x0, [0x0]⟩,
  ⟨0x100050, 0x100, 4, 0x1, 1, 0x0, 0x0, 0x0, [0x0]⟩,
  ⟨0x100058, 0x100, 4, 0x1, 1, 0x0, 0x0, 0x0, [0x0]⟩,
  ⟨0x10005C, 0x100, 4, 0x1, 1, 0x0, 0x0, 0x0, [0x0]⟩,
  ⟨0x100060, 0x100, 4, 0x1, 1, 0x0, 0x0, 0x0, [0x0]⟩,
  ⟨0x100064, 0x100, 4, 0x1, 1, 0x0, 0x0, 0x0, [0x0]⟩,
  ⟨0x100068, 0x100, 4, 0x8, 4, 0x0, 0x0, 0x0, [0x0]⟩,
  ⟨0x10006C, 0x100, 4, 0x8, 4, 0x0, 0x0, 0x0, [0x0]⟩,
  ⟨0x100088, 0x100, 4, 0x1, 1, 0x0, 0x0, 0x0, [0x0]⟩,
  ⟨0x10008C, 0x100, 4, 0x1, 1, 0x0, 0x0, 0x0, [0x0]⟩,
  ⟨0x100090, 0x100, 4, 0x1, 1, 0x0, 0x0, 0x0, [0x0]⟩,
  ⟨0x100094, 0x100, 4, 0x1, 1, 0x0, 0x0, 0x0, [0x0]⟩,
  ⟨0x100098, 0x100, 4, 0x1, 1, 0x0, 0x0, 0x0, [0x0]⟩]

/-- Rows of the block at 0x11_0000. -/
def regRows11 : List RegRow := [
  ⟨0x110000, 0x20, 8, 0x1, 1, 0x0, 0x0, 0x0, [0x0]⟩,
  ⟨0x110004, 0x20, 8, 0x1, 1, 0x0, 0x0, 0x0, [0x0]⟩,
  ⟨0x110008, 0x20, 8, 0x1, 1, 0x0, 0x0, 0x0, [0x0]⟩,
  ⟨0x11000C, 0x20, 8, 0x1, 1, 0x0, 0x0, 0x0, [0x0]⟩,
  ⟨0x110010, 0x20, 8, 0x1, 1, 0x0, 0x0, 0x0, [0x0]⟩,
  ⟨0x110014, 0x20, 8, 0x1, 1, 0x0, 0x0, 0x0, [0x0]⟩,
  ⟨0x110018, 0x20, 8, 0x1, 1, 0x0, 0x0, 0x30F, [0x0]⟩]

/-- Rows of the block at 0x12_0000. -/
def regRows12 : List RegRow := [
  ⟨0x120000, 0x4, 1, 0x1, 1, 0xFFFF0007, 0x0, 0x0, [0x3E80007]⟩,
  ⟨0x120004, 0x4, 1, 0x1, 1, 0x0, 0x0, 0x440, [0x80]⟩,
  ⟨0x120010, 0x4, 6, 0x1, 1, 0xFFFFF, 0x0, 0x0, [0x1041, 0x2082, 0x4104, 0x8208, 0x10410, 0x20820]⟩,
  ⟨0x120030, 0x4, 4, 0x1, 1, 0xFFFF, 0x0, 0x0, [0x1111, 0x2222, 0x4444, 0x8888]⟩,
  ⟨0x120040, 0x4, 1, 0x1, 1, 0x0, 0x0, 0x0, [0x0]⟩,
  ⟨0x120044, 0x4, 1, 0x1, 1, 0x1FFFF, 0x0, 0x0, [0x0]⟩,
  ⟨0x120048, 0x4, 1, 0x1, 1, 0x0, 0x0, 0x0, [0x0]⟩,
  ⟨0x120050, 0x4, 1, 0x1, 1, 0x7FFFFFFF, 0x0, 0x0, [0x0]⟩,
  ⟨0x120054, 0x4, 1, 0x1, 1, 0x0, 0x0, 0x0, [0x0]⟩,
  ⟨0x120060, 0x4, 1, 0x1, 1, 0xFF000, 0x0, 0x0, [0x880]⟩,
  ⟨0x120064, 0x4, 1, 0x1, 1, 0x0, 0x0, 0x0, [0x0]⟩,
  ⟨0x120068, 0x4, 1, 0x1, 1, 0x0, 0x0, 0x0, [0x0]⟩,
  ⟨0x120070, 0x4, 1, 0x1, 1, 0x0, 0x0, 0x0, [0x0]⟩,
  ⟨0x120074, 0x4, 1, 0x1, 1, 0x0, 0x0, 0x0, [0x0]⟩,
  ⟨0x120078, 0x4, 1, 0x1, 1, 0x0, 0x0, 0x0, [0x0]⟩,
  ⟨0x120080, 0x4, 1, 0x1, 1, 0x0, 0x0, 0x0, [0x0]⟩,
  ⟨0x120084, 0x4, 1, 0x1, 1, 0x0, 0x0, 0x0, [0x0]⟩,
  ⟨0x120088, 0x4, 1, 0x1, 1, 0x0, 0x0, 0x0, [0x0]⟩,
  ⟨0x120090, 0x4, 1, 0x1, 1, 0x0, 0x0, 0x0, [0x0]⟩,
  ⟨0x120094, 0x4, 1, 0x1, 1, 0x0, 0x0, 0x0, [0x0]⟩,
  ⟨0x120098, 0x4, 1, 0x1, 1, 0x0, 0x0, 0x0, [0x0]⟩,
  ⟨0x120100, 0x10, 8, 0x1, 1, 0x0, 0x87FFFFFF, 0x0, [0x874003E8, 0x861003E8, 0x85100800, 0x85080200, 0x3104E20, 0x2044E20, 0x2044E20, 0x1010000]⟩,
  ⟨0x120104, 0x10, 8, 0x1, 1, 0x0, 0x0, 0x40000000, [0x0]⟩,
  ⟨0x120108, 0x10, 8, 0x1, 1, 0xFFFFFFFF, 0x0, 0x0, [0x0]⟩,
  ⟨0x12010C, 0x10, 8, 0x1, 1, 0x0, 0x0, 0x0, [0x0]⟩,
  ⟨0x120300, 0x10, 16, 0x4, 4, 0x0, 0x0, 0x0, [0x0]⟩,
  ⟨0x120400, 0x10, 16, 0x1, 1, 0x7FFFF800, 0x0, 0x0, [0x0]⟩,
  ⟨0x120404, 0x10, 16, 0x1, 1, 0x7FFFF800, 0x0, 0x0, [0x0]⟩,
  ⟨0x120408, 0x10, 16, 0x1, 1, 0x80000F07, 0x0, 0x20000000, [0x0]⟩]

/-- Rows of the block at 0x14_0000. -/
def regRows14 : List RegRow := [
  ⟨0x140000, 0x4, 1, 0x1, 1, 0xF0000, 0x0, 0x0, [0x0]⟩,
  ⟨0x140004, 0x4, 1, 0x1, 1, 0x0, 0x0, 0xF80, [0x0]⟩,
  ⟨0x140008, 0x4, 1, 0x1, 1, 0x0, 0x0, 0x0, [0x0]⟩,
  ⟨0x14000C, 0x4, 1, 0x1, 1, 0x0, 0x0, 0x0, [0x0]⟩,
  ⟨0x140010, 0x10, 2, 0x1, 1, 0xFF03FF, 0x0, 0x0, [0x0]⟩,
  ⟨0x140014, 0x10, 2, 0x1, 1, 0x3FFF, 0x0, 0x0, [0x0]⟩,
  ⟨0x140018, 0x10, 2, 0x1, 1, 0xFFFF, 0x0, 0x0, [0x8000]⟩,
  ⟨0x14001C, 0x10, 2, 0x1, 1, 0x3FFF, 0x0, 0x0, [0x0]⟩,
  ⟨0x140040, 0x4, 4, 0x1, 1, 0x803F03FF, 0x0, 0x0, [0x0]⟩,
  ⟨0x140050, 0x4, 1, 0x1, 1, 0x0, 0x0, 0x0, [0x0]⟩,
  ⟨0x140054, 0x4, 1, 0x1, 1, 0x0, 0x0, 0x0, [0x0]⟩,
  ⟨0x140058, 0x4, 1, 0x1, 1, 0x0, 0x0, 0x0, [0x0]⟩,
  ⟨0x14005C, 0x4, 1, 0x1, 1, 0x0, 0x0, 0x0, [0x0]⟩,
  ⟨0x140060, 0x4, 1, 0x1, 1, 0x0, 0x0, 0x0, [0x0]⟩,
  ⟨0x140064, 0x4, 1, 0x1, 1, 0x0, 0x0, 0x0, [0x0]⟩,
  ⟨0x140068, 0x4, 1, 0x1, 1, 0x0, 0x0, 0x0, [0x0]⟩,
  ⟨0x140070, 0x4, 1, 0x1, 1, 0x0, 0x0, 0x0, [0x0]⟩,
  ⟨0x140074, 0x4, 1, 0x1, 1, 0x0, 0x0, 0x0, [0x0]⟩,
  ⟨0x140078, 0x4, 1, 0x1, 1, 0x0, 0x0, 0x0, [0x0]⟩,
  ⟨0x14007C, 0x4, 1, 0x1, 1, 0x0, 0x0, 0x0, [0x0]⟩,
  ⟨0x140080, 0x4, 1, 0x1, 1, 0x0, 0x0, 0x0, [0x0]⟩]

/-- Rows of the block at 0x15_0000. -/
def regRows15 : List RegRow := [
  ⟨0x150000, 0x4, 1, 0x1, 1, 0xF0000, 0x0, 0x0, [0x0]⟩,
  ⟨0x150004, 0x4, 1, 0x1, 1, 0x0, 0x0, 0x3C80, [0x0]⟩,
  ⟨0x150008, 0x4, 1, 0x1, 1, 0x0, 0x0, 0x0, [0x0]⟩,
  ⟨0x150010, 0x4, 1, 0x1, 1, 0xFFFFFFFF, 0x0, 0x0, [0xAAAAAAAA]⟩,
  ⟨0x150014, 0x4, 1, 0x1, 1, 0xFFFFFFFF, 0x0, 0x0, [0xAAAAAAAA]⟩,
  ⟨0x150018, 0x4, 1, 0x1, 1, 0x3F03FF, 0x0, 0x0, [0x0]⟩,
  ⟨0x15001C, 0x4, 1, 0x1, 1, 0x0, 0x0, 0x0, [0x0]⟩,
  ⟨0x150020, 0x4, 1, 0x1, 1, 0x0, 0x0, 0x0, [0x0]⟩,
  ⟨0x150024, 0x4, 1, 0x1, 1, 0x0, 0x0, 0x0, [0x0]⟩,
  ⟨0x150028, 0x4, 1, 0x1, 1, 0x0, 0x0, 0x0, [0x0]⟩,
  ⟨0x15002C, 0x4, 1, 0x1, 1, 0x0, 0x0, 0x0, [0x0]⟩,
  ⟨0x150030, 0x4, 1, 0x1, 1, 0x0, 0x0, 0x0, [0x0]⟩,
  ⟨0x150034, 0x4, 1, 0x1, 1, 0x0, 0x0, 0x0, [0x0]⟩,
  ⟨0x150038, 0x4, 1, 0x1, 1, 0x0, 0x0, 0x0, [0x0]⟩,
  ⟨0x15003C, 0x4, 1, 0x1, 1, 0x0, 0x0, 0x0, [0x0]⟩,
  ⟨0x150040, 0x4, 1, 0x1, 1, 0x0, 0x0, 0x0, [0x0]⟩,
  ⟨0x150044, 0x4, 1, 0x1, 1, 0x0, 0x0, 0x0, [0x0]⟩]

/-- Rows of the block at 0x16_0000. -/
def regRows16 : List RegRow := [
  ⟨0x160000, 0x4, 1, 0x1, 1, 0x3, 0x0, 0x0, [0x0]⟩,
  ⟨0x160004, 0x4, 1, 0x1, 1, 0x0, 0x0, 0x30, [0x0]⟩,
  ⟨0x160008, 0x4, 1, 0x1, 1, 0x0, 0x0, 0x0, [0x0]⟩,
  ⟨0x16000C, 0x4, 1, 0x1, 1, 0x0, 0x0, 0x0, [0x0]⟩,
  ⟨0x160010, 0x4, 1, 0x1, 1, 0xF0F, 0x0, 0x0, [0x0]⟩,
  ⟨0x160014, 0x4, 1, 0x1, 1, 0x0, 0x0, 0x0, [0x0]⟩,
  ⟨0x160018, 0x4, 1, 0x1, 1, 0x0, 0x0, 0x0, [0x0]⟩,
  ⟨0x16001C, 0x4, 1, 0x1, 1, 0x0, 0x0, 0x0, [0x0]⟩,
  ⟨0x160020, 0x4, 1, 0x1, 1, 0x0, 0x0, 0x0, [0x0]⟩,
  ⟨0x160024, 0x4, 1, 0x1, 1, 0xFFFFFFFF, 0x0, 0x0, [0x0]⟩,
  ⟨0x160028, 0x4, 1, 0x1, 1, 0x0, 0x0, 0x0, [0x0]⟩,
  ⟨0x160100, 0x4, 8, 0x1, 1, 0xFFFFFFDF, 0x0, 0x0, [0x800]⟩,
  ⟨0x160120, 0x4, 1, 0x1, 1, 0xFFFFFFDF, 0x0, 0x0, [0x800]⟩,
  ⟨0x160124, 0x4, 1, 0x1, 1, 0x0, 0x0, 0x1FF, [0x0]⟩,
  ⟨0x160200, 0x10, 13, 0x1, 1, 0x0, 0x0, 0x0, [0x0]⟩,
  ⟨0x160204, 0x10, 13, 0x1, 1, 0x0, 0x0, 0x0, [0x0]⟩,
  ⟨0x160208, 0x10, 13, 0x1, 1, 0x0, 0x0, 0x0, [0x0]⟩,
  ⟨0x160300, 0x10, 4, 0x1, 1, 0xFFFFF001, 0x0, 0x0, [0x0]⟩,
  ⟨0x160304, 0x10, 4, 0x1, 1, 0xFFFFFFFF, 0x0, 0x0, [0x0]⟩,
  ⟨0x160308, 0x10, 4, 0x1, 1, 0xFFFFF000, 0x0, 0x0, [0x0]⟩,
  ⟨0x16030C, 0x10, 4, 0x1, 1, 0xFFFFFFFF, 0x0, 0x0, [0x0]⟩]

/-- Rows of the block at 0x17_0000. -/
def regRows17 : List RegRow := [
  ⟨0x170000, 0x4, 1, 0x1, 1, 0x1FF01, 0x0, 0x0, [0x1000]⟩,
  ⟨0x170004, 0x4, 1, 0x1, 1, 0x0, 0x0, 0x1000, [0xF00000]⟩,
  ⟨0x170008, 0x4, 1, 0x1, 1, 0x0, 0x0, 0x0, [0x0]⟩,
  ⟨0x17000C, 0x4, 1, 0x1, 1, 0x0, 0x0, 0x0, [0x0]⟩,
  ⟨0x170010, 0x4, 9, 0x1, 1, 0x0, 0x0, 0x0, [0x0]⟩,
  ⟨0x170034, 0x4, 1, 0x1, 1, 0x0, 0x0, 0x0, [0x0]⟩,
  ⟨0x170038, 0x4, 1, 0x1, 1, 0x0, 0x0, 0x0, [0x0]⟩,
  ⟨0x17003C, 0x4, 1, 0x1, 1, 0x0, 0x0, 0x0, [0x0]⟩,
  ⟨0x170040, 0x4, 1, 0x1, 1, 0xFFFFFFFF, 0x0, 0x0, [0x0]⟩,
  ⟨0x170044, 0x4, 1, 0x1, 1, 0x3FFFF, 0x0, 0x0, [0x20000]⟩,
  ⟨0x170048, 0x4, 1, 0x1, 1, 0xFFFF, 0x0, 0x0, [0x0]⟩,
  ⟨0x17004C, 0x4, 1, 0x1, 1, 0x0, 0x0, 0x0, [0x0]⟩,
  ⟨0x170060, 0x4, 8, 0x1, 1, 0x0, 0x0, 0x0, [0x0]⟩]

/-- Rows of the block at 0x18_0000. -/
def regRows18 : List RegRow := [
  ⟨0x180000, 0x4, 1, 0x1, 1, 0xFF01, 0x0, 0x0, [0x6400]⟩,
  ⟨0x180004, 0x4, 1, 0x1, 1, 0x0, 0x0, 0x3C, [0x0]⟩,
  ⟨0x180100, 0x4, 10, 0x1, 1, 0xFF00, 0x0, 0x0, [0x0]⟩,
  ⟨0x180200, 0x4, 11, 0x1, 1, 0x0, 0x0, 0x0, [0x0]⟩,
  ⟨0x180300, 0x8, 16, 0x1, 1, 0x0, 0x0, 0x0, [0x0]⟩,
  ⟨0x180304, 0x8, 16, 0x1, 1, 0xFFFFFFFF, 0x0, 0x0, [0x0]⟩,
  ⟨0x180400, 0x4, 1, 0x1, 1, 0x0, 0x0, 0x0, [0x0]⟩,
  ⟨0x180404, 0x4, 1, 0x1, 1, 0x0, 0x0, 0x0, [0x0]⟩,
  ⟨0x180408, 0x4, 1, 0x1, 1, 0x0, 0x0, 0x0, [0x0]⟩,
  ⟨0x180480, 0x4, 1, 0x1, 1, 0x0, 0x0, 0x0, [0x0]⟩,
  ⟨0x180500, 0x10, 16, 0x4, 4, 0x0, 0x0, 0x0, [0x0]⟩]

/-- Rows of the block at 0x81_0000. -/
def regRows81 : List RegRow := [
  ⟨0x810000, 0x10, 64, 0x1, 1, 0xFFFFFFFF, 0x0, 0x0, [0x0]⟩,
  ⟨0x810004, 0x10, 64, 0x1, 1, 0x3F03FF, 0x0, 0x0, [0x0]⟩,
  ⟨0x810008, 0x10, 64, 0x1, 1, 0xFFFFFFFF, 0x0, 0x0, [0x0]⟩,
  ⟨0x81000C, 0x10, 64, 0x1, 1, 0xFFFFFF, 0x0, 0x0, [0x0]⟩]

/-- Rows of the block at 0x82_0000. -/
def regRows82 : List RegRow := [
  ⟨0x820000, 0x10, 104, 0x1, 1, 0x0, 0x0, 0x0, [0x0]⟩,
  ⟨0x820004, 0x10, 104, 0x1, 1, 0x0, 0x0, 0x0, [0x0]⟩,
  ⟨0x820008, 0x10, 104, 0x1, 1, 0x0, 0x0, 0x0, [0x0]⟩,
  ⟨0x82000C, 0x10, 104, 0x1, 1, 0x0, 0x0, 0x0, [0x0]⟩]

/-- Rows of the block at 0x83_0000. -/
def regRows83 : List RegRow := [
  ⟨0x830000, 0x800, 3, 0x10, 104, 0x3FFFF, 0x0, 0x0, [0x20000]⟩,
  ⟨0x830004, 0x800, 3, 0x10, 104, 0xFFFF, 0x0, 0x0, [0x0]⟩,
  ⟨0x830008, 0x800, 3, 0x10, 104, 0xFFFFFFFF, 0x0, 0x0, [0x0]⟩,
  ⟨0x83000C, 0x800, 3, 0x10, 104, 0x0, 0x0, 0x0, [0x0]⟩]

/-- Rows of the block at 0x84_0000. -/
def regRows84 : List RegRow := [
  ⟨0x840100, 0x400, 8, 0x1, 1, 0x3FFFF, 0x0, 0x0, [0x8000]⟩,
  ⟨0x840000, 0x400, 8, 0x4, 128, 0x3FFFF, 0x0, 0x0, [0x0]⟩]

/-- Rows of the block at 0x85_0000. -/
def regRows85 : List RegRow := [
  ⟨0x850000, 0x4, 32, 0x1, 1, 0xFFFFFFFF, 0x0, 0x0, [0x0]⟩]

/-- Rows of the block at 0x86_0000. -/
def regRows86 : List RegRow := [
  ⟨0x860000, 0x10, 64, 0x4, 4, 0x0, 0x0, 0x0, [0x0]⟩,
  ⟨0x861000, 0x20, 64, 0x4, 8, 0x0, 0x0, 0x0, [0x0]⟩]

/-- Rows of the block at 0x87_0000. -/
def regRows87 : List RegRow := [
  ⟨0x870000, 0x10, 1024, 0x4, 4, 0x0, 0x0, 0x0, [0x0]⟩]

/-- Rows of the block at 0x88_0000. -/
def regRows88 : List RegRow := [
  ⟨0x880000, 0x100, 16, 0x4, 64, 0x0, 0x0, 0x0, [0x0]⟩]

/-- The rows of the block that holds an offset: its bits from 16 up. -/
def regRows : Nat → List RegRow
  | 0x0 => regRows00
  | 0x1 => regRows01
  | 0x2 => regRows02
  | 0x3 => regRows03
  | 0x4 => regRows04
  | 0x5 => regRows05
  | 0x6 => regRows06
  | 0x8 => regRows08
  | 0xA => regRows0A
  | 0xC => regRows0C
  | 0xD => regRows0D
  | 0xE => regRows0Ea ++ regRows0Eb
  | 0xF => regRows0F
  | 0x10 => regRows10
  | 0x11 => regRows11
  | 0x12 => regRows12
  | 0x14 => regRows14
  | 0x15 => regRows15
  | 0x16 => regRows16
  | 0x17 => regRows17
  | 0x18 => regRows18
  | 0x81 => regRows81
  | 0x82 => regRows82
  | 0x83 => regRows83
  | 0x84 => regRows84
  | 0x85 => regRows85
  | 0x86 => regRows86
  | 0x87 => regRows87
  | 0x88 => regRows88
  | _ => []

/-- The row holds the offset. -/
def RegRow.has (r : RegRow) (off : Nat) : Bool :=
  Nat.ble r.base off && Nat.blt ((off - r.base) / r.s1) r.n1 &&
    Nat.beq ((off - r.base) % r.s1 % r.s2) 0 && Nat.blt ((off - r.base) % r.s1 / r.s2) r.n2

/-- The row of an offset: none where no register and no table memory is listed (R557). -/
def regRow (off : Nat) : Option RegRow := (regRows (off / 0x10000)).find? (fun r => r.has off)

/-- The value of a register after RST_N (R12, R558), 0 where none is listed. -/
def regReset (off : Nat) : Word :=
  match regRow off with
  | none => 0
  | some r =>
    match r.reset with
    | [v] => BitVec.ofNat 32 v
    | l => BitVec.ofNat 32 (l.getD ((off - r.base) / r.s1) 0)

end Sys2Proof.Machine
end

