-- ==== Sys2Proof/Machine/Regs.lean ====
section
/-!
DEFINITION. The registers of BAR0 by name (Register Index, R557, R558): R.<name> is the byte offset of a register,
F.<name>.<field> one of its fields (offset, lowest bit, width). An indexed register takes its index as an argument.
A field named V is the whole value of a register that the chapters describe without field names.
-/
namespace Sys2Proof.Machine

/-- One field of a register: byte offset in BAR0, lowest bit, width. -/
structure Fld where
  off : Nat
  lo : Nat
  width : Nat
deriving DecidableEq, Repr

/-- One bit of a field. -/
abbrev Fld.bit (f : Fld) (i : Nat) : Fld := ⟨f.off, f.lo + i, 1⟩

namespace R
/-- ch. 21, Table 21.7, R584. -/
abbrev GLB_ID : Nat := 0x0
/-- ch. 21, Table 21.8, R522. -/
abbrev GLB_CTL : Nat := 0x4
/-- ch. 21, Table 21.9. -/
abbrev GLB_STAT : Nat := 0x8
/-- ch. 01, Table 1.7, R21, R22. -/
abbrev GLB_XSTAT : Nat := 0x40
/-- ch. 21, Table 21.10. -/
abbrev CFG_STAT : Nat := 0x10000
/-- ch. 21, Table 21.11. -/
abbrev CFG_GEN : Nat := 0x10004
/-- ch. 21, Table 21.11, R530. -/
abbrev CFG_SKIPPED : Nat := 0x10008
/-- ch. 21, Table 21.11, R525. -/
abbrev CFG_BOOT_MS : Nat := 0x1000C
/-- ch. 21, Table 21.11. -/
abbrev CFG_FW_GEN_A : Nat := 0x10010
/-- ch. 21, Table 21.11. -/
abbrev CFG_FW_GEN_B : Nat := 0x10014
/-- ch. 21, Table 21.11. -/
abbrev CFG_FW_VER : Nat := 0x10018
/-- ch. 21, Table 21.11, R540. -/
abbrev CFG_WDOG : Nat := 0x1001C
/-- ch. 16, Table 16.2, R416. -/
abbrev EVT_CTL : Nat := 0x20000
/-- ch. 16, Table 16.4, R417. -/
abbrev EVT_STAT : Nat := 0x20004
/-- ch. 16, Table 16.4, R418. -/
abbrev EVT_QLOST : Nat := 0x20008
/-- ch. 16, Table 16.4, R420. -/
abbrev EVT_TEST : Nat := 0x2000C
/-- ch. 16, Table 16.4. -/
abbrev EVT_TEST_QUAL : Nat := 0x20010
/-- ch. 16, Table 16.3, R421. -/
abbrev EVT_EN (g : Nat) : Nat := 0x20040 + 0x4 * g
/-- ch. 16, Table 16.3, R421. -/
abbrev EVT_URG (g : Nat) : Nat := 0x20080 + 0x4 * g
/-- ch. 16, Table 16.3, R413. -/
abbrev EVT_SEEN (g : Nat) : Nat := 0x200C0 + 0x4 * g
/-- ch. 15, Table 15.12. -/
abbrev HIF_CTL : Nat := 0x30000
/-- ch. 15, Table 15.12, R378. -/
abbrev HIF_STAT : Nat := 0x30004
/-- ch. 15, Table 15.12, R381. -/
abbrev HIF_BAR4_BASE : Nat := 0x30010
/-- ch. 15, Table 15.12, R387. -/
abbrev HIF_DBERR_COUNT : Nat := 0x30014
/-- ch. 15, Table 15.12, R396. -/
abbrev HIF_EVDROP (f : Nat) : Nat := 0x30020 + 0x4 * f
/-- ch. 15, Table 15.9, R385. -/
abbrev HIF_RING_CTL (r : Nat) : Nat := 0x31000 + 0x40 * r
/-- ch. 15, Table 15.10. -/
abbrev HIF_RING_SQ_BASE_LO (r : Nat) : Nat := 0x31004 + 0x40 * r
/-- ch. 15, Table 15.10. -/
abbrev HIF_RING_SQ_BASE_HI (r : Nat) : Nat := 0x31008 + 0x40 * r
/-- ch. 15, Table 15.10. -/
abbrev HIF_RING_CQ_BASE_LO (r : Nat) : Nat := 0x3100C + 0x40 * r
/-- ch. 15, Table 15.10. -/
abbrev HIF_RING_CQ_BASE_HI (r : Nat) : Nat := 0x31010 + 0x40 * r
/-- ch. 15, Table 15.10, R398. -/
abbrev HIF_RING_IRQ (r : Nat) : Nat := 0x31014 + 0x40 * r
/-- ch. 15, Table 15.10, R396. -/
abbrev HIF_RING_EVGRP (r : Nat) : Nat := 0x31018 + 0x40 * r
/-- ch. 15, Table 15.10. -/
abbrev HIF_RING_PTR (r : Nat) : Nat := 0x3101C + 0x40 * r
/-- ch. 15, Table 15.11. -/
abbrev HIF_RING_STAT (r : Nat) : Nat := 0x31020 + 0x40 * r
/-- ch. 15, Table 15.10. -/
abbrev HIF_RING_DONE (r : Nat) : Nat := 0x31024 + 0x40 * r
/-- ch. 15, Table 15.10, R397. -/
abbrev HIF_RING_LOST (r : Nat) : Nat := 0x31028 + 0x40 * r
/-- ch. 04, Table 4.5. -/
abbrev TIME_CTL : Nat := 0x40000
/-- ch. 04, Table 4.6. -/
abbrev TIME_STAT : Nat := 0x40004
/-- ch. 04, Table 4.7, R586. -/
abbrev TIME_NOW (d : Nat) : Nat := 0x40010 + 0x4 * d
/-- ch. 04, Table 4.7, R101. -/
abbrev TIME_INC_LO : Nat := 0x40030
/-- ch. 04, Table 4.7, R101. -/
abbrev TIME_INC_HI : Nat := 0x40034
/-- ch. 04, Table 4.7, R113. -/
abbrev TIME_PPS_SEC_LO : Nat := 0x40040
/-- ch. 04, Table 4.7, R113. -/
abbrev TIME_PPS_SEC_HI : Nat := 0x40044
/-- ch. 04, Table 4.7, R110. -/
abbrev TIME_PPS_OFFSET : Nat := 0x40048
/-- ch. 04, Table 4.7. -/
abbrev TIME_PPS_ERR : Nat := 0x4004C
/-- ch. 04, Table 4.7, R114. -/
abbrev TIME_RATE_ADJ : Nat := 0x40050
/-- ch. 04, Table 4.7, R113. -/
abbrev TIME_PPS_REJECT : Nat := 0x40054
/-- ch. 04, Table 4.7, R112. -/
abbrev TIME_STEP_IDX_LO : Nat := 0x40060
/-- ch. 04, Table 4.7, R112. -/
abbrev TIME_STEP_IDX_HI : Nat := 0x40064
/-- ch. 04, Table 4.7, R112. -/
abbrev TIME_STEP_DELTA_LO : Nat := 0x40068
/-- ch. 04, Table 4.7, R112. -/
abbrev TIME_STEP_DELTA_HI : Nat := 0x4006C
/-- ch. 04, Table 4.5. -/
abbrev TIME_SYNC_CTL : Nat := 0x40080
/-- ch. 04, Table 4.7. -/
abbrev TIME_SYNC_LOAD_0 : Nat := 0x40084
/-- ch. 04, Table 4.7. -/
abbrev TIME_SYNC_LOAD_1 : Nat := 0x40088
/-- ch. 04, Table 4.7. -/
abbrev TIME_SYNC_LOAD_2 : Nat := 0x4008C
/-- ch. 04, Table 4.7, R117. -/
abbrev TIME_SYNC_COUNT : Nat := 0x40090
/-- ch. 04, Table 4.7, R118. -/
abbrev TIME_SYNC_IGNORED : Nat := 0x40094
/-- ch. 03, Table 3.17. -/
abbrev CLK_CTL : Nat := 0x50000
/-- ch. 03, Table 3.18a. -/
abbrev CLK_STAT : Nat := 0x50004
/-- ch. 03, Table 23.4, R83. -/
abbrev CLK_SWITCH_COUNT : Nat := 0x50008
/-- ch. 03, Table 3.7. -/
abbrev CLK_RATE : Nat := 0x50010
/-- ch. 03, Table 3.8. -/
abbrev CLK_RATE_FRAC : Nat := 0x50014
/-- ch. 03, Table 3.9. -/
abbrev CLK_RATE_GO : Nat := 0x50018
/-- ch. 03, Table 3.15. -/
abbrev CLK_SRATE : Nat := 0x50020
/-- ch. 03, Table 3.15. -/
abbrev CLK_SRATE_FRAC : Nat := 0x50024
/-- ch. 03, Table 3.15. -/
abbrev CLK_SRATE_GO : Nat := 0x50028
/-- ch. 03, Table 3.2. -/
abbrev CLK_SYN_LOOP (s : Nat) : Nat := 0x50100 + 0x40 * s
/-- ch. 03, Table 3.6. -/
abbrev CLK_SYN_LOCK (s : Nat) : Nat := 0x50104 + 0x40 * s
/-- ch. 03, Table 3.3. -/
abbrev CLK_SYN_DITHER (s : Nat) : Nat := 0x50108 + 0x40 * s
/-- ch. 03, Table 3.4. -/
abbrev CLK_SYN_SEED (s : Nat) : Nat := 0x5010C + 0x40 * s
/-- ch. 03, Table 3.18b. -/
abbrev CLK_SYN_STAT (s : Nat) : Nat := 0x50110 + 0x40 * s
/-- ch. 03, Table 23.4. -/
abbrev CLK_SYN_PHERR (s : Nat) : Nat := 0x50114 + 0x40 * s
/-- ch. 03, Table 23.4. -/
abbrev CLK_SYN_FREQ (s : Nat) : Nat := 0x50118 + 0x40 * s
/-- ch. 03, Table 3.5. -/
abbrev CLK_BAND (s : Nat) (i : Nat) : Nat := 0x50200 + 0x40 * s + 0x4 * i
/-- ch. 03, Table 3.11. -/
abbrev CLK_SKEW_P (p : Nat) : Nat := 0x50400 + 0x4 * p
/-- ch. 03, Table 3.11. -/
abbrev CLK_SKEW_G (g : Nat) : Nat := 0x505A0 + 0x4 * g
/-- ch. 02, Table 2.3, R44. -/
abbrev INP_MODE : Nat := 0x60000
/-- ch. 02, Table 2.4. -/
abbrev INP_MODE_STAT : Nat := 0x60004
/-- ch. 02, Table 2.7, R51. -/
abbrev INP_REF_CTL : Nat := 0x60010
/-- ch. 02, Table 2.8, R48, R49. -/
abbrev INP_REF_STAT : Nat := 0x60014
/-- ch. 02, Table 2.11, R32, R34. -/
abbrev INP_STAT : Nat := 0x60020
/-- ch. 02, Table 2.12, R55. -/
abbrev INP_MON_CTL : Nat := 0x60030
/-- ch. 02, Table 2.10. -/
abbrev INP_CALSTEP_CTL : Nat := 0x60040
/-- ch. 02, Table 2.1, R36. -/
abbrev INP_OFFSET (n : Nat) : Nat := 0x60100 + 0x40 * n
/-- ch. 02, Table 2.13. -/
abbrev INP_MON_MEAN (n : Nat) : Nat := 0x60110 + 0x40 * n
/-- ch. 02, Table 2.13. -/
abbrev INP_MON_RMS (n : Nat) : Nat := 0x60114 + 0x40 * n
/-- ch. 02, Table 2.13. -/
abbrev INP_MON_MIN (n : Nat) : Nat := 0x60118 + 0x40 * n
/-- ch. 02, Table 2.13. -/
abbrev INP_MON_MAX (n : Nat) : Nat := 0x6011C + 0x40 * n
/-- ch. 02, Table 2.14. -/
abbrev INP_MON_FREQ (n : Nat) : Nat := 0x60120 + 0x40 * n
/-- ch. 02, Table 2.15. -/
abbrev INP_MON_STAT (n : Nat) : Nat := 0x60124 + 0x40 * n
/-- ch. 05, Table 5.7. -/
abbrev CNV_ROT_CTL : Nat := 0x80000
/-- ch. 05, Table 5.9. -/
abbrev CNV_CHK_CTL : Nat := 0x80004
/-- ch. 05, Table 5.10. -/
abbrev CNV_CHK_THR : Nat := 0x80008
/-- ch. 05, Table 5.15, R152. -/
abbrev CNV_CMD : Nat := 0x80010
/-- ch. 05, Table 5.15. -/
abbrev CNV_CMD_STAT : Nat := 0x80014
/-- ch. 05, Table 5.16. -/
abbrev CNV_SUBST_COUNT : Nat := 0x80018
/-- ch. 05, Table 5.11. -/
abbrev CNV_GAUGE_STAT : Nat := 0x80020
/-- ch. 05, Table 5.1. -/
abbrev CNV_MAP_LO (b : Nat) : Nat := 0x80100 + 0x20 * b
/-- ch. 05, Table 5.2. -/
abbrev CNV_MAP_HI (b : Nat) : Nat := 0x80104 + 0x20 * b
/-- ch. 05, Table 5.13. -/
abbrev CNV_BANK_CTL (b : Nat) : Nat := 0x80108 + 0x20 * b
/-- ch. 05, Table 5.14. -/
abbrev CNV_BANK_STAT (b : Nat) : Nat := 0x8010C + 0x20 * b
/-- ch. 05, Table 5.16, R147. -/
abbrev CNV_FAULT_IDX_LO (b : Nat) : Nat := 0x80110 + 0x20 * b
/-- ch. 05, Table 5.16, R147. -/
abbrev CNV_FAULT_IDX_HI (b : Nat) : Nat := 0x80114 + 0x20 * b
/-- ch. 05, Table 5.16, R147. -/
abbrev CNV_SUB_IDX_LO (b : Nat) : Nat := 0x80118 + 0x20 * b
/-- ch. 05, Table 5.16, R147. -/
abbrev CNV_SUB_IDX_HI (b : Nat) : Nat := 0x8011C + 0x20 * b
/-- ch. 06, Table 6.8. -/
abbrev CAL_EST_CTL : Nat := 0xA0000
/-- ch. 06, Table 6.10. -/
abbrev CAL_STAT : Nat := 0xA0004
/-- ch. 06, Table 6.6. -/
abbrev CAL_GAUGE_OFF (g : Nat) : Nat := 0xA0040 + 0x8 * g
/-- ch. 06, Table 6.6. -/
abbrev CAL_GAUGE_GAIN (g : Nat) : Nat := 0xA0044 + 0x8 * g
/-- ch. 06, Table 6.9. -/
abbrev CAL_COUNT (b : Nat) : Nat := 0xA0100 + 0x20 * b
/-- ch. 06, Table 6.9. -/
abbrev CAL_LAST_TIME_0 (b : Nat) : Nat := 0xA0104 + 0x20 * b
/-- ch. 06, Table 6.9. -/
abbrev CAL_LAST_TIME_1 (b : Nat) : Nat := 0xA0108 + 0x20 * b
/-- ch. 06, Table 6.9. -/
abbrev CAL_LAST_TIME_2 (b : Nat) : Nat := 0xA010C + 0x20 * b
/-- ch. 06, Table 6.9. -/
abbrev CAL_BANK_SHSTARVED (b : Nat) : Nat := 0xA0110 + 0x20 * b
/-- ch. 06, Table 6.9. -/
abbrev CAL_STARVED (n : Nat) : Nat := 0xA0200 + 0x4 * n
/-- ch. 06, Table 6.2. -/
abbrev CAL_TRIM_P (p : Nat) : Nat := 0xA1000 + 0x4 * p
/-- ch. 06, Table 6.3. -/
abbrev CAL_TRIM_G (g : Nat) : Nat := 0xA11A0 + 0x4 * g
/-- ch. 06, Table 6.3. -/
abbrev CAL_TRIM_REF (k : Nat) : Nat := 0xA11B0 + 0x4 * k
/-- ch. 07, Table 7.4. -/
abbrev EQ_CTL (n : Nat) : Nat := 0xC0000 + 0x40 * n
/-- ch. 07, Table 7.5. -/
abbrev EQ_SWAP (n : Nat) : Nat := 0xC0004 + 0x40 * n
/-- ch. 07, Table 7.6. -/
abbrev EQ_STAT (n : Nat) : Nat := 0xC0008 + 0x40 * n
/-- ch. 07, Table 7.7. -/
abbrev EQ_DELAY (n : Nat) : Nat := 0xC000C + 0x40 * n
/-- ch. 07, Table 7.8. -/
abbrev EQ_FADE_IDX_LO (n : Nat) : Nat := 0xC0010 + 0x40 * n
/-- ch. 07, Table 7.8. -/
abbrev EQ_FADE_IDX_HI (n : Nat) : Nat := 0xC0014 + 0x40 * n
/-- ch. 07, Table 7.8, R184. -/
abbrev EQ_CLIP_COUNT (n : Nat) : Nat := 0xC0018 + 0x40 * n
/-- ch. 07, Table 7.12. -/
abbrev DEC_CTL (n : Nat) : Nat := 0xD0000 + 0x40 * n
/-- ch. 07, Table 7.13. -/
abbrev DEC_DROP (n : Nat) : Nat := 0xD0004 + 0x40 * n
/-- ch. 07, Table 7.13. -/
abbrev DEC_RAKE (n : Nat) : Nat := 0xD0008 + 0x40 * n
/-- ch. 07, Table 7.14. -/
abbrev DEC_CIC (n : Nat) : Nat := 0xD000C + 0x40 * n
/-- ch. 07, Table 7.16. -/
abbrev DEC_INVALID (n : Nat) : Nat := 0xD0010 + 0x40 * n
/-- ch. 07, Table 7.15. -/
abbrev DEC_MA_CTL (m : Nat) : Nat := 0xD0100 + 0x20 * m
/-- ch. 07, Table 7.15. -/
abbrev DEC_MA_LEN (m : Nat) : Nat := 0xD0104 + 0x20 * m
/-- ch. 07, Table 7.16. -/
abbrev DEC_SYNC_IDX_LO : Nat := 0xD0200
/-- ch. 07, Table 7.16. -/
abbrev DEC_SYNC_IDX_HI : Nat := 0xD0204
/-- ch. 07, Table 7.16, R207. -/
abbrev DEC_STAT : Nat := 0xD0208
/-- ch. 08, Table 8.5. -/
abbrev TRG_TD_CFG (k : Nat) : Nat := 0xE0000 + 0x40 * k
/-- ch. 08, Table 8.6. -/
abbrev TRG_TD_LEVEL (k : Nat) : Nat := 0xE0004 + 0x40 * k
/-- ch. 08, Table 8.6. -/
abbrev TRG_TD_HYST (k : Nat) : Nat := 0xE0008 + 0x40 * k
/-- ch. 08, Table 8.6. -/
abbrev TRG_TD_DLO (k : Nat) : Nat := 0xE000C + 0x40 * k
/-- ch. 08, Table 8.6. -/
abbrev TRG_TD_DHI (k : Nat) : Nat := 0xE0010 + 0x40 * k
/-- ch. 08, Table 8.6. -/
abbrev TRG_TD_PAT_A (k : Nat) : Nat := 0xE0014 + 0x40 * k
/-- ch. 08, Table 8.6. -/
abbrev TRG_TD_PAT_B (k : Nat) : Nat := 0xE0018 + 0x40 * k
/-- ch. 08, Table 8.6. -/
abbrev TRG_TD_PAT_C (k : Nat) : Nat := 0xE001C + 0x40 * k
/-- ch. 08, Table 8.6, R233. -/
abbrev TRG_TD_APPLY (k : Nat) : Nat := 0xE0020 + 0x40 * k
/-- ch. 08, Table 8.7. -/
abbrev TRG_TD_STAT (k : Nat) : Nat := 0xE0024 + 0x40 * k
/-- ch. 08, Table 8.6. -/
abbrev TRG_TD_COUNT (k : Nat) : Nat := 0xE0028 + 0x40 * k
/-- ch. 08, Table 8.6, R227. -/
abbrev TRG_TD_MERGED (k : Nat) : Nat := 0xE002C + 0x40 * k
/-- ch. 08, Table 8.6. -/
abbrev TRG_TD_LAST_IDX_LO (k : Nat) : Nat := 0xE0030 + 0x40 * k
/-- ch. 08, Table 8.6. -/
abbrev TRG_TD_LAST_IDX_HI (k : Nat) : Nat := 0xE0034 + 0x40 * k
/-- ch. 08, Table 8.6. -/
abbrev TRG_TD_APPLY_IDX_LO (k : Nat) : Nat := 0xE0038 + 0x40 * k
/-- ch. 08, Table 8.6. -/
abbrev TRG_TD_APPLY_IDX_HI (k : Nat) : Nat := 0xE003C + 0x40 * k
/-- ch. 08, Table 8.8, R223. -/
abbrev TRG_PTH (n : Nat) : Nat := 0xE0400 + 0x4 * n
/-- ch. 08, Table 8.8, R212. -/
abbrev TRG_XDLY (s : Nat) : Nat := 0xE0420 + 0x4 * s
/-- ch. 08, Table 8.8, R214. -/
abbrev TRG_XLOST : Nat := 0xE0460
/-- ch. 08, Table 8.8, R214. -/
abbrev TRG_XSTAT : Nat := 0xE0464
/-- ch. 08, Table 8.8, R215. -/
abbrev TRG_XLEVEL : Nat := 0xE0468
/-- ch. 09, Table 9.6. -/
abbrev TRG_AC_SEQ (n : Nat) : Nat := 0xE0800 + 0x100 * n
/-- ch. 09, Table 9.6. -/
abbrev TRG_AC_HOLD (n : Nat) : Nat := 0xE0804 + 0x100 * n
/-- ch. 09, Table 9.6. -/
abbrev TRG_AC_HOLDN (n : Nat) : Nat := 0xE0808 + 0x100 * n
/-- ch. 09, Table 9.6. -/
abbrev TRG_AC_STG_ADV (n : Nat) (j : Nat) : Nat := 0xE0820 + 0x100 * n + 0x20 * j
/-- ch. 09, Table 9.6. -/
abbrev TRG_AC_STG_RST (n : Nat) (j : Nat) : Nat := 0xE0824 + 0x100 * n + 0x20 * j
/-- ch. 09, Table 9.6. -/
abbrev TRG_AC_STG_CTL (n : Nat) (j : Nat) : Nat := 0xE0828 + 0x100 * n + 0x20 * j
/-- ch. 09, Table 9.6. -/
abbrev TRG_AC_STG_DMIN (n : Nat) (j : Nat) : Nat := 0xE082C + 0x100 * n + 0x20 * j
/-- ch. 09, Table 9.6. -/
abbrev TRG_AC_STG_DMAX (n : Nat) (j : Nat) : Nat := 0xE0830 + 0x100 * n + 0x20 * j
/-- ch. 09, Table 9.7. -/
abbrev TRG_AC_STAT (n : Nat) : Nat := 0xE08A0 + 0x100 * n
/-- ch. 09, Table 9.6. -/
abbrev TRG_AC_COMPL (n : Nat) : Nat := 0xE08A4 + 0x100 * n
/-- ch. 09, Table 9.6. -/
abbrev TRG_AC_OVERLAP (n : Nat) : Nat := 0xE08A8 + 0x100 * n
/-- ch. 09, Table 9.6. -/
abbrev TRG_AC_HELD (n : Nat) : Nat := 0xE08AC + 0x100 * n
/-- ch. 09, Table 9.6. -/
abbrev TRG_AC_TIMEOUTS (n : Nat) : Nat := 0xE08B0 + 0x100 * n
/-- ch. 09, Table 9.6. -/
abbrev TRG_AC_RESETS (n : Nat) : Nat := 0xE08B4 + 0x100 * n
/-- ch. 09, Table 9.6. -/
abbrev TRG_AC_LOG_LOST (n : Nat) : Nat := 0xE08B8 + 0x100 * n
/-- ch. 09, Table 9.6. -/
abbrev TRG_AC_LOG_COUNT_LO (n : Nat) : Nat := 0xE08C0 + 0x100 * n
/-- ch. 09, Table 9.6. -/
abbrev TRG_AC_LOG_COUNT_HI (n : Nat) : Nat := 0xE08C4 + 0x100 * n
/-- ch. 09, Table 9.4. -/
abbrev TRG_XO_CTL (m : Nat) : Nat := 0xE0C00 + 0x4 * m
/-- ch. 09, Table 23.7, R250. -/
abbrev TRG_XO_STAT : Nat := 0xE0C10
/-- ch. 09, Table 9.5. -/
abbrev TRG_REACT_CTL (r : Nat) : Nat := 0xE0C20 + 0x4 * r
/-- ch. 09, Table 23.7, R251. -/
abbrev TRG_REACT_STAT : Nat := 0xE0C30
/-- ch. 09, Table 23.7, R527. -/
abbrev TRG_LAUNCH_DLY (n : Nat) : Nat := 0xE0C40 + 0x4 * n
/-- ch. 10, Table 10.3. -/
abbrev SYM_CTL : Nat := 0xF0000
/-- ch. 10, Table 10.4. -/
abbrev SYM_UI : Nat := 0xF0004
/-- ch. 10, Table 10.5. -/
abbrev SYM_THR (k : Nat) : Nat := 0xF0008 + 0x4 * k
/-- ch. 10, Table 10.5. -/
abbrev SYM_PAT_CTL : Nat := 0xF0014
/-- ch. 10, Table 10.5, R276. -/
abbrev SYM_APPLY : Nat := 0xF0018
/-- ch. 10, Table 10.6. -/
abbrev SYM_STAT : Nat := 0xF001C
/-- ch. 10, Table 10.5. -/
abbrev SYM_UI_MEAS : Nat := 0xF0020
/-- ch. 10, Table 10.5, R267. -/
abbrev SYM_LVL (k : Nat) : Nat := 0xF0030 + 0x4 * k
/-- ch. 10, Table 10.5. -/
abbrev SYM_MATCH_COUNT : Nat := 0xF0040
/-- ch. 10, Table 10.5, R274. -/
abbrev SYM_MERGED : Nat := 0xF0044
/-- ch. 10, Table 10.5. -/
abbrev SYM_LAST_IDX_LO : Nat := 0xF0048
/-- ch. 10, Table 10.5. -/
abbrev SYM_LAST_IDX_HI : Nat := 0xF004C
/-- ch. 10, Table 10.5. -/
abbrev SYM_UNLOCKS : Nat := 0xF0050
/-- ch. 10, Table 10.5. -/
abbrev SYM_APPLY_IDX_LO : Nat := 0xF0058
/-- ch. 10, Table 10.5. -/
abbrev SYM_APPLY_IDX_HI : Nat := 0xF005C
/-- ch. 11, Table 11.10. -/
abbrev ACQ_AC_CTL (n : Nat) : Nat := 0x100000 + 0x100 * n
/-- ch. 11, Table 11.11. -/
abbrev ACQ_AC_STAT (n : Nat) : Nat := 0x100004 + 0x100 * n
/-- ch. 11, Table 11.12. -/
abbrev ACQ_AC_ARM_IDX_LO (n : Nat) : Nat := 0x100008 + 0x100 * n
/-- ch. 11, Table 11.12. -/
abbrev ACQ_AC_ARM_IDX_HI (n : Nat) : Nat := 0x10000C + 0x100 * n
/-- ch. 11, Table 11.12. -/
abbrev ACQ_AC_SEGS (n : Nat) : Nat := 0x100010 + 0x100 * n
/-- ch. 11, Table 11.12. -/
abbrev ACQ_AC_SLOT (n : Nat) : Nat := 0x100014 + 0x100 * n
/-- ch. 11, Table 11.12. -/
abbrev ACQ_AC_DSLOT (n : Nat) : Nat := 0x100018 + 0x100 * n
/-- ch. 11, Table 11.12. -/
abbrev ACQ_AC_NSLOT (n : Nat) : Nat := 0x10001C + 0x100 * n
/-- ch. 11, Table 11.12. -/
abbrev ACQ_AC_DEADEXT (n : Nat) : Nat := 0x100020 + 0x100 * n
/-- ch. 11, Table 11.12. -/
abbrev ACQ_AC_NONOK (n : Nat) : Nat := 0x100024 + 0x100 * n
/-- ch. 12, Table 12.6. -/
abbrev ACQ_AC_SLU_CTL (n : Nat) : Nat := 0x100040 + 0x100 * n
/-- ch. 12, Table 12.7. -/
abbrev ACQ_AC_SLU_THR (n : Nat) : Nat := 0x100044 + 0x100 * n
/-- ch. 12, Table 12.8. -/
abbrev ACQ_AC_SLU_STAT (n : Nat) : Nat := 0x100048 + 0x100 * n
/-- ch. 12, Table 12.9. -/
abbrev ACQ_AC_SLU_CHANGES (n : Nat) : Nat := 0x10004C + 0x100 * n
/-- ch. 12, Table 12.9. -/
abbrev ACQ_AC_GAPS (n : Nat) : Nat := 0x100050 + 0x100 * n
/-- ch. 12, Table 12.9. -/
abbrev ACQ_AC_GAP_SAMP_LO (n : Nat) : Nat := 0x100058 + 0x100 * n
/-- ch. 12, Table 12.9. -/
abbrev ACQ_AC_GAP_SAMP_HI (n : Nat) : Nat := 0x10005C + 0x100 * n
/-- ch. 12, Table 12.9. -/
abbrev ACQ_AC_SW_LO (n : Nat) : Nat := 0x100060 + 0x100 * n
/-- ch. 12, Table 12.9. -/
abbrev ACQ_AC_SW_HI (n : Nat) : Nat := 0x100064 + 0x100 * n
/-- ch. 12, Table 12.9, R308. -/
abbrev ACQ_AC_SH_LO (n : Nat) (m : Nat) : Nat := 0x100068 + 0x100 * n + 0x8 * m
/-- ch. 12, Table 12.9, R308. -/
abbrev ACQ_AC_SH_HI (n : Nat) (m : Nat) : Nat := 0x10006C + 0x100 * n + 0x8 * m
/-- ch. 12, Table 12.9. -/
abbrev ACQ_AC_TH_LO (n : Nat) : Nat := 0x100088 + 0x100 * n
/-- ch. 12, Table 12.9. -/
abbrev ACQ_AC_TH_HI (n : Nat) : Nat := 0x10008C + 0x100 * n
/-- ch. 12, Table 12.9. -/
abbrev ACQ_AC_ARM_TIME_0 (n : Nat) : Nat := 0x100090 + 0x100 * n
/-- ch. 12, Table 12.9. -/
abbrev ACQ_AC_ARM_TIME_1 (n : Nat) : Nat := 0x100094 + 0x100 * n
/-- ch. 12, Table 12.9. -/
abbrev ACQ_AC_ARM_TIME_2 (n : Nat) : Nat := 0x100098 + 0x100 * n
/-- ch. 13, Table 13.8. -/
abbrev PAN_STAT (k : Nat) : Nat := 0x110000 + 0x20 * k
/-- ch. 13, Table 13.10. -/
abbrev PAN_PASSES (k : Nat) : Nat := 0x110004 + 0x20 * k
/-- ch. 13, Table 13.10. -/
abbrev PAN_SKIP (k : Nat) : Nat := 0x110008 + 0x20 * k
/-- ch. 13, Table 13.10. -/
abbrev PAN_LATE (k : Nat) : Nat := 0x11000C + 0x20 * k
/-- ch. 13, Table 13.10, R328. -/
abbrev PAN_ECC (k : Nat) : Nat := 0x110010 + 0x20 * k
/-- ch. 13, Table 13.10, R345. -/
abbrev PAN_TEST (k : Nat) : Nat := 0x110014 + 0x20 * k
/-- ch. 13, Table 13.9. -/
abbrev PAN_FLAGS (k : Nat) : Nat := 0x110018 + 0x20 * k
/-- ch. 14, Table 14.7. -/
abbrev MEM_CTL : Nat := 0x120000
/-- ch. 14, Table 14.8. -/
abbrev MEM_STAT : Nat := 0x120004
/-- ch. 14, Table 14.2, R350. -/
abbrev MEM_HASH_PC (k : Nat) : Nat := 0x120010 + 0x4 * k
/-- ch. 14, Table 14.2, R350. -/
abbrev MEM_HASH_BK (j : Nat) : Nat := 0x120030 + 0x4 * j
/-- ch. 14, Table 14.10, R351. -/
abbrev MEM_WB_OCC : Nat := 0x120040
/-- ch. 14, Table 14.10. -/
abbrev MEM_WB_PEAK : Nat := 0x120044
/-- ch. 14, Table 14.10, R352. -/
abbrev MEM_RT_DEMAND : Nat := 0x120048
/-- ch. 14, Table 14.2. -/
abbrev MEM_XLATE_IN : Nat := 0x120050
/-- ch. 14, Table 14.2. -/
abbrev MEM_XLATE_OUT : Nat := 0x120054
/-- ch. 14, Table 14.10. -/
abbrev MEM_REF_STAT : Nat := 0x120060
/-- ch. 14, Table 14.10. -/
abbrev MEM_CATCHUPS : Nat := 0x120064
/-- ch. 14, Table 14.10, R362. -/
abbrev MEM_TEMP : Nat := 0x120068
/-- ch. 14, Table 14.10. -/
abbrev MEM_TRN_STAT : Nat := 0x120070
/-- ch. 14, Table 14.10. -/
abbrev MEM_TRN_COUNT : Nat := 0x120074
/-- ch. 14, Table 14.10. -/
abbrev MEM_TRN_FAILS : Nat := 0x120078
/-- ch. 14, Table 14.10, R373. -/
abbrev MEM_ECC_CE : Nat := 0x120080
/-- ch. 14, Table 14.10, R374. -/
abbrev MEM_ECC_UE : Nat := 0x120084
/-- ch. 14, Table 14.10, R375. -/
abbrev MEM_ECC_LOGPTR : Nat := 0x120088
/-- ch. 14, Table 14.10, R368. -/
abbrev MEM_PC_FAIL_LO : Nat := 0x120090
/-- ch. 14, Table 14.10, R368. -/
abbrev MEM_PC_FAIL_HI : Nat := 0x120094
/-- ch. 14, Table 14.10, R365. -/
abbrev MEM_SR_COUNT : Nat := 0x120098
/-- ch. 14, Table 14.9, Table 23.10. -/
abbrev MEM_PORT_CTL (p : Nat) : Nat := 0x120100 + 0x10 * p
/-- ch. 14, Table 14.10, R357. -/
abbrev MEM_PORT_STAT (p : Nat) : Nat := 0x120104 + 0x10 * p
/-- ch. 14, Table 14.10. -/
abbrev MEM_PORT_MAXLAT (p : Nat) : Nat := 0x120108 + 0x10 * p
/-- ch. 14, Table 14.10. -/
abbrev MEM_PORT_PANICS (p : Nat) : Nat := 0x12010C + 0x10 * p
/-- ch. 14, Table 23.9, R375. -/
abbrev MEM_ECC_LOG (e : Nat) (d : Nat) : Nat := 0x120300 + 0x10 * e + 0x4 * d
/-- ch. 11, Table 11.2, R284. -/
abbrev MEM_PT_BASE (k : Nat) : Nat := 0x120400 + 0x10 * k
/-- ch. 11, Table 11.2, R284. -/
abbrev MEM_PT_LEN (k : Nat) : Nat := 0x120404 + 0x10 * k
/-- ch. 11, Table 11.3, R284. -/
abbrev MEM_PT_CFG (k : Nat) : Nat := 0x120408 + 0x10 * k
/-- ch. 19, Table 19.8. -/
abbrev STM_CTL : Nat := 0x140000
/-- ch. 19, Table 19.9. -/
abbrev STM_STAT : Nat := 0x140004
/-- ch. 19, Table 19.11. -/
abbrev STM_SEQ_LEN : Nat := 0x140008
/-- ch. 19, Table 19.11. -/
abbrev STM_ENTRY : Nat := 0x14000C
/-- ch. 19, Table 19.10. -/
abbrev STM_SO_DLY (o : Nat) : Nat := 0x140010 + 0x10 * o
/-- ch. 19, Table 19.10. -/
abbrev STM_SO_IDLE (o : Nat) : Nat := 0x140014 + 0x10 * o
/-- ch. 19, Table 19.10. -/
abbrev STM_SO_GAIN (o : Nat) : Nat := 0x140018 + 0x10 * o
/-- ch. 19, Table 19.10. -/
abbrev STM_SO_OFF (o : Nat) : Nat := 0x14001C + 0x10 * o
/-- ch. 19, Table 19.10. -/
abbrev STM_MK_CTL (m : Nat) : Nat := 0x140040 + 0x4 * m
/-- ch. 19, Table 19.11. -/
abbrev STM_RATE_LO : Nat := 0x140050
/-- ch. 19, Table 19.11. -/
abbrev STM_RATE_HI : Nat := 0x140054
/-- ch. 19, Table 19.11. -/
abbrev STM_SCOUNT_LO : Nat := 0x140058
/-- ch. 19, Table 19.11. -/
abbrev STM_SCOUNT_HI : Nat := 0x14005C
/-- ch. 19, Table 19.11. -/
abbrev STM_START_TIME_0 : Nat := 0x140060
/-- ch. 19, Table 19.11. -/
abbrev STM_START_TIME_1 : Nat := 0x140064
/-- ch. 19, Table 19.11. -/
abbrev STM_START_TIME_2 : Nat := 0x140068
/-- ch. 19, Table 19.11. -/
abbrev STM_UNDERRUNS : Nat := 0x140070
/-- ch. 19, Table 19.11. -/
abbrev STM_HELD : Nat := 0x140074
/-- ch. 19, Table 19.11. -/
abbrev STM_POISON : Nat := 0x140078
/-- ch. 19, Table 19.11. -/
abbrev STM_REACT_TAKEN : Nat := 0x14007C
/-- ch. 19, Table 19.11. -/
abbrev STM_REACT_DROP : Nat := 0x140080
/-- ch. 20, Table 20.8. -/
abbrev PAT_CTL : Nat := 0x150000
/-- ch. 20, Table 20.9. -/
abbrev PAT_STAT : Nat := 0x150004
/-- ch. 20, Table 20.9a. -/
abbrev PAT_STAT2 : Nat := 0x150008
/-- ch. 20, Table 20.10, R516. -/
abbrev PAT_IDLE_LO : Nat := 0x150010
/-- ch. 20, Table 20.10, R516. -/
abbrev PAT_IDLE_HI : Nat := 0x150014
/-- ch. 20, Table 20.10. -/
abbrev PAT_DLY : Nat := 0x150018
/-- ch. 20, Table 20.10. -/
abbrev PAT_TSVALID : Nat := 0x15001C
/-- ch. 20, Table 20.10. -/
abbrev PAT_VCOUNT_LO : Nat := 0x150020
/-- ch. 20, Table 20.10. -/
abbrev PAT_VCOUNT_HI : Nat := 0x150024
/-- ch. 20, Table 20.10. -/
abbrev PAT_START_TIME_0 : Nat := 0x150028
/-- ch. 20, Table 20.10. -/
abbrev PAT_START_TIME_1 : Nat := 0x15002C
/-- ch. 20, Table 20.10. -/
abbrev PAT_START_TIME_2 : Nat := 0x150030
/-- ch. 20, Table 20.10. -/
abbrev PAT_TSREFUSED : Nat := 0x150034
/-- ch. 20, Table 20.10. -/
abbrev PAT_UNDERRUNS : Nat := 0x150038
/-- ch. 20, Table 20.10. -/
abbrev PAT_HELD : Nat := 0x15003C
/-- ch. 20, Table 20.10. -/
abbrev PAT_POISON : Nat := 0x150040
/-- ch. 20, Table 20.10. -/
abbrev PAT_NARROW : Nat := 0x150044
/-- ch. 17, Table 17.8. -/
abbrev PEER_CTL : Nat := 0x160000
/-- ch. 17, Table 17.9. -/
abbrev PEER_STAT : Nat := 0x160004
/-- ch. 17, Table 17.11, R527. -/
abbrev PEER_ID_LO : Nat := 0x160008
/-- ch. 17, Table 17.11, R527. -/
abbrev PEER_ID_HI : Nat := 0x16000C
/-- ch. 17, Table 17.11, R437. -/
abbrev PEER_BCAST_CTL : Nat := 0x160010
/-- ch. 17, Table 17.11. -/
abbrev PEER_BTX_LOST : Nat := 0x160014
/-- ch. 17, Table 17.11. -/
abbrev PEER_REJECT : Nat := 0x160018
/-- ch. 17, Table 17.11. -/
abbrev PEER_SEATCHG : Nat := 0x16001C
/-- ch. 17, Table 17.11. -/
abbrev PEER_BRX_WPTR : Nat := 0x160020
/-- ch. 17, Table 17.11, R439. -/
abbrev PEER_BRX_RPTR : Nat := 0x160024
/-- ch. 17, Table 17.11. -/
abbrev PEER_BRX_LOST : Nat := 0x160028
/-- ch. 17, Table 17.10, R425. -/
abbrev PEER_CTO_CTL (m : Nat) : Nat := 0x160100 + 0x4 * m
/-- ch. 17, Table 17.10, R425. -/
abbrev PEER_STAR_CTL : Nat := 0x160120
/-- ch. 17, Table 17.11, R426. -/
abbrev PEER_OUT_STAT : Nat := 0x160124
/-- ch. 17, Table 17.11, R428. -/
abbrev PEER_STAMP_0 (s : Nat) : Nat := 0x160200 + 0x10 * s
/-- ch. 17, Table 17.11, R428. -/
abbrev PEER_STAMP_1 (s : Nat) : Nat := 0x160204 + 0x10 * s
/-- ch. 17, Table 17.11, R428. -/
abbrev PEER_STAMP_2 (s : Nat) : Nat := 0x160208 + 0x10 * s
/-- ch. 17, Table 17.11, R442. -/
abbrev PEER_P2P_BASE_LO (w : Nat) : Nat := 0x160300 + 0x10 * w
/-- ch. 17, Table 17.11, R442. -/
abbrev PEER_P2P_BASE_HI (w : Nat) : Nat := 0x160304 + 0x10 * w
/-- ch. 17, Table 17.11, R442. -/
abbrev PEER_P2P_LIMIT_LO (w : Nat) : Nat := 0x160308 + 0x10 * w
/-- ch. 17, Table 17.11, R442. -/
abbrev PEER_P2P_LIMIT_HI (w : Nat) : Nat := 0x16030C + 0x10 * w
/-- ch. 18, Table 18.5. -/
abbrev PAIR_CTL : Nat := 0x170000
/-- ch. 18, Table 18.6. -/
abbrev PAIR_STAT : Nat := 0x170004
/-- ch. 18, Table 18.7. -/
abbrev PAIR_LAT : Nat := 0x170008
/-- ch. 18, Table 18.7. -/
abbrev PAIR_LOSSES : Nat := 0x17000C
/-- ch. 18, Table 18.7. -/
abbrev PAIR_LANE_ERR (k : Nat) : Nat := 0x170010 + 0x4 * k
/-- ch. 18, Table 18.7. -/
abbrev PAIR_TRAIN_FAILS : Nat := 0x170034
/-- ch. 18, Table 18.7. -/
abbrev PAIR_PARTNER_ID_LO : Nat := 0x170038
/-- ch. 18, Table 18.7. -/
abbrev PAIR_PARTNER_ID_HI : Nat := 0x17003C
/-- ch. 18, Table 18.7, R463. -/
abbrev PAIR_TWIN_PHASE : Nat := 0x170040
/-- ch. 18, Table 18.7, R465. -/
abbrev PAIR_TWIN_GAIN : Nat := 0x170044
/-- ch. 18, Table 18.7, R465. -/
abbrev PAIR_TWIN_OFF : Nat := 0x170048
/-- ch. 18, Table 18.7. -/
abbrev PAIR_STARVED : Nat := 0x17004C
/-- ch. 18, Table 18.7. -/
abbrev PAIR_SKEW (n : Nat) : Nat := 0x170060 + 0x4 * n
/-- ch. 22, Table 22.6. -/
abbrev HLTH_CTL : Nat := 0x180000
/-- ch. 22, Table 22.7. -/
abbrev HLTH_STAT : Nat := 0x180004
/-- ch. 22, Table 22.8, R550. -/
abbrev HLTH_TEMP (s : Nat) : Nat := 0x180100 + 0x4 * s
/-- ch. 22, Table 22.8. -/
abbrev HLTH_RAIL (r : Nat) : Nat := 0x180200 + 0x4 * r
/-- ch. 22, Table 22.5, Table 22.8. -/
abbrev HLTH_CNT (c : Nat) : Nat := 0x180300 + 0x8 * c
/-- ch. 22, Table 22.8, R554. -/
abbrev HLTH_THR (c : Nat) : Nat := 0x180304 + 0x8 * c
/-- ch. 22, Table 22.8, R555. -/
abbrev HLTH_AGE_LO : Nat := 0x180400
/-- ch. 22, Table 22.8, R555. -/
abbrev HLTH_AGE_HI : Nat := 0x180404
/-- ch. 22, Table 22.8. -/
abbrev HLTH_UPTIME : Nat := 0x180408
/-- ch. 22, Table 22.8, R546. -/
abbrev HLTH_FLOGPTR : Nat := 0x180480
/-- ch. 22, Table 23.12, R546. -/
abbrev HLTH_FLOG (e : Nat) (d : Nat) : Nat := 0x180500 + 0x10 * e + 0x4 * d
/-- ch. 03, Table 3.16a, R92. -/
abbrev RAMP_TBL_0 (k : Nat) : Nat := 0x810000 + 0x10 * k
/-- ch. 03, Table 3.16a, R92. -/
abbrev RAMP_TBL_1 (k : Nat) : Nat := 0x810004 + 0x10 * k
/-- ch. 03, Table 3.16a, R92. -/
abbrev RAMP_TBL_2 (k : Nat) : Nat := 0x810008 + 0x10 * k
/-- ch. 03, Table 3.16a, R92. -/
abbrev RAMP_TBL_3 (k : Nat) : Nat := 0x81000C + 0x10 * k
/-- ch. 05, Table 5.8. -/
abbrev GSTAT_0 (p : Nat) : Nat := 0x820000 + 0x10 * p
/-- ch. 05, Table 5.8. -/
abbrev GSTAT_1 (p : Nat) : Nat := 0x820004 + 0x10 * p
/-- ch. 05, Table 5.8. -/
abbrev GSTAT_2 (p : Nat) : Nat := 0x820008 + 0x10 * p
/-- ch. 05, Table 5.8. -/
abbrev GSTAT_3 (p : Nat) : Nat := 0x82000C + 0x10 * p
/-- ch. 06, Table 6.4, R158. -/
abbrev CORR_0 (m : Nat) (p : Nat) : Nat := 0x830000 + 0x800 * m + 0x10 * p
/-- ch. 06, Table 6.4, R158. -/
abbrev CORR_1 (m : Nat) (p : Nat) : Nat := 0x830004 + 0x800 * m + 0x10 * p
/-- ch. 06, Table 6.4, R158. -/
abbrev CORR_2 (m : Nat) (p : Nat) : Nat := 0x830008 + 0x800 * m + 0x10 * p
/-- ch. 06, Table 6.4, R158. -/
abbrev CORR_3 (m : Nat) (p : Nat) : Nat := 0x83000C + 0x800 * m + 0x10 * p
/-- ch. 07, R185, Table 23.13. -/
abbrev EQ_COEFF (s : Nat) (t : Nat) : Nat := 0x840000 + 0x400 * s + 0x4 * t
/-- ch. 10, Table 10.2, R276. -/
abbrev SYM_PAT (w : Nat) : Nat := 0x850000 + 0x4 * w
/-- ch. 17, Table 17.6, R436. -/
abbrev PARTNER (e : Nat) (d : Nat) : Nat := 0x860000 + 0x10 * e + 0x4 * d
/-- ch. 17, Table 17.7, R439. -/
abbrev BRX (q : Nat) (d : Nat) : Nat := 0x861000 + 0x20 * q + 0x4 * d
/-- ch. 19, Table 19.3, R479. -/
abbrev STM_SEQ (e : Nat) (d : Nat) : Nat := 0x870000 + 0x10 * e + 0x4 * d
/-- ch. 20, Table 20.3, R511. -/
abbrev PAT_TS (t : Nat) (d : Nat) : Nat := 0x880000 + 0x100 * t + 0x4 * d
end R

namespace F
abbrev GLB_ID.DEVICE : Fld := ⟨R.GLB_ID, 16, 16⟩
abbrev GLB_ID.VENDOR : Fld := ⟨R.GLB_ID, 0, 16⟩
abbrev GLB_CTL.COMPAT : Fld := ⟨R.GLB_CTL, 0, 1⟩
abbrev GLB_STAT.STEPPING : Fld := ⟨R.GLB_STAT, 24, 8⟩
abbrev GLB_STAT.COMPAT_LATE : Fld := ⟨R.GLB_STAT, 3, 1⟩
abbrev GLB_STAT.RING_SEEN : Fld := ⟨R.GLB_STAT, 2, 1⟩
abbrev GLB_STAT.COMPAT_BALL : Fld := ⟨R.GLB_STAT, 1, 1⟩
abbrev GLB_XSTAT.REACT_SLIP : Fld := ⟨R.GLB_XSTAT, 11, 1⟩
abbrev GLB_XSTAT.PAIR_SLIP : Fld := ⟨R.GLB_XSTAT, 10, 1⟩
abbrev GLB_XSTAT.SYNC_SLIP : Fld := ⟨R.GLB_XSTAT, 9, 1⟩
abbrev GLB_XSTAT.GAUGE_SLIP : Fld := ⟨R.GLB_XSTAT, 8, 1⟩
abbrev GLB_XSTAT.BANK_SLIP : Fld := ⟨R.GLB_XSTAT, 0, 8⟩
abbrev CFG_STAT.READY : Fld := ⟨R.CFG_STAT, 31, 1⟩
abbrev CFG_STAT.STEP : Fld := ⟨R.CFG_STAT, 24, 3⟩
abbrev CFG_STAT.FW_FALLBACK : Fld := ⟨R.CFG_STAT, 21, 1⟩
abbrev CFG_STAT.FW_RUNNING : Fld := ⟨R.CFG_STAT, 20, 1⟩
abbrev CFG_STAT.FW_BANK : Fld := ⟨R.CFG_STAT, 19, 1⟩
abbrev CFG_STAT.FLASH_BUSY : Fld := ⟨R.CFG_STAT, 18, 1⟩
abbrev CFG_STAT.CFG_DEFAULTED : Fld := ⟨R.CFG_STAT, 16, 1⟩
abbrev CFG_STAT.SLOT1_OK : Fld := ⟨R.CFG_STAT, 9, 1⟩
abbrev CFG_STAT.SLOT0_OK : Fld := ⟨R.CFG_STAT, 8, 1⟩
abbrev CFG_STAT.SLOT : Fld := ⟨R.CFG_STAT, 0, 1⟩
abbrev CFG_GEN.V : Fld := ⟨R.CFG_GEN, 0, 32⟩
abbrev CFG_SKIPPED.V : Fld := ⟨R.CFG_SKIPPED, 0, 32⟩
abbrev CFG_BOOT_MS.V : Fld := ⟨R.CFG_BOOT_MS, 0, 16⟩
abbrev CFG_FW_GEN_A.V : Fld := ⟨R.CFG_FW_GEN_A, 0, 32⟩
abbrev CFG_FW_GEN_B.V : Fld := ⟨R.CFG_FW_GEN_B, 0, 32⟩
abbrev CFG_FW_VER.V : Fld := ⟨R.CFG_FW_VER, 0, 32⟩
abbrev CFG_WDOG.V : Fld := ⟨R.CFG_WDOG, 0, 32⟩
abbrev EVT_CTL.MIRROR : Fld := ⟨R.EVT_CTL, 0, 1⟩
abbrev EVT_STAT.REORDER_LATE : Fld := ⟨R.EVT_STAT, 0, 1⟩
abbrev EVT_QLOST.V : Fld := ⟨R.EVT_QLOST, 0, 32⟩
abbrev EVT_TEST.GO : Fld := ⟨R.EVT_TEST, 31, 1⟩
abbrev EVT_TEST.EVENT : Fld := ⟨R.EVT_TEST, 0, 9⟩
abbrev EVT_TEST_QUAL.V : Fld := ⟨R.EVT_TEST_QUAL, 0, 32⟩
abbrev EVT_EN.V (g : Nat) : Fld := ⟨R.EVT_EN g, 0, 32⟩
abbrev EVT_URG.V (g : Nat) : Fld := ⟨R.EVT_URG g, 0, 32⟩
abbrev EVT_SEEN.V (g : Nat) : Fld := ⟨R.EVT_SEEN g, 0, 32⟩
abbrev HIF_CTL.DATA_RO : Fld := ⟨R.HIF_CTL, 0, 1⟩
abbrev HIF_STAT.LINK_LOST : Fld := ⟨R.HIF_STAT, 20, 1⟩
abbrev HIF_STAT.BAR4_DISCARD : Fld := ⟨R.HIF_STAT, 19, 1⟩
abbrev HIF_STAT.WIDTH : Fld := ⟨R.HIF_STAT, 8, 5⟩
abbrev HIF_STAT.SPEED : Fld := ⟨R.HIF_STAT, 0, 4⟩
abbrev HIF_BAR4_BASE.BASE : Fld := ⟨R.HIF_BAR4_BASE, 11, 20⟩
abbrev HIF_DBERR_COUNT.V : Fld := ⟨R.HIF_DBERR_COUNT, 0, 32⟩
abbrev HIF_EVDROP.V (f : Nat) : Fld := ⟨R.HIF_EVDROP f, 0, 32⟩
abbrev HIF_RING_CTL.EN (r : Nat) : Fld := ⟨R.HIF_RING_CTL r, 31, 1⟩
abbrev HIF_RING_CTL.ABORT (r : Nat) : Fld := ⟨R.HIF_RING_CTL r, 30, 1⟩
abbrev HIF_RING_CTL.HWEIGHT (r : Nat) : Fld := ⟨R.HIF_RING_CTL r, 24, 4⟩
abbrev HIF_RING_CTL.OWNER (r : Nat) : Fld := ⟨R.HIF_RING_CTL r, 16, 4⟩
abbrev HIF_RING_CTL.TYPE (r : Nat) : Fld := ⟨R.HIF_RING_CTL r, 8, 2⟩
abbrev HIF_RING_CTL.V1 (r : Nat) : Fld := ⟨R.HIF_RING_CTL r, 5, 1⟩
abbrev HIF_RING_CTL.SIZE_EXP (r : Nat) : Fld := ⟨R.HIF_RING_CTL r, 0, 5⟩
abbrev HIF_RING_SQ_BASE_LO.V (r : Nat) : Fld := ⟨R.HIF_RING_SQ_BASE_LO r, 12, 20⟩
abbrev HIF_RING_SQ_BASE_HI.V (r : Nat) : Fld := ⟨R.HIF_RING_SQ_BASE_HI r, 0, 32⟩
abbrev HIF_RING_CQ_BASE_LO.V (r : Nat) : Fld := ⟨R.HIF_RING_CQ_BASE_LO r, 12, 20⟩
abbrev HIF_RING_CQ_BASE_HI.V (r : Nat) : Fld := ⟨R.HIF_RING_CQ_BASE_HI r, 0, 32⟩
abbrev HIF_RING_IRQ.IRQ_EN (r : Nat) : Fld := ⟨R.HIF_RING_IRQ r, 31, 1⟩
abbrev HIF_RING_IRQ.VECTOR (r : Nat) : Fld := ⟨R.HIF_RING_IRQ r, 16, 6⟩
abbrev HIF_RING_IRQ.COAL_TIME (r : Nat) : Fld := ⟨R.HIF_RING_IRQ r, 8, 8⟩
abbrev HIF_RING_IRQ.COAL_CNT (r : Nat) : Fld := ⟨R.HIF_RING_IRQ r, 0, 8⟩
abbrev HIF_RING_EVGRP.GROUPS (r : Nat) : Fld := ⟨R.HIF_RING_EVGRP r, 0, 9⟩
abbrev HIF_RING_PTR.CQ_TAIL (r : Nat) : Fld := ⟨R.HIF_RING_PTR r, 16, 16⟩
abbrev HIF_RING_PTR.SQ_HEAD (r : Nat) : Fld := ⟨R.HIF_RING_PTR r, 0, 16⟩
abbrev HIF_RING_STAT.PHASE (r : Nat) : Fld := ⟨R.HIF_RING_STAT r, 11, 1⟩
abbrev HIF_RING_STAT.WR_DISCARD (r : Nat) : Fld := ⟨R.HIF_RING_STAT r, 9, 1⟩
abbrev HIF_RING_STAT.VEC_ERR (r : Nat) : Fld := ⟨R.HIF_RING_STAT r, 8, 1⟩
abbrev HIF_RING_STAT.FETCH_ERR (r : Nat) : Fld := ⟨R.HIF_RING_STAT r, 7, 1⟩
abbrev HIF_RING_STAT.DB_ERR (r : Nat) : Fld := ⟨R.HIF_RING_STAT r, 6, 1⟩
abbrev HIF_RING_STAT.CQ_STALL (r : Nat) : Fld := ⟨R.HIF_RING_STAT r, 5, 1⟩
abbrev HIF_RING_STAT.EVT_LOST (r : Nat) : Fld := ⟨R.HIF_RING_STAT r, 4, 1⟩
abbrev HIF_RING_STAT.WAITING (r : Nat) : Fld := ⟨R.HIF_RING_STAT r, 3, 1⟩
abbrev HIF_RING_STAT.ABORTING (r : Nat) : Fld := ⟨R.HIF_RING_STAT r, 2, 1⟩
abbrev HIF_RING_STAT.DRAINING (r : Nat) : Fld := ⟨R.HIF_RING_STAT r, 1, 1⟩
abbrev HIF_RING_STAT.RUNNING (r : Nat) : Fld := ⟨R.HIF_RING_STAT r, 0, 1⟩
abbrev HIF_RING_DONE.V (r : Nat) : Fld := ⟨R.HIF_RING_DONE r, 0, 32⟩
abbrev HIF_RING_LOST.V (r : Nat) : Fld := ⟨R.HIF_RING_LOST r, 0, 32⟩
abbrev TIME_CTL.SERVO_HOLD : Fld := ⟨R.TIME_CTL, 1, 1⟩
abbrev TIME_CTL.PPS_EN : Fld := ⟨R.TIME_CTL, 0, 1⟩
abbrev TIME_STAT.DELTA_SAT : Fld := ⟨R.TIME_STAT, 7, 1⟩
abbrev TIME_STAT.STEPPED : Fld := ⟨R.TIME_STAT, 6, 1⟩
abbrev TIME_STAT.SLEW_CLAMPED : Fld := ⟨R.TIME_STAT, 5, 1⟩
abbrev TIME_STAT.SYNC_PARTIAL : Fld := ⟨R.TIME_STAT, 4, 1⟩
abbrev TIME_STAT.IDX_FROZEN : Fld := ⟨R.TIME_STAT, 3, 1⟩
abbrev TIME_STAT.PPS_MISSING : Fld := ⟨R.TIME_STAT, 2, 1⟩
abbrev TIME_STAT.PPS_WAIT : Fld := ⟨R.TIME_STAT, 1, 1⟩
abbrev TIME_STAT.PPS_LOCKED : Fld := ⟨R.TIME_STAT, 0, 1⟩
abbrev TIME_NOW.V (d : Nat) : Fld := ⟨R.TIME_NOW d, 0, 32⟩
abbrev TIME_INC_LO.V : Fld := ⟨R.TIME_INC_LO, 0, 32⟩
abbrev TIME_INC_HI.V : Fld := ⟨R.TIME_INC_HI, 0, 4⟩
abbrev TIME_PPS_SEC_LO.V : Fld := ⟨R.TIME_PPS_SEC_LO, 0, 32⟩
abbrev TIME_PPS_SEC_HI.V : Fld := ⟨R.TIME_PPS_SEC_HI, 0, 8⟩
abbrev TIME_PPS_OFFSET.V : Fld := ⟨R.TIME_PPS_OFFSET, 0, 32⟩
abbrev TIME_PPS_ERR.V : Fld := ⟨R.TIME_PPS_ERR, 0, 32⟩
abbrev TIME_RATE_ADJ.V : Fld := ⟨R.TIME_RATE_ADJ, 0, 32⟩
abbrev TIME_PPS_REJECT.V : Fld := ⟨R.TIME_PPS_REJECT, 0, 32⟩
abbrev TIME_STEP_IDX_LO.V : Fld := ⟨R.TIME_STEP_IDX_LO, 0, 32⟩
abbrev TIME_STEP_IDX_HI.V : Fld := ⟨R.TIME_STEP_IDX_HI, 0, 32⟩
abbrev TIME_STEP_DELTA_LO.V : Fld := ⟨R.TIME_STEP_DELTA_LO, 0, 32⟩
abbrev TIME_STEP_DELTA_HI.V : Fld := ⟨R.TIME_STEP_DELTA_HI, 0, 32⟩
abbrev TIME_SYNC_CTL.SOFT_SYNC : Fld := ⟨R.TIME_SYNC_CTL, 31, 1⟩
abbrev TIME_SYNC_CTL.DELAY : Fld := ⟨R.TIME_SYNC_CTL, 8, 8⟩
abbrev TIME_SYNC_CTL.ONE_SHOT : Fld := ⟨R.TIME_SYNC_CTL, 5, 1⟩
abbrev TIME_SYNC_CTL.STIM_GO : Fld := ⟨R.TIME_SYNC_CTL, 4, 1⟩
abbrev TIME_SYNC_CTL.ALIGN_CLK : Fld := ⟨R.TIME_SYNC_CTL, 3, 1⟩
abbrev TIME_SYNC_CTL.LOAD_TIME : Fld := ⟨R.TIME_SYNC_CTL, 2, 1⟩
abbrev TIME_SYNC_CTL.ZERO_IDX : Fld := ⟨R.TIME_SYNC_CTL, 1, 1⟩
abbrev TIME_SYNC_CTL.EN : Fld := ⟨R.TIME_SYNC_CTL, 0, 1⟩
abbrev TIME_SYNC_LOAD_0.V : Fld := ⟨R.TIME_SYNC_LOAD_0, 0, 32⟩
abbrev TIME_SYNC_LOAD_1.V : Fld := ⟨R.TIME_SYNC_LOAD_1, 0, 32⟩
abbrev TIME_SYNC_LOAD_2.V : Fld := ⟨R.TIME_SYNC_LOAD_2, 0, 16⟩
abbrev TIME_SYNC_COUNT.V : Fld := ⟨R.TIME_SYNC_COUNT, 0, 32⟩
abbrev TIME_SYNC_IGNORED.V : Fld := ⟨R.TIME_SYNC_IGNORED, 0, 32⟩
abbrev CLK_CTL.MEM_AUTO : Fld := ⟨R.CLK_CTL, 8, 1⟩
abbrev CLK_CTL.MEM_RETURN : Fld := ⟨R.CLK_CTL, 1, 1⟩
abbrev CLK_CTL.SWAP : Fld := ⟨R.CLK_CTL, 0, 1⟩
abbrev CLK_STAT.LOST_SEEN : Fld := ⟨R.CLK_STAT, 10, 1⟩
abbrev CLK_STAT.SWITCH_SEEN : Fld := ⟨R.CLK_STAT, 9, 1⟩
abbrev CLK_STAT.RATE_REJECT : Fld := ⟨R.CLK_STAT, 8, 1⟩
abbrev CLK_STAT.REF_ABSENT : Fld := ⟨R.CLK_STAT, 6, 1⟩
abbrev CLK_STAT.HOLDOVER : Fld := ⟨R.CLK_STAT, 5, 1⟩
abbrev CLK_STAT.MEM_BACKUP : Fld := ⟨R.CLK_STAT, 4, 1⟩
abbrev CLK_STAT.RATE_CHANGING : Fld := ⟨R.CLK_STAT, 3, 1⟩
abbrev CLK_STAT.BYPASS : Fld := ⟨R.CLK_STAT, 2, 1⟩
abbrev CLK_STAT.STBY_READY : Fld := ⟨R.CLK_STAT, 1, 1⟩
abbrev CLK_STAT.ACTIVE : Fld := ⟨R.CLK_STAT, 0, 1⟩
abbrev CLK_SWITCH_COUNT.V : Fld := ⟨R.CLK_SWITCH_COUNT, 0, 32⟩
abbrev CLK_RATE.DIV : Fld := ⟨R.CLK_RATE, 8, 3⟩
abbrev CLK_RATE.FCW_INT : Fld := ⟨R.CLK_RATE, 0, 8⟩
abbrev CLK_RATE_FRAC.FCW_FRAC : Fld := ⟨R.CLK_RATE_FRAC, 0, 32⟩
abbrev CLK_RATE_GO.GO : Fld := ⟨R.CLK_RATE_GO, 0, 1⟩
abbrev CLK_SRATE.FCW_INT : Fld := ⟨R.CLK_SRATE, 0, 8⟩
abbrev CLK_SRATE_FRAC.FCW_FRAC : Fld := ⟨R.CLK_SRATE_FRAC, 0, 32⟩
abbrev CLK_SRATE_GO.GO : Fld := ⟨R.CLK_SRATE_GO, 0, 1⟩
abbrev CLK_SYN_LOOP.KL (s : Nat) : Fld := ⟨R.CLK_SYN_LOOP s, 16, 4⟩
abbrev CLK_SYN_LOOP.KI (s : Nat) : Fld := ⟨R.CLK_SYN_LOOP s, 8, 5⟩
abbrev CLK_SYN_LOOP.KP (s : Nat) : Fld := ⟨R.CLK_SYN_LOOP s, 0, 4⟩
abbrev CLK_SYN_LOCK.UNLOCK_PH (s : Nat) : Fld := ⟨R.CLK_SYN_LOCK s, 8, 8⟩
abbrev CLK_SYN_LOCK.LOCK_PH (s : Nat) : Fld := ⟨R.CLK_SYN_LOCK s, 0, 8⟩
abbrev CLK_SYN_DITHER.ORDER (s : Nat) : Fld := ⟨R.CLK_SYN_DITHER s, 2, 1⟩
abbrev CLK_SYN_DITHER.LFSR_EN (s : Nat) : Fld := ⟨R.CLK_SYN_DITHER s, 1, 1⟩
abbrev CLK_SYN_DITHER.SD_EN (s : Nat) : Fld := ⟨R.CLK_SYN_DITHER s, 0, 1⟩
abbrev CLK_SYN_SEED.SEED (s : Nat) : Fld := ⟨R.CLK_SYN_SEED s, 0, 32⟩
abbrev CLK_SYN_STAT.BAND (s : Nat) : Fld := ⟨R.CLK_SYN_STAT s, 16, 6⟩
abbrev CLK_SYN_STAT.ENTRY (s : Nat) : Fld := ⟨R.CLK_SYN_STAT s, 12, 4⟩
abbrev CLK_SYN_STAT.SLOPE_CLAMPED (s : Nat) : Fld := ⟨R.CLK_SYN_STAT s, 8, 1⟩
abbrev CLK_SYN_STAT.LOST (s : Nat) : Fld := ⟨R.CLK_SYN_STAT s, 7, 1⟩
abbrev CLK_SYN_STAT.LOCK_FAIL (s : Nat) : Fld := ⟨R.CLK_SYN_STAT s, 6, 1⟩
abbrev CLK_SYN_STAT.TRACKED (s : Nat) : Fld := ⟨R.CLK_SYN_STAT s, 5, 1⟩
abbrev CLK_SYN_STAT.HOLDOVER (s : Nat) : Fld := ⟨R.CLK_SYN_STAT s, 4, 1⟩
abbrev CLK_SYN_STAT.SEARCHING (s : Nat) : Fld := ⟨R.CLK_SYN_STAT s, 3, 1⟩
abbrev CLK_SYN_STAT.PH_OK (s : Nat) : Fld := ⟨R.CLK_SYN_STAT s, 2, 1⟩
abbrev CLK_SYN_STAT.FREQ_OK (s : Nat) : Fld := ⟨R.CLK_SYN_STAT s, 1, 1⟩
abbrev CLK_SYN_STAT.LOCKED (s : Nat) : Fld := ⟨R.CLK_SYN_STAT s, 0, 1⟩
abbrev CLK_SYN_PHERR.V (s : Nat) : Fld := ⟨R.CLK_SYN_PHERR s, 0, 16⟩
abbrev CLK_SYN_FREQ.V (s : Nat) : Fld := ⟨R.CLK_SYN_FREQ s, 0, 16⟩
abbrev CLK_BAND.VALID (s : Nat) (i : Nat) : Fld := ⟨R.CLK_BAND s i, 7, 1⟩
abbrev CLK_BAND.BAND (s : Nat) (i : Nat) : Fld := ⟨R.CLK_BAND s i, 0, 6⟩
abbrev CLK_SKEW_P.SKEW (p : Nat) : Fld := ⟨R.CLK_SKEW_P p, 0, 8⟩
abbrev CLK_SKEW_G.SKEW (g : Nat) : Fld := ⟨R.CLK_SKEW_G g, 0, 8⟩
abbrev INP_MODE.MODE : Fld := ⟨R.INP_MODE, 0, 2⟩
abbrev INP_MODE_STAT.CAL_SETTLED : Fld := ⟨R.INP_MODE_STAT, 5, 1⟩
abbrev INP_MODE_STAT.CHANGING : Fld := ⟨R.INP_MODE_STAT, 4, 1⟩
abbrev INP_MODE_STAT.ACTIVE_MODE : Fld := ⟨R.INP_MODE_STAT, 0, 2⟩
abbrev INP_REF_CTL.EN : Fld := ⟨R.INP_REF_CTL, 0, 4⟩
abbrev INP_REF_STAT.FAULT : Fld := ⟨R.INP_REF_STAT, 8, 4⟩
abbrev INP_REF_STAT.READY : Fld := ⟨R.INP_REF_STAT, 0, 4⟩
abbrev INP_STAT.INJ : Fld := ⟨R.INP_STAT, 16, 4⟩
abbrev INP_STAT.OVERLOAD : Fld := ⟨R.INP_STAT, 8, 4⟩
abbrev INP_STAT.OVR : Fld := ⟨R.INP_STAT, 0, 4⟩
abbrev INP_MON_CTL.WINDOW : Fld := ⟨R.INP_MON_CTL, 0, 5⟩
abbrev INP_CALSTEP_CTL.PERIOD : Fld := ⟨R.INP_CALSTEP_CTL, 4, 16⟩
abbrev INP_CALSTEP_CTL.AMPL : Fld := ⟨R.INP_CALSTEP_CTL, 0, 1⟩
abbrev INP_OFFSET.OFFSET (n : Nat) : Fld := ⟨R.INP_OFFSET n, 0, 16⟩
abbrev INP_MON_MEAN.SEQ (n : Nat) : Fld := ⟨R.INP_MON_MEAN n, 24, 8⟩
abbrev INP_MON_MEAN.VALUE (n : Nat) : Fld := ⟨R.INP_MON_MEAN n, 0, 16⟩
abbrev INP_MON_RMS.SEQ (n : Nat) : Fld := ⟨R.INP_MON_RMS n, 24, 8⟩
abbrev INP_MON_RMS.VALUE (n : Nat) : Fld := ⟨R.INP_MON_RMS n, 0, 16⟩
abbrev INP_MON_MIN.SEQ (n : Nat) : Fld := ⟨R.INP_MON_MIN n, 24, 8⟩
abbrev INP_MON_MIN.VALUE (n : Nat) : Fld := ⟨R.INP_MON_MIN n, 0, 16⟩
abbrev INP_MON_MAX.SEQ (n : Nat) : Fld := ⟨R.INP_MON_MAX n, 24, 8⟩
abbrev INP_MON_MAX.VALUE (n : Nat) : Fld := ⟨R.INP_MON_MAX n, 0, 16⟩
abbrev INP_MON_FREQ.SEQ (n : Nat) : Fld := ⟨R.INP_MON_FREQ n, 24, 8⟩
abbrev INP_MON_FREQ.FREQ (n : Nat) : Fld := ⟨R.INP_MON_FREQ n, 0, 24⟩
abbrev INP_MON_STAT.SEQ (n : Nat) : Fld := ⟨R.INP_MON_STAT n, 24, 8⟩
abbrev INP_MON_STAT.CLIPPED (n : Nat) : Fld := ⟨R.INP_MON_STAT n, 1, 1⟩
abbrev INP_MON_STAT.STALE (n : Nat) : Fld := ⟨R.INP_MON_STAT n, 0, 1⟩
abbrev CNV_ROT_CTL.DWELL : Fld := ⟨R.CNV_ROT_CTL, 0, 5⟩
abbrev CNV_CHK_CTL.CONFIRM : Fld := ⟨R.CNV_CHK_CTL, 16, 1⟩
abbrev CNV_CHK_CTL.N : Fld := ⟨R.CNV_CHK_CTL, 8, 8⟩
abbrev CNV_CHK_CTL.M_EXP : Fld := ⟨R.CNV_CHK_CTL, 0, 4⟩
abbrev CNV_CHK_THR.MEAN_THRESH : Fld := ⟨R.CNV_CHK_THR, 16, 16⟩
abbrev CNV_CHK_THR.THRESH : Fld := ⟨R.CNV_CHK_THR, 0, 16⟩
abbrev CNV_CMD.OP : Fld := ⟨R.CNV_CMD, 28, 4⟩
abbrev CNV_CMD.SLICE : Fld := ⟨R.CNV_CMD, 0, 7⟩
abbrev CNV_CMD_STAT.PENDING : Fld := ⟨R.CNV_CMD_STAT, 8, 1⟩
abbrev CNV_CMD_STAT.RESULT : Fld := ⟨R.CNV_CMD_STAT, 0, 2⟩
abbrev CNV_SUBST_COUNT.V : Fld := ⟨R.CNV_SUBST_COUNT, 0, 32⟩
abbrev CNV_GAUGE_STAT.V : Fld := ⟨R.CNV_GAUGE_STAT, 0, 32⟩
abbrev CNV_MAP_LO.V (b : Nat) : Fld := ⟨R.CNV_MAP_LO b, 0, 32⟩
abbrev CNV_MAP_HI.EPOCH (b : Nat) : Fld := ⟨R.CNV_MAP_HI b, 24, 8⟩
abbrev CNV_MAP_HI.SPARE (b : Nat) : Fld := ⟨R.CNV_MAP_HI b, 16, 4⟩
abbrev CNV_MAP_HI.POSH (b : Nat) : Fld := ⟨R.CNV_MAP_HI b, 0, 16⟩
abbrev CNV_BANK_CTL.AUTO_SUB (b : Nat) : Fld := ⟨R.CNV_BANK_CTL b, 2, 1⟩
abbrev CNV_BANK_CTL.CHECK_EN (b : Nat) : Fld := ⟨R.CNV_BANK_CTL b, 1, 1⟩
abbrev CNV_BANK_CTL.ROT_EN (b : Nat) : Fld := ⟨R.CNV_BANK_CTL b, 0, 1⟩
abbrev CNV_BANK_STAT.INTERP (b : Nat) : Fld := ⟨R.CNV_BANK_STAT b, 20, 1⟩
abbrev CNV_BANK_STAT.CAL_FROZEN (b : Nat) : Fld := ⟨R.CNV_BANK_STAT b, 19, 1⟩
abbrev CNV_BANK_STAT.SUSPECT (b : Nat) : Fld := ⟨R.CNV_BANK_STAT b, 18, 1⟩
abbrev CNV_BANK_STAT.SPARE_STATE (b : Nat) : Fld := ⟨R.CNV_BANK_STAT b, 16, 2⟩
abbrev CNV_BANK_STAT.RETIRED (b : Nat) : Fld := ⟨R.CNV_BANK_STAT b, 0, 13⟩
abbrev CNV_FAULT_IDX_LO.V (b : Nat) : Fld := ⟨R.CNV_FAULT_IDX_LO b, 0, 32⟩
abbrev CNV_FAULT_IDX_HI.V (b : Nat) : Fld := ⟨R.CNV_FAULT_IDX_HI b, 0, 32⟩
abbrev CNV_SUB_IDX_LO.V (b : Nat) : Fld := ⟨R.CNV_SUB_IDX_LO b, 0, 32⟩
abbrev CNV_SUB_IDX_HI.V (b : Nat) : Fld := ⟨R.CNV_SUB_IDX_HI b, 0, 32⟩
abbrev CAL_EST_CTL.NLEAK : Fld := ⟨R.CAL_EST_CTL, 12, 3⟩
abbrev CAL_EST_CTL.GLEAK : Fld := ⟨R.CAL_EST_CTL, 8, 3⟩
abbrev CAL_EST_CTL.EST_EXP : Fld := ⟨R.CAL_EST_CTL, 0, 5⟩
abbrev CAL_STAT.TRIM_CHANGED : Fld := ⟨R.CAL_STAT, 16, 1⟩
abbrev CAL_STAT.FG_ACTIVE : Fld := ⟨R.CAL_STAT, 0, 4⟩
abbrev CAL_GAUGE_OFF.OFF (g : Nat) : Fld := ⟨R.CAL_GAUGE_OFF g, 0, 16⟩
abbrev CAL_GAUGE_GAIN.GAIN (g : Nat) : Fld := ⟨R.CAL_GAUGE_GAIN g, 0, 18⟩
abbrev CAL_COUNT.V (b : Nat) : Fld := ⟨R.CAL_COUNT b, 0, 32⟩
abbrev CAL_LAST_TIME_0.V (b : Nat) : Fld := ⟨R.CAL_LAST_TIME_0 b, 0, 32⟩
abbrev CAL_LAST_TIME_1.V (b : Nat) : Fld := ⟨R.CAL_LAST_TIME_1 b, 0, 32⟩
abbrev CAL_LAST_TIME_2.V (b : Nat) : Fld := ⟨R.CAL_LAST_TIME_2 b, 0, 16⟩
abbrev CAL_BANK_SHSTARVED.V (b : Nat) : Fld := ⟨R.CAL_BANK_SHSTARVED b, 0, 32⟩
abbrev CAL_STARVED.V (n : Nat) : Fld := ⟨R.CAL_STARVED n, 0, 32⟩
abbrev CAL_TRIM_P.BIAS (p : Nat) : Fld := ⟨R.CAL_TRIM_P p, 24, 4⟩
abbrev CAL_TRIM_P.CAP11 (p : Nat) : Fld := ⟨R.CAL_TRIM_P p, 20, 2⟩
abbrev CAL_TRIM_P.CAP10 (p : Nat) : Fld := ⟨R.CAL_TRIM_P p, 18, 2⟩
abbrev CAL_TRIM_P.CAP9 (p : Nat) : Fld := ⟨R.CAL_TRIM_P p, 16, 2⟩
abbrev CAL_TRIM_P.CAP8 (p : Nat) : Fld := ⟨R.CAL_TRIM_P p, 14, 2⟩
abbrev CAL_TRIM_P.CAP7 (p : Nat) : Fld := ⟨R.CAL_TRIM_P p, 12, 2⟩
abbrev CAL_TRIM_P.CAP6 (p : Nat) : Fld := ⟨R.CAL_TRIM_P p, 10, 2⟩
abbrev CAL_TRIM_P.VCM (p : Nat) : Fld := ⟨R.CAL_TRIM_P p, 4, 4⟩
abbrev CAL_TRIM_P.COMP_SEL (p : Nat) : Fld := ⟨R.CAL_TRIM_P p, 0, 2⟩
abbrev CAL_TRIM_G.BIAS (g : Nat) : Fld := ⟨R.CAL_TRIM_G g, 16, 4⟩
abbrev CAL_TRIM_G.CAP (g : Nat) : Fld := ⟨R.CAL_TRIM_G g, 0, 16⟩
abbrev CAL_TRIM_REF.LEVEL (k : Nat) : Fld := ⟨R.CAL_TRIM_REF k, 0, 16⟩
abbrev EQ_CTL.FADE_LAW (n : Nat) : Fld := ⟨R.EQ_CTL n, 8, 2⟩
abbrev EQ_CTL.FADE_EXP (n : Nat) : Fld := ⟨R.EQ_CTL n, 0, 5⟩
abbrev EQ_SWAP.REQ (n : Nat) : Fld := ⟨R.EQ_SWAP n, 31, 1⟩
abbrev EQ_SWAP.BANK (n : Nat) : Fld := ⟨R.EQ_SWAP n, 0, 1⟩
abbrev EQ_STAT.DELAY_DISCARD (n : Nat) : Fld := ⟨R.EQ_STAT n, 10, 1⟩
abbrev EQ_STAT.WR_DISCARD (n : Nat) : Fld := ⟨R.EQ_STAT n, 9, 1⟩
abbrev EQ_STAT.CLIP (n : Nat) : Fld := ⟨R.EQ_STAT n, 8, 1⟩
abbrev EQ_STAT.PENDING_BANK (n : Nat) : Fld := ⟨R.EQ_STAT n, 4, 1⟩
abbrev EQ_STAT.PENDING (n : Nat) : Fld := ⟨R.EQ_STAT n, 3, 1⟩
abbrev EQ_STAT.FADE_TARGET (n : Nat) : Fld := ⟨R.EQ_STAT n, 2, 1⟩
abbrev EQ_STAT.FADING (n : Nat) : Fld := ⟨R.EQ_STAT n, 1, 1⟩
abbrev EQ_STAT.ACTIVE (n : Nat) : Fld := ⟨R.EQ_STAT n, 0, 1⟩
abbrev EQ_DELAY.FRAC (n : Nat) : Fld := ⟨R.EQ_DELAY n, 16, 8⟩
abbrev EQ_DELAY.INT (n : Nat) : Fld := ⟨R.EQ_DELAY n, 0, 13⟩
abbrev EQ_FADE_IDX_LO.V (n : Nat) : Fld := ⟨R.EQ_FADE_IDX_LO n, 0, 32⟩
abbrev EQ_FADE_IDX_HI.V (n : Nat) : Fld := ⟨R.EQ_FADE_IDX_HI n, 0, 32⟩
abbrev EQ_CLIP_COUNT.V (n : Nat) : Fld := ⟨R.EQ_CLIP_COUNT n, 0, 32⟩
abbrev DEC_CTL.PRIMED (n : Nat) : Fld := ⟨R.DEC_CTL n, 0, 1⟩
abbrev DEC_DROP.R_EXP (n : Nat) : Fld := ⟨R.DEC_DROP n, 0, 5⟩
abbrev DEC_RAKE.R_EXP (n : Nat) : Fld := ⟨R.DEC_RAKE n, 0, 5⟩
abbrev DEC_CIC.BLOCK (n : Nat) : Fld := ⟨R.DEC_CIC n, 12, 1⟩
abbrev DEC_CIC.ORDER (n : Nat) : Fld := ⟨R.DEC_CIC n, 8, 2⟩
abbrev DEC_CIC.R_EXP (n : Nat) : Fld := ⟨R.DEC_CIC n, 0, 5⟩
abbrev DEC_INVALID.V (n : Nat) : Fld := ⟨R.DEC_INVALID n, 0, 32⟩
abbrev DEC_MA_CTL.EN (m : Nat) : Fld := ⟨R.DEC_MA_CTL m, 31, 1⟩
abbrev DEC_MA_CTL.INPUT (m : Nat) : Fld := ⟨R.DEC_MA_CTL m, 28, 2⟩
abbrev DEC_MA_CTL.BLOCK (m : Nat) : Fld := ⟨R.DEC_MA_CTL m, 12, 1⟩
abbrev DEC_MA_CTL.R_EXP (m : Nat) : Fld := ⟨R.DEC_MA_CTL m, 0, 5⟩
abbrev DEC_MA_LEN.LEN (m : Nat) : Fld := ⟨R.DEC_MA_LEN m, 0, 17⟩
abbrev DEC_SYNC_IDX_LO.V : Fld := ⟨R.DEC_SYNC_IDX_LO, 0, 32⟩
abbrev DEC_SYNC_IDX_HI.V : Fld := ⟨R.DEC_SYNC_IDX_HI, 0, 32⟩
abbrev DEC_STAT.MA_REFUSED : Fld := ⟨R.DEC_STAT, 4, 2⟩
abbrev DEC_STAT.IN_REFUSED : Fld := ⟨R.DEC_STAT, 0, 4⟩
abbrev TRG_TD_CFG.EN (k : Nat) : Fld := ⟨R.TRG_TD_CFG k, 31, 1⟩
abbrev TRG_TD_CFG.QUAL_EN (k : Nat) : Fld := ⟨R.TRG_TD_CFG k, 30, 1⟩
abbrev TRG_TD_CFG.QUAL_INV (k : Nat) : Fld := ⟨R.TRG_TD_CFG k, 29, 1⟩
abbrev TRG_TD_CFG.TYPE (k : Nat) : Fld := ⟨R.TRG_TD_CFG k, 24, 4⟩
abbrev TRG_TD_CFG.SRC (k : Nat) : Fld := ⟨R.TRG_TD_CFG k, 16, 5⟩
abbrev TRG_TD_CFG.PAT_FN (k : Nat) : Fld := ⟨R.TRG_TD_CFG k, 14, 2⟩
abbrev TRG_TD_CFG.SLOPE (k : Nat) : Fld := ⟨R.TRG_TD_CFG k, 12, 2⟩
abbrev TRG_TD_CFG.DCOND (k : Nat) : Fld := ⟨R.TRG_TD_CFG k, 8, 3⟩
abbrev TRG_TD_CFG.DSCALE (k : Nat) : Fld := ⟨R.TRG_TD_CFG k, 4, 4⟩
abbrev TRG_TD_CFG.QUAL_SEL (k : Nat) : Fld := ⟨R.TRG_TD_CFG k, 0, 4⟩
abbrev TRG_TD_LEVEL.LEVEL_HI (k : Nat) : Fld := ⟨R.TRG_TD_LEVEL k, 16, 16⟩
abbrev TRG_TD_LEVEL.LEVEL_LO (k : Nat) : Fld := ⟨R.TRG_TD_LEVEL k, 0, 16⟩
abbrev TRG_TD_HYST.HYST (k : Nat) : Fld := ⟨R.TRG_TD_HYST k, 0, 16⟩
abbrev TRG_TD_DLO.V (k : Nat) : Fld := ⟨R.TRG_TD_DLO k, 0, 32⟩
abbrev TRG_TD_DHI.V (k : Nat) : Fld := ⟨R.TRG_TD_DHI k, 0, 32⟩
abbrev TRG_TD_PAT_A.V (k : Nat) : Fld := ⟨R.TRG_TD_PAT_A k, 0, 24⟩
abbrev TRG_TD_PAT_B.V (k : Nat) : Fld := ⟨R.TRG_TD_PAT_B k, 0, 27⟩
abbrev TRG_TD_PAT_C.V (k : Nat) : Fld := ⟨R.TRG_TD_PAT_C k, 0, 12⟩
abbrev TRG_TD_APPLY.APPLY (k : Nat) : Fld := ⟨R.TRG_TD_APPLY k, 0, 1⟩
abbrev TRG_TD_STAT.STAGED (k : Nat) : Fld := ⟨R.TRG_TD_STAT k, 8, 1⟩
abbrev TRG_TD_STAT.APPLY_DISCARD (k : Nat) : Fld := ⟨R.TRG_TD_STAT k, 7, 1⟩
abbrev TRG_TD_STAT.CFG_ERR (k : Nat) : Fld := ⟨R.TRG_TD_STAT k, 6, 1⟩
abbrev TRG_TD_STAT.SRC_IDLE (k : Nat) : Fld := ⟨R.TRG_TD_STAT k, 5, 1⟩
abbrev TRG_TD_STAT.MERGED_SEEN (k : Nat) : Fld := ⟨R.TRG_TD_STAT k, 4, 1⟩
abbrev TRG_TD_STAT.LATE (k : Nat) : Fld := ⟨R.TRG_TD_STAT k, 3, 1⟩
abbrev TRG_TD_STAT.STATE (k : Nat) : Fld := ⟨R.TRG_TD_STAT k, 1, 1⟩
abbrev TRG_TD_STAT.ACTIVE (k : Nat) : Fld := ⟨R.TRG_TD_STAT k, 0, 1⟩
abbrev TRG_TD_COUNT.V (k : Nat) : Fld := ⟨R.TRG_TD_COUNT k, 0, 32⟩
abbrev TRG_TD_MERGED.V (k : Nat) : Fld := ⟨R.TRG_TD_MERGED k, 0, 32⟩
abbrev TRG_TD_LAST_IDX_LO.V (k : Nat) : Fld := ⟨R.TRG_TD_LAST_IDX_LO k, 0, 32⟩
abbrev TRG_TD_LAST_IDX_HI.V (k : Nat) : Fld := ⟨R.TRG_TD_LAST_IDX_HI k, 0, 32⟩
abbrev TRG_TD_APPLY_IDX_LO.V (k : Nat) : Fld := ⟨R.TRG_TD_APPLY_IDX_LO k, 0, 32⟩
abbrev TRG_TD_APPLY_IDX_HI.V (k : Nat) : Fld := ⟨R.TRG_TD_APPLY_IDX_HI k, 0, 32⟩
abbrev TRG_PTH.HYST (n : Nat) : Fld := ⟨R.TRG_PTH n, 16, 16⟩
abbrev TRG_PTH.LEVEL (n : Nat) : Fld := ⟨R.TRG_PTH n, 0, 16⟩
abbrev TRG_XDLY.INV (s : Nat) : Fld := ⟨R.TRG_XDLY s, 16, 1⟩
abbrev TRG_XDLY.XDELAY (s : Nat) : Fld := ⟨R.TRG_XDLY s, 0, 16⟩
abbrev TRG_XLOST.V : Fld := ⟨R.TRG_XLOST, 0, 32⟩
abbrev TRG_XSTAT.LOST : Fld := ⟨R.TRG_XSTAT, 0, 13⟩
abbrev TRG_XLEVEL.LEVEL : Fld := ⟨R.TRG_XLEVEL, 0, 13⟩
abbrev TRG_AC_SEQ.LOG_WRAP (n : Nat) : Fld := ⟨R.TRG_AC_SEQ n, 18, 1⟩
abbrev TRG_AC_SEQ.LOG_HELD (n : Nat) : Fld := ⟨R.TRG_AC_SEQ n, 17, 1⟩
abbrev TRG_AC_SEQ.LOG_EN (n : Nat) : Fld := ⟨R.TRG_AC_SEQ n, 16, 1⟩
abbrev TRG_AC_SEQ.HSCALE (n : Nat) : Fld := ⟨R.TRG_AC_SEQ n, 8, 4⟩
abbrev TRG_AC_SEQ.HMODE (n : Nat) : Fld := ⟨R.TRG_AC_SEQ n, 4, 2⟩
abbrev TRG_AC_SEQ.NSTAGES (n : Nat) : Fld := ⟨R.TRG_AC_SEQ n, 0, 2⟩
abbrev TRG_AC_HOLD.V (n : Nat) : Fld := ⟨R.TRG_AC_HOLD n, 0, 32⟩
abbrev TRG_AC_HOLDN.HOLDN (n : Nat) : Fld := ⟨R.TRG_AC_HOLDN n, 0, 16⟩
abbrev TRG_AC_STG_ADV.SYM (n : Nat) (j : Nat) : Fld := ⟨R.TRG_AC_STG_ADV n j, 16, 1⟩
abbrev TRG_AC_STG_ADV.TD (n : Nat) (j : Nat) : Fld := ⟨R.TRG_AC_STG_ADV n j, 0, 16⟩
abbrev TRG_AC_STG_RST.SYM (n : Nat) (j : Nat) : Fld := ⟨R.TRG_AC_STG_RST n j, 16, 1⟩
abbrev TRG_AC_STG_RST.TD (n : Nat) (j : Nat) : Fld := ⟨R.TRG_AC_STG_RST n j, 0, 16⟩
abbrev TRG_AC_STG_CTL.SAME_SAMPLE (n : Nat) (j : Nat) : Fld := ⟨R.TRG_AC_STG_CTL n j, 31, 1⟩
abbrev TRG_AC_STG_CTL.WIN_EN (n : Nat) (j : Nat) : Fld := ⟨R.TRG_AC_STG_CTL n j, 30, 1⟩
abbrev TRG_AC_STG_CTL.WSCALE (n : Nat) (j : Nat) : Fld := ⟨R.TRG_AC_STG_CTL n j, 24, 4⟩
abbrev TRG_AC_STG_CTL.COUNT (n : Nat) (j : Nat) : Fld := ⟨R.TRG_AC_STG_CTL n j, 0, 16⟩
abbrev TRG_AC_STG_DMIN.V (n : Nat) (j : Nat) : Fld := ⟨R.TRG_AC_STG_DMIN n j, 0, 32⟩
abbrev TRG_AC_STG_DMAX.V (n : Nat) (j : Nat) : Fld := ⟨R.TRG_AC_STG_DMAX n j, 0, 32⟩
abbrev TRG_AC_STAT.LOG_FULL (n : Nat) : Fld := ⟨R.TRG_AC_STAT n, 18, 1⟩
abbrev TRG_AC_STAT.LOG_LOSS (n : Nat) : Fld := ⟨R.TRG_AC_STAT n, 17, 1⟩
abbrev TRG_AC_STAT.WR_DISCARD (n : Nat) : Fld := ⟨R.TRG_AC_STAT n, 16, 1⟩
abbrev TRG_AC_STAT.HOLDING (n : Nat) : Fld := ⟨R.TRG_AC_STAT n, 10, 1⟩
abbrev TRG_AC_STAT.STAGE (n : Nat) : Fld := ⟨R.TRG_AC_STAT n, 8, 2⟩
abbrev TRG_AC_COMPL.V (n : Nat) : Fld := ⟨R.TRG_AC_COMPL n, 0, 32⟩
abbrev TRG_AC_OVERLAP.V (n : Nat) : Fld := ⟨R.TRG_AC_OVERLAP n, 0, 32⟩
abbrev TRG_AC_HELD.V (n : Nat) : Fld := ⟨R.TRG_AC_HELD n, 0, 32⟩
abbrev TRG_AC_TIMEOUTS.V (n : Nat) : Fld := ⟨R.TRG_AC_TIMEOUTS n, 0, 32⟩
abbrev TRG_AC_RESETS.V (n : Nat) : Fld := ⟨R.TRG_AC_RESETS n, 0, 32⟩
abbrev TRG_AC_LOG_LOST.V (n : Nat) : Fld := ⟨R.TRG_AC_LOG_LOST n, 0, 32⟩
abbrev TRG_AC_LOG_COUNT_LO.V (n : Nat) : Fld := ⟨R.TRG_AC_LOG_COUNT_LO n, 0, 32⟩
abbrev TRG_AC_LOG_COUNT_HI.V (n : Nat) : Fld := ⟨R.TRG_AC_LOG_COUNT_HI n, 0, 32⟩
abbrev TRG_XO_CTL.WIDTH (m : Nat) : Fld := ⟨R.TRG_XO_CTL m, 8, 8⟩
abbrev TRG_XO_CTL.INV (m : Nat) : Fld := ⟨R.TRG_XO_CTL m, 7, 1⟩
abbrev TRG_XO_CTL.SRC (m : Nat) : Fld := ⟨R.TRG_XO_CTL m, 0, 5⟩
abbrev TRG_XO_STAT.MERGED : Fld := ⟨R.TRG_XO_STAT, 0, 4⟩
abbrev TRG_REACT_CTL.EN (r : Nat) : Fld := ⟨R.TRG_REACT_CTL r, 31, 1⟩
abbrev TRG_REACT_CTL.CONTEXT (r : Nat) : Fld := ⟨R.TRG_REACT_CTL r, 8, 2⟩
abbrev TRG_REACT_CTL.EVENT (r : Nat) : Fld := ⟨R.TRG_REACT_CTL r, 0, 3⟩
abbrev TRG_REACT_STAT.MERGED : Fld := ⟨R.TRG_REACT_STAT, 0, 4⟩
abbrev TRG_LAUNCH_DLY.V (n : Nat) : Fld := ⟨R.TRG_LAUNCH_DLY n, 0, 16⟩
abbrev SYM_CTL.EN : Fld := ⟨R.SYM_CTL, 31, 1⟩
abbrev SYM_CTL.INPUT : Fld := ⟨R.SYM_CTL, 28, 2⟩
abbrev SYM_CTL.CODE : Fld := ⟨R.SYM_CTL, 24, 1⟩
abbrev SYM_CTL.GRAY : Fld := ⟨R.SYM_CTL, 23, 1⟩
abbrev SYM_CTL.AUTO : Fld := ⟨R.SYM_CTL, 22, 1⟩
abbrev SYM_CTL.PHASE : Fld := ⟨R.SYM_CTL, 8, 6⟩
abbrev SYM_CTL.LBW : Fld := ⟨R.SYM_CTL, 0, 4⟩
abbrev SYM_UI.UI : Fld := ⟨R.SYM_UI, 0, 32⟩
abbrev SYM_THR.V (k : Nat) : Fld := ⟨R.SYM_THR k, 0, 16⟩
abbrev SYM_PAT_CTL.LEN : Fld := ⟨R.SYM_PAT_CTL, 0, 9⟩
abbrev SYM_APPLY.APPLY : Fld := ⟨R.SYM_APPLY, 0, 1⟩
abbrev SYM_STAT.CFG_REASON : Fld := ⟨R.SYM_STAT, 8, 3⟩
abbrev SYM_STAT.SRC_IDLE : Fld := ⟨R.SYM_STAT, 7, 1⟩
abbrev SYM_STAT.LATE : Fld := ⟨R.SYM_STAT, 6, 1⟩
abbrev SYM_STAT.MERGED_SEEN : Fld := ⟨R.SYM_STAT, 5, 1⟩
abbrev SYM_STAT.LOST_SEEN : Fld := ⟨R.SYM_STAT, 4, 1⟩
abbrev SYM_STAT.APPLY_DISCARD : Fld := ⟨R.SYM_STAT, 3, 1⟩
abbrev SYM_STAT.CFG_ERR : Fld := ⟨R.SYM_STAT, 2, 1⟩
abbrev SYM_STAT.LOCKED : Fld := ⟨R.SYM_STAT, 1, 1⟩
abbrev SYM_STAT.ACTIVE : Fld := ⟨R.SYM_STAT, 0, 1⟩
abbrev SYM_UI_MEAS.V : Fld := ⟨R.SYM_UI_MEAS, 0, 32⟩
abbrev SYM_LVL.SEQ (k : Nat) : Fld := ⟨R.SYM_LVL k, 24, 8⟩
abbrev SYM_LVL.MEAN (k : Nat) : Fld := ⟨R.SYM_LVL k, 0, 16⟩
abbrev SYM_MATCH_COUNT.V : Fld := ⟨R.SYM_MATCH_COUNT, 0, 32⟩
abbrev SYM_MERGED.V : Fld := ⟨R.SYM_MERGED, 0, 32⟩
abbrev SYM_LAST_IDX_LO.V : Fld := ⟨R.SYM_LAST_IDX_LO, 0, 32⟩
abbrev SYM_LAST_IDX_HI.V : Fld := ⟨R.SYM_LAST_IDX_HI, 0, 32⟩
abbrev SYM_UNLOCKS.V : Fld := ⟨R.SYM_UNLOCKS, 0, 32⟩
abbrev SYM_APPLY_IDX_LO.V : Fld := ⟨R.SYM_APPLY_IDX_LO, 0, 32⟩
abbrev SYM_APPLY_IDX_HI.V : Fld := ⟨R.SYM_APPLY_IDX_HI, 0, 32⟩
abbrev ACQ_AC_CTL.NOTIFY_EN (n : Nat) : Fld := ⟨R.ACQ_AC_CTL n, 16, 1⟩
abbrev ACQ_AC_CTL.NOTIFY_EXP (n : Nat) : Fld := ⟨R.ACQ_AC_CTL n, 8, 5⟩
abbrev ACQ_AC_CTL.EN (n : Nat) : Fld := ⟨R.ACQ_AC_CTL n, 0, 1⟩
abbrev ACQ_AC_STAT.OWNER (n : Nat) : Fld := ⟨R.ACQ_AC_STAT n, 8, 4⟩
abbrev ACQ_AC_STAT.INPUTS (n : Nat) : Fld := ⟨R.ACQ_AC_STAT n, 4, 4⟩
abbrev ACQ_AC_STAT.ARM_LATE (n : Nat) : Fld := ⟨R.ACQ_AC_STAT n, 2, 1⟩
abbrev ACQ_AC_STAT.SEG_OPEN (n : Nat) : Fld := ⟨R.ACQ_AC_STAT n, 1, 1⟩
abbrev ACQ_AC_STAT.ARMED (n : Nat) : Fld := ⟨R.ACQ_AC_STAT n, 0, 1⟩
abbrev ACQ_AC_ARM_IDX_LO.V (n : Nat) : Fld := ⟨R.ACQ_AC_ARM_IDX_LO n, 0, 32⟩
abbrev ACQ_AC_ARM_IDX_HI.V (n : Nat) : Fld := ⟨R.ACQ_AC_ARM_IDX_HI n, 0, 32⟩
abbrev ACQ_AC_SEGS.V (n : Nat) : Fld := ⟨R.ACQ_AC_SEGS n, 0, 26⟩
abbrev ACQ_AC_SLOT.V (n : Nat) : Fld := ⟨R.ACQ_AC_SLOT n, 0, 31⟩
abbrev ACQ_AC_DSLOT.V (n : Nat) : Fld := ⟨R.ACQ_AC_DSLOT n, 0, 31⟩
abbrev ACQ_AC_NSLOT.V (n : Nat) : Fld := ⟨R.ACQ_AC_NSLOT n, 0, 31⟩
abbrev ACQ_AC_DEADEXT.V (n : Nat) : Fld := ⟨R.ACQ_AC_DEADEXT n, 0, 32⟩
abbrev ACQ_AC_NONOK.V (n : Nat) : Fld := ⟨R.ACQ_AC_NONOK n, 0, 32⟩
abbrev ACQ_AC_SLU_CTL.EN (n : Nat) : Fld := ⟨R.ACQ_AC_SLU_CTL n, 31, 1⟩
abbrev ACQ_AC_SLU_CTL.SEC_REC (n : Nat) : Fld := ⟨R.ACQ_AC_SLU_CTL n, 30, 1⟩
abbrev ACQ_AC_SLU_CTL.SMAX (n : Nat) : Fld := ⟨R.ACQ_AC_SLU_CTL n, 24, 4⟩
abbrev ACQ_AC_SLU_CTL.SMIN (n : Nat) : Fld := ⟨R.ACQ_AC_SLU_CTL n, 16, 4⟩
abbrev ACQ_AC_SLU_CTL.HOLD (n : Nat) : Fld := ⟨R.ACQ_AC_SLU_CTL n, 0, 16⟩
abbrev ACQ_AC_SLU_THR.HI (n : Nat) : Fld := ⟨R.ACQ_AC_SLU_THR n, 8, 8⟩
abbrev ACQ_AC_SLU_THR.LO (n : Nat) : Fld := ⟨R.ACQ_AC_SLU_THR n, 0, 8⟩
abbrev ACQ_AC_SLU_STAT.STEP (n : Nat) : Fld := ⟨R.ACQ_AC_SLU_STAT n, 8, 4⟩
abbrev ACQ_AC_SLU_STAT.WR_DISCARD (n : Nat) : Fld := ⟨R.ACQ_AC_SLU_STAT n, 4, 1⟩
abbrev ACQ_AC_SLU_STAT.RESERVE (n : Nat) : Fld := ⟨R.ACQ_AC_SLU_STAT n, 3, 1⟩
abbrev ACQ_AC_SLU_STAT.AT_MAX (n : Nat) : Fld := ⟨R.ACQ_AC_SLU_STAT n, 2, 1⟩
abbrev ACQ_AC_SLU_STAT.GAP_OPEN (n : Nat) : Fld := ⟨R.ACQ_AC_SLU_STAT n, 1, 1⟩
abbrev ACQ_AC_SLU_STAT.GAP_SEEN (n : Nat) : Fld := ⟨R.ACQ_AC_SLU_STAT n, 0, 1⟩
abbrev ACQ_AC_SLU_CHANGES.V (n : Nat) : Fld := ⟨R.ACQ_AC_SLU_CHANGES n, 0, 32⟩
abbrev ACQ_AC_GAPS.V (n : Nat) : Fld := ⟨R.ACQ_AC_GAPS n, 0, 32⟩
abbrev ACQ_AC_GAP_SAMP_LO.V (n : Nat) : Fld := ⟨R.ACQ_AC_GAP_SAMP_LO n, 0, 32⟩
abbrev ACQ_AC_GAP_SAMP_HI.V (n : Nat) : Fld := ⟨R.ACQ_AC_GAP_SAMP_HI n, 0, 32⟩
abbrev ACQ_AC_SW_LO.V (n : Nat) : Fld := ⟨R.ACQ_AC_SW_LO n, 0, 32⟩
abbrev ACQ_AC_SW_HI.V (n : Nat) : Fld := ⟨R.ACQ_AC_SW_HI n, 0, 32⟩
abbrev ACQ_AC_SH_LO.V (n : Nat) (m : Nat) : Fld := ⟨R.ACQ_AC_SH_LO n m, 0, 32⟩
abbrev ACQ_AC_SH_HI.V (n : Nat) (m : Nat) : Fld := ⟨R.ACQ_AC_SH_HI n m, 0, 32⟩
abbrev ACQ_AC_TH_LO.V (n : Nat) : Fld := ⟨R.ACQ_AC_TH_LO n, 0, 32⟩
abbrev ACQ_AC_TH_HI.V (n : Nat) : Fld := ⟨R.ACQ_AC_TH_HI n, 0, 32⟩
abbrev ACQ_AC_ARM_TIME_0.V (n : Nat) : Fld := ⟨R.ACQ_AC_ARM_TIME_0 n, 0, 32⟩
abbrev ACQ_AC_ARM_TIME_1.V (n : Nat) : Fld := ⟨R.ACQ_AC_ARM_TIME_1 n, 0, 32⟩
abbrev ACQ_AC_ARM_TIME_2.V (n : Nat) : Fld := ⟨R.ACQ_AC_ARM_TIME_2 n, 0, 16⟩
abbrev PAN_STAT.PEPOCH (k : Nat) : Fld := ⟨R.PAN_STAT k, 24, 8⟩
abbrev PAN_STAT.OWNER (k : Nat) : Fld := ⟨R.PAN_STAT k, 20, 4⟩
abbrev PAN_STAT.CONTEXT (k : Nat) : Fld := ⟨R.PAN_STAT k, 18, 2⟩
abbrev PAN_STAT.INPUT (k : Nat) : Fld := ⟨R.PAN_STAT k, 16, 2⟩
abbrev PAN_STAT.FIRST (k : Nat) : Fld := ⟨R.PAN_STAT k, 13, 3⟩
abbrev PAN_STAT.GANG (k : Nat) : Fld := ⟨R.PAN_STAT k, 11, 2⟩
abbrev PAN_STAT.MODE (k : Nat) : Fld := ⟨R.PAN_STAT k, 9, 2⟩
abbrev PAN_STAT.PINGPONG (k : Nat) : Fld := ⟨R.PAN_STAT k, 8, 1⟩
abbrev PAN_STAT.BUF1 (k : Nat) : Fld := ⟨R.PAN_STAT k, 6, 2⟩
abbrev PAN_STAT.BUF0 (k : Nat) : Fld := ⟨R.PAN_STAT k, 4, 2⟩
abbrev PAN_STAT.OWNED (k : Nat) : Fld := ⟨R.PAN_STAT k, 3, 1⟩
abbrev PAN_STAT.TESTING (k : Nat) : Fld := ⟨R.PAN_STAT k, 2, 1⟩
abbrev PAN_STAT.WAITING (k : Nat) : Fld := ⟨R.PAN_STAT k, 1, 1⟩
abbrev PAN_STAT.ATTACHED (k : Nat) : Fld := ⟨R.PAN_STAT k, 0, 1⟩
abbrev PAN_PASSES.V (k : Nat) : Fld := ⟨R.PAN_PASSES k, 0, 32⟩
abbrev PAN_SKIP.V (k : Nat) : Fld := ⟨R.PAN_SKIP k, 0, 32⟩
abbrev PAN_LATE.V (k : Nat) : Fld := ⟨R.PAN_LATE k, 0, 32⟩
abbrev PAN_ECC.UNCORR (k : Nat) : Fld := ⟨R.PAN_ECC k, 16, 16⟩
abbrev PAN_ECC.CORR (k : Nat) : Fld := ⟨R.PAN_ECC k, 0, 16⟩
abbrev PAN_TEST.V (k : Nat) : Fld := ⟨R.PAN_TEST k, 0, 32⟩
abbrev PAN_FLAGS.ECC_CORR (k : Nat) : Fld := ⟨R.PAN_FLAGS k, 9, 1⟩
abbrev PAN_FLAGS.ECC_UNC (k : Nat) : Fld := ⟨R.PAN_FLAGS k, 8, 1⟩
abbrev PAN_FLAGS.RATE (k : Nat) : Fld := ⟨R.PAN_FLAGS k, 3, 1⟩
abbrev PAN_FLAGS.LATE (k : Nat) : Fld := ⟨R.PAN_FLAGS k, 2, 1⟩
abbrev PAN_FLAGS.NOBUF (k : Nat) : Fld := ⟨R.PAN_FLAGS k, 1, 1⟩
abbrev PAN_FLAGS.OCCUPIED (k : Nat) : Fld := ⟨R.PAN_FLAGS k, 0, 1⟩
abbrev MEM_CTL.SR_IDLE : Fld := ⟨R.MEM_CTL, 16, 16⟩
abbrev MEM_CTL.ECC_WB : Fld := ⟨R.MEM_CTL, 2, 1⟩
abbrev MEM_CTL.RETRAIN_EN : Fld := ⟨R.MEM_CTL, 1, 1⟩
abbrev MEM_CTL.SR_AUTO : Fld := ⟨R.MEM_CTL, 0, 1⟩
abbrev MEM_STAT.HASH_DISCARD : Fld := ⟨R.MEM_STAT, 10, 1⟩
abbrev MEM_STAT.TRAIN_FAIL : Fld := ⟨R.MEM_STAT, 9, 1⟩
abbrev MEM_STAT.OFFSETS : Fld := ⟨R.MEM_STAT, 8, 1⟩
abbrev MEM_STAT.NO_SPILL : Fld := ⟨R.MEM_STAT, 7, 1⟩
abbrev MEM_STAT.RESERVE_SEEN : Fld := ⟨R.MEM_STAT, 6, 1⟩
abbrev MEM_STAT.OVER_BUDGET : Fld := ⟨R.MEM_STAT, 5, 1⟩
abbrev MEM_STAT.HOT1 : Fld := ⟨R.MEM_STAT, 4, 1⟩
abbrev MEM_STAT.HOT0 : Fld := ⟨R.MEM_STAT, 3, 1⟩
abbrev MEM_STAT.SR_FAULT : Fld := ⟨R.MEM_STAT, 2, 1⟩
abbrev MEM_STAT.SR : Fld := ⟨R.MEM_STAT, 1, 1⟩
abbrev MEM_STAT.ACTIVE : Fld := ⟨R.MEM_STAT, 0, 1⟩
abbrev MEM_HASH_PC.MASK (k : Nat) : Fld := ⟨R.MEM_HASH_PC k, 0, 20⟩
abbrev MEM_HASH_BK.MASK (j : Nat) : Fld := ⟨R.MEM_HASH_BK j, 0, 16⟩
abbrev MEM_WB_OCC.V : Fld := ⟨R.MEM_WB_OCC, 0, 17⟩
abbrev MEM_WB_PEAK.V : Fld := ⟨R.MEM_WB_PEAK, 0, 17⟩
abbrev MEM_RT_DEMAND.V : Fld := ⟨R.MEM_RT_DEMAND, 0, 16⟩
abbrev MEM_XLATE_IN.LINE : Fld := ⟨R.MEM_XLATE_IN, 0, 31⟩
abbrev MEM_XLATE_OUT.V : Fld := ⟨R.MEM_XLATE_OUT, 0, 32⟩
abbrev MEM_REF_STAT.MAXOUT1 : Fld := ⟨R.MEM_REF_STAT, 16, 4⟩
abbrev MEM_REF_STAT.MAXOUT0 : Fld := ⟨R.MEM_REF_STAT, 12, 4⟩
abbrev MEM_REF_STAT.LIMIT1 : Fld := ⟨R.MEM_REF_STAT, 8, 4⟩
abbrev MEM_REF_STAT.LIMIT0 : Fld := ⟨R.MEM_REF_STAT, 4, 4⟩
abbrev MEM_REF_STAT.CATCHUP1 : Fld := ⟨R.MEM_REF_STAT, 1, 1⟩
abbrev MEM_REF_STAT.CATCHUP0 : Fld := ⟨R.MEM_REF_STAT, 0, 1⟩
abbrev MEM_CATCHUPS.V : Fld := ⟨R.MEM_CATCHUPS, 0, 32⟩
abbrev MEM_TEMP.TEMP1 : Fld := ⟨R.MEM_TEMP, 16, 8⟩
abbrev MEM_TEMP.TEMP0 : Fld := ⟨R.MEM_TEMP, 0, 8⟩
abbrev MEM_TRN_STAT.NEXT_PC : Fld := ⟨R.MEM_TRN_STAT, 16, 6⟩
abbrev MEM_TRN_STAT.LAST_PC : Fld := ⟨R.MEM_TRN_STAT, 8, 6⟩
abbrev MEM_TRN_STAT.STEP_ACTIVE : Fld := ⟨R.MEM_TRN_STAT, 0, 1⟩
abbrev MEM_TRN_COUNT.V : Fld := ⟨R.MEM_TRN_COUNT, 0, 32⟩
abbrev MEM_TRN_FAILS.V : Fld := ⟨R.MEM_TRN_FAILS, 0, 32⟩
abbrev MEM_ECC_CE.V : Fld := ⟨R.MEM_ECC_CE, 0, 32⟩
abbrev MEM_ECC_UE.V : Fld := ⟨R.MEM_ECC_UE, 0, 32⟩
abbrev MEM_ECC_LOGPTR.V : Fld := ⟨R.MEM_ECC_LOGPTR, 0, 4⟩
abbrev MEM_PC_FAIL_LO.V : Fld := ⟨R.MEM_PC_FAIL_LO, 0, 32⟩
abbrev MEM_PC_FAIL_HI.V : Fld := ⟨R.MEM_PC_FAIL_HI, 0, 32⟩
abbrev MEM_SR_COUNT.V : Fld := ⟨R.MEM_SR_COUNT, 0, 32⟩
abbrev MEM_PORT_CTL.PANIC_EN (p : Nat) : Fld := ⟨R.MEM_PORT_CTL p, 31, 1⟩
abbrev MEM_PORT_CTL.PRIO (p : Nat) : Fld := ⟨R.MEM_PORT_CTL p, 24, 3⟩
abbrev MEM_PORT_CTL.WEIGHT (p : Nat) : Fld := ⟨R.MEM_PORT_CTL p, 16, 8⟩
abbrev MEM_PORT_CTL.PANIC_THR (p : Nat) : Fld := ⟨R.MEM_PORT_CTL p, 0, 16⟩
abbrev MEM_PORT_STAT.PANIC (p : Nat) : Fld := ⟨R.MEM_PORT_STAT p, 31, 1⟩
abbrev MEM_PORT_STAT.PANIC_SEEN (p : Nat) : Fld := ⟨R.MEM_PORT_STAT p, 30, 1⟩
abbrev MEM_PORT_MAXLAT.V (p : Nat) : Fld := ⟨R.MEM_PORT_MAXLAT p, 0, 32⟩
abbrev MEM_PORT_PANICS.V (p : Nat) : Fld := ⟨R.MEM_PORT_PANICS p, 0, 32⟩
abbrev MEM_ECC_LOG.V (e : Nat) (d : Nat) : Fld := ⟨R.MEM_ECC_LOG e d, 0, 32⟩
abbrev MEM_PT_BASE.BASE (k : Nat) : Fld := ⟨R.MEM_PT_BASE k, 11, 20⟩
abbrev MEM_PT_LEN.LEN (k : Nat) : Fld := ⟨R.MEM_PT_LEN k, 11, 20⟩
abbrev MEM_PT_CFG.VALID (k : Nat) : Fld := ⟨R.MEM_PT_CFG k, 31, 1⟩
abbrev MEM_PT_CFG.IN_USE (k : Nat) : Fld := ⟨R.MEM_PT_CFG k, 30, 1⟩
abbrev MEM_PT_CFG.ERR (k : Nat) : Fld := ⟨R.MEM_PT_CFG k, 29, 1⟩
abbrev MEM_PT_CFG.OWNER (k : Nat) : Fld := ⟨R.MEM_PT_CFG k, 8, 4⟩
abbrev MEM_PT_CFG.TYPE (k : Nat) : Fld := ⟨R.MEM_PT_CFG k, 0, 3⟩
abbrev STM_CTL.OWNER : Fld := ⟨R.STM_CTL, 16, 4⟩
abbrev STM_STAT.CALL_DEPTH : Fld := ⟨R.STM_STAT, 22, 2⟩
abbrev STM_STAT.LOOP_DEPTH : Fld := ⟨R.STM_STAT, 19, 3⟩
abbrev STM_STAT.MISSED_RELEASE : Fld := ⟨R.STM_STAT, 11, 1⟩
abbrev STM_STAT.WR_DISCARD : Fld := ⟨R.STM_STAT, 10, 1⟩
abbrev STM_STAT.SAT1 : Fld := ⟨R.STM_STAT, 9, 1⟩
abbrev STM_STAT.SAT0 : Fld := ⟨R.STM_STAT, 8, 1⟩
abbrev STM_STAT.UNDERRUN_SEEN : Fld := ⟨R.STM_STAT, 7, 1⟩
abbrev STM_STAT.UNDERRUN : Fld := ⟨R.STM_STAT, 6, 1⟩
abbrev STM_STAT.DUAL : Fld := ⟨R.STM_STAT, 5, 1⟩
abbrev STM_STAT.STATE : Fld := ⟨R.STM_STAT, 0, 3⟩
abbrev STM_SEQ_LEN.V : Fld := ⟨R.STM_SEQ_LEN, 0, 11⟩
abbrev STM_ENTRY.V : Fld := ⟨R.STM_ENTRY, 0, 10⟩
abbrev STM_SO_DLY.FINE (o : Nat) : Fld := ⟨R.STM_SO_DLY o, 16, 8⟩
abbrev STM_SO_DLY.COARSE (o : Nat) : Fld := ⟨R.STM_SO_DLY o, 0, 10⟩
abbrev STM_SO_IDLE.CODE (o : Nat) : Fld := ⟨R.STM_SO_IDLE o, 0, 14⟩
abbrev STM_SO_GAIN.GAIN (o : Nat) : Fld := ⟨R.STM_SO_GAIN o, 0, 16⟩
abbrev STM_SO_OFF.OFF (o : Nat) : Fld := ⟨R.STM_SO_OFF o, 0, 14⟩
abbrev STM_MK_CTL.INV (m : Nat) : Fld := ⟨R.STM_MK_CTL m, 31, 1⟩
abbrev STM_MK_CTL.FINE (m : Nat) : Fld := ⟨R.STM_MK_CTL m, 16, 6⟩
abbrev STM_MK_CTL.COARSE (m : Nat) : Fld := ⟨R.STM_MK_CTL m, 0, 10⟩
abbrev STM_RATE_LO.V : Fld := ⟨R.STM_RATE_LO, 0, 32⟩
abbrev STM_RATE_HI.V : Fld := ⟨R.STM_RATE_HI, 0, 16⟩
abbrev STM_SCOUNT_LO.V : Fld := ⟨R.STM_SCOUNT_LO, 0, 32⟩
abbrev STM_SCOUNT_HI.V : Fld := ⟨R.STM_SCOUNT_HI, 0, 32⟩
abbrev STM_START_TIME_0.V : Fld := ⟨R.STM_START_TIME_0, 0, 32⟩
abbrev STM_START_TIME_1.V : Fld := ⟨R.STM_START_TIME_1, 0, 32⟩
abbrev STM_START_TIME_2.V : Fld := ⟨R.STM_START_TIME_2, 0, 16⟩
abbrev STM_UNDERRUNS.V : Fld := ⟨R.STM_UNDERRUNS, 0, 32⟩
abbrev STM_HELD.V : Fld := ⟨R.STM_HELD, 0, 32⟩
abbrev STM_POISON.V : Fld := ⟨R.STM_POISON, 0, 32⟩
abbrev STM_REACT_TAKEN.V : Fld := ⟨R.STM_REACT_TAKEN, 0, 32⟩
abbrev STM_REACT_DROP.V : Fld := ⟨R.STM_REACT_DROP, 0, 32⟩
abbrev PAT_CTL.OWNER : Fld := ⟨R.PAT_CTL, 16, 4⟩
abbrev PAT_STAT.RSVD_SEEN : Fld := ⟨R.PAT_STAT, 13, 1⟩
abbrev PAT_STAT.NARROW : Fld := ⟨R.PAT_STAT, 12, 1⟩
abbrev PAT_STAT.MISSED_RELEASE : Fld := ⟨R.PAT_STAT, 11, 1⟩
abbrev PAT_STAT.WR_DISCARD : Fld := ⟨R.PAT_STAT, 10, 1⟩
abbrev PAT_STAT.UNDERRUN_SEEN : Fld := ⟨R.PAT_STAT, 7, 1⟩
abbrev PAT_STAT.UNDERRUN : Fld := ⟨R.PAT_STAT, 6, 1⟩
abbrev PAT_STAT.TS : Fld := ⟨R.PAT_STAT, 0, 4⟩
abbrev PAT_STAT2.STATE : Fld := ⟨R.PAT_STAT2, 0, 3⟩
abbrev PAT_IDLE_LO.V : Fld := ⟨R.PAT_IDLE_LO, 0, 32⟩
abbrev PAT_IDLE_HI.V : Fld := ⟨R.PAT_IDLE_HI, 0, 32⟩
abbrev PAT_DLY.FINE : Fld := ⟨R.PAT_DLY, 16, 6⟩
abbrev PAT_DLY.COARSE : Fld := ⟨R.PAT_DLY, 0, 10⟩
abbrev PAT_TSVALID.V : Fld := ⟨R.PAT_TSVALID, 0, 16⟩
abbrev PAT_VCOUNT_LO.V : Fld := ⟨R.PAT_VCOUNT_LO, 0, 32⟩
abbrev PAT_VCOUNT_HI.V : Fld := ⟨R.PAT_VCOUNT_HI, 0, 32⟩
abbrev PAT_START_TIME_0.V : Fld := ⟨R.PAT_START_TIME_0, 0, 32⟩
abbrev PAT_START_TIME_1.V : Fld := ⟨R.PAT_START_TIME_1, 0, 32⟩
abbrev PAT_START_TIME_2.V : Fld := ⟨R.PAT_START_TIME_2, 0, 16⟩
abbrev PAT_TSREFUSED.V : Fld := ⟨R.PAT_TSREFUSED, 0, 32⟩
abbrev PAT_UNDERRUNS.V : Fld := ⟨R.PAT_UNDERRUNS, 0, 32⟩
abbrev PAT_HELD.V : Fld := ⟨R.PAT_HELD, 0, 32⟩
abbrev PAT_POISON.V : Fld := ⟨R.PAT_POISON, 0, 32⟩
abbrev PAT_NARROW.V : Fld := ⟨R.PAT_NARROW, 0, 32⟩
abbrev PEER_CTL.RX_EN : Fld := ⟨R.PEER_CTL, 1, 1⟩
abbrev PEER_CTL.EN : Fld := ⟨R.PEER_CTL, 0, 1⟩
abbrev PEER_STAT.PARTNERS : Fld := ⟨R.PEER_STAT, 16, 7⟩
abbrev PEER_STAT.SEAT : Fld := ⟨R.PEER_STAT, 8, 6⟩
abbrev PEER_STAT.SILENT : Fld := ⟨R.PEER_STAT, 6, 1⟩
abbrev PEER_STAT.REJECT_SEEN : Fld := ⟨R.PEER_STAT, 5, 1⟩
abbrev PEER_STAT.DUP_ID : Fld := ⟨R.PEER_STAT, 4, 1⟩
abbrev PEER_STAT.STATE : Fld := ⟨R.PEER_STAT, 0, 2⟩
abbrev PEER_ID_LO.V : Fld := ⟨R.PEER_ID_LO, 0, 32⟩
abbrev PEER_ID_HI.V : Fld := ⟨R.PEER_ID_HI, 0, 32⟩
abbrev PEER_BCAST_CTL.ALL : Fld := ⟨R.PEER_BCAST_CTL, 8, 4⟩
abbrev PEER_BCAST_CTL.EN : Fld := ⟨R.PEER_BCAST_CTL, 0, 4⟩
abbrev PEER_BTX_LOST.V : Fld := ⟨R.PEER_BTX_LOST, 0, 32⟩
abbrev PEER_REJECT.V : Fld := ⟨R.PEER_REJECT, 0, 32⟩
abbrev PEER_SEATCHG.V : Fld := ⟨R.PEER_SEATCHG, 0, 32⟩
abbrev PEER_BRX_WPTR.V : Fld := ⟨R.PEER_BRX_WPTR, 0, 32⟩
abbrev PEER_BRX_RPTR.V : Fld := ⟨R.PEER_BRX_RPTR, 0, 32⟩
abbrev PEER_BRX_LOST.V : Fld := ⟨R.PEER_BRX_LOST, 0, 32⟩
abbrev PEER_CTO_CTL.ODELAY (m : Nat) : Fld := ⟨R.PEER_CTO_CTL m, 16, 16⟩
abbrev PEER_CTO_CTL.WIDTH (m : Nat) : Fld := ⟨R.PEER_CTO_CTL m, 8, 8⟩
abbrev PEER_CTO_CTL.INV (m : Nat) : Fld := ⟨R.PEER_CTO_CTL m, 7, 1⟩
abbrev PEER_CTO_CTL.LEVEL (m : Nat) : Fld := ⟨R.PEER_CTO_CTL m, 6, 1⟩
abbrev PEER_CTO_CTL.PULSE (m : Nat) : Fld := ⟨R.PEER_CTO_CTL m, 5, 1⟩
abbrev PEER_CTO_CTL.SRC (m : Nat) : Fld := ⟨R.PEER_CTO_CTL m, 0, 5⟩
abbrev PEER_STAR_CTL.ODELAY : Fld := ⟨R.PEER_STAR_CTL, 16, 16⟩
abbrev PEER_STAR_CTL.WIDTH : Fld := ⟨R.PEER_STAR_CTL, 8, 8⟩
abbrev PEER_STAR_CTL.INV : Fld := ⟨R.PEER_STAR_CTL, 7, 1⟩
abbrev PEER_STAR_CTL.LEVEL : Fld := ⟨R.PEER_STAR_CTL, 6, 1⟩
abbrev PEER_STAR_CTL.PULSE : Fld := ⟨R.PEER_STAR_CTL, 5, 1⟩
abbrev PEER_STAR_CTL.SRC : Fld := ⟨R.PEER_STAR_CTL, 0, 5⟩
abbrev PEER_OUT_STAT.MERGED : Fld := ⟨R.PEER_OUT_STAT, 0, 9⟩
abbrev PEER_STAMP_0.V (s : Nat) : Fld := ⟨R.PEER_STAMP_0 s, 0, 32⟩
abbrev PEER_STAMP_1.V (s : Nat) : Fld := ⟨R.PEER_STAMP_1 s, 0, 32⟩
abbrev PEER_STAMP_2.V (s : Nat) : Fld := ⟨R.PEER_STAMP_2 s, 0, 16⟩
abbrev PEER_P2P_BASE_LO.BASE (w : Nat) : Fld := ⟨R.PEER_P2P_BASE_LO w, 12, 20⟩
abbrev PEER_P2P_BASE_LO.EN (w : Nat) : Fld := ⟨R.PEER_P2P_BASE_LO w, 0, 1⟩
abbrev PEER_P2P_BASE_HI.V (w : Nat) : Fld := ⟨R.PEER_P2P_BASE_HI w, 0, 32⟩
abbrev PEER_P2P_LIMIT_LO.LIMIT (w : Nat) : Fld := ⟨R.PEER_P2P_LIMIT_LO w, 12, 20⟩
abbrev PEER_P2P_LIMIT_HI.V (w : Nat) : Fld := ⟨R.PEER_P2P_LIMIT_HI w, 0, 32⟩
abbrev PAIR_CTL.TRACK : Fld := ⟨R.PAIR_CTL, 16, 1⟩
abbrev PAIR_CTL.ERR_THR : Fld := ⟨R.PAIR_CTL, 8, 8⟩
abbrev PAIR_CTL.EN : Fld := ⟨R.PAIR_CTL, 0, 1⟩
abbrev PAIR_STAT.FAILED : Fld := ⟨R.PAIR_STAT, 20, 4⟩
abbrev PAIR_STAT.PHASE_OK : Fld := ⟨R.PAIR_STAT, 17, 1⟩
abbrev PAIR_STAT.UNALIGNED : Fld := ⟨R.PAIR_STAT, 16, 1⟩
abbrev PAIR_STAT.LOST_SEEN : Fld := ⟨R.PAIR_STAT, 12, 1⟩
abbrev PAIR_STAT.FORM : Fld := ⟨R.PAIR_STAT, 10, 1⟩
abbrev PAIR_STAT.ROLE : Fld := ⟨R.PAIR_STAT, 8, 2⟩
abbrev PAIR_STAT.SPARE_USED : Fld := ⟨R.PAIR_STAT, 3, 1⟩
abbrev PAIR_STAT.TRAINING : Fld := ⟨R.PAIR_STAT, 2, 1⟩
abbrev PAIR_STAT.PRESENT : Fld := ⟨R.PAIR_STAT, 1, 1⟩
abbrev PAIR_STAT.LINK_UP : Fld := ⟨R.PAIR_STAT, 0, 1⟩
abbrev PAIR_LAT.DP : Fld := ⟨R.PAIR_LAT, 8, 8⟩
abbrev PAIR_LAT.DL : Fld := ⟨R.PAIR_LAT, 0, 8⟩
abbrev PAIR_LOSSES.V : Fld := ⟨R.PAIR_LOSSES, 0, 32⟩
abbrev PAIR_LANE_ERR.V (k : Nat) : Fld := ⟨R.PAIR_LANE_ERR k, 0, 32⟩
abbrev PAIR_TRAIN_FAILS.V : Fld := ⟨R.PAIR_TRAIN_FAILS, 0, 32⟩
abbrev PAIR_PARTNER_ID_LO.V : Fld := ⟨R.PAIR_PARTNER_ID_LO, 0, 32⟩
abbrev PAIR_PARTNER_ID_HI.V : Fld := ⟨R.PAIR_PARTNER_ID_HI, 0, 32⟩
abbrev PAIR_TWIN_PHASE.V : Fld := ⟨R.PAIR_TWIN_PHASE, 0, 32⟩
abbrev PAIR_TWIN_GAIN.V : Fld := ⟨R.PAIR_TWIN_GAIN, 0, 18⟩
abbrev PAIR_TWIN_OFF.V : Fld := ⟨R.PAIR_TWIN_OFF, 0, 16⟩
abbrev PAIR_STARVED.V : Fld := ⟨R.PAIR_STARVED, 0, 32⟩
abbrev PAIR_SKEW.V (n : Nat) : Fld := ⟨R.PAIR_SKEW n, 0, 32⟩
abbrev HLTH_CTL.WARN : Fld := ⟨R.HLTH_CTL, 8, 8⟩
abbrev HLTH_CTL.CRIT_STOP : Fld := ⟨R.HLTH_CTL, 0, 1⟩
abbrev HLTH_STAT.FENCED : Fld := ⟨R.HLTH_STAT, 24, 8⟩
abbrev HLTH_STAT.RAIL : Fld := ⟨R.HLTH_STAT, 10, 11⟩
abbrev HLTH_STAT.GAUGE_FAIL : Fld := ⟨R.HLTH_STAT, 6, 4⟩
abbrev HLTH_STAT.OUTSIDE : Fld := ⟨R.HLTH_STAT, 5, 1⟩
abbrev HLTH_STAT.SUPPLY_SEEN : Fld := ⟨R.HLTH_STAT, 4, 1⟩
abbrev HLTH_STAT.CRIT_SEEN : Fld := ⟨R.HLTH_STAT, 3, 1⟩
abbrev HLTH_STAT.WARN_SEEN : Fld := ⟨R.HLTH_STAT, 2, 1⟩
abbrev HLTH_STAT.ALERT : Fld := ⟨R.HLTH_STAT, 0, 1⟩
abbrev HLTH_TEMP.MAX (s : Nat) : Fld := ⟨R.HLTH_TEMP s, 8, 8⟩
abbrev HLTH_TEMP.TEMP (s : Nat) : Fld := ⟨R.HLTH_TEMP s, 0, 8⟩
abbrev HLTH_RAIL.V (r : Nat) : Fld := ⟨R.HLTH_RAIL r, 0, 16⟩
abbrev HLTH_CNT.V (c : Nat) : Fld := ⟨R.HLTH_CNT c, 0, 32⟩
abbrev HLTH_THR.V (c : Nat) : Fld := ⟨R.HLTH_THR c, 0, 32⟩
abbrev HLTH_AGE_LO.V : Fld := ⟨R.HLTH_AGE_LO, 0, 32⟩
abbrev HLTH_AGE_HI.V : Fld := ⟨R.HLTH_AGE_HI, 0, 32⟩
abbrev HLTH_UPTIME.V : Fld := ⟨R.HLTH_UPTIME, 0, 32⟩
abbrev HLTH_FLOGPTR.V : Fld := ⟨R.HLTH_FLOGPTR, 0, 4⟩
abbrev HLTH_FLOG.V (e : Nat) (d : Nat) : Fld := ⟨R.HLTH_FLOG e d, 0, 32⟩
abbrev RAMP_TBL_0.START_FRAC (k : Nat) : Fld := ⟨R.RAMP_TBL_0 k, 0, 32⟩
abbrev RAMP_TBL_1.NEXT (k : Nat) : Fld := ⟨R.RAMP_TBL_1 k, 16, 6⟩
abbrev RAMP_TBL_1.LAST (k : Nat) : Fld := ⟨R.RAMP_TBL_1 k, 9, 1⟩
abbrev RAMP_TBL_1.CONTINUE (k : Nat) : Fld := ⟨R.RAMP_TBL_1 k, 8, 1⟩
abbrev RAMP_TBL_1.START_INT (k : Nat) : Fld := ⟨R.RAMP_TBL_1 k, 0, 8⟩
abbrev RAMP_TBL_2.SLOPE (k : Nat) : Fld := ⟨R.RAMP_TBL_2 k, 0, 32⟩
abbrev RAMP_TBL_3.DURATION (k : Nat) : Fld := ⟨R.RAMP_TBL_3 k, 0, 24⟩
abbrev GSTAT_0.SEQ (p : Nat) : Fld := ⟨R.GSTAT_0 p, 24, 8⟩
abbrev GSTAT_0.ABANDONED (p : Nat) : Fld := ⟨R.GSTAT_0 p, 17, 1⟩
abbrev GSTAT_0.SRC (p : Nat) : Fld := ⟨R.GSTAT_0 p, 16, 1⟩
abbrev GSTAT_0.MEAN_D (p : Nat) : Fld := ⟨R.GSTAT_0 p, 0, 16⟩
abbrev GSTAT_1.EXCEED (p : Nat) : Fld := ⟨R.GSTAT_1 p, 16, 16⟩
abbrev GSTAT_1.RMS_D (p : Nat) : Fld := ⟨R.GSTAT_1 p, 0, 16⟩
abbrev GSTAT_2.FAILS (p : Nat) : Fld := ⟨R.GSTAT_2 p, 16, 16⟩
abbrev GSTAT_2.MAXABS_D (p : Nat) : Fld := ⟨R.GSTAT_2 p, 0, 16⟩
abbrev GSTAT_3.BLOCKS (p : Nat) : Fld := ⟨R.GSTAT_3 p, 0, 32⟩
abbrev CORR_0.GAIN (m : Nat) (p : Nat) : Fld := ⟨R.CORR_0 m p, 0, 18⟩
abbrev CORR_1.OFFSET (m : Nat) (p : Nat) : Fld := ⟨R.CORR_1 m p, 0, 16⟩
abbrev CORR_2.BW (m : Nat) (p : Nat) : Fld := ⟨R.CORR_2 m p, 16, 16⟩
abbrev CORR_2.SKEW (m : Nat) (p : Nat) : Fld := ⟨R.CORR_2 m p, 0, 16⟩
abbrev CORR_3.RAMPING (m : Nat) (p : Nat) : Fld := ⟨R.CORR_3 m p, 31, 1⟩
abbrev CORR_3.SRC (m : Nat) (p : Nat) : Fld := ⟨R.CORR_3 m p, 24, 4⟩
abbrev CORR_3.EST_COUNT (m : Nat) (p : Nat) : Fld := ⟨R.CORR_3 m p, 0, 16⟩
abbrev EQ_COEFF.C (s : Nat) (t : Nat) : Fld := ⟨R.EQ_COEFF s t, 0, 18⟩
abbrev SYM_PAT.V (w : Nat) : Fld := ⟨R.SYM_PAT w, 0, 32⟩
abbrev PARTNER.V (e : Nat) (d : Nat) : Fld := ⟨R.PARTNER e d, 0, 32⟩
abbrev BRX.V (q : Nat) (d : Nat) : Fld := ⟨R.BRX q d, 0, 32⟩
abbrev STM_SEQ.V (e : Nat) (d : Nat) : Fld := ⟨R.STM_SEQ e d, 0, 32⟩
abbrev PAT_TS.V (t : Nat) (d : Nat) : Fld := ⟨R.PAT_TS t d, 0, 32⟩
end F

end Sys2Proof.Machine
end

