-- ==== Sys2Proof/Machine/SMap.lean ====
section
/-!
DEFINITION. A sparse map from numbers to values in one canonical form: keys strictly rising and no entry equal to
what an unlisted key reads as. The register file, capture memory, host memory and the table memories are such maps.
The default of an unlisted key is an argument of every operation, so that the map itself is plain data.
-/
namespace Sys2Proof.Machine

/-- A sparse map: (key, value) pairs. -/
abbrev SMap (α : Type) := List (Nat × α)

/-- The value at key `k`, `d k` where the key is not listed. -/
def SMap.get {α : Type} (d : Nat → α) : SMap α → Nat → α
  | [], k => d k
  | (j, v) :: r, k => if j = k then v else SMap.get d r k

/-- The map without any entry for `k`. -/
def SMap.erase {α : Type} : SMap α → Nat → SMap α
  | [], _ => []
  | (j, v) :: r, k => if j = k then SMap.erase r k else (j, v) :: SMap.erase r k

/-- The map with an entry put before the first larger key. -/
def SMap.insert {α : Type} : SMap α → Nat → α → SMap α
  | [], k, v => [(k, v)]
  | (j, u) :: r, k, v => if k < j then (k, v) :: (j, u) :: r else (j, u) :: SMap.insert r k v

/-- The map with `v` at `k`; writing what an unlisted key reads as removes the entry. -/
def SMap.set {α : Type} [DecidableEq α] (d : Nat → α) (m : SMap α) (k : Nat) (v : α) : SMap α :=
  if v = d k then SMap.erase m k else SMap.insert (SMap.erase m k) k v

/-- Every key of the map is above `k`. -/
def SMap.above {α : Type} (k : Nat) (m : SMap α) : Bool := m.all (fun e => decide (k < e.1))

/-- The canonical form: keys strictly rising, no entry equal to its default. -/
def SMap.wf {α : Type} [DecidableEq α] (d : Nat → α) : SMap α → Bool
  | [] => true
  | (k, v) :: r => SMap.above k r && decide (v ≠ d k) && SMap.wf d r

/-- A run of values written from key `k` on. -/
def SMap.setList {α : Type} [DecidableEq α] (d : Nat → α) (m : SMap α) (k : Nat) : List α → SMap α
  | [] => m
  | v :: l => SMap.setList d (SMap.set d m k v) (k + 1) l

/-- `n` values from key `k` on. -/
def SMap.getList {α : Type} (d : Nat → α) (m : SMap α) (k : Nat) : Nat → List α
  | 0 => []
  | n + 1 => SMap.get d m k :: SMap.getList d m (k + 1) n

end Sys2Proof.Machine
end

