-- ==== Sys2Proof/Machine/State.lean ====
section
/-!
DEFINITION. The state of the AX96 as plain data: the register file of BAR0 (every register and table memory of the
Register Index, in one home), the doorbell registers of BAR2, capture memory, the time base, the rings, and what each
block holds besides its registers. One structure per block; State.reset is the machine after RST_N has risen.
-/
namespace Sys2Proof.Machine

/-- Whether the module runs: RST_N held low (R520), running, or stopped by a thermal shutdown (R552). -/
inductive Phase where
  | held
  | running
  | stopped
deriving DecidableEq, Repr

/-- A run of core cycles through which index, frames and tide time have advanced evenly while SAMPLE ran (R105, R106,
R123): first index, core cycle, frame count and tide time (2^-64 s) of its first core cycle, the increment and the
samples of each, and how many. -/
structure Stretch where
  idx : Int
  cycle : Nat
  frames : Nat
  tide : Nat
  inc : Int
  per : Nat
  n : Nat
deriving DecidableEq, Repr

/-- A SYNC that waits for its sync point (R116): whether software asked for it, whether it was received while X6S had
slipped (R21), and elapsed time at the edge that sampled it. -/
structure SyncWait where
  soft : Bool
  slipped : Bool := false
  start : Nat := 0
deriving DecidableEq, Repr

/-- The grid of expected PPS instants that a time load has replaced (R119): the load's core cycle, tide time before it
in 2^-40 s, the expected instant and whether a first step had been made. -/
structure OldGrid where
  cycle : Nat
  now : Nat
  expected : Nat
  stepped : Bool
deriving DecidableEq, Repr

/-- What an accepted PPS edge has changed, so that a time load in its core cycle can discard it (R119): that cycle, the
servo before it, TIME_STAT, TIME_RATE_ADJ and the step registers. -/
structure EdgeUndo where
  cycle : Nat
  servoF : Int
  goodEdges : Nat
  due : List (Nat × TimeMsg)
  stat : Word
  regs : List (Nat × Word)
deriving DecidableEq, Repr

/-- The time base (ch. 04): what TIME registers do not hold themselves. -/
structure TimeSt where
  /-- Tide time of the current core cycle, in 2^-64 s (R100: 80 bits and 24 guard bits). -/
  tide : Nat := 0
  /-- Sample index of the first strobe of the current core cycle while SAMPLE runs (R104). -/
  idx : Nat := 0
  /-- The last index strobed before SAMPLE stopped (R105, R586). -/
  lastIdx : Nat := 0
  /-- Whether any strobe has happened since reset (R105). -/
  strobed : Bool := false
  /-- Core cycles counted since reset: the model's own label of "the same core cycle". -/
  cycle : Nat := 0
  /-- Time elapsed by the increments alone, without steps or loads, in 2^-64 s (R142). -/
  elapsed : Nat := 0
  /-- Frequency term f of the PPS servo (R114), 2^-40 s per second. -/
  servoF : Int := 0
  /-- Consecutive accepted edges with |e| at most 1,100 (R114). -/
  goodEdges : Nat := 0
  /-- Whether a first step has been made since PPS_EN was set (R111, R113). -/
  stepped : Bool := false
  /-- The next expected PPS instant, as tide time in 2^-40 s (R113). -/
  expected : Nat := 0
  /-- Consecutive rejected edges, and the tide time of the last of them in 2^-40 s (R113). -/
  rejects : Nat := 0
  lastReject : Nat := 0
  /-- Interleave frames that have occurred before the present core cycle (R123). -/
  frames : Nat := 0
  /-- Tide time of the core cycle before the present one, in 2^-64 s (R142). -/
  before : Nat := 0
  /-- The core cycles that are over, newest stretch first (R105, R106). -/
  past : List Stretch := []
  /-- The grid that the last time load replaced, and what the last accepted edge changed (R119). -/
  oldGrid : Option OldGrid := none
  undo : Option EdgeUndo := none
  /-- SYNCs sampled and waiting for their sync points (R116). -/
  syncs : List SyncWait := []
  /-- Changes of the servo rate and steps that take effect in a core cycle to come (R457), by its number. -/
  due : List (Nat × TimeMsg) := []
  /-- X6S has slipped and is not yet re-centred (R21). -/
  x6sSlipped : Bool := false
deriving DecidableEq, Repr

/-- One descriptor that has been fetched and has not completed (R389). -/
structure Desc where
  ring : Nat
  /-- Fetch order, which also names the descriptor. -/
  seq : Nat
  /-- Dwords 0 to 15. -/
  dw : List Word
  /-- It has reached its block and that block's checks have begun (R389). -/
  started : Bool
  /-- Status with which it completes without starting (R388, R410). -/
  refused : Option Nat
deriving DecidableEq, Repr

/-- A posted write into host memory: the function on whose behalf, the address, the dwords (R394). -/
structure HostWrite where
  func : Nat
  addr : Nat
  data : List Word
  /-- Bytes after the last whole dword (R537). -/
  tail : List Byte := []
  /-- It carries Relaxed Ordering (Table 15.1). -/
  relaxed : Bool := false
deriving DecidableEq, Repr

/-- A completion that waits for Bus Master Enable (R379). -/
structure Waiting where
  ring : Nat
  ext : Bool
  irq : Bool
  /-- Dwords 0 to 15, dword 0 without its phase bit. -/
  dw : List Word
  /-- Fetch number of its descriptor, which completes only with the write (R389). -/
  seq : Nat
deriving DecidableEq, Repr

/-- What a harvest descriptor copies (R399, R400, R467). -/
inductive HarvKind where
  | range | stream | pair
deriving DecidableEq, Repr

/-- A harvest that has started and not completed (R405). -/
structure Harvest where
  /-- Fetch number and ring of its descriptor. -/
  seq : Nat
  ring : Nat
  /-- What it copies. -/
  kind : HarvKind
  /-- HARV_STREAM: context, and target (0 to 3 a stream, 16 the log). -/
  ctx : Nat
  target : Nat
  /-- The arm of the context whose lines it reads. -/
  arm : Nat
  /-- First line or entry claimed and how many (R401); for HARV_RANGE the region lines of Table 15.8. -/
  first : Nat
  count : Nat
  /-- It waits for lines past the cursor (R401, PARTIAL=0). -/
  waits : Bool
  /-- Completes TRUNCATED because the acquisition ended first (R401). -/
  truncated : Bool
  /-- Host address of its first unit (R399, R400). -/
  haddr : Nat
  /-- The lines it reads from: first line and number of lines of its region, its stream's ring, or its log (R399, R401). -/
  base : Nat
  len : Nat
deriving DecidableEq, Repr

/-- What a host read returned: its dwords, whether the completion carried EP (R374), and whether it ended in Completer
Abort (R372). -/
structure ReadAnswer where
  data : List Word
  ep : Bool
  abort : Bool
deriving DecidableEq, Repr

/-- The host interface (ch. 15): what HIF registers do not hold themselves. -/
structure HifSt where
  /-- The doorbell registers of BAR2, per ring (Table 23.14). -/
  sqTail : SMap Nat := []
  cqHead : SMap Nat := []
  /-- CQ slots written and not yet returned by the host, per ring (R387, R391, R397). -/
  cqUsed : SMap Nat := []
  /-- Descriptors fetched and not yet completed, in fetch order. -/
  descs : List Desc := []
  /-- The next fetch number. -/
  nextSeq : Nat := 0
  /-- Harvests that have started and not completed. -/
  harvests : List Harvest := []
  /-- ACQ_RELEASE descriptors that wait: fetch number, context, and the harvests started before it (R402). -/
  releases : List (Nat × Nat × List Nat) := []
  /-- Completions that wait for Bus Master Enable (R379), oldest first. -/
  waiting : List Waiting := []
  /-- Completions or records of a ring that no message has covered yet (R398). -/
  uncovered : SMap Nat := []
  /-- Elapsed time at the earliest of them, per ring (R398). -/
  coverAt : SMap Nat := []
  /-- CQ slots for which a ring's fetching waits (R391). -/
  stalls : SMap Nat := []
  /-- Rings whose running abort counts for E034 (R408). -/
  abortedRings : List Nat := []
  /-- MSI-X messages sent, newest first: (function, vector). -/
  msix : List (Nat × Nat) := []
  /-- Posted writes into host memory, newest first. -/
  writes : List HostWrite := []
  /-- PCI Express: the link is up; functions with Bus Master Enable; number of enabled VFs; VFs in reset. -/
  linkUp : Bool := false
  busMaster : List Nat := []
  numVfs : Nat := 0
  inFlr : List Nat := []
  /-- Snapshots of wide values per function (R107, R108), keyed by function * 2^24 + offset of the dword. -/
  snaps : SMap Word := []
  /-- Staged dwords of wide register writes per function (R109), same keys. -/
  staged : SMap (Option Word) := []
  /-- Reads of the last dwords written into peer windows, newest first: function, address (R441). -/
  flushes : List (Nat × Nat) := []
  /-- Answers to host reads, newest first. -/
  reads : List ReadAnswer := []
  /-- BAR4 reads that wait for the stacks (R372), oldest first: byte address in capture memory, dwords. -/
  bar4 : List (Nat × Nat) := []
deriving DecidableEq, Repr

/-- One event record that waits in the event unit (R418). -/
structure EvRec where
  event : Nat
  qual : Word
  /-- Tide time in 2^-40 s, low 64 bits (R395). -/
  tide : Nat
  /-- Receiving function (R415). -/
  func : Nat
  /-- A ring on which this record is not reported (R397), if any. -/
  excl : Option Nat
  /-- The core cycle in which its event arose. -/
  cycle : Nat
deriving DecidableEq, Repr

/-- The event unit (ch. 16). -/
structure EvtSt where
  queue : List EvRec := []
  /-- Records discarded since the last E001 (R418). -/
  discarded : Nat := 0
  /-- Tide time of the last record written (R417). -/
  lastTide : Nat := 0
  /-- Records lost on a ring since the record written before (R397). -/
  lost : SMap Nat := []
deriving DecidableEq, Repr

/-- Health (ch. 22): what HLTH registers do not hold themselves. -/
structure HlthSt where
  /-- Counters whose threshold event has been raised since the threshold was written (R554). -/
  thrFired : List Nat := []
  /-- E273 has been raised and not every sensor has read below 100 since (R551). -/
  critSeen : Bool := false
  /-- E274 has been raised: the shutdown is due (R423, R552). -/
  shutdownDue : Bool := false
  /-- Elapsed time at E274. -/
  shutAt : Nat := 0
  /-- The highest junction reading of the present second of uptime, and elapsed time at its start (R555). -/
  hottest : Option Int := none
  secondAt : Nat := 0
  /-- The last SMBus transaction was acknowledged, and its answer (R572). -/
  smbusAck : Bool := false
  smbusData : Byte := 0
deriving DecidableEq, Repr

/-- Why a sample is degraded: a switch-over (R84), an offset write to its input (R36), the reference buffer of its bank
(R49), the slip of its bank's crossing (Table 1.6), a suspect slice (R147), or a twin's strobe offset off its target
(R464). -/
inductive DegCause where
  | switchOver
  | offset (n : Nat)
  | buffer (k : Nat)
  | crossing (b : Nat)
  | slice (p : Nat)
  | phase
deriving DecidableEq, Repr

/-- The frames whose samples a cause degrades, as counts of frames: from the first on, and up to the last, exclusive, once
the cause has ended. -/
structure DegSpan where
  cause : DegCause
  start : Nat
  stop : Option Nat
deriving DecidableEq, Repr

/-- The waveform of the CAL_STEP injectors (R54): INP_CALSTEP_CTL as the running periods take it, the core cycle in which
one of them began, and a write that waits for the start of the next period: that core cycle and the value. -/
structure StepWave where
  ctl : Word
  origin : Nat
  next : Option (Nat × Word)
deriving DecidableEq, Repr

/-- The analogue inputs (ch. 02): what INP registers do not hold themselves. -/
structure InpSt where
  /-- The mode routed at the samplers and banks (Table 2.5, R105); ACTIVE_MODE follows at the end of a change. -/
  route : Nat := 0
  /-- The routing switch of the running mode change has been made. -/
  routed : Bool := false
  /-- Reference buffers whose settle timer runs (R48): bit mask. -/
  settling : Nat := 0
  /-- What degrades samples, newest first (R36, R49, R84, R147, Table 1.6). -/
  spans : List DegSpan := []
  /-- The waveform that connected injectors produce (R54). -/
  wave : Option StepWave := none
  /-- Inputs whose running monitor window is not a full window free of the conditions of R57: bit mask. -/
  monDirty : Nat := 15
  /-- Bank crossings X1.b that have slipped and are not re-centred (Table 1.6): bit mask. -/
  x1Slipped : Nat := 0
  /-- X2, X8R: slipped and not re-centred. -/
  x2Slipped : Bool := false
  x8rSlipped : Bool := false
deriving DecidableEq, Repr

/-- A change of a bank's slice map that is decided and not yet in force (R127, R146, R152). -/
structure Change where
  pos : Nat
  /-- The local code that takes the position; 0xF: the position becomes interpolated. -/
  code : Nat
  /-- The physical slice whose fault decided it; none where the spare fills an interpolated position. -/
  faulted : Option Nat
  /-- The frame at whose end it was decided, and the first at which it may open, as counts of frames. -/
  f0 : Nat
  earliest : Nat
  /-- CNV_CMD_STAT.PENDING clears with it. -/
  command : Bool
deriving DecidableEq, Repr

/-- The settings a check block runs with, taken at its start (R141, Table 6.6, Table 6.8), and the frame in which it
begins. -/
structure Block where
  chk : Word := 0x00010808
  thr : Word := 0x01000400
  est : Word := 0x00002314
  off : Word := 0
  gain : Word := 0x20000
  start : Nat := 0
deriving DecidableEq, Repr

/-- A slice-map epoch of a bank (R126): its first frame as a count of frames, its number, and the map. -/
structure EpochMap where
  start : Nat
  epoch : Nat
  map : List Nat
deriving DecidableEq, Repr

/-- One bank of the converter array (ch. 05): what its CNV registers do not hold. -/
structure Bank where
  /-- Target position of the spare (R130). -/
  target : Nat := 0
  /-- DWELL of the running dwell as it acts (Table 5.7); its frames counted up to the last pause, and the frame from which
  it counts on, while it counts (R131, R133). -/
  dwell : Nat := 22
  dwelt : Nat := 0
  dwellFrom : Option Nat := none
  /-- The frame at which the rotation handover has fallen due (R131). -/
  rotDue : Option Nat := none
  /-- The frame of the spare's last change of phase (R132), and the frames in which the shadow estimator runs on the
  spare, newest span first (R170): its first, and where it has ended the one after its last. -/
  phaseAt : Nat := 0
  calSpans : List (Nat × Option Nat) := []
  /-- Changes of the map that are decided and not yet in force, oldest first (R127). -/
  changes : List Change := []
  /-- Frame in which the present epoch opened, as a count of frames. -/
  epochAt : Option Nat := none
  /-- The epochs of the bank, newest first (R126, R128). -/
  maps : List EpochMap := [⟨0, 0, [0, 1, 2, 3, 4, 5, 6, 7, 8, 9, 10, 11]⟩]
  /-- Local slices that are suspect, and those of them whose fault is declared (R139): bit masks. -/
  suspect : Nat := 0
  declared : Nat := 0
  /-- Fall-back check (R143): whether a visit runs, the position visited, its block, positions that failed (R144). -/
  fbOn : Bool := false
  fbPos : Nat := 0
  fbBlock : Block := {}
  fbFailed : Nat := 0
deriving DecidableEq, Repr

/-- One gauge (ch. 05). -/
structure Gauge where
  block : Block := {}
  /-- The physical slice being visited; none: no visit runs. -/
  slice : Option Nat := none
  /-- The block in progress confirms a failing one (R139). -/
  confirming : Bool := false
  /-- Slots to visit before the sweep resumes (R144). -/
  extra : List Nat := []
  /-- The running visit is one of those; the slot at which the sweep then resumes (R144). -/
  inExtra : Bool := false
  resume : Nat := 0
  /-- Elapsed time at the start of the last window, the core cycle after it, and a window that waits for another's end
  (R142). -/
  winStart : Option Nat := none
  winEnd : Nat := 0
  winDue : Bool := false
  /-- Consecutive failing fits (R547). -/
  badFits : Nat := 0
deriving DecidableEq, Repr

/-- The converter array. -/
structure CnvSt where
  banks : SMap Bank := []
  gauges : SMap Gauge := []
deriving DecidableEq, Repr

/-- A new target of one field of a mode's set of a slice (R163): 0 GAIN, 1 OFFSET, 2 SKEW, 3 BW. The applied value goes
from `base` to `target`, or takes it at once where the two are equal; `old` is the value applied before. -/
structure Ramp where
  mode : Nat
  slice : Nat
  field : Nat
  old : Int
  base : Int
  target : Int
  /-- Frame in which the target arrived, as a count of frames. -/
  start : Nat
  /-- The ramp still runs. -/
  running : Bool
deriving DecidableEq, Repr

/-- What an estimate of the present core cycle has changed, so that a host write of the same slice and frame can discard it
(R164): slice and frame, the registers, the targets of the slice, and CAL_LAST_TIME of the bank before the frame. -/
structure EstUndo where
  slice : Nat
  frame : Nat
  regs : List (Nat × Word)
  ramps : List Ramp
  time : Nat
deriving DecidableEq, Repr

/-- A foreground calibration in progress (R177). -/
structure FgRun where
  seq : Nat
  ring : Nat
  inputs : Nat
  search : Bool
  /-- TRIM fields changed so far. -/
  changed : Nat
deriving DecidableEq, Repr

/-- Calibration (ch. 06): what CAL registers and the correction sets do not hold. -/
structure CalSt where
  /-- The targets that have arrived, newest first (R163). -/
  ramps : List Ramp := []
  /-- Slices of the active mode written by the host, with the frame, and estimates applied, in the present core cycle
  (R164). -/
  written : List (Nat × Nat) := []
  ests : List EstUndo := []
  fg : List FgRun := []
  /-- Gauge estimates per slice and neighbour intervals per input since convergence started (R173). -/
  gaugeEsts : SMap Nat := []
  nbEnds : SMap Nat := []
  /-- CAL_EST_CTL as the running interval of each input and bank took it (Table 6.8). -/
  nbCtl : SMap Word := []
  shCtl : SMap Word := []
  /-- First frame of that interval (R168). -/
  nbStart : SMap Nat := []
  shStart : SMap Nat := []
  /-- Consecutive starved intervals per input, and whether E114 has been raised in the run (R169). -/
  starved : SMap Nat := []
  /-- Logical positions whose slice has changed during the running interval of their input (R168). -/
  moved : List Nat := []
deriving DecidableEq, Repr

/-- One synthesiser loop (ch. 03): what its CLK registers do not hold. -/
structure LoopSt where
  /-- R61: the integrator and the pole's output, Q24.24 in DCO fine LSBs; the DCO control in force, which follows the
  output within the slew limit of R74. -/
  acc : Int := 0
  y : Int := 0
  ctl : Int := 0
  /-- The sigma-delta modulator (R63): its last two errors, in 1/256 of a fine LSB, and the fine code with its output. -/
  e1 : Int := 0
  e2 : Int := 0
  code : Nat := 0x8000
  /-- Consecutive reference cycles, up to 1,024, in which the standby loop lay within 0.5 ps of the active one (R72). -/
  near : Nat := 0
  /-- Consecutive reference cycles with |phase error| within LOCK_PH, up to 1,024, and beyond UNLOCK_PH (R68, R69). -/
  good : Nat := 0
  bad : Nat := 0
  /-- The gains of R62 before PH_OK first sets. -/
  fast : Bool := true
  /-- Bands still to be tried in the lock attempt, the present one first (R66); the band that fits, once found; the band
  table entry of the target (R65). -/
  trials : List Nat := []
  fit : Option Nat := none
  entry : Nat := 0
  /-- The millisecond after a failed attempt runs; an attempt has failed since the last rate change (R66, R79). -/
  retry : Bool := false
  failed : Bool := false
  /-- CLK_SYNs_DITHER as the lock attempt took it (R63). -/
  dither : Word := 7
deriving DecidableEq, Repr

/-- A running ramp of SYN_S (R92): the profile segment and the commanded FCW at its start, in units of 2^-32. -/
structure RampGen where
  seg : Nat
  base : Nat
  /-- Elapsed time at the segment's start, 2^-64 s. -/
  since : Nat := 0
deriving DecidableEq, Repr

/-- The clock that the memory islands run on (Table 3.16). -/
inductive MemClock where
  | synM | backup | bypass
deriving DecidableEq, Repr

/-- The clock loops (ch. 03): the rates in force, which the CLK registers do not hold once they are rewritten. -/
structure ClkSt where
  div : Nat := 0
  fcwInt : Nat := 110
  fcwFrac : Nat := 0
  /-- The dither LFSR of each loop (R63). -/
  lfsr : SMap Word := []
  /-- What each loop holds (R61 to R69). -/
  loops : SMap LoopSt := []
  /-- FCW of SYN_S in force, and the FCW that the ramp generator commands, in units of 2^-32; the FCW and fine code at
  the last lock of SYN_S, which fix the fit range of its band (R93). -/
  sfcw : Nat := 160 * 2 ^ 32
  fcwNow : Nat := 160 * 2 ^ 32
  lockFcw : Nat := 160 * 2 ^ 32
  lockFine : Nat := 0x8000
  /-- The running ramp (R92). -/
  ramp : Option RampGen := none
  /-- Skew trim writes (R82), newest first: register offset, the first frame in which the new value acts, the value
  before. -/
  skews : List (Nat × Nat × Int) := []
  /-- STIM has a clock. -/
  stimOn : Bool := false
  /-- An accepted rate change has not yet raised E079 (R78, R79). -/
  rateDue : Bool := false
  /-- Bypass was entered at a trip (R86), so its exit raises E070. -/
  tripped : Bool := false
  /-- The clock of the memory islands. -/
  mem : MemClock := .synM
  /-- The change of the memory clock in progress (Table 3.14). -/
  memNext : Option MemClock := none
  /-- A reference edge is missing: the loops are frozen (R95). -/
  refLost : Bool := false
  /-- Elapsed time at which REF_ABSENT set, until fault 0x0111 has been raised for the absence (Table 22.2). -/
  refAt : Option Nat := none
deriving DecidableEq, Repr

/-- A cross-fade of an input's equaliser (R187): its first frame as a count of frames, its length and law, and the 128
coefficients of the bank it starts from; a stop of SAMPLE or a mode change ends it at its target from a frame on (R189). -/
structure Fade where
  start : Nat
  length : Nat
  law : Nat
  old : List Int
  cut : Option Nat := none
deriving DecidableEq, Repr

/-- A write to EQ_DELAYn (R195): the first index of the new delay, and INT and FRAC before it. -/
structure DelayStep where
  start : Nat
  int : Nat
  frac : Nat
deriving DecidableEq, Repr

/-- A path's registers as they act: DEC_DROPn, DEC_RAKEn, DEC_CICn or DEC_MAm_CTL, and DEC_MAm_LEN. -/
structure PathSet where
  ctl : Word
  len : Word := 0
deriving DecidableEq, Repr

/-- A write to a path's register (R207): the first index of the new setting, and the setting before it. -/
structure PathStep where
  start : Nat
  old : PathSet
deriving DecidableEq, Repr

/-- A restart of a sliding path (R205, R206, R207, R585): the first word that enters, the index from which its outputs are
valid, its ratio and the count of its invalid outputs then, and whether a write of R207 has caused it. -/
structure Restart where
  start : Nat
  valid : Nat
  ratio : Nat
  count : Nat
  write : Bool
deriving DecidableEq, Repr

/-- Equaliser and decimation (ch. 07): what EQ and DEC registers do not hold. -/
structure DecSt where
  /-- The fades of each input, newest first; inputs whose swap request acts at the next frame boundary (R188): bit mask. -/
  fades : SMap (List Fade) := []
  swapDue : Nat := 0
  /-- Writes to EQ_DELAYn of each input, newest first. -/
  delays : SMap (List DelayStep) := []
  /-- Writes to each path's registers, newest first, and the restarts of the sliding paths; paths by number: drop of input
  n at n, rake at 4 + n, CIC at 8 + n, MAm at 12 + m. -/
  paths : SMap (List PathStep) := []
  restarts : SMap (List Restart) := []
  /-- The words at the tap point that some consumer has received, by 4 * index + input: every consumer receives the same
  word (R23, R193). -/
  words : SMap (Option (BitVec 16)) := []
deriving DecidableEq, Repr

/-- A slot of the write buffer (R351): its group of 16 lines, the lines that wait in it with the port of each, and
whether it has begun to drain. -/
structure WbSlot where
  group : Nat
  lines : List (Nat × Nat)
  draining : Bool
deriving DecidableEq, Repr

/-- A host write through BAR4 that waits for the buffer (R353): byte address in capture memory and bytes. -/
structure BulkWrite where
  addr : Nat
  bytes : List Byte
  /-- PORT6 for BAR4, PORT5 for loads (Table 14.5). -/
  port : Nat := 6
deriving DecidableEq, Repr

/-- Whom a read of capture memory serves: a BAR4 read of so many dwords from a byte address, a harvest by its fetch number, a
tail update that sets a bit (R360). -/
inductive ReadFor where
  | bar4 (addr dwords : Nat) | harvest (seq : Nat) | tail (bit : Nat)
deriving DecidableEq, Repr

/-- A read of a line that waits at a port because the write buffer had an entry for its group (R360). -/
structure MemRead where
  port : Nat
  line : Nat
  who : ReadFor
deriving DecidableEq, Repr

/-- Capture memory and its controller (ch. 14): what MEM registers do not hold themselves. -/
structure MemSt where
  /-- The 48 GiB by location of the byte (R348, R350); an unlisted byte reads 0 (log entry 9). -/
  bytes : SMap Byte := []
  /-- Locations of the lines found uncorrectable and not written since (R374). -/
  poison : List Nat := []
  /-- The slots in use, oldest first, and the writes that wait for a free one: line and port (R351). -/
  slots : List WbSlot := []
  overflow : List (Nat × Nat) := []
  /-- Reads that wait at their ports, oldest first (R360). -/
  reads : List MemRead := []
  /-- Bulk writes that wait for the buffer, oldest first (R353). -/
  bulk : List BulkWrite := []
  /-- Refresh intervals counted per stack and refreshes done per bank (key 48 * PC + bank) since the counts were last
  cleared: a bank's count is their difference (R361). -/
  refBase : SMap Nat := []
  refDone : SMap Nat := []
  /-- Requests a port has served in its round, key 8 * PC + port (R358). -/
  served : SMap Nat := []
  /-- The retraining in progress: its PC and the steps done (R370). -/
  trnPc : Option Nat := none
  trnStep : Nat := 0
  /-- Stack temperature at the last training of each PC. -/
  trnTemp : SMap Int := []
  /-- Idle set and load offset of each PC (key 32 * PC + step), counted from its boot set (R371). -/
  idleSet : SMap Int := []
  loadOff : SMap Int := []
  /-- PCs whose load set is applied: bit mask. -/
  loadPcs : Nat := 0
  /-- The next PC of the retraining that learns the load offsets, while it runs (R371). -/
  offsetPc : Option Nat := none
  /-- Elapsed time of the last E196 (R373). -/
  eccAt : Option Nat := none
deriving DecidableEq, Repr

/-- A comparator of R216: output and arming flags; `restart` until its first valid word (R217). -/
structure Cmp where
  q : Bool := false
  rise : Bool := false
  fall : Bool := false
  restart : Bool := true
deriving DecidableEq, Repr

/-- A trigger detector (ch. 08): the applied configuration, its comparators and the measurements in progress. Instants
are in 1/16 sample. -/
structure DetSt where
  /-- Applied CFG, LEVEL, HYST, DLO, DHI, PAT_A, PAT_B, PAT_C (R233). -/
  cfg : List Word := [0, 0, 0x100, 0, 0xFFFFFFFF, 0, 0, 0]
  /-- The comparators of LEVEL_LO and LEVEL_HI (R216). -/
  lo : Cmp := {}
  hi : Cmp := {}
  /-- Starts of the measurements of Table 8.3: WIDTH and RUNT rising and falling crossing of LO, RUNT and SLEW falling
  crossing of HI, SLEW rising crossing of LO; each none where no measurement runs. -/
  up : Option Int := none
  down : Option Int := none
  hiDown : Option Int := none
  slewUp : Option Int := none
  slewDown : Option Int := none
  /-- RUNT: HI rose since `up`; LO fell since `hiDown`. -/
  hiRose : Bool := false
  loFell : Bool := false
  /-- WINDOW, TIMEOUT, PATTERN: the present state or result, when it began, and whether TIMEOUT has fired in the stay. -/
  res : Bool := false
  since : Int := 0
  fired : Bool := false
  /-- The next index processed is the first after a restart (R217). -/
  restart : Bool := true
  /-- At its APPLY four other detectors were remote: as a fifth it is invalid (R455). -/
  fifth : Bool := false
deriving DecidableEq, Repr

/-- An edge of a digital line that waits for its label index (R212, R213), counted as the tap point counts. -/
structure LineEdge where
  line : Nat
  rising : Bool
  idx : Nat
  frac : Nat
deriving DecidableEq, Repr

/-- A firing reported to the sequencers: detector (16: the symbol trigger), firing index, and the instant that the
interpolator forms (R228, R246). -/
structure Firing where
  det : Nat
  idx : Nat
  tIdx : Nat
  frac : Nat
deriving DecidableEq, Repr

/-- Where a pulse stands: due at its edge, begun at the ball, ended. -/
inductive PulsePhase where
  | due | active | ended
deriving DecidableEq, Repr

/-- A pulse of a trigger output (R249, R250, R426): line 0 to 3 XO, 4 to 11 CT, 12 STAR_OUT; tide time of its edge and,
once it has begun, of its end, in 2^-40 s, and the level to which its edge takes the ball. The last pulse of a line stays
until the next one begins. -/
structure Pulse where
  line : Nat
  start : Nat
  stop : Nat
  phase : PulsePhase
  high : Bool := true
  /-- Elapsed time at its rising edge, in 2^-64 s. -/
  ripe : Nat := 0
deriving DecidableEq, Repr

/-- A reactive event that is due: line, and the tide time of the instant that the STIM cycle holds (R251). -/
structure Reactive where
  line : Nat
  due : Nat
  /-- Core cycle and index of the cause. -/
  cycle : Nat
  idx : Nat
  /-- Elapsed time at the instant due, in 2^-64 s. -/
  ripe : Nat := 0
deriving DecidableEq, Repr

/-- A trigger log entry that waits in the FIFO of R254. -/
structure LogEntry where
  ctx : Nat
  /-- Dwords 0 to 3. -/
  dw : List Word
deriving DecidableEq, Repr

/-- A trigger skew calibration in progress (R256). -/
structure SkewRun where
  seq : Nat
  ring : Nat
  inputs : Nat
  steps : Nat
deriving DecidableEq, Repr

/-- What the phase detector of the symbol trigger made of one symbol (R262, R263): the timing error in 1/65536 UI of its
first transition where that drives the detector, and the unit interval recovered with it, UQ10.22 samples. -/
structure SymRec where
  err : Option Int
  ui : Nat
deriving DecidableEq, Repr

/-- The clock recovery loop of the symbol trigger while it runs (R262 to R268). -/
structure SymLoop where
  /-- The recovered centre of the next symbol, from index 0, and the unit interval, both in 2^-40 sample. -/
  centre : Int
  ui : Int
  /-- Decision word of the symbol before, where valid. -/
  prev : Option Int := none
  /-- The last symbols, newest first, up to 4,096, and the symbols since the present point of the search. -/
  recs : List SymRec := []
  tried : Nat := 0
  /-- Symbols of the running level window, and count and sum of decision words per level (R267). -/
  count : Nat := 0
  levels : List (Nat × Int) := [(0, 0), (0, 0), (0, 0), (0, 0)]
deriving DecidableEq, Repr

/-- Triggers (ch. 08 to 10): what TRG and SYM registers do not hold themselves. -/
structure TrgSt where
  dets : SMap DetSt := []
  /-- An APPLY whose values act from an index on: that index and the detector from then on (R233). -/
  coming : SMap (Option (Nat × DetSt)) := []
  /-- Core cycle of the last reported firing of each detector (R227). -/
  lastRep : SMap (Option Nat) := []
  /-- Zeroings of the index that the tap point has not reached: the core cycle in which it does, and the index that became
  0 (R105, R213). -/
  zeros : List (Nat × Nat) := []
  /-- Inputs whose D has been raised above the held D_T (R226): bit mask. -/
  lateIns : Nat := 0
  /-- Pattern comparators (R223). -/
  pth : SMap Cmp := []
  /-- The words of the last index processed. -/
  prev : List Int := []
  /-- The first index after the last one processed. -/
  next : Nat := 0
  /-- Edges of digital lines that wait for their label index (R213). -/
  edges : List LineEdge := []
  /-- Edges recorded in a core cycle: (line, rising) (R214). -/
  seenCycle : Nat := 0
  seen : List (Nat × Bool) := []
  /-- Firings reported and not yet behind every sequencer (R225, R227). -/
  fires : List Firing := []
  /-- D_T as held while a context is armed (R226). -/
  dT : Nat := 0
  /-- Output pulses due or active (R249, R250), reactive events that wait for their instant (R251), and the log
  entries in the FIFO (R254). -/
  pulses : List Pulse := []
  reacts : List Reactive := []
  log : List LogEntry := []
  /-- Contexts whose next entry to enter the FIFO carries LOSS (R254): bit mask. -/
  loss : Nat := 0
  /-- Trigger skew calibrations in progress (R256). -/
  skew : List SkewRun := []
  /-- Applied SYM_CTL, SYM_UI, THR0, THR1, THR2, PAT_CTL and pattern words (R276). -/
  sym : List Word := [0x0000000B, 0x04000000, 0xC000, 0, 0x4000, 1]
  /-- The values of the received symbols since the history restarted, newest first (R270). -/
  symHist : List Nat := []
  /-- The words applied before, for symbols decided before an index (R276). -/
  symOld : Option (Nat × List Word) := none
  /-- The loop while a lock attempt runs or it is locked (R263). -/
  symLoop : Option SymLoop := none
  /-- Core cycle of the symbol trigger's last firing (R274). -/
  symCycle : Option Nat := none
deriving DecidableEq, Repr

/-- A segment that is open (R290, R296). -/
structure Seg where
  num : Nat
  /-- f_n of its slot. -/
  f : Nat
  /-- Trigger sample index, FRACTION and MASK of its trigger, its first and last index, and whether it is clamped (R290). -/
  t : Nat
  frac : Nat
  mask : Nat
  first : Nat
  last : Nat
  clamped : Bool
  /-- A tail update met an uncorrectable line (R374). -/
  poisoned : Bool
  /-- A stop has cut it (R301): its status. -/
  forced : Option Nat
deriving DecidableEq, Repr

/-- A decimated line of the current or an open slot (R291): first label, ratio, outputs, line in its partition. -/
structure DLine where
  lab : Nat
  ratio : Nat
  count : Nat
  line : Nat
  /-- The first index that no output before the line is labelled with. -/
  before : Nat
deriving DecidableEq, Repr

/-- A line that carries the degraded bit (R300): the labels of its words or outputs, and whether a switch-over is the only
cause. -/
structure DegLine where
  lab : Nat
  ratio : Nat
  count : Nat
  switch : Bool
deriving DecidableEq, Repr

/-- A requested step change (R206, R314, R320): up or down, the index from which it may act, and the grid index at which it
acts. -/
structure StepReq where
  up : Bool
  base : Nat
  pos : Nat
deriving DecidableEq, Repr

/-- Whether a context is idle, holds an arm that has passed its checks (R302), or is armed (R279). -/
inductive CtxPhase where
  | idle | pending | armed
deriving DecidableEq, Repr

/-- An arm that has passed its checks and has not taken effect (R302): whether ACQ_STREAM asked for it, fetch number,
ring and dwords of its descriptor, and whether its ARM_AT index had passed (R295). -/
structure ArmReq where
  streaming : Bool
  seq : Nat
  ring : Nat
  dw : List Word
  late : Bool
  /-- Twin arm: the index at which both arms take effect, once the leader has compared them (R460). -/
  go : Option Nat := none
deriving DecidableEq, Repr

/-- An acquisition context with its sequencer (ch. 09, 11, 12): what its registers do not hold. -/
structure Ctx where
  phase : CtxPhase := .idle
  /-- The pending arm. -/
  req : Option ArmReq := none
  /-- Armed by ACQ_STREAM (R305). -/
  streaming : Bool := false
  /-- Fetch number, ring and dwords of the arm descriptor. -/
  seq : Nat := 0
  ring : Nat := 0
  dw : List Word := []
  /-- The arm's ARM_AT index had passed (R295). -/
  late : Bool := false
  /-- Sequencer (R236 to R239): stage from 0, its count, i_prev, and the last completion's index. -/
  stage : Nat := 0
  count : Nat := 0
  iPrev : Nat := 0
  lastComp : Option Nat := none
  /-- The first index not yet decided. -/
  seqNext : Nat := 0
  /-- Holdoff (R243, R244): i_acc, the index of the last sample of the segment it opened, completions left. -/
  acc : Option Nat := none
  accEnd : Option Nat := none
  evLeft : Nat := 0
  /-- Segmented: segments opened, f of the current slot, open segments oldest first, e of the last segment opened. -/
  opened : Nat := 0
  f : Nat := 0
  segs : List Seg := []
  lastSeg : Option Seg := none
  /-- ACQ_STOP with IMMEDIATE=0 has been received (R301); descriptors of ACQ_STOP that wait for the arm completion. -/
  stopping : Bool := false
  stops : List Nat := []
  /-- Next raw index and next decimated label to be packed; decimated lines written in the current slot. -/
  next : Nat := 0
  dnext : Nat := 0
  dpos : Nat := 0
  dlines : List DLine := []
  /-- The first index that no decimated output packed so far is labelled with. -/
  dlast : Nat := 0
  /-- Lines that carry the degraded bit (R300). -/
  degr : List DegLine := []
  /-- Index entries written or queued in this acquisition (R299), and segments closed (R303). -/
  entries : Nat := 0
  closed : Nat := 0
  /-- The next line carries the rate-change bit (R314 to R316). -/
  rateBit : Bool := false
  /-- Streaming: the index a gap started at; a gap has occurred. -/
  gapStart : Nat := 0
  /-- Sluice (R313): fill and O at the previous tick, ticks in a row at or below LO without a change or gap, the step
  changes requested in the order of their indices, whether a step down waits for a next slot that is not yet known, whether
  E168 has been raised since p was below HI, the index of the last change (R320). -/
  prevFill : Nat := 0
  prevOcc : Nat := 0
  lowTicks : Nat := 0
  stepReq : List StepReq := []
  stepDown : Bool := false
  maxSaid : Bool := false
  lastStep : Option Nat := none
  /-- P0 of the phase resets that the packer has not reached, oldest first (R315). -/
  phases : List Nat := []
  /-- The acquisition ends (R301, R321): row of its cause in Table 11.9 from 0, or CLAMPED as row 1; the last index of
  the core cycle of the stop; that core cycle. -/
  ending : Option (Nat × Nat × Nat) := none
  /-- Partitions that it keeps in use (R285, R311). -/
  parts : List Nat := []
  /-- Harvest cursors by target (R401). -/
  cursors : SMap Nat := []
  /-- Events raised once per arm that have been raised: 132, 164, 169. -/
  once : List Nat := []
  /-- Arms that have taken effect: the model's label of an arm (Table 13.4, cause 6). -/
  arms : Nat := 0
deriving DecidableEq, Repr

/-- The entries of one closed segment in the index queue (R298, R299): line number and line. -/
structure IdxItem where
  ctx : Nat
  lines : List (Nat × Nat)
deriving DecidableEq, Repr

/-- Acquisition (ch. 11, 12). -/
structure AcqSt where
  ctxs : SMap Ctx := []
  queue : List IdxItem := []
  /-- A demand above the budget was computed last (R352). -/
  overSaid : Bool := false
deriving DecidableEq, Repr

/-- A pass that has been accepted and not completed (R329). -/
structure Pass where
  buf : Nat
  t : Nat
deriving DecidableEq, Repr

/-- A buffer of a gang (R336, Table 13.7). Its state is in PAN_STAT. -/
structure PanBuf where
  pepoch : Nat := 0
  cause : Nat := 0
  ctx : Nat := 0
  /-- Dwords 2 to 7 of the assignment that fills it. -/
  dw : List Word := []
  /-- Where a stop has cut it, its passes, first and last segment, first and last index, and the counts of degraded,
  invalid and outside words and of ECC errors (Table 13.7). -/
  cut : Option Nat := none
  passes : Nat := 0
  firstSeg : Nat := 0x3FFFFFF
  lastSeg : Nat := 0x3FFFFFF
  firstIdx : Nat := 0
  lastIdx : Nat := 0
  deg : Nat := 0
  inv : Nat := 0
  out : Nat := 0
  eccU : Nat := 0
  eccC : Nat := 0
  /-- Arm of the context whose passes it holds; core cycle of its close (R337). -/
  arm : Nat := 0
  closeAt : Option Nat := none
  /-- Cells by q * rows + row; an unlisted one holds the mode's cleared value (Table 13.2). -/
  cells : SMap Word := []
deriving DecidableEq, Repr

/-- A PAN_ATTACH that waits for the passes of the assignment before it (R338): context, dwords 2 to 7, fetch number, core
cycle, and whether no PAN_DETACH has followed it. -/
structure Migration where
  ctx : Nat
  dw : List Word
  seq : Nat
  cycle : Nat
  live : Bool
deriving DecidableEq, Repr

/-- A gang of pans that is owned (R340), keyed by its first pan. -/
structure Gang where
  code : Nat := 0
  owner : Nat := 0
  attached : Bool := false
  ctx : Nat := 0
  /-- Dwords 2 to 7 of the present assignment. -/
  dw : List Word := []
  /-- Buffers 0 and 1, and the passes accepted and not completed (R329, R336). -/
  bufs : SMap PanBuf := []
  passes : List Pass := []
  /-- Core cycles that the last pass occupies (R331). -/
  span : Option (Int × Int) := none
  /-- Migrations that wait for the passes of the old assignment, oldest first (R338). -/
  migrate : List Migration := []
  /-- Descriptors that wait: PAN_SWAP (fetch number, buffer), PAN_DETACH, PAN_HARVEST and PAN_CLEAR (fetch number,
  buffer, and for a harvest whether it clears). -/
  swaps : List (Nat × Nat) := []
  detaches : List Nat := []
  harvests : List (Nat × Nat × Bool) := []
  clears : List (Nat × Nat) := []
deriving DecidableEq, Repr

/-- Pans (ch. 13). -/
structure PanSt where
  gangs : SMap (Option Gang) := []
  /-- Self-tests in progress: fetch number, ring and pans. -/
  tests : List (Nat × Nat × Nat) := []
deriving DecidableEq, Repr

/-- A TRIG frame that waits for the bus (R437, Table 17.5). -/
structure TrigFrame where
  tide : Nat
  frac : Nat
  kind : Nat
  ctx : Nat
  segment : Nat
deriving DecidableEq, Repr

/-- An edge that a pass-through output reproduces (R425): line as in Pulse, level, tide time in 2^-40 s. -/
structure PassEdge where
  line : Nat
  high : Bool
  time : Nat
deriving DecidableEq, Repr

/-- Chassis peers (ch. 17): what PEER registers and tables do not hold themselves. -/
structure PeerSt where
  /-- TRIG frames that wait, oldest first. -/
  txq : List TrigFrame := []
  /-- SEQ of the next frame, and the LFSR of the roll offset (R434). -/
  seq : Nat := 0
  lfsr : Word := 1
  /-- Elapsed time at the last ROLL of each partner entry (AGE). -/
  rollAt : SMap Nat := []
  /-- A LEAVE frame is still to be sent (R433). -/
  leaving : Bool := false
  /-- Identities for which E258 has been raised since an entry was freed (R436). -/
  noRoom : List Nat := []
  /-- Frames sent, newest first. -/
  sent : List (List Byte) := []
  /-- Edges of pass-through outputs, newest first, and the level of each (bit: line of Pulse). -/
  edges : List PassEdge := []
  passLevel : Nat := 0
  /-- The control registers of CT0 to CT7 and STAR_OUT (8) as they act: a write takes effect at the next core cycle
  (Table 17.10). Default: the reset value. -/
  outs : SMap Word := []
  /-- Elapsed time of the last transition on the bus (R431), of the entry into LISTEN, and at which the seat was taken
  (R433, R434). -/
  busEnd : Nat := 0
  listenAt : Nat := 0
  seatAt : Nat := 0
  /-- The roll period, counted from the taking of the seat, whose ROLL frame is sent next (R434). -/
  rolls : Nat := 0
deriving DecidableEq, Repr

/-- A message sent on the pair link (Table 18.3). DECISION: first index of the core cycle of the firing index, context,
offset of the trigger sample index, FRACTION, MASK, SYM. FIRING: detector, firing index, whether the trigger sample
index is one less, FRACTION. TIME: the core cycle in which the change arose. LINE: line, poison. SAMPLES: first index and
words. -/
inductive PairMsg where
  | decision (first ctx : Nat) (off : Int) (frac mask : Nat) (sym : Bool)
  | firing (det idx : Nat) (before : Bool) (frac : Nat)
  | time (cycle : Nat) (m : TimeMsg)
  | config (m : ConfigMsg)
  | arm (m : ArmMsg)
  | control (m : ControlMsg)
  | line (data : Nat) (poison : Bool)
  | samples (first : Nat) (words : List Int)
deriving DecidableEq, Repr

/-- A TWIN_JOIN that has passed rows 1 to 4 of Table 18.4: fetch number, role, form, TIMEOUT in ms, and elapsed time at its
start. -/
structure JoinRun where
  seq : Nat
  leader : Bool
  interleave : Bool
  timeout : Nat
  start : Nat
deriving DecidableEq, Repr

/-- Sums of the interleave form's estimate (R466): words, and the sums of d, y, d y, y^2, d z1, z1^2 (the kernel in
1/60). -/
structure TwinSums where
  n : Nat := 0
  d : Int := 0
  y : Int := 0
  dy : Int := 0
  yy : Int := 0
  dz : Int := 0
  zz : Int := 0
deriving DecidableEq, Repr

/-- A TWIN_SKEWCAL on the leader, or the share of it that a follower runs (R466): fetch number (none on a follower), own
inputs and the partner's, steps or blocks; own results once measured, the partner's once received; blocks received with
their sums. -/
structure TwinCal where
  seq : Option Nat
  own : Nat
  other : Nat
  steps : Nat
  mine : Option (List Int) := none
  partner : Option (List Int) := none
  blocks : Nat := 0
  sums : TwinSums := {}
deriving DecidableEq, Repr

/-- A handover's state as the new leader has received it (R469). -/
structure HandState where
  h : Nat
  dets : List (List Word)
  seqs : List (List Word)
deriving DecidableEq, Repr

/-- Targets of the follower's gain step from a frame on (R465, R466): the values applied there before, and the new ones, at
once or on the ramp of R163. -/
structure TwinTarget where
  start : Nat
  ramp : Bool
  gain0 : Int
  off0 : Int
  gain : Int
  off : Int
deriving DecidableEq, Repr

/-- The pair link and twin mode (ch. 18): what PAIR registers do not hold themselves. -/
structure PairSt where
  /-- Messages sent, newest first. -/
  out : List PairMsg := []
  /-- Elapsed time at the last loss, until the link may train again (R449); at the start of the training that runs (R447);
  and at the last block with a valid CRC on some lane (R449). -/
  restAt : Option Nat := none
  trainAt : Nat := 0
  blockAt : Nat := 0
  /-- Errors of lanes within the last millisecond: lane, elapsed time (R446). -/
  errs : List (Nat × Nat) := []
  /-- The largest D of the partner while joined (R458). -/
  partnerDT : Nat := 0
  /-- The own TWIN_JOIN that waits, the partner's request, and the join index once agreed (R452, R453). -/
  join : Option JoinRun := none
  partner : Option JoinReq := none
  joinAt : Option Nat := none
  /-- The leader's seeds of SYN_A and SYN_B while joined (R454). -/
  seeds : Option (Word × Word) := none
  /-- Loops that reload their LFSR at their next reference cycle (R454). -/
  reseed : List Nat := []
  /-- On the follower of the interleave form: the strobe offset last measured, in 1/16 fs (R464), and the targets of its gain
  step, newest first (R465). -/
  offset : Int := 0
  targets : List TwinTarget := []
  /-- The partner's arm summaries that wait for comparison, and stops that act in a core cycle to come: its number,
  context, cause (R460, R462). -/
  theirs : List ArmSummary := []
  stops : List (Nat × Nat × Nat) := []
  /-- A split in progress: fetch number of its descriptor, if it is this module's; the core cycles in which this module
  and the partner were ready (R468). -/
  split : Option (Option Nat) := none
  ready : Option Nat := none
  partnerReady : Option Nat := none
  /-- A TWIN_SKEWCAL that runs (R466). -/
  cal : Option TwinCal := none
  /-- Background estimate (R466): blocks received of the present set and their sums. -/
  trackN : Nat := 0
  track : TwinSums := {}
  /-- PHASE, GAIN and OFF of the follower as the leader knows them. -/
  twin : Int × Nat × Nat := (0, 0x20000, 0)
  /-- Pairs of lines already written per HARV_PAIR (by fetch number) and their poison lines, and the partner's lines that
  have arrived and wait (R467). -/
  pairs : SMap Nat := []
  poison : SMap Nat := []
  lines : List (Nat × Bool) := []
  /-- On the follower: requests for lines that wait for the stacks: partition, region base, length, start, count. -/
  wanted : List (Nat × Nat × Nat × Nat × Nat) := []
  /-- TWIN_HANDOVER on the old leader, until its last decision below H: fetch number and H; on the new leader what it has
  received (R469), H once the roles have swapped, and whether the old leader's last state is still to come. -/
  handover : Option (Nat × Nat) := none
  handIn : Option HandState := none
  handFrom : Option Nat := none
  handWait : Bool := false
deriving DecidableEq, Repr

/-- What the stimulus sequencer has decided for the next boundary (Table 19.6): an entry, or the end with a status code. -/
inductive StimNext where
  | entry (e : Nat)
  | finish (code : Nat)
deriving DecidableEq, Repr

/-- A cause that ends a sequence or a run within a STIM cycle (R498, R518): the STIM cycle in which it falls, its row of
Table 19.7 or 20.7, its status and the sample count or the position at the end. -/
structure StimEnd where
  cycle : Nat
  rank : Nat
  code : Nat
  count : Nat
deriving DecidableEq, Repr

/-- A sequence (ch. 19) from the acceptance of its STIM_START to its end. -/
structure StimRun where
  seq : Nat
  ring : Nat
  part : Nat
  /-- START and SRLINE; the release of Table 19.5 has arrived. -/
  start : Nat
  line : Nat
  released : Bool := false
  /-- Elapsed time from which the first sample is timed (Table 19.5). -/
  relAt : Nat := 0
  /-- Loop stack, top first: entry, and passes left or none for endless. Call stack: return entry and loop depth. -/
  loops : List (Nat × Option Nat) := []
  calls : List (Nat × Nat) := []
  /-- Source frames up to the end of the segment that plays (R490). -/
  frames : Nat := 0
  /-- First source frame of the pass that plays; the entry before it and its first source frame. -/
  first : Nat := 0
  prev : Option (Nat × Nat) := none
  /-- Samples since sample 0, in 2^-96 of a sample, at the start of the present core cycle. -/
  acc : Int := 0
  /-- Poison lines among those of the head store, and those that the present pass has counted (R481, R497). -/
  headBad : List Nat := []
  seen : List Nat := []
  /-- Position of sample 0 in its STIM cycle. -/
  phase : Nat := 0
  /-- The outcome at the next boundary, once decided. -/
  next : Option StimNext := none
  /-- Latches with their presentation samples (R485): REACT0 to REACT3, SYNC, STIM_GO. -/
  react : SMap (Option Nat) := []
  sync : Option Nat := none
  go : Option Nat := none
  /-- A waiting STIM_JUMP: fetch number, target, presentation sample; the one that the decided outcome is, with its
  target; a waiting STIM_STOP with IMMEDIATE=0. -/
  jump : Option (Nat × Nat × Nat) := none
  acting : Option (Nat × Nat) := none
  stop : Option Nat := none
  /-- Sample count at which the running under-run began. -/
  under : Option Nat := none
  /-- An under-run or a poison line has occurred. -/
  tainted : Bool := false
  /-- A cause has ended the sequence in the present core cycle; a lower row of the same STIM cycle may yet decide. -/
  ending : Option StimEnd := none
deriving DecidableEq, Repr

/-- The stimulus engine. -/
structure StmSt where
  run : Option StimRun := none
deriving DecidableEq, Repr

/-- A pattern run (ch. 20) from the acceptance of its PAT_START to its end. -/
structure PatRun where
  seq : Nat
  ring : Nat
  part : Nat
  first : Nat
  count : Nat
  /-- Passes, 0 without end. -/
  loops : Nat
  /-- START and SRLINE, the sample count of START=4, and whether the release has arrived (R512). -/
  start : Nat
  line : Nat
  scount : Nat
  released : Bool := false
  /-- The vector that plays and the passes completed. -/
  vec : Nat := 0
  pass : Nat := 0
  /-- Elapsed time from which the first period is timed (Table 20.6). -/
  relAt : Nat := 0
  /-- Periods of the vector that plays; those played before it; its position in 2^-96 DAC period at the start of the present
  core cycle; position of the first period in its STIM cycle. -/
  reps : Nat := 0
  done : Nat := 0
  acc : Int := 0
  phase : Nat := 0
  /-- Instant of the vector's start in 1/131,072 DAC period, and the last edge of each pin. -/
  base : Nat := 0
  last : SMap (Option Nat) := []
  /-- The vector that plays drives no edge: poison, or missing in an under-run, which counts its periods as held (R517). -/
  quiet : Bool := false
  missed : Bool := false
  /-- The FIFO has caught up: the under-run ends at the next vector boundary. -/
  caught : Bool := false
  /-- The poison line whose vectors play has been counted. -/
  noted : Option Nat := none
  /-- A stop with IMMEDIATE=0 waits. -/
  stop : Bool := false
  /-- Periods held by the running under-run. -/
  held : Nat := 0
  /-- A reserved code has been played; an under-run or poison vector has occurred (Table 20.5). -/
  rsvd : Bool := false
  tainted : Bool := false
  /-- As for a sequence: the count is the position at the end, in 1/131,072 DAC period. -/
  ending : Option StimEnd := none
deriving DecidableEq, Repr

/-- The pattern pins: the run, and per pin whether its driver is on and its level. -/
structure PatSt where
  run : Option PatRun := none
  on : Nat := 0
  high : Nat := 0
deriving DecidableEq, Repr

/-- A flash operation in progress (R534, R536, R541): 0 COMMIT, 1 push, 2 firmware. -/
structure FlashJob where
  kind : Nat
  seq : Nat
  /-- Slot or bank written. -/
  target : Nat
  /-- The bytes to be written, and whether the controller is to restart from them. -/
  image : List Byte
  restart : Bool
deriving DecidableEq, Repr

/-- Configuration and start-up (ch. 21). -/
structure CfgSt where
  /-- The SPI flash by byte address; an unlisted byte is erased and reads 0xFF. It keeps its contents through RST_N. -/
  flash : SMap Byte := []
  /-- The flash operation in progress (R538). -/
  job : Option FlashJob := none
  /-- Events that wait for READY (Table 21.2): E002 and E008 with their qualifiers. -/
  pend2 : Option Nat := none
  pend8 : Bool := false
  /-- The controller restarts; the bank from which it is to start; elapsed time of the last watchdog expiry (R540). -/
  restart : Option Nat := none
  wdogAt : Option Nat := none
  /-- The restart follows a second expiry (E006 bit 1). -/
  fallback : Bool := false
  /-- The controller's bank has been chosen since RST_N (R539). -/
  chosen : Bool := false
deriving DecidableEq, Repr

/-- Why a step stops with a fault: none does; every access the spec describes has an effect. -/
inductive Fault where
deriving DecidableEq, Repr

/-- Why a command has no meaning. -/
inductive Refusal where
  /-- Raised by exec for a command that is not modelled yet. Safe. -/
  | notModelled (mnemonic : String)
deriving DecidableEq, Repr

/-- The AX96. -/
structure State where
  phase : Phase := .running
  /-- BAR0: registers and table memories by byte offset; an unlisted one reads its reset value. -/
  regs : SMap Word := []
  /-- What the blocks hold besides their registers. -/
  time : TimeSt := {}
  hif : HifSt := {}
  evt : EvtSt := {}
  hlth : HlthSt := {}
  inp : InpSt := {}
  clk : ClkSt := {}
  cnv : CnvSt := {}
  cal : CalSt := {}
  dec : DecSt := {}
  trg : TrgSt := {}
  acq : AcqSt := {}
  pan : PanSt := {}
  mem : MemSt := {}
  peer : PeerSt := {}
  pair : PairSt := {}
  stm : StmSt := {}
  pat : PatSt := {}
  cfg : CfgSt := {}
  /-- Free values drawn so far (the model's own field, log entry 4). -/
  fresh : Nat := 0
  /-- The commands that wait, first in, first out. -/
  pending : List Instr := []
deriving DecidableEq, Repr

/-- The machine right after RST_N has risen, the COMPAT ball low. -/
def State.reset : State := {}

end Sys2Proof.Machine
end

