-- ==== Sys2Proof/Machine/Ops.lean ====
section
/-!
DEFINITION. The named operations over the state: registers and their fields, counters, wide values, the outcome of a
command, the free values, and posted writes to host memory.
-/
namespace Sys2Proof.Machine

/-- What happens while the module runs. A module held in reset or stopped by a thermal shutdown has no clock and does
nothing (R520, R552); nothing here changes the queue, or whether the module runs: RST_N_ASSERT, RST_N_RISE and
THERMAL_SHUTDOWN alone do that, each in its own meaning. -/
def State.whileRunning (s : State) (f : State → State) : State :=
  match s.phase with
  | .running => { f s with phase := .running, pending := s.pending }
  | _ => s

/-- The answer of a command: its effect while the module runs. -/
def State.act (s : State) (f : State → State) : Host.Outcome State Fault Refusal := .next (s.whileRunning f)

/-- The stored value of the register at a byte offset of BAR0. -/
def State.reg (s : State) (off : Nat) : Word := SMap.get regReset s.regs off

/-- The state with the register at `off` holding `v`. -/
def State.setReg (s : State) (off : Nat) (v : Word) : State :=
  { s with regs := SMap.set regReset s.regs off v }

/-- The value of a field. -/
def State.fld (s : State) (f : Fld) : Nat := getBits (s.reg f.off) f.lo f.width

/-- Whether a field is not 0. -/
def State.flag (s : State) (f : Fld) : Bool := s.fld f != 0

/-- The state with the low bits of `x` in a field. -/
def State.setFld (s : State) (f : Fld) (x : Nat) : State :=
  s.setReg f.off (putBits (s.reg f.off) f.lo f.width x)

/-- The state with a one-bit field set or cleared. -/
def State.setFlag (s : State) (f : Fld) (b : Bool) : State := s.setFld f (if b then 1 else 0)

/-- A field as a signed number. -/
def State.sfld (s : State) (f : Fld) : Int := signed f.width (s.fld f)

/-- A counter that counts modulo 2^32. -/
def State.bumpBy (s : State) (off n : Nat) : State := s.setReg off (s.reg off + BitVec.ofNat 32 n)

/-- A counter modulo 2^32 counts once. -/
def State.bump (s : State) (off : Nat) : State := s.bumpBy off 1

/-- A saturating field counts `n`. -/
def State.bumpSat (s : State) (f : Fld) (n : Nat) : State :=
  s.setFld f (satNat (2 ^ f.width - 1) (s.fld f + n))

/-- Two registers as one number, low dword first (R107). -/
def State.reg64 (s : State) (off : Nat) : Nat := (s.reg off).toNat + 2 ^ 32 * (s.reg (off + 4)).toNat

/-- The low 64 bits of a number in two registers. -/
def State.setReg64 (s : State) (off x : Nat) : State := (s.setReg off (lo32 x)).setReg (off + 4) (hi32 x)

/-- `n` consecutive registers set to the dwords of a number, least significant first. -/
def State.setWide (s : State) (off x : Nat) : Nat → State
  | 0 => s
  | n + 1 => (s.setReg off (lo32 x)).setWide (off + 4) (x / 2 ^ 32) n

/-- Three registers that hold a tide time of 80 bits (R100). -/
def State.setTime (s : State) (off x : Nat) : State := s.setWide off (x % 2 ^ 80) 3

/-- `n` consecutive registers as one number. -/
def State.regWide (s : State) (off : Nat) : Nat → Nat
  | 0 => 0
  | n + 1 => (s.reg off).toNat + 2 ^ 32 * s.regWide (off + 4) n

/-- A list of dwords written to consecutive registers. -/
def State.setRegs (s : State) (off : Nat) : List Word → State
  | [] => s
  | v :: l => (s.setReg off v).setRegs (off + 4) l

/-- The operation repeated over a list of indices. -/
def State.each (s : State) (l : List Nat) (f : State → Nat → State) : State := l.foldl f s

/-- The next free value and the state that has drawn it (log entry 4). -/
def State.draw (s : State) (w : Nat) : BitVec w × State :=
  (Config.freeValue w s.fresh, { s with fresh := s.fresh + 1 })

/-- Tide time of the current core cycle as the AX96 reports it: 80 bits, 2^-40 s, truncated (R100). -/
def State.now (s : State) : Nat := s.time.tide / 2 ^ 24 % 2 ^ 80

/-- The low 64 bits of tide time in the event record format: two dwords (Table 15.7). -/
def eventTime (t : Nat) : List Word :=
  [lo32 t, BitVec.ofNat 32 (t / 2 ^ 40 % 2 ^ 24 * 2 ^ 8 + t / 2 ^ 32 % 2 ^ 8)]

/-- An instant of elapsed time lies at least `us` µs back; elapsed time counts in 2^-64 s. -/
def State.since (s : State) (start us : Nat) : Bool := Nat.ble (us * 2 ^ 64) ((s.time.elapsed - start) * 1000000)

/-- Any context is armed (R9: RWL). -/
def State.anyArmed (s : State) : Bool :=
  (List.range 4).any (fun n => s.flag (F.ACQ_AC_STAT.ARMED n))

/-- Context `n` is armed. -/
def State.armed (s : State) (n : Nat) : Bool := s.flag (F.ACQ_AC_STAT.ARMED n)

/-- Some armed context captures input `n` (R292). -/
def State.captured (s : State) (n : Nat) : Bool :=
  (List.range 4).any (fun c => s.armed c && natBit (s.fld (F.ACQ_AC_STAT.INPUTS c)) n)

def State.ctx (s : State) (n : Nat) : Ctx := SMap.get (fun _ => {}) s.acq.ctxs n

def State.setCtx (s : State) (n : Nat) (c : Ctx) : State :=
  { s with acq := { s.acq with ctxs := SMap.set (fun _ => {}) s.acq.ctxs n c } }

def State.gang (s : State) (f : Nat) : Option Gang := SMap.get (fun _ => none) s.pan.gangs f

def State.setGang (s : State) (f : Nat) (g : Option Gang) : State :=
  { s with pan := { s.pan with gangs := SMap.set (fun _ => none) s.pan.gangs f g } }

/-- Input n is held by passes that have been accepted and not completed (R334). -/
def State.inputHeld (s : State) (n : Nat) : Bool :=
  (List.range 8).any (fun f => match s.gang f with
    | some g => g.passes.any (fun p => getBits (dwAt (SMap.get (fun _ => {}) g.bufs p.buf).dw 0) 16 2 == n)
    | none => false)

/-- A posted write into host memory (R394). -/
def State.post (s : State) (f addr : Nat) (data : List Word) : State :=
  { s with hif := { s.hif with writes := { func := f, addr := addr, data := data } :: s.hif.writes } }

/-- Peer window w as its lowest and highest host address, where it is enabled (R442). -/
def State.peerWindow (s : State) (w : Nat) : Option (Nat × Nat) :=
  let base := s.fld (F.PEER_P2P_BASE_LO.BASE w) * 4096 + s.fld (F.PEER_P2P_BASE_HI.V w) * 2 ^ 32
  let limit := s.fld (F.PEER_P2P_LIMIT_LO.LIMIT w) * 4096 + s.fld (F.PEER_P2P_LIMIT_HI.V w) * 2 ^ 32
  if s.flag (F.PEER_P2P_BASE_LO.EN w) && Nat.ble base limit then some (base, limit + 0xFFF) else none

/-- Bytes from a host address touch an enabled peer window. -/
def State.touchesPeer (s : State) (a n : Nat) : Bool :=
  (List.range 4).any (fun w => match s.peerWindow w with
    | some (b, l) => Nat.blt b (a + n) && Nat.ble a l && Nat.blt 0 n
    | none => false)

/-- A write of harvest data into host memory; it carries Relaxed Ordering where Device Control and HIF_CTL.DATA_RO enable it
(Table 15.1), but not into a peer window (R441). -/
def State.postData (s : State) (f addr : Nat) (data : List Word) : State :=
  { s with hif := { s.hif with writes :=
    { func := f, addr := addr, data := data
      relaxed := s.flag F.HIF_CTL.DATA_RO && Config.relaxedOrdering f && !(s.touchesPeer addr (4 * data.length)) }
      :: s.hif.writes } }

/-- The reads of the last dword written in each peer window that `n` bytes from an address touch (R441). -/
def State.flushReads (s : State) (f a n : Nat) : State :=
  { s with hif := { s.hif with flushes := (List.range 4).filterMap (fun w => match s.peerWindow w with
    | some (b, l) => if Nat.blt b (a + n) && Nat.ble a l && Nat.blt 0 n then some (f, min (a + n) (l + 1) - 4) else none
    | none => none) ++ s.hif.flushes } }

/-- A plain write (R9, R10): RW bits take the value, RWL bits only while no context is armed, W1C bits written 1
clear; the others keep theirs. -/
def State.plainWrite (s : State) (off : Nat) (v : Word) : State :=
  match regRow off with
  | none => s
  | some r =>
    let m := BitVec.ofNat 32 (r.rw + (if s.anyArmed then 0 else r.rwl))
    let c := BitVec.ofNat 32 r.w1c
    let old := s.reg off
    s.setReg off (((old &&& ~~~ m) ||| (v &&& m)) &&& ~~~ (v &&& c))

/-- Roles in a twin (Table 18.6). -/
def State.joined (s : State) : Bool := s.fld F.PAIR_STAT.ROLE != 0
def State.isLeader (s : State) : Bool := s.fld F.PAIR_STAT.ROLE == 1
def State.isFollower (s : State) : Bool := s.fld F.PAIR_STAT.ROLE == 2

/-- A message enters the pair link (R450). -/
def State.tell (s : State) (m : PairMsg) : State := { s with pair := { s.pair with out := m :: s.pair.out } }

/-- The block of a BAR0 offset can be reached: start-up has released it and its island has a clock (R30, R583). -/
def State.reachable (s : State) (off : Nat) : Bool :=
  let b := off / 0x10000
  let step := s.fld F.CFG_STAT.STEP
  if [0x08, 0x0A, 0x0C, 0x0D, 0x0E, 0x0F, 0x10, 0x11, 0x82, 0x83, 0x84, 0x85].contains b then Nat.blt 3 step
  else if b = 0x12 then Nat.blt 4 step
  else if [0x14, 0x15, 0x87, 0x88].contains b then s.clk.stimOn
  else true

/-- A register write has its effect where the register's block can be reached, and is discarded elsewhere (R30). -/
def State.atReg (s : State) (off : Nat) (f : State → State) : State := if s.reachable off then f s else s

/-- Compatibility is in force (R6). -/
def State.compat (s : State) : Bool := s.flag F.GLB_CTL.COMPAT

end Sys2Proof.Machine
end

