-- ==== Sys2Proof/Machine/Events.lean ====
section
/-!
DEFINITION. Raising an event (ch. 16): the SEEN bit, the enable, the routes of Table 16.1, the mirror and the queue of
the event unit.
-/
namespace Sys2Proof.Machine

/-- A function that exists and is not in Function Level Reset (R415). -/
def State.funcLive (s : State) (f : Nat) : Bool :=
  f == 0 || (Nat.ble f s.hif.numVfs && !(s.hif.inFlr.contains f))

/-- A route to one function, the PF where it does not exist (R415). -/
def State.routeTo (s : State) (f : Nat) : List Nat := [if s.funcLive f then f else 0]

/-- Route PF. -/
def routePF : List Nat := [0]

/-- Route ALL: the PF and every enabled VF. -/
def State.routeAll (s : State) : List Nat :=
  0 :: ((List.range 9).filter (fun f => Nat.blt 0 f && s.funcLive f))

/-- Route RING: the owner of the ring. -/
def State.routeRing (s : State) (r : Nat) : List Nat := s.routeTo (s.fld (F.HIF_RING_CTL.OWNER r))

/-- Route CTX: the owner of the context. -/
def State.routeCtx (s : State) (n : Nat) : List Nat := s.routeTo (s.fld (F.ACQ_AC_STAT.OWNER n))

/-- Route GANG: the owner of the pan's gang. -/
def State.routeGang (s : State) (k : Nat) : List Nat := s.routeTo (s.fld (F.PAN_STAT.OWNER k))

/-- Route CTXS: the PF and the owner of each context of a mask, one record per function. -/
def State.routeCtxs (s : State) (mask : Nat) : List Nat :=
  (((bitsSet mask 4).flatMap s.routeCtx) ++ [0]).eraseDups

/-- The receiving functions with the PF's copies of R416. -/
def State.mirrored (s : State) (fns : List Nat) : List Nat :=
  if s.flag F.EVT_CTL.MIRROR then fns ++ (fns.filter (fun f => f != 0)).map (fun _ => 0) else fns

/-- The bit of event `e` in a group of three mask registers. -/
abbrev seenBit (e : Nat) : Fld := ⟨R.EVT_SEEN (e / 32), e % 32, 1⟩
abbrev enBit (e : Nat) : Fld := ⟨R.EVT_EN (e / 32), e % 32, 1⟩
abbrev urgBit (e : Nat) : Fld := ⟨R.EVT_URG (e / 32), e % 32, 1⟩

/-- One record reaches the queue, or is discarded when one free place remains (R418). E001 takes that place. -/
def State.enqueue (s : State) (r : EvRec) : State :=
  if Nat.ble (if r.event = 1 then 256 else 255) s.evt.queue.length then
    { (s.bump R.EVT_QLOST) with evt := { s.evt with discarded := s.evt.discarded + 1 } }
  else { s with evt := { s.evt with queue := s.evt.queue ++ [r] } }

/-- Event `e` with qualifier `q` arises for the functions of its route (R413, R415, R416). -/
def State.raiseX (s : State) (e q : Nat) (fns : List Nat) (excl : Option Nat) : State :=
  let s1 := s.setFlag (seenBit e) true
  if s1.flag (enBit e) then
    (s1.mirrored fns).foldl
      (fun t f => t.enqueue ⟨e, BitVec.ofNat 32 q, t.now % 2 ^ 64, f, excl, t.time.cycle⟩) s1
  else s1

/-- Event `e` with qualifier `q` arises for the functions of its route. -/
def State.raise (s : State) (e q : Nat) (fns : List Nat) : State := s.raiseX e q fns none

/-- Event `e` arises with route PF. -/
def State.raisePF (s : State) (e q : Nat) : State := s.raise e q routePF

/-- A status bit sets; the event arises only where the bit was 0 (the repetition limit of its chapter, R413). -/
def State.raiseOnce (s : State) (f : Fld) (e q : Nat) (fns : List Nat) : State :=
  if s.flag f then s else (s.setFlag f true).raise e q fns

/-- The assigned events (Table 16.5). -/
def assignedMask : Nat → Nat
  | 0 => 0x13FF | 1 => 0x3FF | 2 => 0x3FFFFF | 3 => 0x7FFFF0 | 4 => 0x1FFF | 5 => 0x3FF
  | 6 => 0xFFFF | 7 => 0x1FFF | 8 => 0xFF7F3F | _ => 0

/-- Event number `e` is assigned (R412). -/
def assigned (e : Nat) : Bool := natBit (assignedMask (e / 32)) (e % 32)

end Sys2Proof.Machine
end

