-- ==== Sys2Proof/Machine/Faults.lean ====
section
/-!
DEFINITION. Handling a fault of Tables 22.1 and 22.2: its event, its counters with their thresholds (R544, R545, R554)
and the fault log (R546).
-/
namespace Sys2Proof.Machine

/-- The counter that the row of a fault code names (Tables 22.1 and 22.2). -/
def faultCounter : Nat → Option Nat
  | 0x0001 => some 0 | 0x0002 => some 11 | 0x0003 => some 1 | 0x0004 => some 1 | 0x0005 => some 2
  | 0x0006 => some 10 | 0x0007 => some 3 | 0x0008 => some 8 | 0x0009 => some 5 | 0x000A => some 6
  | 0x000B => some 7 | 0x000C => some 9 | 0x000D => some 9 | 0x000E => some 14
  | 0x0101 => some 0 | 0x0102 => some 0 | 0x0103 => some 1 | 0x0104 => some 2 | 0x0105 => some 4
  | 0x0106 => some 4 | 0x0108 => some 14 | 0x0109 => some 7 | 0x010A => some 9 | 0x010B => some 9
  | 0x010C => some 12 | 0x010D => some 13 | 0x010E => some 13 | 0x010F => some 6 | 0x0111 => some 10
  | _ => none

/-- Health counter `c` counts; at a non-zero threshold it raises E276 once until the threshold is written (R554). -/
def State.healthCount (s : State) (c : Nat) : State :=
  let s1 := s.bump (R.HLTH_CNT c)
  let th := s1.reg (R.HLTH_THR c)
  if th != 0 && s1.reg (R.HLTH_CNT c) == th && !(s1.hlth.thrFired.contains c) then
    ({ s1 with hlth := { s1.hlth with thrFired := c :: s1.hlth.thrFired } }).raisePF 276 c
  else s1

/-- A counter that may be none counts. -/
def State.healthCountOpt (s : State) (c : Option Nat) : State :=
  match c with
  | some n => s.healthCount n
  | none => s

/-- One entry of the fault log (R546). -/
def State.logFault (s : State) (code inst : Nat) : State :=
  let e := s.fld F.HLTH_FLOGPTR.V
  let cnt : Word := match faultCounter code with
    | some c => s.reg (R.HLTH_CNT c)
    | none => 0
  (s.setRegs (R.HLTH_FLOG e 0)
    (BitVec.ofNat 32 (code + 2 ^ 16 * (inst % 2 ^ 16)) :: cnt :: eventTime s.now)).setFld F.HLTH_FLOGPTR.V (e + 1)

/-- A fault of Table 22.1 (code below 0x0100) or of Table 22.2 occurs at an instance (R544, R545, R546). -/
def State.fault (s : State) (code inst : Nat) : State :=
  let s1 :=
    if code < 0x100 then (s.raisePF 277 code).healthCountOpt (faultCounter code)
    else (((s.raisePF 278 code).healthCount 15).healthCountOpt (faultCounter code)).setFlag F.HLTH_STAT.OUTSIDE true
  s1.logFault code inst

end Sys2Proof.Machine
end

