-- ==== Sys2Proof/Machine/Time.lean ====
section
/-!
DEFINITION. Tide time, sample indices and the PPS servo (ch. 04): the increment, one core cycle of time, stopping and
restarting SAMPLE, and the meanings of the PPS and SYNC inputs.
-/
namespace Sys2Proof.Machine

/-- N_DIV of a DIV code (R101). -/
def divOf : Nat → Nat
  | 0 => 4 | 1 => 5 | 2 => 6 | _ => 8

/-- The tide time increment of a rate, in 2^-64 s: 2 N_DIV 2^64 / f_DCO, rounded, with f_DCO = FCW * 100 MHz (R101). -/
def tideInc (div fcwInt fcwFrac : Nat) : Nat :=
  roundDivNat (2 * divOf div * 2 ^ 64 * 2 ^ 32) ((fcwInt * 2 ^ 32 + fcwFrac) * 100000000)

/-- Samples per core cycle of a mode code (R104): 192, 96 or 48. -/
def samplesOf : Nat → Nat
  | 0 => 192 | 1 => 96 | _ => 48

/-- Samples per core cycle of the mode that is routed (R105). -/
def State.perCycle (s : State) : Nat := samplesOf s.inp.route

/-- The core clock frequency in Hz, exactly: f_DCO / (2 N_DIV) (R101, R81, R582). -/
def State.coreHz (s : State) : Rat :=
  ((s.clk.fcwInt * 2 ^ 32 + s.clk.fcwFrac) * 100000000 : Nat) / (2 * divOf s.clk.div * 2 ^ 32 : Nat)

/-- Sample rate of an input in Hz (R81). -/
def State.sampleHz (s : State) : Rat := s.coreHz * (s.perCycle : Nat)

/-- D_L: 48 ns in core cycles, rounded up (R448). -/
def State.dL (s : State) : Nat := (48 * s.coreHz / 1000000000).ceil.toNat

/-- Number of the present core cycle as the twin counts them: sample index over S (R448). -/
def State.coreNo (s : State) : Nat := s.time.idx / s.perCycle

/-- The present frame, as a count of the frames that occur (R123): the second of its core cycle where `odd`. -/
def State.frameNow (s : State) (odd : Bool) : Nat := s.time.frames + (if odd then 1 else 0)

/-- SAMPLE is stopped (R105). -/
def State.frozen (s : State) : Bool := s.flag F.TIME_STAT.IDX_FROZEN

/-- The increment in force: INC + ashr(INC * r, 40) (R114). -/
def State.incNow (s : State) : Int :=
  let inc : Int := (s.reg64 R.TIME_INC_LO : Nat)
  inc + ashr (inc * s.sfld F.TIME_RATE_ADJ.V) 40

/-- The present core cycle as a stretch of its own. -/
def State.stretch (s : State) : Stretch :=
  ⟨s.time.idx, s.time.cycle, s.time.frames, s.time.tide, s.incNow, s.perCycle, 1⟩

/-- Stretch `x` continues stretch `e`. -/
def Stretch.joins (e x : Stretch) : Bool :=
  e.per == x.per && e.inc == x.inc && e.idx + ((e.n * e.per : Nat) : Int) == x.idx && e.cycle + e.n == x.cycle
    && e.frames + 2 * e.n == x.frames && ((e.tide : Int) + e.inc * (e.n : Nat)) % (2 ^ 104 : Nat) == (x.tide : Int)

/-- The past with one more core cycle. -/
def addStretch (l : List Stretch) (x : Stretch) : List Stretch :=
  match l with
  | e :: r => if e.joins x then { e with n := e.n + 1 } :: r else x :: e :: r
  | [] => [x]

/-- One core cycle of tide time and of the sample index (R101, R102, R104, R123). -/
def State.advance (s : State) : State :=
  if s.frozen then
    { s with time := { s.time with
        tide := (s.time.tide + 184467440737) % 2 ^ 104, before := s.time.tide, cycle := s.time.cycle + 1
        elapsed := s.time.elapsed + 184467440737 } }
  else
    { s with time := { s.time with
        tide := (((s.time.tide : Int) + s.incNow) % (2 ^ 104 : Nat)).toNat, before := s.time.tide
        idx := (s.time.idx + s.perCycle) % 2 ^ 64, cycle := s.time.cycle + 1
        frames := s.time.frames + 2, past := addStretch s.time.past s.stretch
        elapsed := s.time.elapsed + s.incNow.toNat } }

/-- The lowest multiple of 192 above an index (R105). -/
def next192 (i : Nat) : Nat := (i / 192 + 1) * 192

/-- SAMPLE stops at the end of the present core cycle's frames: the index keeps its count (R105). -/
def State.stopSample (s : State) : State :=
  if s.frozen then s
  else
    ({ s with time := { s.time with
        lastIdx := s.time.idx + s.perCycle - 1, frames := s.time.frames + 2
        past := addStretch s.time.past s.stretch } }).setFlag F.TIME_STAT.IDX_FROZEN true

/-- The index that the first strobe after a restart takes (R105). -/
def State.restartIdx (s : State) : Nat := if s.time.strobed then next192 s.time.lastIdx else 0

/-- SAMPLE starts: the first strobe takes the index of R105. -/
def State.startSample (s : State) : State :=
  if s.frozen then
    ({ s with time := { s.time with idx := s.restartIdx, strobed := true } }).setFlag F.TIME_STAT.IDX_FROZEN false
  else s

/-- The core cycles from the present one on, as they will run: from the restart index while SAMPLE is stopped. -/
def State.ahead (s : State) : Stretch :=
  { s.stretch with idx := if s.frozen then s.restartIdx else s.time.idx }

/-- The stretch that holds index `i` and the index that `i` names there: a skipped index names the next one strobed
(R105). `x` is the stretch after those of the list. -/
def strobeIn (x : Stretch) (i : Int) : List Stretch → Stretch × Int
  | [] => (x, i)
  | e :: l => if x.idx ≤ i then (x, i) else
      if e.idx + ((e.n * e.per : Nat) : Int) ≤ i then (x, x.idx) else strobeIn e i l

/-- The stretch of an index and the strobe that the index names. An index before every stretch on record extends the
oldest one. -/
def State.strobe (s : State) (i : Int) : Stretch × Int := strobeIn s.ahead i s.time.past

/-- The stretch that holds a frame, `x` the one after those of the list. -/
def stretchIn (x : Stretch) (frame : Nat) : List Stretch → Stretch
  | [] => x
  | e :: l => if x.frames ≤ frame then x else stretchIn e frame l

def State.stretchAt (s : State) (frame : Nat) : Stretch := stretchIn s.ahead frame s.time.past

/-- The first index strobed in core cycle `c` or later, `x` the stretch after those of the list. -/
def idxFrom (c : Nat) (x : Stretch) : List Stretch → Nat
  | [] => (x.idx + (((c - x.cycle) * x.per : Nat) : Int)).toNat
  | e :: l =>
    if x.cycle ≤ c then (x.idx + (((c - x.cycle) * x.per : Nat) : Int)).toNat
    else if e.cycle + e.n ≤ c then x.idx.toNat else idxFrom c e l

/-- The first index at a stage `lag` core cycles after the strobe (Table 1.8), in the core cycle after the present one or,
where none passes it then, the next to pass it. -/
def State.nextAt (s : State) (lag : Nat) : Nat := idxFrom (s.time.cycle + 1 - lag) s.ahead s.time.past

/-- The index of the first sample of a frame. -/
def State.frameIdx (s : State) (frame : Nat) : Int :=
  let e := s.stretchAt frame
  e.idx + ((frame : Int) - e.frames) * ((e.per / 2 : Nat) : Int)

/-- Length of the present core cycle in 2^-64 s. -/
def State.cycleLen (s : State) : Nat := if s.frozen then 184467440737 else s.incNow.toNat

/-- `units` of 2^-64 s have passed since an instant of elapsed time by the end of the present core cycle. -/
def State.passed (s : State) (start units : Nat) : Bool := Nat.ble (start + units) (s.time.elapsed + s.cycleLen)

/-- Nanoseconds in 2^-64 s. -/
def nanos (n : Nat) : Nat := n * 2 ^ 64 / 1000000000

/-- Elapsed time at a tide time near the present, in 2^-64 s. -/
def State.elapsedAt (s : State) (t : Nat) : Nat :=
  ((s.time.elapsed : Int) + signed 80 ((t + 2 ^ 80 - s.now) % 2 ^ 80) * (2 ^ 24 : Nat)).toNat

/-- Tide time of an instant `ofs` units of 2^-40 s into the present core cycle (R100). -/
def State.instant (s : State) (ofs : Nat) : Nat := (s.now + min ofs (s.cycleLen / 2 ^ 24)) % 2 ^ 80

/-- The mode code of a count of samples per core cycle (R104). -/
def modeOf (per : Nat) : Nat := if per = 192 then 0 else if per = 96 then 1 else 2

/-- The mode routed in a frame (R105). -/
def State.modeAt (s : State) (frame : Nat) : Nat := modeOf (s.stretchAt frame).per

/-- An index names a strobe of its own: it is not skipped (R105). -/
def State.strobedAt (s : State) (i : Int) : Bool := (s.strobe i).2 == i && (s.strobe i).1.idx ≤ i

/-- A frame is one of the two of the present core cycle. -/
def State.inCycle (s : State) (frame : Nat) : Bool := frame == s.frameNow false || frame == s.frameNow true

/-- The core cycle that holds an index, or the strobe that the index names (R105). -/
def State.cycleOf (s : State) (i : Int) : Int :=
  let (e, j) := s.strobe i
  (e.cycle : Int) + (j - e.idx) / (e.per : Int)

/-- The frame that holds an index, as a count of the frames that occur (R104, R123). -/
def State.frameOf (s : State) (i : Int) : Nat :=
  let (e, j) := s.strobe i
  ((e.frames : Int) + (j - e.idx) / ((e.per / 2 : Nat) : Int)).toNat

/-- Tide time of sample index `i`, in 2^-40 s, truncated: T(c), INC and S are those of the core cycle that held it
(R105, R106). -/
def State.tideOf (s : State) (i : Nat) : Nat :=
  let (e, j) := s.strobe i
  let t := ((e.tide : Int) * (e.per : Int) + (j - e.idx) * e.inc) / (e.per : Int)
  ((t / (2 ^ 24 : Nat)) % (2 ^ 80 : Nat)).toNat

/-- The index TIME_NOW reports (R586). -/
def State.nowIdx (s : State) : Nat := if s.frozen then s.time.lastIdx else s.time.idx

/-- TIME_NOW, five dwords (R586). -/
def State.timeNow (s : State) : List Word :=
  let t := s.now
  [lo32 t, hi32 t, BitVec.ofNat 32 (t / 2 ^ 64 % 2 ^ 16), lo32 s.nowIdx, hi32 s.nowIdx]

/-- Seconds of the next PPS edge (TIME_PPS_SEC), 40 bits. -/
def State.ppsSec (s : State) : Nat := s.fld F.TIME_PPS_SEC_LO.V + 2 ^ 32 * s.fld F.TIME_PPS_SEC_HI.V

def State.setPpsSec (s : State) (x : Nat) : State :=
  (s.setFld F.TIME_PPS_SEC_LO.V x).setFld F.TIME_PPS_SEC_HI.V (x / 2 ^ 32)

/-- The error of an edge at a tide time (R110), in 2^-40 s. -/
def State.ppsError (s : State) (edge : Nat) : Int :=
  (edge : Int) - ((s.ppsSec * 2 ^ 40 : Nat) + s.sfld F.TIME_PPS_OFFSET.V)

/-- One millisecond covers the distance `d` of 2^-40 s units. -/
def within1ms (d : Int) : Bool := decide (d.natAbs * 1000 ≤ 2 ^ 40)

/-- Tide time steps by d, in 2^-40 s (R112). -/
def State.stepTide (s : State) (d : Int) : State :=
  let sat := decide (d < -(2 ^ 63 : Nat)) || decide ((2 ^ 63 : Nat) - 1 < d)
  let dv := clampInt (-(2 ^ 63 : Nat)) ((2 ^ 63 : Nat) - 1) d
  let i := if s.frozen then s.restartIdx else s.time.idx
  let s1 := { s with time := { s.time with
      tide := (((s.time.tide : Int) + d * (2 ^ 24 : Nat)) % (2 ^ 104 : Nat)).toNat } }
  let s2 := (s1.setReg64 R.TIME_STEP_IDX_LO i).setReg64 R.TIME_STEP_DELTA_LO (pattern 64 dv)
  let s3 := s2.setFlag F.TIME_STAT.STEPPED true
  let s4 := if sat then s3.setFlag F.TIME_STAT.DELTA_SAT true else s3
  s4.raisePF 80 ((if d < 0 then 1 else 0) + (if sat then 2 else 0))

/-- A change of the servo rate or a step takes effect (R112, R114). -/
def State.applyTime (s : State) : TimeMsg → State
  | .rate r => s.setFld F.TIME_RATE_ADJ.V (pattern 32 r)
  | .step d => s.stepTide d

/-- A change of the servo rate or a step arises: at once, or on a twin leader D_L core cycles on and told to the
follower (R457). -/
def State.changeTime (s : State) (m : TimeMsg) : State :=
  if s.isLeader then
    ({ s with time := { s.time with due := s.time.due ++ [(s.coreNo + s.dL, m)] } }).tell (.time s.coreNo m)
  else s.applyTime m

/-- The changes that fall due in the present core cycle take effect (R457). -/
def State.applyDue (s : State) : State :=
  let now := s.time.due.filter (fun e => Nat.ble e.1 s.coreNo)
  if now.isEmpty then s
  else now.foldl (fun t e => t.applyTime e.2)
    { s with time := { s.time with due := s.time.due.filter (fun e => Nat.blt s.coreNo e.1) } }

/-- One core cycle passes (R101, R104, R457). -/
def State.tick (s : State) : State := s.advance.applyDue

/-- Tide time steps so that the edge's error is 0; the next expected instant lies 1 s after the edge (R112, R113). -/
def State.ppsStep (s : State) (edge : Nat) : State :=
  let d := -(s.ppsError edge)
  let s1 := { s with time := { s.time with
      stepped := true, goodEdges := 0, rejects := 0
      expected := (((edge : Int) + d + (2 ^ 40 : Nat)) % (2 ^ 80 : Nat)).toNat } }
  ((s1.setPpsSec (s.ppsSec + 1)).setFlag F.TIME_STAT.PPS_WAIT false).changeTime (.step d)

/-- The limit of the servo rate: 50 ppm (R114). -/
def rateLimit : Int := 54975581

/-- The servo's step at an accepted edge with error `e` (R114). -/
def State.servo (s : State) (e : Int) : State :=
  let f := signed 32 (pattern 32 (s.time.servoF - ashr e 4))
  let r := clampInt (-rateLimit) rateLimit (f - e)
  let good := if e.natAbs ≤ 1100 then s.time.goodEdges + 1 else 0
  let s1 := { s with time := { s.time with servoF := f, goodEdges := good } }
  let s2 := s1.changeTime (.rate r)
  let s3 := if r != f - e then (s2.setFlag F.TIME_STAT.SLEW_CLAMPED true).raisePF 81 0 else s2
  if 4 ≤ good then s3.setFlag F.TIME_STAT.PPS_LOCKED true else s3

/-- What an accepted edge may change beside TIME_PPS_SEC and the expected instant (R119). -/
def State.edgeUndo (s : State) : EdgeUndo :=
  ⟨s.time.cycle, s.time.servoF, s.time.goodEdges, s.time.due, s.reg R.TIME_STAT,
    [R.TIME_RATE_ADJ, R.TIME_STEP_IDX_LO, R.TIME_STEP_IDX_LO + 4, R.TIME_STEP_DELTA_LO,
      R.TIME_STEP_DELTA_LO + 4].map (fun o => (o, s.reg o))⟩

/-- An edge is accepted for the expected instant (R113, R114). -/
def State.ppsAccept (s : State) (edge : Nat) : State :=
  let e := s.ppsError edge
  let s1 := ({ s with time := { s.time with undo := some s.edgeUndo } }).setFlag F.TIME_STAT.PPS_MISSING false
  if 1099512 < e.natAbs then s1.ppsStep edge
  else
    let s2 := if s1.flag F.TIME_CTL.SERVO_HOLD then s1 else s1.servo e
    ({ s2 with time := { s2.time with rejects := 0, expected := (s2.time.expected + 2 ^ 40) % 2 ^ 80 } }).setPpsSec
      (s.ppsSec + 1)

/-- An edge outside the window is counted; the third in a row, 1 s apart, is stepped to (R113). -/
def State.ppsReject (s : State) (edge : Nat) : State :=
  let n := if 0 < s.time.rejects &&
      within1ms ((edge : Int) - (s.time.lastReject : Int) - (2 ^ 40 : Nat)) then s.time.rejects + 1 else 1
  let s1 := ({ s with time := { s.time with rejects := n, lastReject := edge } }).bump R.TIME_PPS_REJECT
  let s2 := s1.raisePF 83 (s1.fld F.TIME_PPS_REJECT.V % 2 ^ 16)
  if 3 ≤ n then s2.ppsStep edge else s2

/-- A time load in the present core cycle discards an edge that the grid before it accepts (R119). -/
def State.edgeDropped (s : State) (ago : Nat) : Bool :=
  match s.time.oldGrid with
  | some g => g.cycle == s.time.cycle && g.stepped
      && within1ms ((g.now : Int) - (ago : Int) - (g.expected : Int))
  | none => false

/-- A rising edge at PPS_IN, `ago` units of 2^-40 s before now (R110 to R114, R119, R21). -/
def State.ppsEdge (s : State) (ago : Nat) : State :=
  if s.isFollower || !(s.flag F.TIME_CTL.PPS_EN) || s.time.x6sSlipped || s.edgeDropped ago then s
  else
    let edge := (((s.now : Int) - (ago : Int)) % (2 ^ 80 : Nat)).toNat
    let e := s.ppsError edge
    let s1 := s.setFld F.TIME_PPS_ERR.V (pattern 32 (clampInt (-(2 ^ 31 : Nat)) ((2 ^ 31 : Nat) - 1) e))
    if s.flag F.TIME_STAT.PPS_WAIT then s1.ppsStep edge
    else if within1ms ((edge : Int) - (s.time.expected : Int)) then s1.ppsAccept edge
    else s1.ppsReject edge

/-- PPS_EDGE (R113). -/
def execPpsEdge (ago : Nat) (s : State) : Host.Outcome State Fault Refusal := s.act (fun t => t.ppsEdge ago)

/-- No edge was accepted for the expected instant (R113): the second is counted, the servo drops its phase term. -/
def State.ppsMissing (s : State) : State :=
  if !s.isFollower && s.flag F.TIME_CTL.PPS_EN && s.time.stepped then
    let r := clampInt (-rateLimit) rateLimit s.time.servoF
    let s1 := { s with time := { s.time with
      goodEdges := 0, expected := (s.time.expected + 2 ^ 40) % 2 ^ 80 } }
    let s2 := if s.flag F.TIME_CTL.SERVO_HOLD then s1 else s1.changeTime (.rate r)
    (((s2.setPpsSec (s.ppsSec + 1)).setFlag F.TIME_STAT.PPS_MISSING true).setFlag
      F.TIME_STAT.PPS_LOCKED false).raisePF 82 0
  else s

/-- PPS_MISSING_TIMEOUT (R113). -/
def execPpsMissingTimeout (s : State) : Host.Outcome State Fault Refusal := s.act State.ppsMissing

/-- PPS_EN goes from 0 to 1: the next edge is stepped to (R111). -/
def State.ppsOn (s : State) : State :=
  ({ s with time := { s.time with stepped := false, rejects := 0, goodEdges := 0 } }).setFlag F.TIME_STAT.PPS_WAIT true

/-- PPS_EN goes from 1 to 0 (R111). -/
def State.ppsOff (s : State) : State :=
  let s1 := { s with time := { s.time with servoF := 0, stepped := false, goodEdges := 0, rejects := 0 } }
  (((s1.setFlag F.TIME_STAT.PPS_LOCKED false).setFlag F.TIME_STAT.PPS_MISSING false).setFlag
    F.TIME_STAT.PPS_WAIT false).changeTime (.rate 0)

/-- A write to TIME_CTL (R111); on a twin follower it has no effect beyond its value (R456). -/
def State.timeCtlWrite (s : State) (v : Word) : State :=
  let was := s.flag F.TIME_CTL.PPS_EN
  let new := getBits v 0 1 == 1
  let s1 := (s.setFld F.TIME_CTL.PPS_EN (getBits v 0 1)).setFld F.TIME_CTL.SERVO_HOLD (getBits v 1 1)
  if s.isFollower then s1 else if !was && new then s1.ppsOn else if was && !new then s1.ppsOff else s1

/-- TIME_CTL_WRITE (R111). -/
def execTimeCtlWrite (value : Word) (s : State) : Host.Outcome State Fault Refusal :=
  s.act (fun t => t.timeCtlWrite value)

/-- A SYNC is sampled and waits for its sync point (R116). One from SYNC_IN that is received while X6S has slipped will
be ignored there, re-centred or not (R21). -/
def State.scheduleSync (s : State) (soft : Bool) : State :=
  { s with time := { s.time with syncs := s.time.syncs ++ [⟨soft, !soft && s.time.x6sSlipped, s.time.elapsed⟩] } }

/-- SYNC_IN_PULSE: acts only while EN=1 (R116). -/
def execSyncInPulse (s : State) : Host.Outcome State Fault Refusal :=
  s.act (fun t => if t.flag F.TIME_SYNC_CTL.EN then t.scheduleSync false else t)

/-- The RW fields of a write to TIME_SYNC_CTL (R116). -/
def State.storeSyncCtl (s : State) (v : Word) : State := s.setReg R.TIME_SYNC_CTL (v &&& 0x0000FF3F#32)

/-- A write to TIME_SYNC_CTL: its RW fields, and a software SYNC where SOFT_SYNC=1 (R116). -/
def State.syncCtlWrite (s : State) (v : Word) : State :=
  if getBits v 31 1 == 1 then (s.storeSyncCtl v).scheduleSync true else s.storeSyncCtl v

/-- SOFT_SYNC: a write to TIME_SYNC_CTL with SOFT_SYNC=1 (R116). -/
def execSoftSync (value : Word) (s : State) : Host.Outcome State Fault Refusal :=
  s.act (fun t => (t.storeSyncCtl value).scheduleSync true)

end Sys2Proof.Machine
end

