-- ==== Sys2Proof/Machine/Inputs.lean ====
section
/-!
DEFINITION. Inputs, interleave modes, reference buffers and monitor outputs (ch. 02): which bank serves which input,
the marking of degraded lines, and the meanings of the input commands that concern no other block.
-/
namespace Sys2Proof.Machine

/-- The input that bank `b` serves in a mode (Table 2.2). -/
def bankInput (mode b : Nat) : Nat :=
  match mode with
  | 0 => 0
  | 1 => if b < 4 then 0 else 2
  | _ => b / 2

/-- Banks per input K of a mode (R40). -/
def banksPer : Nat → Nat
  | 0 => 8 | 1 => 4 | _ => 2

/-- The banks that serve input `n` in a mode. -/
def inputBanks (mode n : Nat) : List Nat := (List.range 8).filter (fun b => bankInput mode b == n)

/-- The mode samples input `n` (R38). -/
def sampledIn (mode n : Nat) : Bool := (List.range 8).any (fun b => bankInput mode b == n)

/-- Reference buffer `k` serves input `n` in a mode (Table 2.6). -/
def refServes (mode k n : Nat) : Bool := bankInput mode (2 * k) == n

/-- The bank and the local position of frame sample `i` of an input served by K banks from bank b0 on (R40). -/
def framePosition (i k b0 : Nat) : Nat × Nat := (b0 + i % k, i / k)

/-- The logical position of R40. -/
def logicalPosition (i k b0 : Nat) : Nat := 12 * (b0 + i % k) + i / k

/-- The 12-bit code of a voltage, both in units of 2^-16 of 0.50 V (7.629 uV): rounded, limited to the window (R31, R32). -/
def inputCode (v off : Int) : Int := clampInt (-2047) 2047 (roundDiv (v - off) 16)

/-- V_OFF of input `n` in steps of 7.629 uV; 0x8000 acts as 0x8001 (R35, Table 2.1). -/
def State.offsetOf (s : State) (n : Nat) : Int := max (-32767) (s.sfld (F.INP_OFFSET.OFFSET n))

/-- Input `n` is captured by an armed context, and bank `b` serves it: a context uses the bank (Table 1.6). -/
def State.bankInUse (s : State) (b : Nat) : Bool := s.captured (bankInput s.inp.route b)

/-- A raw slice pattern as the slice-map selector passes it on: -2048 becomes -2047 (R32). -/
def selected (c : Int) : Int := if c = -2048 then -2047 else c

/-- A cause degrades samples from a frame on. -/
def State.degOn (s : State) (c : DegCause) (frame : Nat) : State :=
  { s with inp := { s.inp with spans := ⟨c, frame, none⟩ :: s.inp.spans } }

/-- A cause ends: samples from a frame on are not degraded by it. -/
def State.degOff (s : State) (c : DegCause) (frame : Nat) : State :=
  { s with inp := { s.inp with spans := s.inp.spans.map (fun x =>
      if x.cause = c ∧ x.stop = none then { x with stop := some frame } else x) } }

/-- A cause degrades samples of some frame from f1 to f2. -/
def State.degIn (s : State) (c : DegCause) (f1 f2 : Nat) : Bool :=
  s.inp.spans.any (fun x => decide (x.cause = c) && Nat.ble (max x.start f1) f2 && (match x.stop with
    | some e => Nat.blt (max x.start f1) e
    | none => true))

/-- A cause degrades the samples of a frame. -/
def State.degAt (s : State) (c : DegCause) (frame : Nat) : Bool := s.degIn c frame frame

/-- A bit of a mask set or cleared. -/
def putBit (m i : Nat) (b : Bool) : Nat :=
  if natBit m i then (if b then m else m - 2 ^ i) else (if b then m + 2 ^ i else m)

/-- INPUT_OVERRANGE (R32): a slice serving the input has delivered +2047 or -2047. -/
def State.overrange (s : State) (n : Nat) : State :=
  if sampledIn s.inp.route n then s.raiseOnce (F.INP_STAT.OVR.bit n) (100 + n) 0 routePF else s

def execInputOverrange (input : Fin 4) (s : State) : Host.Outcome State Fault Refusal :=
  s.act (fun t => t.overrange input)

/-- INPUT_OVERLOAD (R34). -/
def State.overload (s : State) (n : Nat) : State :=
  (s.setFlag (F.INP_STAT.OVERLOAD.bit n) true).raisePF 106 n

def execInputOverload (input : Fin 4) (s : State) : Host.Outcome State Fault Refusal :=
  s.act (fun t => t.overload input)

/-- A write to INP_OFFSETn: accepted at every time; where the input is captured, its samples are degraded from then on for
3,000 core cycles (R36, log entry 78). -/
def State.offsetWrite (s : State) (n : Nat) (v : Word) : State :=
  let s1 := s.setFld (F.INP_OFFSET.OFFSET n) (getBits v 0 16)
  if s.captured n then (s1.degOff (.offset n) (s.frameNow false)).degOn (.offset n) (s.frameNow false) else s1

def execInpOffsetWrite (input : Fin 4) (value : Word) (s : State) : Host.Outcome State Fault Refusal :=
  s.act (fun t => t.offsetWrite input value)

/-- OFFSET_DEGRADED_END: 3,000 core cycles after the last write (R36). -/
def execOffsetDegradedEnd (input : Fin 4) (s : State) : Host.Outcome State Fault Refusal :=
  s.act (fun t => t.degOff (.offset input) (t.frameNow false))

/-- One EN bit of INP_REF_CTL as a write finds it (R48, R51): a buffer that serves a captured input stays on. -/
def State.refWriteBit (s : State) (v : Word) (k : Nat) : State :=
  let was := s.flag (F.INP_REF_CTL.EN.bit k)
  let new := getBits v k 1 == 1
  if was && !new then
    if (List.range 4).any (fun n => s.captured n && refServes s.inp.route k n) then s
    else
      let s1 := (s.setFlag (F.INP_REF_CTL.EN.bit k) false).setFlag (F.INP_REF_STAT.READY.bit k) false
      ({ s1 with inp := { s1.inp with settling := putBit s1.inp.settling k false } }).degOff (.buffer k) (s.frameNow false)
  else if !was && new then
    let s1 := s.setFlag (F.INP_REF_CTL.EN.bit k) true
    { s1 with inp := { s1.inp with settling := putBit s1.inp.settling k true } }
  else s

/-- A write to INP_REF_CTL (R48, R51). -/
def State.refCtlWrite (s : State) (v : Word) : State := s.each (List.range 4) (fun t k => t.refWriteBit v k)

def execInpRefCtlWrite (value : Word) (s : State) : Host.Outcome State Fault Refusal :=
  s.act (fun t => t.refCtlWrite value)

/-- The level of buffer `k` lies within 0.05 % of the trimmed level, both as deviations from nominal in steps of 0.001 %
(R48, R157). -/
def State.refInBand (s : State) (k : Nat) (level : Int) : Bool :=
  let trim := s.sfld (F.CAL_TRIM_REF.LEVEL k)
  decide (2000 * ((level - trim).natAbs : Int) ≤ 100000 + trim)

/-- The settle timer of buffer `k` expires and its level is checked (R48). -/
def State.refSettled (s : State) (k : Nat) (level : Int) : State :=
  if natBit s.inp.settling k then
    let s1 := { s with inp := { s.inp with settling := putBit s.inp.settling k false } }
    if s.refInBand k level then s1.setFlag (F.INP_REF_STAT.READY.bit k) true
    else (s1.setFlag (F.INP_REF_STAT.FAULT.bit k) true).raisePF 104 k
  else s

/-- A ready buffer's level leaves its band (R49, Table 22.2). -/
def State.refFault (s : State) (k : Nat) (level : Int) : State :=
  if s.flag (F.INP_REF_STAT.READY.bit k) && !(s.refInBand k level) then
    let s1 := ((s.setFlag (F.INP_REF_STAT.READY.bit k) false).setFlag (F.INP_REF_STAT.FAULT.bit k) true).raisePF 104 k
    (s1.degOn (.buffer k) (s.frameNow false)).fault 0x0107 k
  else s

def execRefLevelFault (buffer : Fin 4) (level : Int) (s : State) : Host.Outcome State Fault Refusal :=
  s.act (fun t => t.refFault buffer level)

/-- The level of an enabled buffer has stayed in its band for 1 ms (R48, R49). -/
def State.refRecover (s : State) (k : Nat) (level : Int) : State :=
  if s.flag (F.INP_REF_CTL.EN.bit k) && !(natBit s.inp.settling k) && s.refInBand k level then
    (s.setFlag (F.INP_REF_STAT.READY.bit k) true).degOff (.buffer k) (s.frameNow false)
  else s

/-- A condition of R57 holds for input `n`. -/
def State.monHeld (s : State) (n : Nat) : Bool :=
  s.flag (F.CAL_STAT.FG_ACTIVE.bit n) || s.flag (F.INP_STAT.INJ.bit n) || !(sampledIn s.inp.route n)
    || s.flag F.INP_MODE_STAT.CHANGING || s.flag F.CLK_STAT.BYPASS

/-- Inputs that meet a predicate, as a bit mask. -/
def maskOf (p : Nat → Bool) : Nat := bitsOf ((List.range 4).filter p)

/-- The monitor outputs of the inputs that a condition of R57 now holds for show STALE; their window is not full. -/
def State.monRefresh (s : State) : State :=
  let s1 := s.each (List.range 4) (fun t n => if t.monHeld n then t.setFlag (F.INP_MON_STAT.STALE n) true else t)
  { s1 with inp := { s1.inp with monDirty := maskOf (fun n => natBit s.inp.monDirty n || s.monHeld n) } }

/-- The running windows are discarded and new ones start (R55). -/
def State.monRestart (s : State) : State :=
  { s with inp := { s.inp with monDirty := maskOf s.monHeld } }

/-- A write to INP_MON_CTL (R55). -/
def State.monCtlWrite (s : State) (v : Word) : State := (s.setFld F.INP_MON_CTL.WINDOW (getBits v 0 5)).monRestart

def execInpMonCtlWrite (value : Word) (s : State) : Host.Outcome State Fault Refusal :=
  s.act (fun t => t.monCtlWrite value)

/-- WINDOW as it acts: from 10 to 26 (R55). -/
def State.monWindow (s : State) : Nat := max 10 (min 26 (s.fld F.INP_MON_CTL.WINDOW))

/-- FREQ of a window (R56): crossings times core frequency over 2^WINDOW, in units of 10 kHz, rounded once. -/
def State.monFreq (s : State) (crossings : Nat) : Nat :=
  (roundRat ((crossings : Nat) * s.coreHz / (2 ^ s.monWindow * 10000 : Nat))).toNat

/-- The valid codes of a window (R56). -/
def windowCodes (w : MonWindow) : List Int := (w.words.map (fun x => x.toInt)).filter (fun c => c != -32768)

/-- Rising crossings of a list of codes (R56): from below T - H to above T + H, T the midpoint of the extremes lo and hi of
the window before and H a sixteenth of their distance. `low`: a code below T - H has been seen since the last crossing. -/
def risings (lo hi : Int) : List Int → Bool → Nat
  | [], _ => 0
  | c :: l, low =>
    if 16 * c < 8 * (lo + hi) - (hi - lo) then risings lo hi l true
    else if low && decide (8 * (lo + hi) + (hi - lo) < 16 * c) then risings lo hi l false + 1
    else risings lo hi l low

def minInt (l : List Int) : Int := l.foldl min (l.headD 0)
def maxInt (l : List Int) : Int := l.foldl max (l.headD 0)

/-- MEAN, RMS, MIN and MAX of a window as the registers hold them (R56). The spec gives none where the window holds no valid
code: free values (log entry 72). -/
def State.monValues (s : State) (codes : List Int) : (Nat × Nat × Nat × Nat) × State :=
  if codes.isEmpty then
    let (a, s1) := s.draw 16
    let (b, s2) := s1.draw 16
    let (c, s3) := s2.draw 16
    let (d, s4) := s3.draw 16
    ((a.toNat, b.toNat, c.toNat, d.toNat), s4)
  else
    let n := codes.length
    let sum := sumInt codes
    let var := ((n : Int) * sumInt (codes.map (fun c => c * c)) - sum * sum).toNat
    ((pattern 16 (roundDiv sum n), roundSqrtQuot var (n * n), pattern 16 (minInt codes), pattern 16 (maxInt codes)), s)

/-- FREQ of a window of codes after one whose extremes are in MIN and MAX (R56). -/
def State.monCount (s : State) (n : Nat) (codes : List Int) : Nat :=
  let lo := s.sfld (F.INP_MON_MIN.VALUE n)
  let hi := s.sfld (F.INP_MON_MAX.VALUE n)
  if hi - lo < 512 then 0 else s.monFreq (risings lo hi codes false)

/-- A value and SEQ of one of an input's monitor registers. -/
def State.monPut (s : State) (seqFld valFld : Fld) (seq x : Nat) : State := (s.setFld seqFld seq).setFld valFld x

/-- The outputs of one input at the end of its window (R56). -/
def State.monOutput (s : State) (n : Nat) (w : MonWindow) : State :=
  let seq := (s.fld (F.INP_MON_STAT.SEQ n) + 1) % 256
  let ((mean, rms, lo, hi), s0) := s.monValues (windowCodes w)
  let s1 := s0.monPut (F.INP_MON_MEAN.SEQ n) (F.INP_MON_MEAN.VALUE n) seq mean
  let s2 := s1.monPut (F.INP_MON_RMS.SEQ n) (F.INP_MON_RMS.VALUE n) seq rms
  let s3 := s2.monPut (F.INP_MON_MIN.SEQ n) (F.INP_MON_MIN.VALUE n) seq lo
  let s4 := s3.monPut (F.INP_MON_MAX.SEQ n) (F.INP_MON_MAX.VALUE n) seq hi
  let s5 := s4.monPut (F.INP_MON_FREQ.SEQ n) (F.INP_MON_FREQ.FREQ n) seq (s.monCount n (windowCodes w))
  (s5.setFlag (F.INP_MON_STAT.STALE n) false).monPut (F.INP_MON_STAT.SEQ n) (F.INP_MON_STAT.CLIPPED n) seq
    (if w.clipped then 1 else 0)

/-- One input at the end of a window (R56, R57): outputs where the window was full and free of the conditions. -/
def State.monInput (s : State) (n : Nat) (w : MonWindow) : State :=
  if s.monHeld n then s.setFlag (F.INP_MON_STAT.STALE n) true
  else if natBit s.inp.monDirty n then s else s.monOutput n w

/-- A monitor window ends (R56, R57). -/
def State.monEnd (s : State) (windows : List MonWindow) : State :=
  (s.each (List.range 4) (fun t n => t.monInput n (windows.getD n ⟨[], false⟩))).monRestart

def execMonitorWindowEnd (windows : List MonWindow) (s : State) : Host.Outcome State Fault Refusal :=
  s.act (fun t => t.monEnd windows)

/-- The period of the CAL_STEP waveform in core cycles: values below 64 act as 64 (Table 2.10). -/
def stepPeriod (ctl : Word) : Nat := max 64 (getBits ctl 4 16)

/-- A of Table 2.9 in steps of 7.629 uV (0.50 V / 65,536): 0.20 V or 0.40 V. -/
def stepAmpl (ctl : Word) : Rat := (if getBits ctl 0 1 = 0 then 131072 else 262144 : Nat) / (5 : Nat)

/-- The waveform as a core cycle finds it: a write that waits is in force from its own period on (R54). -/
def StepWave.inForce (w : StepWave) (cycle : Nat) : StepWave :=
  match w.next with
  | some (c, v) => if c ≤ cycle then ⟨v, c, none⟩ else w
  | none => w

/-- The injector of input `n` drives its high level in a core cycle: the first half of each period (Table 2.9). -/
def StepWave.high (w : StepWave) (cycle : Nat) : Bool :=
  let x := w.inForce cycle
  decide (2 * ((cycle - x.origin) % stepPeriod x.ctl) < stepPeriod x.ctl)

/-- The voltage at the buffer of input `n` whose injector is connected, in a core cycle, in steps of 7.629 uV (R54). -/
def State.stepVolts (s : State) (n : Nat) (w : StepWave) (cycle : Nat) : Rat :=
  let half : Rat := stepAmpl (w.inForce cycle).ctl / 2
  (s.offsetOf n : Int) + (if w.high cycle then half else -half)

/-- Injectors are connected or disconnected: the first connected starts the waveform with INP_CALSTEP_CTL as it stands, the
last disconnected ends it (R53, R54). -/
def State.waveFor (s : State) (connected : Bool) : State :=
  let w := s.inp.wave.getD ⟨s.reg R.INP_CALSTEP_CTL, s.time.cycle, none⟩
  { s with inp := { s.inp with wave := if connected then some w else none } }

/-- A write to INP_CALSTEP_CTL: while an injector is connected it takes effect at the start of the next period (R54). -/
def State.stepWrite (s : State) (v : Word) : State :=
  let s1 := s.plainWrite R.INP_CALSTEP_CTL v
  match s.inp.wave with
  | some w =>
    let x := w.inForce s.time.cycle
    let p := stepPeriod x.ctl
    let start := x.origin + ((s.time.cycle - x.origin) / p + 1) * p
    { s1 with inp := { s1.inp with wave := some { x with next := some (start, s1.reg R.INP_CALSTEP_CTL) } } }
  | none => s1

/-- X1_RECENTRE: at the first core cycle with no armed context using the bank (Table 1.6). The flag stays (R22). -/
def execX1Recentre (bank : Fin 8) (s : State) : Host.Outcome State Fault Refusal :=
  s.act (fun t => if t.bankInUse bank then t
    else ({ t with inp := { t.inp with x1Slipped := putBit t.inp.x1Slipped bank false } }).degOff (.crossing bank)
      (t.frameNow false))

/-- X6S_RECENTRE: at the next REF100 edge after the slip, SYNC and PPS act again (Table 1.6). -/
def execX6sRecentre (s : State) : Host.Outcome State Fault Refusal :=
  s.act (fun t => { t with time := { t.time with x6sSlipped := false } })

end Sys2Proof.Machine
end

