-- ==== Sys2Proof/Machine/Correction.lean ====
section
/-!
DEFINITION. Interleave correction (ch. 06): the correction arithmetic and its taps, the correction sets with their
ramps, and the meanings of CORR_SET_WRITE and CORR_RAMP_END.
-/
namespace Sys2Proof.Machine

/-- Stage u of R160 for a raw code, in units of 1/16 of a 16-bit code. -/
def corrU (gain off c : Int) : Int := roundShr ((c * 256 - off) * gain) 17

/-- The kernels of Table 6.5, k = -4 .. 3. -/
def kernelD : List Rat := [0, -1/60, 3/20, -3/4, 0, 3/4, -3/20, 1/60]
def kernelH : List Rat := [0, 1/90, -3/20, 3/2, -49/18, 3/2, -3/20, 1/90]

/-- The sample period in fs at a rate, DIV code and samples per core cycle (R81, R101). -/
def samplePeriod (fcwInt fcwFrac div perCycle : Nat) : Rat :=
  (2 * divOf div * 10 ^ 15 * 2 ^ 32 : Nat) / ((fcwInt * 2 ^ 32 + fcwFrac) * 100000000 * perCycle : Nat)

def State.samplePeriod (s : State) : Rat :=
  Sys2Proof.Machine.samplePeriod s.clk.fcwInt s.clk.fcwFrac s.clk.div s.perCycle

/-- A write to a skew trim register takes effect at the next interleave frame boundary: the first frame of the next core
cycle (R82, log entry 8). -/
def State.skewWrite (s : State) (off : Nat) (v : Word) : State :=
  let s1 := s.plainWrite off v
  if s1.reg off = s.reg off then s
  else { s1 with clk := { s1.clk with
    skews := (off, s.frameNow false + (if s.frozen then 0 else 2), signed 8 (s.reg off).toNat) :: s1.clk.skews } }

/-- SKEW of a skew trim register as it acts in a frame (R82). -/
def State.skewAt (s : State) (off frame : Nat) : Int :=
  match (s.clk.skews.filter (fun e => e.1 == off && Nat.blt frame e.2.1)).getLast? with
  | some e => e.2.2
  | none => signed 8 (s.reg off).toNat

/-- The frame sample that R40 assigns to a logical position in a mode. -/
def strobePhase (mode l : Nat) : Nat :=
  let b := l / 12
  let k := banksPer mode
  l % 12 * k + b % k

/-- The strobe offset of the follower of the interleave form against the leader's strobe of the same index, in fs (R463). -/
def State.twinOffset (s : State) : Rat :=
  if s.fld F.PAIR_STAT.ROLE == 2 && s.flag F.PAIR_STAT.FORM then (s.pair.offset : Rat) / 16 else 0

/-- The strobe of slice p, from the start of the frame in fs: the phase of a logical position, delayed by its skew trim. For
a slice in a position that position is its own; for the spare it is the one that ch. 05 assigns (R80, R463). -/
def State.sliceStrobe (s : State) (p l frame : Nat) : Rat :=
  s.samplePeriod * (strobePhase s.inp.route l : Nat) + 8 * (s.skewAt (R.CLK_SKEW_P p) frame : Int) + s.twinOffset

/-- The strobe of gauge sampler g that checks a slice in a logical position (R80). -/
def State.gaugeStrobe (s : State) (g l frame : Nat) : Rat :=
  s.samplePeriod * (strobePhase s.inp.route l : Nat) + 8 * (s.skewAt (R.CLK_SKEW_G g) frame : Int) + s.twinOffset

/-- The taps of a slice, k = -4 .. 3, Q2.16 (R162). -/
def corrTaps (skew bw : Int) (tsmp : Rat) : List Int :=
  let t : Rat := skew / 16 / tsmp
  let b : Rat := 4 * bw / (tsmp * tsmp)
  (List.range 8).map (fun k =>
    let delta : Rat := if k = 4 then 1 else 0
    clampInt (-131072) 131071 (roundRat (65536 * (delta - t * kernelD.getD k 0 - b * kernelH.getD k 0))))

/-- A sum of products of two lists. -/
def dot (a b : List Int) : Int := (List.zipWith (· * ·) a b).foldl (· + ·) 0

/-- A signed 16-bit result that keeps -32768 for "invalid" (R160). -/
def sat16 (x : Int) : Int := clampInt (-32767) 32767 x

/-- The output of interleave correction for raw code c with the u of its eight neighbours, its own u in their place
where they are invalid or interpolated (R160, R161). -/
def corrOutput (c u : Int) (taps : List Int) (neighbours : List (Option Int)) : Int :=
  if c = -2048 then -32768
  else if c = 2047 then 32767
  else if c = -2047 then -32767
  else sat16 (roundShr (dot taps (neighbours.map (fun x => x.getD u))) 20)

/-- The value of an interpolated position from its neighbours, each absent where interpolated or invalid (R148). -/
def interpolated (a b : Option Int) : Int :=
  match a, b with
  | some x, some y => roundDiv (x + y) 2
  | some x, none => x
  | none, some y => y
  | none, none => -32768

/-- Field f of an entry: 0 GAIN, 1 OFFSET, 2 SKEW, 3 BW (Table 6.4). -/
def corrField (m p : Nat) : Nat → Fld
  | 0 => F.CORR_0.GAIN m p
  | 1 => F.CORR_1.OFFSET m p
  | 2 => F.CORR_2.SKEW m p
  | _ => F.CORR_2.BW m p

/-- The stored value of a field: GAIN without sign, the others signed. -/
def State.corrStored (s : State) (m p f : Nat) : Int :=
  if f = 0 then (s.fld (corrField m p f) : Nat) else s.sfld (corrField m p f)

/-- A value limited to a field's format (R172). -/
def corrSat (f : Nat) (x : Int) : Int :=
  if f = 0 then clampInt 0 262143 x else clampInt (-32768) 32767 x

/-- A target of a field of a mode's set of a slice. -/
def Ramp.isOf (r : Ramp) (m p f : Nat) : Bool := r.mode == m && r.slice == p && r.field == f

/-- A ramp from A0 to T after n frames (R163). -/
def rampValue (a0 t : Int) (n : Nat) : Int :=
  if 4096 ≤ n then t else a0 + roundDiv ((t - a0) * n) 4096

/-- The value that a target gives its field in a frame. -/
def Ramp.value (r : Ramp) (frame : Nat) : Int := rampValue r.base r.target (frame - r.start)

/-- The applied value of a field in mode m at a frame: that of the last target which had arrived by then (R158, R163). -/
def State.corrApplied (s : State) (m p f frame : Nat) : Int :=
  let l := s.cal.ramps.filter (fun r => r.isOf m p f)
  match l.find? (fun r => Nat.ble r.start frame) with
  | some r => r.value frame
  | none => match l.getLast? with
    | some r => r.old
    | none => s.corrStored m p f

/-- The ramps of a slice that still run. -/
def State.ramping (s : State) (p : Nat) : Bool := s.cal.ramps.any (fun r => r.slice == p && r.running)

/-- RAMPING of the entry shows whether a ramp runs. -/
def State.showRamping (s : State) (p : Nat) : State := s.setFlag (F.CORR_3.RAMPING s.inp.route p) (s.ramping p)

/-- The targets of a list of which none of those that meet a predicate runs any more. -/
def stopRamps (which : Ramp → Bool) (l : List Ramp) : List Ramp :=
  l.map (fun r => if which r then { r with running := false } else r)

/-- A target of a field of the active mode arrives in a frame (R163): `ramp` where it is reached by a ramp. The last target
wins (R164). -/
def State.pushTarget (s : State) (p f frame : Nat) (x : Int) (ramp : Bool) : State :=
  let m := s.inp.route
  let t := corrSat f x
  let a := s.corrApplied m p f frame
  let r : Ramp := ⟨m, p, f, a, if ramp then a else t, t, frame, ramp⟩
  let s1 := s.setFld (corrField m p f) (pattern 32 t)
  ({ s1 with cal := { s1.cal with ramps := r :: stopRamps (fun y => y.isOf m p f) s1.cal.ramps } }).showRamping p

/-- A new target of a field of the active mode: a ramp starts from the applied value (R163, R164). -/
def State.rampTo (s : State) (p f frame : Nat) (x : Int) : State := s.pushTarget p f frame x true

/-- A field takes a value at once, without a ramp: in the active mode from the present frame on. -/
def State.setCorr (s : State) (m p f : Nat) (x : Int) : State :=
  if m = s.inp.route then s.pushTarget p f (s.frameNow false) x false
  else
    ({ s with cal := { s.cal with ramps := s.cal.ramps.filter (fun r => !(r.isOf m p f)) } }).setFld (corrField m p f)
      (pattern 32 (corrSat f x))

/-- Every running ramp ends at its target: a stop of SAMPLE, and a mode change, which stores the targets (R165). -/
def State.endRamps (s : State) : State :=
  (s.cal.ramps.filter (·.running)).foldl (fun t r => t.pushTarget r.slice r.field (s.frameNow false) r.target false) s

/-- CORR_RAMP_END: 4,096 frames after the target arrived (R163). -/
def State.rampEnd (s : State) (p f : Nat) : State :=
  ({ s with cal := { s.cal with ramps := stopRamps (fun r => r.isOf s.inp.route p f
    && Nat.ble (r.start + 4096) (s.frameNow true)) s.cal.ramps } }).showRamping p

def execCorrRampEnd (slice : Fin 104) (field : Fin 4) (s : State) : Host.Outcome State Fault Refusal :=
  s.act (fun t => t.rampEnd slice field)

/-- The slice's RETIRED bit (Table 5.14). -/
def State.retired (s : State) (p : Nat) : Bool := natBit (s.fld (F.CNV_BANK_STAT.RETIRED (p / 13))) (p % 13)

/-- The four dwords of a correction set entry as they are stored. -/
def State.corrRegs (s : State) (m p : Nat) : List (Nat × Word) :=
  (List.range 4).map (fun k => (R.CORR_0 m p + 4 * k, s.reg (R.CORR_0 m p + 4 * k)))

/-- CAL_LAST_TIME of a bank before the estimates of a frame. -/
def State.lastTime (s : State) (b frame : Nat) : Nat :=
  match s.cal.ests.find? (fun e => e.slice / 13 == b && e.frame == frame) with
  | some e => e.time
  | none => s.regWide (R.CAL_LAST_TIME_0 b) 3

/-- What discards an estimate of a slice again (R164). -/
def State.estUndo (s : State) (p frame : Nat) : EstUndo :=
  ⟨p, frame, s.corrRegs s.inp.route p, s.cal.ramps.filter (fun r => r.slice == p), s.lastTime (p / 13) frame⟩

/-- An estimate is applied to a slice of the active mode in a frame: its targets start ramps, it is counted, and its
origin is recorded (R158, R172, R174). The targets are pairs of field and value. -/
def State.estimate (s : State) (p frame src : Nat) (targets : List (Nat × Int)) : State :=
  let m := s.inp.route
  let s0 := { s with cal := { s.cal with
    ests := s.estUndo p frame :: s.cal.ests.filter (fun e => Nat.ble s.time.frames e.frame) } }
  let s1 := targets.foldl (fun t e => t.rampTo p e.1 frame e.2) s0
  let s2 := (s1.setFld (F.CORR_3.SRC m p) src).setFld (F.CORR_3.EST_COUNT m p) (s1.fld (F.CORR_3.EST_COUNT m p) + 1)
  (s2.bump (R.CAL_COUNT (p / 13))).setTime (R.CAL_LAST_TIME_0 (p / 13)) (s.tideOf (s.frameIdx (frame + 1)).toNat)

/-- An estimate for a slice is formed in a frame: a host write of the slice in the same frame discards it (R164). -/
def State.applyEstimate (s : State) (p frame src : Nat) (targets : List (Nat × Int)) : State :=
  if s.cal.written.contains (p, frame) then s else s.estimate p frame src targets

/-- The estimate of a slice in a frame, if one has been applied, is discarded: entry, ramps and counts are as before it
(R164). -/
def State.discardEstimate (s : State) (p frame : Nat) : State :=
  match s.cal.ests.find? (fun e => e.slice == p && e.frame == frame) with
  | some u =>
    let rest := s.cal.ests.filter (fun e => !(e.slice == p && e.frame == frame))
    let s1 := u.regs.foldl (fun t e => t.setReg e.1 e.2) s
    let s2 := { s1 with cal := { s1.cal with
      ests := rest, ramps := u.ramps ++ s1.cal.ramps.filter (fun (r : Ramp) => r.slice != p) } }
    let s3 := s2.bumpBy (R.CAL_COUNT (p / 13)) (2 ^ 32 - 1)
    if rest.any (fun e => e.slice / 13 == p / 13 && e.frame == frame) then s3
    else s3.setTime (R.CAL_LAST_TIME_0 (p / 13)) u.time
  | none => s

/-- The frame of a host write to a slice's set: the first of the present core cycle, or the second where an estimate of
that frame precedes it (log entry 8). -/
def State.writeFrame (s : State) (p : Nat) : Nat :=
  if s.cal.ests.any (fun e => e.slice == p && e.frame == s.frameNow true) then s.frameNow true else s.frameNow false

/-- The host writes a slice of the active mode in a frame: an estimate of that frame is discarded (R164). -/
def State.hostFrame (s : State) (p frame : Nat) : State :=
  let s1 := s.discardEstimate p frame
  { s1 with cal := { s1.cal with written := (p, frame) :: s1.cal.written.filter (fun e => Nat.ble s.time.frames e.2) } }

/-- The staged dword of a function's wide write, the stored one where nothing is staged (R109, log entry 6). -/
def State.stagedOr (s : State) (func off : Nat) : Word :=
  match SMap.get (fun _ => none) s.hif.staged (func * 2 ^ 24 + off) with
  | some v => v
  | none => s.reg off

/-- The staged dwords of a wide value of n dwords have taken effect. -/
def State.unstage (s : State) (func off : Nat) : Nat → State
  | 0 => s
  | n + 1 =>
    ({ s with hif := { s.hif with
      staged := SMap.set (fun _ => none) s.hif.staged (func * 2 ^ 24 + off) none } }).unstage func (off + 4) n

/-- The fields that dwords 0 to 2 of a correction set entry hold (Table 6.4): pairs of field and value. -/
def corrVals (d0 d1 d2 : Word) : List (Nat × Int) :=
  [(0, (getBits d0 0 18 : Nat)), (1, signed 16 (getBits d1 0 16)), (2, signed 16 (getBits d2 0 16)),
   (3, signed 16 (getBits d2 16 16))]

/-- A dword of a wide value that a function has staged. -/
def State.isStaged (s : State) (func off : Nat) : Bool :=
  (SMap.get (fun _ => none) s.hif.staged (func * 2 ^ 24 + off)).isSome

/-- The dword of a correction set entry that holds a field (Table 6.4). -/
def corrDword : Nat → Nat
  | 0 => 0 | 1 => 1 | _ => 2

/-- The values that a write of dword 3 by a function brings: those of the dwords that are staged. A field of which
nothing is staged is not written (R159, log entry 6). -/
def State.corrStaged (s : State) (func m p : Nat) : List (Nat × Int) :=
  (corrVals (s.stagedOr func (R.CORR_0 m p)) (s.stagedOr func (R.CORR_1 m p)) (s.stagedOr func (R.CORR_2 m p))).filter
    (fun e => s.isStaged func (R.CORR_0 m p + 4 * corrDword e.1))

/-- The active mode's set of a slice in service is written while SAMPLE runs: its fields ramp (R159, R163). -/
def State.corrRamps (s : State) (m p : Nat) : Bool := m == s.inp.route && !(s.retired p) && !(s.frozen)

/-- Dword 3 of a correction set entry is written by a function (R159): the staged dwords act. -/
def State.corrWrite (s : State) (func m p : Nat) : State :=
  let s1 := s.unstage func (R.CORR_0 m p) 3
  let s2 := if s.corrRamps m p
    then (s.corrStaged func m p).foldl (fun t e => t.rampTo p e.1 (s.writeFrame p) e.2) (s1.hostFrame p (s.writeFrame p))
    else (s.corrStaged func m p).foldl (fun t e => t.setCorr m p e.1 e.2) s1
  s2.setFld (F.CORR_3.SRC m p) 5

/-- CORR_SET_WRITE (R159): the correction sets belong to the PF. -/
def execCorrSetWrite (func : Fin 9) (mode : Fin 3) (slice : Fin 104) (s : State) : Host.Outcome State Fault Refusal :=
  s.act (fun t => if func.val = 0 then t.atReg (R.CORR_3 mode slice) (fun u => u.corrWrite 0 mode slice) else t)

end Sys2Proof.Machine
end

