-- ==== Sys2Proof/Machine/Converter.lean ====
section
/-!
DEFINITION. The converter array (ch. 05): slice maps and epochs, spares, gauges with their blocks and sweeps, faults
and repair, and the meanings of DWELL_END, EPOCH_OPEN, GAUGE_BLOCK_END, GAUGE_BLOCK_ABANDON, FALLBACK_BLOCK_END,
GAUGE_WINDOW_START, GAUGE_WINDOW_END, CNV_RETIRE and CNV_READMIT; and those of the reference buffers, whose READY the
sweeps follow.
-/
namespace Sys2Proof.Machine

def State.bank (s : State) (b : Nat) : Bank := SMap.get (fun _ => {}) s.cnv.banks b

def State.setBank (s : State) (b : Nat) (x : Bank) : State :=
  { s with cnv := { s.cnv with banks := SMap.set (fun _ => {}) s.cnv.banks b x } }

def State.gauge (s : State) (g : Nat) : Gauge := SMap.get (fun _ => {}) s.cnv.gauges g

def State.setGauge (s : State) (g : Nat) (x : Gauge) : State :=
  { s with cnv := { s.cnv with gauges := SMap.set (fun _ => {}) s.cnv.gauges g x } }

/-- POSj of bank b (Tables 5.1 and 5.2). -/
def posFld (b j : Nat) : Fld := ⟨if j < 8 then R.CNV_MAP_LO b else R.CNV_MAP_HI b, 4 * (j % 8), 4⟩

/-- The local code in position j; 15: interpolated (R124). -/
def State.pos (s : State) (b j : Nat) : Nat := s.fld (posFld b j)

/-- The map of a bank. -/
def State.bankMap (s : State) (b : Nat) : List Nat := (List.range 12).map (s.pos b)

/-- The spare's local code; 15: no spare. -/
def State.spare (s : State) (b : Nat) : Nat := s.fld (F.CNV_MAP_HI.SPARE b)

def State.hasSpare (s : State) (b : Nat) : Bool := s.spare b != 15

/-- The position that local slice k of bank b serves, if any. -/
def State.positionOf (s : State) (b k : Nat) : Option Nat := (List.range 12).find? (fun j => s.pos b j == k)

/-- The positions of bank b that are interpolated, in order. -/
def State.interps (s : State) (b : Nat) : List Nat := (List.range 12).filter (fun j => s.pos b j == 15)

def State.suspect (s : State) (p : Nat) : Bool := natBit (s.bank (p / 13)).suspect (p % 13)

/-- The spare is taken by a change that has not opened yet: its shadow frames run (Table 5.4). -/
def State.spareTaken (s : State) (b : Nat) : Bool := (s.bank b).changes.any (fun c => c.code != 15)

/-- The banks of gauge g run the fall-back check in place of the gauge: its window, a slip of X2, or a failed gauge
(R143, R548). -/
def State.fallback (s : State) (g : Nat) : Bool :=
  s.flag ⟨R.CNV_GAUGE_STAT, 8 * g + 7, 1⟩ || s.inp.x2Slipped || s.flag (F.HLTH_STAT.GAUGE_FAIL.bit g)

/-- A foreground calibration runs on the input of bank b (R177). -/
def State.bankFg (s : State) (b : Nat) : Bool := natBit (s.fld F.CAL_STAT.FG_ACTIVE) (bankInput s.inp.route b)

/-- A pause of Table 5.6 holds for the rotation of bank b. -/
def State.rotPaused (s : State) (b : Nat) : Bool :=
  !(s.flag (F.CNV_BANK_CTL.ROT_EN b)) || s.fallback (b / 2) || !(s.hasSpare b) || s.frozen
    || !(s.interps b).isEmpty || s.bankFg b || s.spareTaken b

/-- SPARE_STATE of Table 5.14. -/
def State.spareState (s : State) (b : Nat) : Nat :=
  if !(s.hasSpare b) then 2
  else if s.spareTaken b then 3
  else if s.fallback (b / 2) then 1
  else if s.rotPaused b then 3 else 0

def fallbackFld (g : Nat) : Fld := ⟨R.CNV_GAUGE_STAT, 8 * g + 6, 1⟩

/-- FALLBACKg: a bank of gauge g with a spare runs the fall-back check (R143, R145, Table 5.11). -/
def State.showFallback (s : State) (g : Nat) : State :=
  s.setFlag (fallbackFld g) (s.fallback g && (s.hasSpare (2 * g) || s.hasSpare (2 * g + 1)))

/-- The shadow estimator runs in bank b: the spare is in CAL and its target is not interpolated (R170, Tables 5.6, 6.7). -/
def State.shadowRuns (s : State) (b : Nat) : Bool :=
  let st := s.spareState b
  !(s.frozen) && (st == 0 || st == 3) && !(s.spareTaken b) && !(s.bankFg b) && s.pos b (s.bank b).target != 15

/-- The dwell count of a bank stops or goes on in a frame (R133). -/
def Bank.countDwell (x : Bank) (paused : Bool) (frame : Nat) : Bank :=
  match x.dwellFrom with
  | some a => if paused then { x with dwelt := x.dwelt + (frame - a), dwellFrom := none } else x
  | none => if paused then x else { x with dwellFrom := some frame }

/-- The shadow estimator's span of a bank ends in a frame. -/
def Bank.closeSpan (x : Bank) (frame : Nat) : Bank :=
  match x.calSpans with
  | (a, none) :: l => { x with calSpans := (a, some frame) :: l }
  | _ => x

/-- The shadow estimator starts or stops on the spare of a bank in a frame: it ignores the first 64 frames after a change
of phase (R132, R170). -/
def Bank.countSpan (x : Bank) (runs : Bool) (frame : Nat) : Bank :=
  match x.calSpans with
  | (_, none) :: _ => if runs then x else x.closeSpan frame
  | _ => if runs then { x with calSpans := (max frame (x.phaseAt + 64), none) :: x.calSpans } else x

/-- The spare of a bank changes its phase in a frame (R132). -/
def Bank.newPhase (x : Bank) (frame : Nat) : Bank := { x.closeSpan frame with phaseAt := frame }

/-- What counts while a bank's spare is as it stands: its dwell and the frames of the shadow estimator (R133, R170). -/
def State.countBank (s : State) (b : Nat) : State :=
  s.setBank b (((s.bank b).countDwell (s.rotPaused b) (s.frameNow false)).countSpan (s.shadowRuns b) (s.frameNow false))

/-- CNV_BANKb_STAT shows the bank as it stands (Table 5.14, R151). -/
def State.showStat (s : State) (b : Nat) : State :=
  let s1 := s.setFlag (F.CNV_BANK_STAT.INTERP b) (!(s.interps b).isEmpty)
  let s2 := s1.setFlag (F.CNV_BANK_STAT.CAL_FROZEN b) (!(s.hasSpare b))
  let s3 := s2.setFlag (F.CNV_BANK_STAT.SUSPECT b) ((s.bank b).suspect != 0)
  s3.setFld (F.CNV_BANK_STAT.SPARE_STATE b) (s.spareState b)

/-- A bank after any change that concerns its spare: its counts and what CNV_BANKb_STAT shows. -/
def State.showBank (s : State) (b : Nat) : State := (s.countBank b).showStat b

def State.showBanks (s : State) : State := s.each (List.range 8) State.showBank

/-- The codes in position j over the frames from f1 to f2, newest first: each with its first and last frame. -/
def codesIn (j f1 : Nat) : Nat → List EpochMap → List (Nat × Nat × Nat)
  | _, [] => []
  | f2, m :: l =>
    if f2 < f1 then []
    else if m.start ≤ f2 then
      (m.map.getD j 15, max m.start f1, f2) :: (if m.start = 0 then [] else codesIn j f1 (m.start - 1) l)
    else codesIn j f1 f2 l

/-- Position j of bank b lay in a degraded window of R36, R49, R84 or R147, or was interpolated (R148), in some frame from
f1 to f2: `sw` counts a switch-over among the causes. -/
def State.posMarked (s : State) (b j f1 f2 : Nat) (sw : Bool) : Bool :=
  (sw && s.degIn .switchOver f1 f2) || s.degIn (.offset (bankInput s.inp.route b)) f1 f2
    || s.degIn (.buffer (b / 2)) f1 f2
    || (codesIn j f1 f2 (s.bank b).maps).any (fun e => e.1 == 15 || s.degIn (.slice (13 * b + e.1)) e.2.1 e.2.2)

/-- A line that holds a sample of position j of bank b, strobed in a frame from f1 to f2, is degraded (Table 11.1): so are
those of a slipped crossing (Table 1.6) and those captured while PHASE_OK=0 in a twin of the interleave form (R464). -/
def State.posDegraded (s : State) (b j f1 f2 : Nat) (sw : Bool) : Bool :=
  s.posMarked b j f1 f2 sw || s.degIn (.crossing b) f1 f2 || s.degIn .phase f1 f2

/-- The slice that holds position j of bank b in a frame (R128); none where the position is interpolated. -/
def State.sliceIn (s : State) (b j frame : Nat) : Option Nat :=
  match (codesIn j frame frame (s.bank b).maps).head? with
  | some e => if e.1 = 15 then none else some (13 * b + e.1)
  | none => none

/-- An epoch of bank b has opened after frame f1, up to f2. -/
def State.epochIn (s : State) (b f1 f2 : Nat) : Bool := (s.bank b).maps.any (fun m => Nat.blt f1 m.start && Nat.ble m.start f2)

/-- A strobe in a frame of a slice of bank b lies in a degraded window of R36, R49 or R84 (R137). -/
def State.strobeDegraded (s : State) (b frame : Nat) : Bool :=
  s.degAt .switchOver frame || s.degAt (.offset (bankInput s.inp.route b)) frame || s.degAt (.buffer (b / 2)) frame

/-- The settings that a block takes at its start (R141, Table 6.6, Table 6.8). -/
def State.blockSettings (s : State) (g start : Nat) : Block :=
  ⟨s.reg R.CNV_CHK_CTL, s.reg R.CNV_CHK_THR, s.reg R.CAL_EST_CTL, s.reg (R.CAL_GAUGE_OFF g), s.reg (R.CAL_GAUGE_GAIN g), start⟩

/-- A write to a setting of the checks or estimators reaches the blocks that have not begun (R141). -/
def State.refreshBlocks (s : State) : State :=
  let now := s.frameNow true
  let s1 := s.each (List.range 4) (fun t g =>
    let x := t.gauge g
    if now < x.block.start then t.setGauge g { x with block := t.blockSettings g x.block.start } else t)
  s1.each (List.range 8) (fun t b =>
    let x := t.bank b
    if now < x.fbBlock.start then t.setBank b { x with fbBlock := t.blockSettings (b / 2) x.fbBlock.start } else t)

/-- Settings as they act (Table 5.9). -/
def Block.m (k : Block) : Nat := 2 ^ max 6 (min 10 (getBits k.chk 0 4))
def Block.n (k : Block) : Nat := max 1 (min k.m (getBits k.chk 8 8))
def Block.confirm (k : Block) : Bool := getBits k.chk 16 1 == 1
def Block.thresh (k : Block) : Nat := getBits k.thr 0 16
def Block.meanThresh (k : Block) : Nat := getBits k.thr 16 16
def Block.gleak (k : Block) : Nat := getBits k.est 8 3

/-- Bank and position of slot x of gauge g; position 12 is the spare (R135). -/
def slotBank (g x : Nat) : Nat := 2 * g + x / 13
def slotPos (x : Nat) : Nat := x % 13

/-- The physical slice of a slot, none where the sweep skips it (R135). -/
def State.slotSlice (s : State) (g x : Nat) : Option Nat :=
  let b := slotBank g x
  let k := if slotPos x = 12 then s.spare b else s.pos b (slotPos x)
  if k = 15 || !(s.flag (F.CNV_BANK_CTL.CHECK_EN b)) || !(s.flag (F.INP_REF_STAT.READY.bit g)) then none
  else some (13 * b + k)

def slotFld (g : Nat) : Fld := ⟨R.CNV_GAUGE_STAT, 8 * g, 5⟩
def windowFld (g : Nat) : Fld := ⟨R.CNV_GAUGE_STAT, 8 * g + 7, 1⟩

/-- A visit of gauge g to a slot starts in a frame: 64 settling frames, then a block (R135). -/
def State.visit (s : State) (g x frame : Nat) (extra : Bool) : State :=
  (s.setGauge g { s.gauge g with
    slice := s.slotSlice g x, confirming := false, inExtra := extra
    block := s.blockSettings g (frame + 64) }).setFld (slotFld g) x

/-- The first slot from x on that the sweep does not skip. -/
def State.nextSlot (s : State) (g x : Nat) : Nat → Option Nat
  | 0 => none
  | n + 1 => if (s.slotSlice g (x % 26)).isSome then some (x % 26) else s.nextSlot g (x + 1) n

/-- The sweep goes on at slot x; where every slot is skipped no visit runs. The extra visits of R144 come first. -/
def State.sweepFrom (s : State) (g x frame : Nat) : State :=
  let gg := s.gauge g
  match gg.extra.find? (fun e => (s.slotSlice g e).isSome) with
  | some e =>
    ((s.setGauge g { gg with
      extra := (gg.extra.dropWhile (fun y => !(y == e))).drop 1, resume := x }).visit g e frame true)
  | none =>
    match s.nextSlot g x 26 with
    | some y => (s.setGauge g { gg with extra := [] }).visit g y frame false
    | none => s.setGauge g { gg with extra := [], slice := none, inExtra := false }

/-- The slot at which the sweep stands. -/
def State.slot (s : State) (g : Nat) : Nat := s.fld (slotFld g)

/-- The slot of the sweep, whatever extra visit runs (R135, R144). -/
def State.sweepSlot (s : State) (g : Nat) : Nat := if (s.gauge g).inExtra then (s.gauge g).resume else s.slot g

/-- The visit of gauge g has ended: the next slot follows; after an extra visit the sweep resumes where it was. -/
def State.visitDone (s : State) (g frame : Nat) : State :=
  s.sweepFrom g (if (s.gauge g).inExtra then (s.gauge g).resume else s.slot g + 1) frame

/-- A gauge without a visit, all of whose slots were skipped, goes on from where its sweep stands as soon as a slot can be
checked (R135: a skipped slot takes no time). -/
def State.wakeSweep (s : State) (g frame : Nat) : State :=
  if (s.gauge g).slice.isNone && !(s.fallback g) && !(s.frozen) then s.sweepFrom g (s.sweepSlot g) frame else s

/-- Slots may have become ones to check: READY, CHECK_EN, or a spare (R135). -/
def State.wakeSweeps (s : State) : State := s.each (List.range 4) (fun t g => t.wakeSweep g (t.frameNow true + 1))

/-- REF_SETTLE_TIMER_EXPIRE (R48). -/
def execRefSettleTimerExpire (buffer : Fin 4) (level : Int) (s : State) : Host.Outcome State Fault Refusal :=
  s.act (fun t => (t.refSettled buffer level).wakeSweeps)

/-- REF_LEVEL_RECOVER (R49). -/
def execRefLevelRecover (buffer : Fin 4) (level : Int) (s : State) : Host.Outcome State Fault Refusal :=
  s.act (fun t => (t.refRecover buffer level).wakeSweeps)

/-- Every gauge starts its sweep again from slot 0 (R135). A block in progress at the end of a mode change goes without an
update of its statistics entry; until then it runs on over the routing switch (log entry 79). -/
def State.restartSweeps (s : State) (frame : Nat) : State :=
  s.each (List.range 4) (fun t g => (t.setGauge g { t.gauge g with extra := [] }).sweepFrom g 0 frame)

/-- c_s of a raw slice code (R136). -/
def sliceCode (gain off c : Int) : Int := roundShr (corrU gain off c) 4

/-- c_g of a raw gauge code, on the 16-bit scale (R136). -/
def gaugeCode (gain off c : Int) : Int := roundShr ((c * 16 - off) * gain * 4) 21

/-- c_s with the set of slice p applied in a frame, in the mode of that frame. -/
def State.sliceCode (s : State) (p frame : Nat) (c : Int) : Int :=
  Sys2Proof.Machine.sliceCode (s.corrApplied (s.modeAt frame) p 0 frame) (s.corrApplied (s.modeAt frame) p 1 frame) c

/-- Raw codes that exclude a comparison (R137). -/
def badSlice (c : Int) : Bool := c == 2047 || c == -2047 || c == -2048
def badGauge (c : Int) : Bool := c == 8191 || c == -8191

/-- One strobe of a gauge block on slice p in a frame: (d, c_g), none where the comparison is excluded (R136, R137). -/
def State.gaugeComp (s : State) (k : Block) (p frame : Nat) (x : Strobe) : Option (Int × Int) :=
  let c := selected x.c.toInt
  if s.strobeDegraded (p / 13) frame || badSlice c || badGauge x.ref.toInt then none
  else
    let cg := gaugeCode (getBits k.gain 0 18 : Nat) (signed 16 (getBits k.off 0 16)) x.ref.toInt
    some (s.sliceCode p frame c - cg, cg)

/-- One strobe of a fall-back block of incumbent p and spare q in a frame (R143). -/
def State.fallbackComp (s : State) (p q frame : Nat) (x : Strobe) : Option (Int × Int) :=
  let c := selected x.c.toInt
  let r := selected x.ref.toInt
  if s.strobeDegraded (p / 13) frame || badSlice c || badSlice r then none
  else some (s.sliceCode p frame c - s.sliceCode q frame r, 0)

/-- The comparisons of a block that count: strobe i is taken `step` * i frames after the block's start (R134, R143). -/
def compsOf (f : Nat → Strobe → Option (Int × Int)) (start step : Nat) (l : List Strobe) : List (Int × Int) :=
  ((List.range l.length).zip l).filterMap (fun e => f (start + step * e.1) e.2)

/-- The last frame of a block of n strobes. -/
def Block.last (k : Block) (step n : Nat) : Nat := k.start + step * n - 1

/-- The comparisons of a gauge block: a strobe every 16 frames (R134, R136, R137). -/
def State.gaugeComps (s : State) (g p : Nat) (l : List Strobe) : List (Int × Int) :=
  compsOf (s.gaugeComp (s.gauge g).block p) (s.gauge g).block.start 16 l

/-- The comparisons of a fall-back block of bank b with incumbent p and spare q: a strobe in every frame (R143). -/
def State.fallbackComps (s : State) (b p q : Nat) (l : List Strobe) : List (Int × Int) :=
  compsOf (s.fallbackComp p q) (s.bank b).fbBlock.start 1 l

def meanD (l : List (Int × Int)) : Int := roundDiv (sumInt (l.map (·.1))) l.length

def exceed (k : Block) (l : List (Int × Int)) : Nat := (l.filter (fun e => decide (k.thresh < e.1.natAbs))).length

/-- A completed block fails (R138). -/
def blockFails (k : Block) (l : List (Int × Int)) : Bool :=
  decide (k.n ≤ exceed k l) || decide (k.meanThresh < (meanD l).natAbs)

/-- The statistics entry of slice p after a completed block (Table 5.8). -/
def State.blockStats (s : State) (p src : Nat) (k : Block) (l : List (Int × Int)) : State :=
  let m := l.length
  let sm := sumInt (l.map (·.1))
  let sq := (sumInt (l.map (fun e => e.1 * e.1))).toNat
  let rms := roundSqrtQuot (((m * sq : Nat) : Int) - sm * sm).toNat (m * m)
  let s1 := (s.setFld (F.GSTAT_0.SEQ p) (s.fld (F.GSTAT_0.SEQ p) + 1)).setFld (F.GSTAT_0.ABANDONED p) 0
  let s2 := (s1.setFld (F.GSTAT_0.SRC p) src).setFld (F.GSTAT_0.MEAN_D p)
    (pattern 16 (clampInt (-32768) 32767 (meanD l)))
  let s3 := (s2.setFld (F.GSTAT_1.EXCEED p) (exceed k l)).setFld (F.GSTAT_1.RMS_D p) (satNat 65535 rms)
  let s4 := s3.setFld (F.GSTAT_2.MAXABS_D p) (satNat 65535 (l.foldl (fun a e => max a e.1.natAbs) 0))
  let s5 := if blockFails k l then s4.bumpSat (F.GSTAT_2.FAILS p) 1 else s4
  s5.bump (R.GSTAT_3 p)

/-- The statistics entry of slice p after an abandoned block (Table 5.8). -/
def State.abandonStats (s : State) (p src : Nat) : State :=
  ((s.setFld (F.GSTAT_0.SEQ p) (s.fld (F.GSTAT_0.SEQ p) + 1)).setFld (F.GSTAT_0.ABANDONED p) 1).setFld
    (F.GSTAT_0.SRC p) src

/-- A block in progress on gauge g before a frame is abandoned; its visit ends (R137). A visit still in its settling frames
ends without an update (log entry 79). -/
def State.abandonGauge (s : State) (g frame : Nat) : State :=
  let x := s.gauge g
  let s1 := match x.slice with
    | some p => if x.block.start < frame then s.abandonStats p 0 else s
    | none => s
  s1.setGauge g { x with slice := none, confirming := false }

/-- The fall-back visit of bank b ends; a block in progress before a frame is abandoned: slice p is the incumbent (R137). -/
def State.abandonFallback (s : State) (b p frame : Nat) : State :=
  let x := s.bank b
  if x.fbOn then
    (if x.fbBlock.start < frame then s.abandonStats p 1 else s).setBank b { x with fbOn := false }
  else s

/-- The slice in the position that the fall-back check of bank b visits. -/
def State.fbSlice (s : State) (b : Nat) : Nat := 13 * b + s.pos b (s.bank b).fbPos

/-- The logical position of a slice for an event: 0x7F for a spare (Table 5.17). -/
def State.eventPos (s : State) (p : Nat) : Nat :=
  match s.positionOf (p / 13) (p % 13) with
  | some j => 12 * (p / 13) + j
  | none => 0x7F

/-- Slice p becomes suspect after a failing block whose last frame is F0: its samples are degraded from the frame after it
(R139, R144, R147). -/
def State.makeSuspect (s : State) (p : Nat) (fb : Bool) (exc first f0 : Nat) : State :=
  let b := p / 13
  let x := s.bank b
  let s1 := (s.setBank b { x with suspect := putBit x.suspect (p % 13) true }).setReg64 (R.CNV_FAULT_IDX_LO b) first
  ((s1.degOn (.slice p) (f0 + 1)).showBank b).raisePF 107
    (p + (if fb then 128 else 0) + 2 ^ 8 * s.eventPos p + 2 ^ 16 * satNat 255 exc)

/-- The suspect state of slice p clears, and with it the declaration of its fault; `frame` is the first whose samples it
no longer degrades (R139, R147). -/
def State.clearSuspect (s : State) (p frame : Nat) : State :=
  let b := p / 13
  let x := s.bank b
  ((s.setBank b { x with suspect := putBit x.suspect (p % 13) false, declared := putBit x.declared (p % 13) false }).degOff
    (.slice p) frame).showBank b

/-- A slice counts as retired (R146). -/
def State.retire (s : State) (p : Nat) : State := s.setFlag ((F.CNV_BANK_STAT.RETIRED (p / 13)).bit (p % 13)) true

/-- A decided change of a bank's map (Table 5.12). -/
def State.pushChange (s : State) (b : Nat) (c : Change) : State :=
  let x := s.bank b
  (s.setBank b { x with changes := x.changes ++ [c] }).showBank b

/-- The bank's changes without its spare, lost at the end of frame F0: a fill is dropped, a substitution becomes an
interpolation (Table 5.12). -/
def State.dropSpare (s : State) (b f0 : Nat) : State :=
  let x := s.bank b
  s.setBank b { x with changes := (x.changes.filter (fun c => c.faulted.isSome)).map (fun c =>
    if c.code = 15 then c else { c with code := 15, earliest := min c.earliest (f0 + 1) }) }

/-- The fault of a spare at the end of frame F0 (R149). A fall-back block in progress ends with it. -/
def State.spareFault (s : State) (p f0 : Nat) (auto : Bool) : State :=
  let b := p / 13
  if auto then
    let s0 := s.abandonFallback b (s.fbSlice b) (f0 + 1)
    let x := s0.bank b
    let s1 := ((s0.retire p).setFld (F.CNV_MAP_HI.SPARE b) 15).setBank b { x with
      rotDue := none, suspect := putBit x.suspect (p % 13) false, declared := putBit x.declared (p % 13) false }
    (((s1.dropSpare b f0).showFallback (b / 2)).showBank b).raisePF 108 (p + 2 ^ 8 * 0x7F + 2 ^ 16 * 0x7F)
  else
    let x := s.bank b
    (s.setBank b { x with declared := putBit x.declared (p % 13) true }).raisePF 108
      (p + 2 ^ 8 * 0x7F + 2 ^ 16 * 0x7F + 2 ^ 31)

/-- The substitution that a slice of a higher number has been given at the end of the same frame (R150). -/
def Bank.rival (x : Bank) (p f0 : Nat) : Option Change :=
  x.changes.find? (fun c => c.code != 15 && c.f0 == f0 && (match c.faulted with
    | some q => Nat.blt p q
    | none => false))

/-- The fault of a slice in service in position j at the end of frame F0 (Table 5.12). Of two in one frame the lower slice
is handled first, whichever is declared first: it takes the spare, and the other's position becomes interpolated (R150). -/
def State.serviceFault (s : State) (p j f0 : Nat) (auto cmd : Bool) : State :=
  let b := p / 13
  let sp := s.spare b
  if !auto then
    let x := s.bank b
    (s.setBank b { x with declared := putBit x.declared (p % 13) true }).raisePF 108
      (p + 2 ^ 8 * (12 * b + j) + 2 ^ 16 * p + 2 ^ 31)
  else match (s.bank b).rival p f0 with
    | some c =>
      let x := s.bank b
      ((s.retire p).setBank b { x with changes := x.changes.map (fun d =>
        if d = c then { c with code := 15, earliest := f0 + 1 } else d) }).pushChange b ⟨j, c.code, some p, f0, f0 + 65, cmd⟩
    | none =>
      if s.hasSpare b && !(s.suspect (13 * b + sp)) && (s.interps b).isEmpty && !(s.spareTaken b) then
        let s1 := (s.retire p).setBank b (({ s.bank b with rotDue := none }).newPhase (f0 + 1))
        s1.pushChange b ⟨j, sp, some p, f0, f0 + 65, cmd⟩
      else (s.retire p).pushChange b ⟨j, 15, some p, f0, f0 + 1, cmd⟩

/-- A fault is declared on slice p at the end of frame F0; `forced` by RETIRE (R146, R149, R152, Tables 22.1 and
22.2). -/
def State.declareFault (s : State) (p f0 : Nat) (forced : Bool) : State :=
  let b := p / 13
  let auto := forced || s.flag (F.CNV_BANK_CTL.AUTO_SUB b)
  let code := if s.hasSpare b then 0x0001 else 0x0101
  if s.retired p then s
  else if s.spare b == p % 13 then (s.spareFault p f0 auto).fault code p
  else match s.positionOf b (p % 13) with
    | some j => (s.serviceFault p j f0 auto forced).fault code p
    | none => s

/-- The estimate of a completed gauge block for its slice (R166). -/
def State.gaugeEstimate (s : State) (p frame : Nat) (k : Block) (l : List (Int × Int)) : State :=
  let m := s.modeAt frame
  let gain := s.corrApplied m p 0 frame
  let off := s.corrApplied m p 1 frame
  let n := l.length
  let ro := clampInt (-32768) 32767 (meanD l)
  let sz := sumInt (l.map (·.2))
  let z := l.map (fun e => (n : Int) * e.2 - sz)
  let zz := sumInt (z.map (fun a => a * a))
  let dz := sumInt (List.zipWith (fun e a => e.1 * a) l z)
  let offT := off + (if gain = 0 then 0 else roundRat (16 * ro * 2 ^ 17 / (gain * 2 ^ k.gleak : Int)))
  let gainT := gain - roundRat ((gain * dz * n : Int) / (zz * 2 ^ k.gleak : Int))
  let s1 := s.applyEstimate p frame 2
    (if zz < 65536 * n * n * n then [(1, offT)] else [(1, offT), (0, gainT)])
  { s1 with cal := { s1.cal with gaugeEsts := SMap.set zero8 s1.cal.gaugeEsts p (SMap.get zero8 s1.cal.gaugeEsts p + 1) } }
where zero8 : Nat → Nat := fun _ => 0

/-- The verdict of a gauge block on slice p (R138, R139, R152). -/
def State.gaugeVerdict (s : State) (g p f0 first : Nat) (k : Block) (l : List (Int × Int)) : State :=
  let b := p / 13
  if blockFails k l then
    if s.suspect p then
      let s1 := if natBit (s.bank b).declared (p % 13) then s else s.declareFault p f0 false
      s1.visitDone g (f0 + 1)
    else
      let s1 := s.makeSuspect p false (exceed k l) first f0
      if k.confirm then
        s1.setGauge g { s1.gauge g with confirming := true, block := s1.blockSettings g (f0 + 1) }
      else (s1.declareFault p f0 false).visitDone g (f0 + 1)
  else
    let s1 := if s.suspect p then s.clearSuspect p (f0 + 1) else s
    let s2 := match (s1.interps b).head? with
      | some j =>
        if s1.spare b == p % 13 && !(s1.spareTaken b) then
          (s1.setBank b ((s1.bank b).newPhase (f0 + 1))).pushChange b ⟨j, p % 13, none, f0, f0 + 65, false⟩
        else s1
      | none => s1
    s2.visitDone g (f0 + 1)

/-- The position at whose phase gauge g strobes: for a spare its target (R135). -/
def State.visitPos (s : State) (g : Nat) : Nat :=
  if slotPos (s.slot g) = 12 then (s.bank (slotBank g (s.slot g))).target else slotPos (s.slot g)

/-- The sample index of the first sample of position j of bank b in a frame (R40, R104). -/
def State.positionIdx (s : State) (b j frame : Nat) : Nat :=
  let m := s.modeAt frame
  let b0 := ((inputBanks m (bankInput m b)).head?).getD 0
  (s.frameIdx frame).toNat + banksPer m * j + (b - b0)

/-- The strobes of a gauge block that stands on slice p and ends in the present core cycle. -/
def State.blockRuns (s : State) (g : Nat) (l : List Strobe) : Bool :=
  !(s.fallback g) && !(s.frozen) && s.inCycle ((s.gauge g).block.last 16 l.length)

/-- A gauge block ends with M valid comparisons (R138 to R140, R166): a strobe every 16 frames from its start, so that it
ends with the sixteenth frame of the last. -/
def State.gaugeBlockEnd (s : State) (g : Nat) (l : List Strobe) : State :=
  let k := (s.gauge g).block
  match (s.gauge g).slice with
  | some p =>
    let comps := s.gaugeComps g p l
    let f0 := k.last 16 l.length
    if s.blockRuns g l && comps.length == k.m then
      let s1 := s.blockStats p 0 k comps
      let s2 := if s.bankFg (p / 13) then s1 else s1.gaugeEstimate p f0 k comps
      s2.gaugeVerdict g p f0 (s.positionIdx (p / 13) (s.visitPos g) k.start) k comps
    else s
  | none => s

def execGaugeBlockEnd (gauge : Fin 4) (strobes : List Strobe) (s : State) : Host.Outcome State Fault Refusal :=
  s.act (fun t => t.gaugeBlockEnd gauge strobes)

/-- The position after j that a fall-back sweep visits: interpolated positions have no incumbent. -/
def State.fbNext (s : State) (b j : Nat) : Nat :=
  match ((List.range 12).map (fun i => (j + 1 + i) % 12)).find? (fun i => s.pos b i != 15) with
  | some i => i
  | none => 0

/-- A fall-back visit starts in a frame (R143). -/
def State.fbVisit (s : State) (b j frame : Nat) : State :=
  s.setBank b (({ s.bank b with fbOn := true, fbPos := j, fbBlock := s.blockSettings (b / 2) (frame + 64) }).newPhase frame)

/-- A fall-back block of bank b runs, and its strobes end in the present core cycle. -/
def State.fbRuns (s : State) (b : Nat) (l : List Strobe) : Bool :=
  (s.bank b).fbOn && s.spareState b == 1 && !(s.frozen) && s.inCycle ((s.bank b).fbBlock.last 1 l.length)

/-- The comparisons of the fall-back block of bank b. -/
def State.fbComps (s : State) (b : Nat) (l : List Strobe) : List (Int × Int) :=
  s.fallbackComps b (s.fbSlice b) (13 * b + s.spare b) l

/-- A gauge block has taken 4 M strobes without M valid comparisons: no verdict, the next slot follows (R137). -/
def State.gaugeAbandon (s : State) (g : Nat) (l : List Strobe) : State :=
  let k := (s.gauge g).block
  match (s.gauge g).slice with
  | some p =>
    if s.blockRuns g l && l.length == 4 * k.m && Nat.blt (s.gaugeComps g p l).length k.m then
      (s.abandonStats p 0).visitDone g (k.last 16 l.length + 1)
    else s
  | none => s

/-- The same of a fall-back block (R137, R143). -/
def State.fbAbandon (s : State) (b : Nat) (l : List Strobe) : State :=
  let k := (s.bank b).fbBlock
  if s.fbRuns b l && l.length == 4 * k.m && Nat.blt (s.fbComps b l).length k.m then
    (s.abandonStats (s.fbSlice b) 1).fbVisit b (s.fbNext b (s.bank b).fbPos) (k.last 1 l.length + 1)
  else s

/-- GAUGE_BLOCK_ABANDON (R137): units 0 to 3 are gauges, 4 to 11 the fall-back checks of the banks. -/
def State.blockAbandon (s : State) (u : Nat) (l : List Strobe) : State :=
  if u < 4 then s.gaugeAbandon u l else s.fbAbandon (u - 4) l

def execGaugeBlockAbandon (unit : Fin 12) (strobes : List Strobe) (s : State) : Host.Outcome State Fault Refusal :=
  s.act (fun t => t.blockAbandon unit strobes)

/-- A fall-back block of bank b fails on slice p, which becomes suspect (R144, R548). -/
def State.fbFail (s : State) (b p exc f0 : Nat) : State :=
  let x := s.bank b
  let t := s.setBank b { x with fbFailed := putBit x.fbFailed x.fbPos true }
  let t1 := if t.suspect p then t else t.makeSuspect p true exc (s.positionIdx b x.fbPos x.fbBlock.start) f0
  if s.flag (F.HLTH_STAT.GAUGE_FAIL.bit (b / 2)) then t1.fault 0x0102 p else t1

/-- A fall-back block of bank b ends with M valid comparisons, one strobe a frame (R143, R144). -/
def State.fallbackBlockEnd (s : State) (b : Nat) (l : List Strobe) : State :=
  let k := (s.bank b).fbBlock
  let f0 := k.last 1 l.length
  let p := s.fbSlice b
  let comps := s.fbComps b l
  if s.fbRuns b l && comps.length == k.m then
    let s1 := s.blockStats p 1 k comps
    let s2 := if blockFails k comps then s1.fbFail b p (exceed k comps) f0 else s1
    s2.fbVisit b (s2.fbNext b (s.bank b).fbPos) (f0 + 1)
  else s

def execFallbackBlockEnd (bank : Fin 8) (strobes : List Strobe) (s : State) : Host.Outcome State Fault Refusal :=
  s.act (fun t => t.fallbackBlockEnd bank strobes)

/-- The banks of gauge g start the fall-back check: the gauge's block is abandoned; `s` already shows the cause
(R137, R143). E110 names a bank without spare when a window begins (R145). -/
def State.fallbackStart (s : State) (g : Nat) (window : Bool) : State :=
  let now := s.frameNow true
  let s1 := (s.abandonGauge g (now + 1)).showFallback g
  s1.each [2 * g, 2 * g + 1] (fun t b =>
    let t1 := if t.hasSpare b then (t.setBank b { t.bank b with fbFailed := 0 }).fbVisit b (t.fbNext b 11) (now + 1)
      else if window then t.raisePF 110 b else t
    t1.showBank b)

/-- The slots that gauge g visits after a fall-back check: the positions of R144 and then the bank's spare. -/
def State.extraSlots (s : State) (g : Nat) : List Nat :=
  [0, 1].flatMap (fun h =>
    let x := s.bank (2 * g + h)
    if x.fbFailed = 0 then []
    else ((List.range 12).filter (fun j => natBit x.suspect (s.pos (2 * g + h) j))).map (fun j => 13 * h + j)
      ++ [13 * h + 12])

/-- The cause of the fall-back check of gauge g has ended (R137, R144): blocks in progress are abandoned, the spares return
to CAL and the gauge goes on; where another cause still holds, nothing changes. -/
def State.fallbackEnd (s : State) (g : Nat) : State :=
  if s.fallback g then s
  else
    let next := s.frameNow true + 1
    let s1 := s.showFallback g
    let s2 := s1.setGauge g { s1.gauge g with extra := s1.extraSlots g }
    let s3 := s2.each [2 * g, 2 * g + 1] (fun t b =>
      let t1 := t.abandonFallback b (t.fbSlice b) next
      (t1.setBank b (({ t1.bank b with fbFailed := 0 }).newPhase next)).showBank b)
    if s.frozen then s3 else s3.sweepFrom g (s3.sweepSlot g) next

/-- Another gauge is in its window. -/
def State.anyWindow (s : State) : Bool := (List.range 4).any (fun g => s.flag (windowFld g))

/-- Core cycles of a window: 50 ms at the increment in force, rounded up (R142, log entry 80). -/
def State.windowLen (s : State) : Nat := ceilDiv (2 ^ 64) (20 * s.incNow.toNat)

/-- A window of gauge g begins. -/
def State.windowBegin (s : State) (g : Nat) : State :=
  let was := s.fallback g
  let s1 := (s.setGauge g { s.gauge g with
    winStart := some s.time.elapsed, winEnd := s.time.cycle + s.windowLen, winDue := false }).setFlag (windowFld g) true
  if was then s1.each [2 * g, 2 * g + 1] (fun t b => if t.hasSpare b then t else t.raisePF 110 b)
  else s1.fallbackStart g true

/-- 500 ms of elapsed time, in 2^-64 s. -/
def halfSecond : Nat := 2 ^ 63

/-- A window point of gauge g lies after the tide time of the core cycle before and at or before that of the present one
(R142). Tide time runs forward by less than half its range. -/
def State.windowPoint (s : State) (g : Nat) : Bool :=
  let a : Int := s.time.before
  let d := signed 104 (((s.time.tide : Int) - a) % (2 ^ 104 : Nat)).toNat
  decide (0 < d) && decide ((a - (g * 2 ^ 62 : Nat)) / (2 ^ 64 : Nat) < (a + d - (g * 2 ^ 62 : Nat)) / (2 ^ 64 : Nat))

/-- A window of gauge g falls due in the present core cycle and is not skipped: SAMPLE runs, and 500 ms have passed since
the start of its last window (R142). -/
def State.windowFalls (s : State) (g : Nat) : Bool :=
  s.windowPoint g && !(s.frozen) && (match (s.gauge g).winStart with
    | some t => decide (t + halfSecond ≤ s.time.elapsed)
    | none => true)

/-- A window of gauge g falls due (R142): it waits while another gauge's window runs or a lower gauge's falls due with it. -/
def State.windowDue (s : State) (g : Nat) : State :=
  if s.windowFalls g then
    if s.anyWindow || (List.range g).any s.windowFalls then s.setGauge g { s.gauge g with winDue := true }
    else s.windowBegin g
  else s

def execGaugeWindowStart (gauge : Fin 4) (s : State) : Host.Outcome State Fault Refusal :=
  s.act (fun t => t.windowDue gauge)

/-- The five ladder levels in steps of 0.1 V (R167). -/
def ladderLevels : List Int := [-2, -1, 0, 1, 2]

/-- The least-squares line through five mean codes (sums of 4,096 codes): offset = the mean code; slope = levels per
code, where one level step is `step` codes of the corrected scale (R167). Answers (offset, gain) as rationals. -/
def ladderFit (step : Rat) (sums : List Int) : Rat × Rat :=
  let c : List Rat := sums.map (fun (x : Int) => (x : Rat) / 4096)
  let mean := c.foldl (· + ·) 0 / 5
  let num := (List.zipWith (fun (x : Rat) (l : Int) => (x - mean) * (l : Rat) * step) c ladderLevels).foldl (· + ·) 0
  let den := (c.map (fun x => (x - mean) * (x - mean))).foldl (· + ·) 0
  (mean, if den = 0 then 0 else num / den)

/-- The sum of squared residuals over the five levels. -/
def ladderResidual (step off gain : Rat) (sums : List Int) : Rat :=
  (List.zipWith (fun (x : Int) (l : Int) =>
    let r := gain * ((x : Rat) / 4096 - off) - (l : Rat) * step
    r * r) sums ladderLevels).foldl (· + ·) 0

/-- One ladder step of 0.1 V in 14-bit codes (0.5 V is 2^14 codes), and in units of 1/16 of a 16-bit code. -/
def gaugeStep : Rat := 16384 / 5
def sliceStep : Rat := 65536 * 16 / 5

/-- The fit sets CAL_GAUGEg (R167): OFF in Q12.4, GAIN in UQ1.17. -/
def State.gaugeFit (s : State) (g : Nat) (sums : List Int) : State :=
  let (off, gain) := ladderFit gaugeStep sums
  (s.setFld (F.CAL_GAUGE_OFF.OFF g) (pattern 16 (clampInt (-32768) 32767 (roundRat (16 * off))))).setFld
    (F.CAL_GAUGE_GAIN.GAIN g) (clampInt 0 262143 (roundRat (131072 * gain))).toNat

/-- The fit of a window fails (R547). -/
def fitFails (sums : List Int) : Bool :=
  let (off, gain) := ladderFit gaugeStep sums
  decide (gain < 98 / 100) || decide (102 / 100 < gain) || decide (64 * 5 < ladderResidual gaugeStep off gain sums)

/-- The judgement of a fit: the second failing one in a row marks the gauge failed (R547). -/
def State.judgeFit (s : State) (g : Nat) (sums : List Int) : State :=
  let n := if fitFails sums then (s.gauge g).badFits + 1 else 0
  let s1 := s.setGauge g { s.gauge g with badFits := n }
  if 2 ≤ n && !(s1.flag (F.HLTH_STAT.GAUGE_FAIL.bit g)) then
    (s1.setFlag (F.HLTH_STAT.GAUGE_FAIL.bit g) true).fault 0x0002 g
  else s1

/-- Of the windows that wait, the lowest gauge's starts in the core cycle that begins, once no window runs (R142). -/
def State.nextWindow (s : State) : State :=
  if s.anyWindow then s
  else match (List.range 4).find? (fun g => (s.gauge g).winDue) with
    | some g => s.windowBegin g
    | none => s

/-- The window of gauge g ends with its last core cycle (R142, R167, R547). -/
def State.windowEnd (s : State) (g : Nat) (sums : List Int) : State :=
  if s.flag (windowFld g) && Nat.ble (s.gauge g).winEnd (s.time.cycle + 1) then
    (((s.gaugeFit g sums).judgeFit g sums).setFlag (windowFld g) false).fallbackEnd g
  else s

def execGaugeWindowEnd (gauge : Fin 4) (ladder : List Int) (s : State) : Host.Outcome State Fault Refusal :=
  s.act (fun t => t.windowEnd gauge ladder)

/-- The frame at which the dwell of a bank, counting on, has lasted its 2^DWELL frames (R131). -/
def Bank.dwellOver (x : Bank) : Option Nat := x.dwellFrom.map (fun a => a + (2 ^ x.dwell - x.dwelt))

/-- DWELL_END: the rotation handover of the bank falls due once the dwell count has reached 2^DWELL by the end of the
present core cycle, unless a pause of Table 5.6 holds (R131, R133). -/
def State.dwellEnd (s : State) (b : Nat) : State :=
  match (s.bank b).dwellOver with
  | some f => if s.rotPaused b || Nat.blt (s.frameNow true + 1) f then s else s.setBank b { s.bank b with rotDue := some f }
  | none => s

def execDwellEnd (bank : Fin 8) (s : State) : Host.Outcome State Fault Refusal := s.act (fun t => t.dwellEnd bank)

/-- DWELL as it acts: from 16 to 26 (Table 5.7). -/
def State.dwellExp (s : State) : Nat := max 16 (min 26 (s.fld F.CNV_ROT_CTL.DWELL))

/-- A dwell starts in a frame: it takes the setting in force (Table 5.7), and the spare its new phase (R132). -/
def State.startDwell (s : State) (b frame : Nat) : State :=
  s.setBank b (({ s.bank b with
    dwell := s.dwellExp, dwelt := 0, dwellFrom := some frame, rotDue := none }).newPhase frame)

/-- A new epoch of bank b opens in a frame: the map's number and the spacing of the next (R126 to R128). -/
def State.newEpoch (s : State) (b frame : Nat) : State :=
  let e := (s.fld (F.CNV_MAP_HI.EPOCH b) + 1) % 256
  let x := s.bank b
  ((s.setFld (F.CNV_MAP_HI.EPOCH b) e).setBank b { x with
    epochAt := some frame, maps := ⟨frame, e, s.bankMap b⟩ :: x.maps })

/-- The position's slice has changed: the gauge's block on a slice that moved is abandoned, and the next slot follows (R137,
log entry 79), and the position counts as changed for the neighbour interval (R168). -/
def State.positionChanged (s : State) (b j frame : Nat) : State :=
  let g := b / 2
  let s1 := { s with cal := { s.cal with moved := (12 * b + j) :: s.cal.moved.filter (fun x => x != 12 * b + j) } }
  let x := s1.gauge g
  match x.slice with
  | some p =>
    if slotBank g (s1.slot g) = b && s1.slotSlice g (s1.slot g) != some p then
      (s1.abandonGauge g frame).visitDone g frame
    else s1
  | none => s1.wakeSweep g frame

/-- The fall-back check of bank b when a change c of its map opens in a frame (R137): a block on a slice that moves, the
incumbent or the spare, is abandoned; the check goes on at the next position while the bank keeps its spare. `p` is the
incumbent before the change. -/
def State.fbMoved (s : State) (b p frame : Nat) (c : Change) : State :=
  let x := s.bank b
  if x.fbOn && (c.code != 15 || c.pos == x.fbPos) then
    let s1 := s.abandonFallback b p frame
    if c.code = 15 && s.hasSpare b then s1.fbVisit b (s1.fbNext b x.fbPos) frame else s1
  else s

/-- A decided change of the map comes into force in a frame (Table 5.4, R146, R148). -/
def State.openChange (s : State) (b frame : Nat) (c : Change) : State :=
  let x := s.bank b
  let s1 := s.setBank b { x with changes := x.changes.erase c }
  let s2 := (s1.setFld (posFld b c.pos) c.code).newEpoch b frame
  let s3 := if c.code = 15 then s2 else s2.setFld (F.CNV_MAP_HI.SPARE b) 15
  let s4 := match c.faulted with
    | some p =>
      let t := (s3.clearSuspect p frame).setReg64 (R.CNV_SUB_IDX_LO b) (s.positionIdx b c.pos frame)
      (t.bump R.CNV_SUBST_COUNT).raisePF (if c.code = 15 then 109 else 108)
        (p + 2 ^ 8 * (12 * b + c.pos) + (if c.code = 15 then 0 else 2 ^ 16 * (13 * b + c.code)))
    | none => s3
  let s5 := if c.command then s4.setFlag F.CNV_CMD_STAT.PENDING false else s4
  (((s5.fbMoved b (s.fbSlice b) frame c).positionChanged b c.pos frame).showFallback (b / 2)).showBank b

/-- A gauge block that involves slice p is in progress (R131). -/
def State.blockOn (s : State) (b p frame : Nat) : Bool :=
  let x := s.gauge (b / 2)
  x.slice == some p && Nat.ble x.block.start frame

/-- The rotation handover of bank b into its target position (R130, R131). -/
def State.rotate (s : State) (b frame : Nat) : State :=
  let x := s.bank b
  let j := x.target
  let sp := s.spare b
  let inc := s.pos b j
  let s1 := ((s.setFld (posFld b j) sp).setFld (F.CNV_MAP_HI.SPARE b) inc).newEpoch b frame
  let s2 := (s1.setBank b { s1.bank b with target := (j + 1) % 12 }).startDwell b frame
  (s2.positionChanged b j frame).showBank b

/-- A decided change opens before another: by its frame, and of one frame the lower slice first (Table 5.12, R150). -/
def Change.before (d c : Change) : Bool :=
  decide (d.earliest < c.earliest) || (d.earliest == c.earliest && decide (d.faulted.getD 104 < c.faulted.getD 104))

/-- The decided change that falls due first (Table 5.12). -/
def firstDue : List Change → Option Change
  | [] => none
  | c :: l => match firstDue l with
    | some d => some (if d.before c then d else c)
    | none => some c

/-- EPOCH_OPEN: the change of bank b that is due opens at a frame boundary which meets the spacing of R127. -/
def State.epochOpen (s : State) (b : Nat) (odd : Bool) : State :=
  let frame := s.frameNow odd
  let x := s.bank b
  let spaced := match x.epochAt with
    | some e => Nat.ble (e + 64) frame
    | none => true
  if s.frozen || !spaced then s
  else match firstDue x.changes with
    | some c => if c.earliest ≤ frame then s.openChange b frame c else s
    | none =>
      if (x.rotDue.any (fun d => Nat.ble d frame)) && !(s.rotPaused b) && !(s.suspect (13 * b + s.spare b))
        && !(s.blockOn b (13 * b + s.spare b) frame) && !(s.blockOn b (13 * b + s.pos b x.target) frame)
      then s.rotate b frame else s

def execEpochOpen (bank : Fin 8) (odd : Bool) (s : State) : Host.Outcome State Fault Refusal :=
  s.act (fun t => t.epochOpen bank odd)

/-- The first frame in a new mode or after SAMPLE restarts: an epoch of every bank opens, and every dwell restarts
(Table 5.3, Table 5.6). -/
def State.openAllEpochs (s : State) : State :=
  s.each (List.range 8) (fun t b =>
    ((t.newEpoch b (t.frameNow false)).startDwell b (t.frameNow false)).showBank b)

/-- The first frame after reset: the epoch of the built map, EPOCH 0, begins in every bank (R153). -/
def State.openFirstEpochs (s : State) : State :=
  s.each (List.range 8) (fun t b =>
    let x := t.bank b
    ((t.setBank b { x with epochAt := some (t.frameNow false) }).startDwell b (t.frameNow false)).showBank b)

/-- SAMPLE stops: blocks are abandoned and rotations end (R137, Table 5.6). -/
def State.stopChecks (s : State) : State :=
  let s1 := s.each (List.range 4) (fun t g => t.abandonGauge g (t.frameNow false))
  s1.each (List.range 8) (fun t b =>
    let t1 := t.abandonFallback b (t.fbSlice b) (t.frameNow false)
    (t1.setBank b { t1.bank b with rotDue := none }).showBank b)

/-- SAMPLE starts while the fall-back check of a gauge is to run: its banks start a visit at their next position (R143, log
entry 79). -/
def State.resumeFallback (s : State) : State :=
  s.each (List.range 8) (fun t b =>
    if t.fallback (b / 2) && t.hasSpare b then (t.fbVisit b (t.fbNext b (t.bank b).fbPos) (t.frameNow false)).showBank b
    else t)

/-- A command has been judged: its result; PENDING while a change that it decided has not opened (Table 5.15). -/
def State.cmdResult (s : State) (r : Nat) (b : Nat) : State :=
  (s.setFld F.CNV_CMD_STAT.RESULT r).setFlag F.CNV_CMD_STAT.PENDING ((s.bank b).changes.any (fun c => c.command))

/-- Changes that an earlier command decided are no longer the last command's. -/
def State.forgetCommand (s : State) : State :=
  s.each (List.range 8) (fun t b =>
    let x := t.bank b
    t.setBank b { x with changes := x.changes.map (fun c => { c with command := false }) })

/-- RETIRE of slice p (R152). The first frame of the present core cycle is the F0 of its fault (log entry 8). -/
def State.cnvRetire (s : State) (p : Nat) : State :=
  if p < 104 && !(s.retired p) then
    (s.forgetCommand.declareFault p (s.frameNow false) true).cmdResult 0 (p / 13)
  else s.cmdResult 2 8

def execCnvRetire (slice : BitVec 7) (s : State) : Host.Outcome State Fault Refusal :=
  s.act (fun t => t.atReg R.CNV_CMD (fun u => u.cnvRetire slice.toNat))

/-- A readmitted slice is its bank's spare in CAL state at target position 0 (R152), at once: one whose interpolation has
not yet opened serves its position until then as well (log entry 81). -/
def State.readmit (s : State) (p : Nat) : State :=
  let b := p / 13
  let x := s.bank b
  let s1 := (s.setFlag ((F.CNV_BANK_STAT.RETIRED b).bit (p % 13)) false).setFld (F.CNV_MAP_HI.SPARE b) (p % 13)
  let s2 := (s1.setBank b { x with
    target := 0, suspect := putBit x.suspect (p % 13) false, declared := putBit x.declared (p % 13) false }).startDwell b
    (s.frameNow false)
  let s3 := if s2.fallback (b / 2) then s2.fbVisit b (s2.fbNext b 11) (s2.frameNow true + 1) else s2
  (((s3.showFallback (b / 2)).showBank b).wakeSweeps).raisePF 111 p

/-- READMIT of slice p (R152). -/
def State.cnvReadmit (s : State) (p : Nat) : State :=
  if p < 104 && s.retired p then
    if s.bankInUse (p / 13) then s.cmdResult 1 8
    else if s.hasSpare (p / 13) then s.cmdResult 3 8
    else (s.forgetCommand.readmit p).cmdResult 0 8
  else s.cmdResult 2 8

def execCnvReadmit (slice : BitVec 7) (s : State) : Host.Outcome State Fault Refusal :=
  s.act (fun t => t.atReg R.CNV_CMD (fun u => u.cnvReadmit slice.toNat))

/-- A write to CNV_CMD (R152). -/
def State.cnvCmd (s : State) (v : Word) : State :=
  match getBits v 28 4 with
  | 1 => s.cnvRetire (getBits v 0 7)
  | 2 => s.cnvReadmit (getBits v 0 7)
  | _ => s.cmdResult 2 8

end Sys2Proof.Machine
end

