-- ==== Sys2Proof/Machine/Equaliser.lean ====
section
/-!
DEFINITION. The equaliser and the channel delays (ch. 07): the FIR, the fade laws, the fractional delay, the words at the
tap point, and the meanings of EQ_COEFF_WRITE, EQ_SWAP, EQ_FADE_END and EQ_CLIP.
-/
namespace Sys2Proof.Machine

/-- First entry and number of entries in use, T, in a mode (Table 7.1). -/
def eqTaps : Nat → Nat × Nat
  | 0 => (32, 64) | 1 => (16, 96) | _ => (0, 128)

/-- The equaliser's output for the coefficients of the entries in use and the words they meet, `x` the word at the
output's own index (R183). -/
def eqOutput (coeffs words : List Int) (x : Int) : Int :=
  if x = -32768 then -32768
  else sat16 (roundShr (dot coeffs (words.map (fun w => if w = -32768 then 0 else w))) 15)

/-- pi in units of 2^-96, truncated. -/
def piFix : Nat := 248902227321475494573714541580

/-- The sine of x (both in units of 2^-96, x from 0 to pi) by its series: term i, from the last term up. -/
def sineTerms (x : Int) : Nat → Int → Int → Int
  | 0, _, acc => acc
  | n + 1, t, acc =>
    let k : Int := 2 * (24 - (n : Int))
    let t' := -(t * x / 2 ^ 96 * x / 2 ^ 96) / (k * (k + 1))
    sineTerms x n t' (acc + t')

/-- sin(pi a / b) for 0 ≤ a ≤ b, in units of 2^-96. -/
def sinePi (a b : Nat) : Int :=
  let x : Int := ((piFix * a / b : Nat) : Int)
  sineTerms x 24 x x

/-- w(m) of a fade of L frames in UQ1.16 (Table 7.2): linear, or raised cosine, which is the square of
sin(pi m / (2 L)). -/
def fadeWeight (law m l : Nat) : Int :=
  if l ≤ m then 65536
  else match law with
    | 0 => roundDiv (65536 * m) l
    | 1 => let q := sinePi m (2 * l)
      roundDiv (q * q) (2 ^ 176)
    | _ => 65536

/-- A coefficient in a fade (R187). -/
def fadeCoeff (a b w : Int) : Int := a + roundShr ((b - a) * w) 16

/-- The zeroth-order modified Bessel function of the first kind at 2 sqrt(y), y rational, by its series. -/
def besselTerms (y : Rat) : Nat → Nat → Rat → Rat → Rat
  | 0, _, _, acc => acc
  | n + 1, k, t, acc =>
    let t' : Rat := ((t * y / (k * k : Nat)) * 2 ^ 80).floor / 2 ^ 80
    besselTerms y n (k + 1) t' (acc + t')

def bessel (y : Rat) : Rat := besselTerms y 30 1 1 1

/-- g(k - f/256) of R190, up to a factor common to all k: sinc times the Kaiser window with beta = 5 over |u| ≤ 4. -/
def fracKernel (f : Nat) (k : Int) : Rat :=
  let u : Rat := (k : Rat) - (f : Rat) / 256
  let s : Rat := (sinePi f 256 : Rat) / 2 ^ 96
  (if k % 2 = 0 then -s else s) / u * bessel (25 / 4 * (1 - u * u / 16))

/-- The index of the largest element of a list in magnitude, the first where several are. -/
def largestAt (l : List Int) : Nat :=
  let m := l.foldl (fun a x => max a x.natAbs) 0
  l.findIdx (fun x => x.natAbs == m)

/-- Phase f of the ROM, k = -3 .. 4 (R190). -/
def fracRom (f : Nat) : List Int :=
  if f = 0 then [0, 0, 0, 65536, 0, 0, 0, 0]
  else
    let g := (List.range 8).map (fun (i : Nat) => fracKernel f ((i : Int) - 3))
    let total := g.foldl (· + ·) 0
    let r := g.map (fun x => roundRat (65536 * (x / total)))
    r.modify (largestAt r) (fun x => x + (65536 - sumInt r))

/-- The fractionally delayed word from the eight equaliser outputs e[i - k], k = -3 .. 4 (R190). -/
def fracOutput (rom : List Int) (e : List Int) : Int :=
  if e.getD 3 0 = -32768 then -32768
  else sat16 (roundShr (dot rom (e.map (fun w => if w = -32768 then 0 else w))) 16)

/-- D of the integer delay: whole core cycles (R192). -/
def delayCycles (n s : Nat) : Nat := ceilDiv n s

def State.delayCycles (s : State) (n : Nat) : Nat := Sys2Proof.Machine.delayCycles (s.fld (F.EQ_DELAY.INT n)) s.perCycle

/-- The first index of input n at the tap point after the present core cycle (Table 1.8). -/
def State.tapNext (s : State) (n : Nat) : Nat := s.nextAt (43 + s.delayCycles n)

/-- INT and FRAC at an index from the writes to EQ_DELAYn, newest first, and the delay after them (R195). -/
def delayAt (i : Nat) (now : Nat × Nat) : List DelayStep → Nat × Nat
  | [] => now
  | d :: l => if d.start ≤ i then now else delayAt i (d.int, d.frac) l

/-- INT and FRAC of the word of input n with index i. -/
def State.delayOf (s : State) (n i : Nat) : Nat × Nat :=
  delayAt i (s.fld (F.EQ_DELAY.INT n), s.fld (F.EQ_DELAY.FRAC n)) (SMap.get (fun _ => []) s.dec.delays n)

/-- INT and FRAC are written: they act from the first frame at the tap point after the present core cycle (R195). -/
def State.setDelay (s : State) (n int frac : Nat) : State :=
  let d : DelayStep := ⟨s.tapNext n, s.fld (F.EQ_DELAY.INT n), s.fld (F.EQ_DELAY.FRAC n)⟩
  let s1 := (s.setFld (F.EQ_DELAY.INT n) int).setFld (F.EQ_DELAY.FRAC n) frac
  { s1 with dec := { s1.dec with
    delays := SMap.set (fun _ => []) s.dec.delays n (d :: SMap.get (fun _ => []) s.dec.delays n) } }

/-- The word of input n with index i at the tap point, as the first consumer to receive it has (R23). -/
def State.heard (s : State) (n i : Nat) : Option (BitVec 16) := SMap.get (fun _ => none) s.dec.words (4 * i + n)

/-- A consumer receives the word of input n with index i: the one on record, or `w`, which then stands on record for every
other consumer (R23, log entry 86). -/
def State.hear (s : State) (n i : Nat) (w : BitVec 16) : BitVec 16 × State :=
  match s.heard n i with
  | some x => (x, s)
  | none => (w, { s with dec := { s.dec with words := SMap.set (fun _ => none) s.dec.words (4 * i + n) (some w) } })

/-- A consumer receives words of input n from index i on. -/
def State.hearAll (s : State) (n i : Nat) : List (BitVec 16) → List (BitVec 16) × State
  | [] => ([], s)
  | w :: l =>
    let a := s.hear n i w
    let b := a.2.hearAll n (i + 1) l
    (a.1 :: b.1, b.2)

/-- Words of indices from a number on, which may lie before index 0: those below 0 were never strobed. -/
def State.hearFrom (s : State) (n : Nat) (i : Int) (l : List (BitVec 16)) : List (BitVec 16) × State :=
  let a := s.hearAll n i.toNat (l.drop (-i).toNat)
  (l.take (-i).toNat ++ a.1, a.2)

/-- Bank k of input n in the table memory (R185). -/
def coeffFld (n k t : Nat) : Fld := F.EQ_COEFF.C (2 * n + k) t

/-- The fades of input n, newest first. -/
def State.fades (s : State) (n : Nat) : List Fade := SMap.get (fun _ => []) s.dec.fades n

def State.setFades (s : State) (n : Nat) (l : List Fade) : State :=
  { s with dec := { s.dec with fades := SMap.set (fun _ => []) s.dec.fades n l } }

/-- A fade has reached its target in a frame (R187, R189). -/
def Fade.over (x : Fade) (frame : Nat) : Bool :=
  Nat.ble (x.start + x.length) frame || (match x.cut with
    | some c => Nat.ble c frame
    | none => false)

/-- The coefficient of entry t in a frame from the fades, newest first, and the coefficient after them (R187). -/
def coeffIn (t frame : Nat) (new : Int) : List Fade → Int
  | [] => new
  | x :: l =>
    let old := x.old.getD t 0
    if x.start ≤ frame then
      (if x.over frame then new else fadeCoeff old new (fadeWeight x.law (frame - x.start + 1) x.length))
    else coeffIn t frame old l

/-- The bank that the newest fade of input n goes to, and that is active once it is over. -/
def State.eqBank (s : State) (n : Nat) : Nat :=
  if s.flag (F.EQ_STAT.FADING n) then s.fld (F.EQ_STAT.FADE_TARGET n) else s.fld (F.EQ_STAT.ACTIVE n)

/-- The coefficient of entry t applied at a frame (R187). -/
def State.coeff (s : State) (n t frame : Nat) : Int :=
  coeffIn t frame (s.sfld (coeffFld n (s.eqBank n) t)) (s.fades n)

/-- A fade ends: the target bank is active and E115 is raised (R187). -/
def State.fadeOver (s : State) (n : Nat) : State :=
  if s.flag (F.EQ_STAT.FADING n) then
    let b := s.fld (F.EQ_STAT.FADE_TARGET n)
    ((s.setFld (F.EQ_STAT.ACTIVE n) b).setFlag (F.EQ_STAT.FADING n) false).raisePF 115 (n + 16 * b)
  else s

/-- The fade of input n ends with the present core cycle or has ended before it. -/
def State.fadeDue (s : State) (n : Nat) : Bool :=
  match (s.fades n).head? with
  | some x => x.over (s.frameNow true)
  | none => true

/-- A fade whose end has come ends. -/
def State.settleFade (s : State) (n : Nat) : State := if s.fadeDue n then s.fadeOver n else s

/-- Bank k of input n is live (R186). -/
def State.bankLive (s : State) (n k : Nat) : Bool := s.fld (F.EQ_STAT.ACTIVE n) == k || s.flag (F.EQ_STAT.FADING n)

/-- EQ_COEFF_WRITE (R186). -/
def State.coeffWrite (s : State) (n k t : Nat) (v : Word) : State :=
  let u := s.settleFade n
  if u.bankLive n k then (u.setFlag (F.EQ_STAT.WR_DISCARD n) true).raisePF 117 (n + 16 * k)
  else u.setFld (coeffFld n k t) (getBits v 0 18)

def execEqCoeffWrite (input : Fin 4) (bank : Fin 2) (entry : Fin 128) (value : Word) (s : State) :
    Host.Outcome State Fault Refusal :=
  s.act (fun t => t.atReg (R.EQ_COEFF (2 * input.val + bank.val) entry) (fun u => u.coeffWrite input bank entry value))

/-- Frames of a fade: values of FADE_EXP below 4 act as 4, above 16 as 16; laws 2 and 3 are immediate (Tables 7.2, 7.4). -/
def fadeLength (law exp : Nat) : Nat := if 2 ≤ law then 1 else 2 ^ max 4 (min 16 exp)

/-- A fade towards the other bank starts at the frame boundary that begins the present core cycle: EQ_CTLn as it stands
takes effect (R187, R189, log entry 8). -/
def State.fadeStart (s : State) (n : Nat) : State :=
  let a := s.fld (F.EQ_STAT.ACTIVE n)
  let law := s.fld (F.EQ_CTL.FADE_LAW n)
  let x : Fade := { start := s.frameNow false, length := fadeLength law (s.fld (F.EQ_CTL.FADE_EXP n)), law := law,
                    old := (List.range 128).map (fun t => s.sfld (coeffFld n a t)) }
  let s1 := s.setFades n (x :: s.fades n)
  let s2 := (s1.setFlag (F.EQ_STAT.FADING n) true).setFld (F.EQ_STAT.FADE_TARGET n) (1 - a)
  s2.setReg64 (R.EQ_FADE_IDX_LO n) s.time.idx

/-- The queue of swap requests of input n. -/
def State.eqQueue (s : State) (n : Nat) (k : Option Nat) : State :=
  match k with
  | some b => (s.setFlag (F.EQ_STAT.PENDING n) true).setFld (F.EQ_STAT.PENDING_BANK n) b
  | none => (s.setFlag (F.EQ_STAT.PENDING n) false).setFld (F.EQ_STAT.PENDING_BANK n) 0

/-- A swap request acts at the next frame boundary, or no longer does. -/
def State.setDue (s : State) (n : Nat) (b : Bool) : State :=
  { s with dec := { s.dec with swapDue := putBit s.dec.swapDue n b } }

/-- Requests wait while SAMPLE is stopped or a mode change runs (R189). -/
def State.eqWaits (s : State) : Bool := s.frozen || s.flag F.INP_MODE_STAT.CHANGING

/-- A swap request for bank k (Table 7.3, R189), judged after the end of a fade that ends in its frame (R188). -/
def State.eqRequest (s : State) (n k : Nat) : State :=
  let u := s.settleFade n
  if u.flag (F.EQ_STAT.FADING n) then
    if u.fld (F.EQ_STAT.FADE_TARGET n) = k then u.eqQueue n none else u.eqQueue n (some k)
  else if u.fld (F.EQ_STAT.ACTIVE n) = k then (if u.eqWaits then u.eqQueue n none else u)
  else if u.eqWaits then u.eqQueue n (some k)
  else u.setDue n true

/-- A write to EQ_SWAPn: without REQ it has no effect. -/
def State.eqSwap (s : State) (n : Nat) (v : Word) : State :=
  if getBits v 31 1 = 1 then s.eqRequest n (getBits v 0 1) else s

def execEqSwap (input : Fin 4) (value : Word) (s : State) : Host.Outcome State Fault Refusal :=
  s.act (fun t => t.atReg (R.EQ_SWAP input) (fun u => u.eqSwap input value))

/-- The bank of the request that acts at a frame boundary: one made for it, or the queued one (Table 7.3, R189). -/
def State.eqAsked (s : State) (n : Nat) : Option Nat :=
  if natBit s.dec.swapDue n then some (1 - s.fld (F.EQ_STAT.ACTIVE n))
  else if s.flag (F.EQ_STAT.PENDING n) then some (s.fld (F.EQ_STAT.PENDING_BANK n)) else none

/-- A frame boundary with no fade running: the request that waits acts (Table 7.3, R189). -/
def State.eqBegin (s : State) (n : Nat) : State :=
  if s.eqWaits || s.flag (F.EQ_STAT.FADING n) then s
  else match s.eqAsked n with
    | some k =>
      let s1 := (s.setDue n false).eqQueue n none
      if k = s.fld (F.EQ_STAT.ACTIVE n) then s1 else s1.fadeStart n
    | none => s

/-- The frame boundary that begins a core cycle, in every equaliser. -/
def State.eqBoundary (s : State) : State := s.each (List.range 4) State.eqBegin

/-- EQ_FADE_END (R187, R188): the frame in which the fade ends has come. -/
def execEqFadeEnd (input : Fin 4) (s : State) : Host.Outcome State Fault Refusal := s.act (fun t => t.settleFade input)

/-- A running fade of input n ends at its target, from a frame on; a request that would have acted at the next boundary
is queued (R189). -/
def State.endFade (frame : Nat) (s : State) (n : Nat) : State :=
  let s1 := if s.flag (F.EQ_STAT.FADING n) then
      (s.setFades n ((s.fades n).modify 0 (fun x => if x.over frame then x else { x with cut := some frame }))).fadeOver n
    else s
  if natBit s1.dec.swapDue n then (s1.setDue n false).eqQueue n (some (1 - s1.fld (F.EQ_STAT.ACTIVE n))) else s1

/-- SAMPLE stops or a mode change starts: running fades end at their targets (R189). -/
def State.endFades (s : State) (frame : Nat) : State := s.each (List.range 4) (State.endFade frame)

/-- EQ_CLIP (R184): raised again only after CLIP has been cleared. The equaliser of an input that the mode does not sample
does not run (R181). -/
def State.eqClip (s : State) (n : Nat) : State :=
  if sampledIn s.inp.route n then (s.bump (R.EQ_CLIP_COUNT n)).raiseOnce (F.EQ_STAT.CLIP n) 118 n routePF else s

def execEqClip (input : Fin 4) (s : State) : Host.Outcome State Fault Refusal := s.act (fun t => t.eqClip input)

end Sys2Proof.Machine
end

