-- ==== Sys2Proof/Machine/SymbolStat.lean ====
section
/-!
DEFINITION. The symbol trigger's configuration (ch. 10): the applied words, their validity, and what SYM_STAT shows of
them.
-/
namespace Sys2Proof.Machine

/-- The applied word i of Tables 10.3 to 10.5: 0 CTL, 1 UI, 2 to 4 thresholds, 5 PAT_CTL, 6 and up the pattern (R276). -/
def State.sw (s : State) (i : Nat) : Word := dwAt s.trg.sym i
def State.symF (s : State) (i lo w : Nat) : Nat := getBits (s.sw i) lo w

def State.symEn (s : State) : Bool := s.symF 0 31 1 == 1
def State.symInput (s : State) : Nat := s.symF 0 28 2

/-- The reason for which the applied configuration is invalid; 0: valid (R260, R261, R277). -/
def State.symReason (s : State) : Nat :=
  let ui := (s.sw 1).toNat
  let symbols : Rat := s.sampleHz * (2 ^ 22 : Nat)
  if s.isFollower then 3
  else if decide (ui * 10 < 22 * 2 ^ 22) || decide ((120000000000 : Nat) * (ui : Rat) < symbols) then 1
  else if decide (symbols < (1000000000 : Nat) * (ui : Rat)) then 2
  else if s.compat && s.symEn then 4 else 0

/-- EN=1 and the configuration valid. -/
def State.symActive (s : State) : Bool := s.symEn && s.symReason == 0

def State.symIdle (s : State) : Bool := !(sampledIn s.inp.route s.symInput)

/-- The symbol trigger withholds its firings: the D of its input has been raised above the D_T that is held (R273, R226). -/
def State.symLate (s : State) : Bool := s.symActive && !s.symIdle && natBit s.trg.lateIns s.symInput

/-- SRC_IDLE and LATE of SYM_STAT (R261, R273). -/
def State.showSymLate (s : State) : State :=
  (s.setFlag F.SYM_STAT.SRC_IDLE s.symIdle).setFlag F.SYM_STAT.LATE s.symLate

/-- SYM_STAT shows the applied configuration (Table 10.6). -/
def State.showSym (s : State) : State :=
  let r := s.symReason
  ((s.setFld F.SYM_STAT.CFG_REASON r).setFlag F.SYM_STAT.CFG_ERR (r != 0)).showSymLate.setFlag F.SYM_STAT.ACTIVE s.symActive

end Sys2Proof.Machine
end

