-- ==== Sys2Proof/Machine/Detectors.lean ====
section
/-!
DEFINITION. The trigger detectors (ch. 08): digital lines, comparators, detector types, patterns, qualification and
merging, and the meanings of DETECTOR_FIRING, TRG_APPLY and TRG_PTH_WRITE.
-/
namespace Sys2Proof.Machine

def State.det (s : State) (k : Nat) : DetSt := SMap.get (fun _ => {}) s.trg.dets k

def State.setDet (s : State) (k : Nat) (d : DetSt) : State :=
  { s with trg := { s.trg with dets := SMap.set (fun _ => {}) s.trg.dets k d } }

/-- Detector k begins anew with a configuration that acts at once; an APPLY that has not acted yet falls. -/
def State.newDet (s : State) (k : Nat) (d : DetSt) : State :=
  let s1 := s.setDet k d
  { s1 with trg := { s1.trg with coming := SMap.set (fun _ => none) s1.trg.coming k none } }

/-- Detector k is to begin anew at an index (R233, R469). -/
def State.detFrom (s : State) (k i : Nat) (d : DetSt) : State :=
  { s with trg := { s.trg with coming := SMap.set (fun _ => none) s.trg.coming k (some (i, d)) } }

/-- Detector k as last applied (R233): the one that is to act, or the one that acts. -/
def State.applied (s : State) (k : Nat) : DetSt :=
  match SMap.get (fun _ => none) s.trg.coming k with
  | some e => e.2
  | none => s.det k

/-- The applied words of a detector and their fields (Tables 8.5 and 8.6). -/
def DetSt.w (d : DetSt) (i : Nat) : Word := dwAt d.cfg i
def DetSt.en (d : DetSt) : Bool := getBits (d.w 0) 31 1 == 1
def DetSt.qualEn (d : DetSt) : Bool := getBits (d.w 0) 30 1 == 1
def DetSt.qualInv (d : DetSt) : Bool := getBits (d.w 0) 29 1 == 1
def DetSt.type (d : DetSt) : Nat := getBits (d.w 0) 24 4
def DetSt.src (d : DetSt) : Nat := getBits (d.w 0) 16 5
def DetSt.patFn (d : DetSt) : Nat := getBits (d.w 0) 14 2
def DetSt.dcond (d : DetSt) : Nat := getBits (d.w 0) 8 3
def DetSt.dscale (d : DetSt) : Nat := getBits (d.w 0) 4 4
def DetSt.qualSel (d : DetSt) : Nat := getBits (d.w 0) 0 4
def DetSt.levelLo (d : DetSt) : Int := signed 16 (getBits (d.w 1) 0 16)
def DetSt.levelHi (d : DetSt) : Int := signed 16 (getBits (d.w 1) 16 16)
def DetSt.hyst (d : DetSt) : Int := (getBits (d.w 2) 0 16 : Nat)
def DetSt.dlo (d : DetSt) : Nat := (d.w 3).toNat
def DetSt.dhi (d : DetSt) : Nat := (d.w 4).toNat

/-- SLOPE as it acts: 3 acts as 2 except for LEVEL (R221). -/
def DetSt.slope (d : DetSt) : Nat :=
  let x := getBits (d.w 0) 12 2
  if x = 3 && d.type != 6 then 2 else x

/-- A pattern code; 6 and 7 act as 0 (Table 8.4). -/
def patCode (w : Word) (i : Nat) : Nat :=
  let c := getBits w (3 * i) 3
  if 5 < c then 0 else c

/-- The pattern's code for source code n of Table 8.1. -/
def DetSt.code (d : DetSt) (n : Nat) : Nat :=
  if n < 4 then patCode (d.w 5) n
  else if n < 8 then patCode (d.w 7) (n - 4)
  else if n < 12 then patCode (d.w 5) (n - 4)
  else if n < 21 then patCode (d.w 6) (n - 12) else 0

/-- The module is the leader of a twin in the input form: codes 4 to 7 name the follower's inputs (R210). -/
def State.twin8 (s : State) : Bool := s.fld F.PAIR_STAT.ROLE == 1 && !(s.flag F.PAIR_STAT.FORM)

/-- A term of the pattern names an input of the follower. -/
def DetSt.patC (d : DetSt) : Bool := (List.range 4).any (fun i => d.code (4 + i) != 0)

/-- The reason for which a configuration is invalid; 0: valid (R221, R222, R223, R232). -/
def DetSt.reason (d : DetSt) (twin : Bool) : Nat :=
  if 8 ≤ d.type then 1
  else if d.type = 7 then
    if d.patC && !twin then 2
    else if (List.range 21).all (fun n => d.code n == 0) then 5 else 0
  else if 21 ≤ d.src || (4 ≤ d.src && d.src < 8 && !twin) then 2
  else if 8 ≤ d.src then
    (if d.type = 0 || d.type = 1 || d.type = 4 || (d.type = 6 && d.slope < 2) then 0 else 4)
  else if (d.type = 2 || d.type = 3 || d.type = 5 || (d.type = 6 && 2 ≤ d.slope)) && !(decide (d.levelLo < d.levelHi))
    then 3 else 0

/-- The detector runs in the follower: its source or a term of its pattern is one of the follower's inputs. -/
def DetSt.remote (d : DetSt) : Bool := if d.type = 7 then d.patC else 4 ≤ d.src && d.src < 8

/-- A pattern mixes remote and local terms (R455). -/
def DetSt.mixed (d : DetSt) : Bool := d.type == 7 && d.patC && (List.range 21).any (fun n => (Nat.blt n 4 || Nat.blt 7 n) && d.code n != 0)

/-- The reason for which a detector's configuration is invalid, with the conditions of R455 in a twin. -/
def State.reasonOf (s : State) (d : DetSt) : Nat :=
  let r := d.reason s.twin8
  if r != 0 || !s.twin8 then r
  else if d.mixed || (d.qualEn && (s.applied d.qualSel).remote != d.remote) || (d.remote && d.fifth) then 2 else 0

/-- The reason for which the applied configuration of detector k is invalid (R232). -/
def State.detReason (s : State) (k : Nat) : Nat := s.reasonOf (s.applied k)

/-- EN=1 and the configuration valid, of the configuration that acts. -/
def State.detActive (s : State) (k : Nat) : Bool := (s.det k).en && s.reasonOf (s.det k) == 0

/-- D_P (R458). -/
def State.dP (s : State) : Nat := if s.joined && !(s.flag F.PAIR_STAT.FORM) then s.dL + 2 else 0

/-- Core cycles added to D_T until a decision reaches the module's acquisition sequencer (R458, R461). -/
def State.twinLag (s : State) : Nat := s.dP + (if s.isFollower then s.dL else 0)

/-- The words of input n reach the detectors: it is sampled and its injector is not connected (R53, R211). -/
def State.observed (s : State) (n : Nat) : Bool := sampledIn s.inp.route n && !(natBit (s.fld F.INP_STAT.INJ) n)

/-- The module's own inputs that a detector uses. -/
def DetSt.uses (d : DetSt) (n : Nat) : Bool := if d.type = 7 then d.code n != 0 else d.src == n

/-- The largest D among the module's own sampled inputs (R225). -/
def State.ownDT (s : State) : Nat :=
  (List.range 4).foldl (fun a n => if sampledIn s.inp.route n then max a (s.delayCycles n) else a) 0

/-- D_T as the delays stand: the largest D among the sampled inputs, of both modules of a twin (R225, R458). -/
def State.liveDT (s : State) : Nat := max s.ownDT (if s.joined then s.pair.partnerDT else 0)

/-- D_T in force (R226). -/
def State.dT (s : State) : Nat := if s.anyArmed then s.trg.dT else s.liveDT

/-- A detector withholds its firings: it uses an input whose D has been raised above the D_T that is held (R226). -/
def State.lateOf (s : State) (d : DetSt) : Bool :=
  d.en && s.reasonOf d == 0 && (List.range 4).any (fun n =>
    d.uses n && sampledIn s.inp.route n && natBit s.trg.lateIns n)

/-- The inputs that a write of EQ_DELAYn makes late, while D_T is held (R226). -/
def State.markLate (s : State) (n : Nat) : State :=
  if s.anyArmed && Nat.blt s.trg.dT (s.delayCycles n) then
    { s with trg := { s.trg with lateIns := putBit s.trg.lateIns n true } } else s

/-- D_T is recomputed while no context is armed: no input is late (R226). -/
def State.recomputeDT (s : State) : State :=
  if s.anyArmed then s else { s with trg := { s.trg with dT := s.liveDT, lateIns := 0 } }

/-- The stages of context n's sequence (R236). -/
def State.stages (s : State) (n : Nat) : List Nat := List.range (s.fld (F.TRG_AC_SEQ.NSTAGES n) + 1)

/-- Bits of the masks of stage j: detectors 15:0 and the symbol trigger (R237). -/
def State.advMask (s : State) (n j : Nat) : Nat := getBits (s.reg (R.TRG_AC_STG_ADV n j)) 0 17
def State.rstMask (s : State) (n j : Nat) : Nat := getBits (s.reg (R.TRG_AC_STG_RST n j)) 0 17

/-- A bit is named by a stage of context n's sequence. -/
def State.seqNames (s : State) (n d : Nat) : Bool :=
  (s.stages n).any (fun j => natBit (s.advMask n j) d || natBit (s.rstMask n j) d)

/-- The detectors of a list together with those that qualify them. -/
def State.withQualifiers (s : State) (l : List Nat) : Nat → List Nat
  | 0 => l
  | m + 1 =>
    let q := (l.filter (fun k => (s.applied k).qualEn)).map (fun k => (s.applied k).qualSel)
    s.withQualifiers (l ++ q.filter (fun k => !(l.contains k))) m

/-- Detectors used by an armed context (R226). -/
def State.usedDets (s : State) : List Nat :=
  s.withQualifiers ((List.range 16).filter (fun d =>
    (List.range 4).any (fun n => s.armed n && s.seqNames n d))) 16

def State.detUsed (s : State) (k : Nat) : Bool := s.usedDets.contains k

/-- The staged words of a detector. -/
def State.detStaged (s : State) (k : Nat) : List Word := (List.range 8).map (fun i => s.reg (R.TRG_TD_CFG k + 4 * i))

/-- State of a detector after the last index processed (Table 8.3, R224). -/
def State.detState (s : State) (k : Nat) : Bool :=
  let d := s.det k
  let inside := d.lo.q && !d.hi.q
  if !(s.detActive k) then false
  else match d.type with
    | 3 => inside
    | 6 => (match d.slope with
      | 0 => d.lo.q
      | 1 => !d.lo.q
      | 2 => inside
      | _ => !inside)
    | 7 => d.res
    | _ => d.lo.q

/-- A detector's analogue source is not sampled (R211). -/
def State.idleOf (s : State) (d : DetSt) : Bool := d.type != 7 && Nat.blt d.src 4 && !(sampledIn s.inp.route d.src)

def State.srcIdle (s : State) (k : Nat) : Bool := s.idleOf (s.det k)

/-- TRG_TDk_STAT shows the detector as applied, and the state after the last index processed (Table 8.7). -/
def State.showDet (s : State) (k : Nat) : State :=
  let d := s.applied k
  let s1 := s.setFlag (F.TRG_TD_STAT.STAGED k) (!s.isFollower && s.detStaged k != d.cfg)
  let s2 := s1.setFlag (F.TRG_TD_STAT.CFG_ERR k) (s.detReason k != 0)
  let s3 := (s2.setFlag (F.TRG_TD_STAT.SRC_IDLE k) (s.idleOf d)).setFlag (F.TRG_TD_STAT.LATE k) (s.lateOf d)
  (s3.setFlag (F.TRG_TD_STAT.STATE k) (s.detState k && !(s.srcIdle k))).setFlag (F.TRG_TD_STAT.ACTIVE k)
    (d.en && s.detReason k == 0)

/-- Every detector, and what the symbol trigger shares with them (R273). -/
def State.showDets (s : State) : State := (s.each (List.range 16) State.showDet).showSymLate

/-- A detector starts again (R217, R222). -/
def DetSt.restarted (d : DetSt) : DetSt := { cfg := d.cfg, fifth := d.fifth }

/-- An APPLY acts at an index: detector k takes its new values and restarts (R233). -/
def State.takeOver (s : State) (k i : Nat) : State :=
  match SMap.get (fun _ => none) s.trg.coming k with
  | some e => if e.1 ≤ i then s.newDet k e.2 else s
  | none => s

/-- SAMPLE starts: every APPLY acts, every comparator and detector restarts, and edges that wait for an index that was not
strobed are gone (R214, R217). -/
def State.restartDets (s : State) : State :=
  let u := s.each (List.range 16) (fun t k => t.takeOver k (2 ^ 64))
  (({ u with trg := { u.trg with
    dets := u.trg.dets.map (fun (e : Nat × DetSt) => (e.1, e.2.restarted)), pth := [], prev := [], edges := []
    zeros := [] } })).showDets

/-- One word at a comparator of level v and hysteresis h: the comparator after it and its crossings, true for rising
(R216, R217). -/
def cmpStep (v h : Int) (c : Cmp) (x : Int) : Cmp × List Bool :=
  if x = -32768 then ({ c with rise := false, fall := false }, [])
  else
    let r := (!c.restart && c.rise) || decide (x < v - h)
    let f := (!c.restart && c.fall) || decide (v + h < x)
    if c.restart then ({ q := decide (v ≤ x), rise := r, fall := f, restart := false }, [])
    else
      let up := r && decide (v ≤ x)
      let down := f && decide (x ≤ v)
      ({ q := if down then false else if up then true else c.q, rise := r && !up, fall := f && !down, restart := false },
        (if up then [true] else []) ++ (if down then [false] else []))

/-- A comparator without its arming flags, as after an invalid word (R217). -/
def Cmp.disarmed (c : Cmp) : Cmp := { c with rise := false, fall := false }

def DetSt.disarmed (d : DetSt) : DetSt := { d with lo := d.lo.disarmed, hi := d.hi.disarmed }

/-- A crossing instant in 1/16 sample (R218). -/
def crossInstant (i : Nat) (v xp x : Int) : Int :=
  16 * ((i : Int) - 1) + ((16 * (v - xp).natAbs / (x - xp).natAbs : Nat) : Int)

/-- Trigger index and fraction of an analogue crossing (R246). -/
def crossTrigger (i : Nat) (v xp x : Int) : Nat × Nat :=
  let f := 1024 * (v - xp).natAbs / (x - xp).natAbs
  if f = 1024 then (i, 0) else (i - 1, f)

/-- A crossing that a detector sees at an index: of HI, rising, its instant in 1/16 sample, its trigger index and
fraction. -/
structure Crossing where
  hi : Bool
  rising : Bool
  at16 : Int
  tIdx : Nat
  frac : Nat
deriving DecidableEq, Repr

/-- A duration of 1/16 samples in units of R219 meets DCOND (Table 8.2). -/
def DetSt.meets (d : DetSt) (span : Int) : Bool :=
  let w := satNat (2 ^ 32 - 1) (span.toNat / 2 ^ d.dscale)
  match d.dcond with
  | 1 => Nat.blt w d.dlo
  | 2 => Nat.blt d.dhi w
  | 3 => Nat.ble d.dlo w && Nat.ble w d.dhi
  | 4 => Nat.blt w d.dlo || Nat.blt d.dhi w
  | _ => true

/-- A measurement begun at `a` ends at `b` and meets DCOND. -/
def DetSt.span (d : DetSt) (a : Option Int) (b : Int) : Bool :=
  match a with
  | some x => d.meets (b - x)
  | none => false

/-- SLOPE chooses direction 0 or 1, or both. -/
def DetSt.dir (d : DetSt) (k : Nat) : Bool := d.slope == k || d.slope == 2

/-- The effect of one crossing on the measurements and whether the detector fires (Table 8.3). -/
def DetSt.cross (d : DetSt) (c : Crossing) : DetSt × Bool :=
  let t := c.at16
  match c.hi, c.rising with
  | false, true =>
    ({ d with up := some t, down := none, hiRose := false, slewUp := some t, since := t, fired := false },
      match d.type with
      | 0 => d.dir 0
      | 1 => d.dir 1 && d.span d.down t
      | _ => false)
  | false, false =>
    ({ d with up := none, down := some t, loFell := true, slewUp := none, slewDown := none, since := t, fired := false },
      match d.type with
      | 0 => d.dir 1
      | 1 => d.dir 0 && d.span d.up t
      | 2 => d.dir 0 && !d.hiRose && d.span d.up t
      | 5 => d.dir 1 && d.span d.slewDown t
      | _ => false)
  | true, true =>
    ({ d with hiRose := true, hiDown := none, slewUp := none, slewDown := none },
      match d.type with
      | 2 => d.dir 1 && !d.loFell && d.span d.hiDown t
      | 5 => d.dir 0 && d.span d.slewUp t
      | _ => false)
  | true, false => ({ d with hiDown := some t, loFell := false, slewDown := some t }, false)

/-- The crossings of one index in their order: rising LO then HI, falling HI then LO. -/
def orderCrossings (lo hi : List Crossing) : List Crossing :=
  lo.filter (·.rising) ++ hi.filter (·.rising) ++ hi.filter (fun c => !c.rising) ++ lo.filter (fun c => !c.rising)

/-- The first crossing of a list that makes the detector fire, and the detector after all of them. -/
def DetSt.crossAll (d : DetSt) : List Crossing → DetSt × Option Crossing
  | [] => (d, none)
  | c :: l =>
    let r := d.cross c
    let q := r.1.crossAll l
    (q.1, if r.2 then some c else q.2)

/-- WINDOW after the crossings of index i (R220). -/
def DetSt.window (d d' : DetSt) (i : Nat) (l : List Crossing) : DetSt × Option (Nat × Nat) :=
  let inside := d'.lo.q && !d'.hi.q
  if d.restart then ({ d' with res := inside, since := 16 * (i : Int) }, none)
  else if inside == d.res then ({ d' with since := d.since }, none)
  else match l.getLast? with
    | some c => ({ d' with res := inside, since := c.at16 },
        if d.dir (if inside then 0 else 1) && d.meets (c.at16 - d.since) then some (c.tIdx, c.frac) else none)
    | none => ({ d' with res := inside, since := d.since }, none)

/-- TIMEOUT at index i (Table 8.3). -/
def DetSt.timeout (d : DetSt) (i : Nat) : DetSt × Option (Nat × Nat) :=
  let high := d.lo.q
  let w := satNat (2 ^ 32 - 1) ((16 * (i : Int) - d.since).toNat / 2 ^ d.dscale)
  if !d.fired && !d.lo.restart && d.dir (if high then 0 else 1) && Nat.ble d.dhi w then
    ({ d with fired := true }, some (i, 0))
  else (d, none)

/-- A detector with its source's crossings at index i; its comparators are already those after i. -/
def DetSt.step (d : DetSt) (lo hi : Cmp) (i : Nat) (l : List Crossing) : DetSt × Option (Nat × Nat) :=
  let d0 := if d.restart then { d with since := 16 * (i : Int) } else d
  let r := ({ d0 with lo := lo, hi := hi }).crossAll l
  let d' := { r.1 with restart := false }
  match d.type with
  | 3 => d0.window d' i l
  | 4 => d'.timeout i
  | _ => (d', r.2.map (fun c => (c.tIdx, c.frac)))

/-- What one source shows at an index: its q and its crossings, with the trigger data of each. -/
structure Source where
  q : Bool
  crossings : List Crossing
deriving DecidableEq, Repr

/-- A term matches by its code (Table 8.4). -/
def termMatches (code : Nat) (x : Source) : Bool :=
  match code with
  | 1 => !x.q
  | 2 => x.q
  | 3 => x.crossings.any (·.rising)
  | 4 => x.crossings.any (fun c => !c.rising)
  | 5 => !x.crossings.isEmpty
  | _ => false

/-- The pattern's result over its terms (R223): sources by code of Table 8.1; a term on an unsampled input is none. -/
def DetSt.pattern (d : DetSt) (srcs : List (Option Source)) : Bool :=
  let terms := ((List.range 21).filter (fun n => d.code n != 0)).map (fun n =>
    match srcs.getD n none with
    | some x => termMatches (d.code n) x
    | none => false)
  match d.patFn with
  | 0 => terms.all id
  | 1 => !(terms.all id)
  | 2 => terms.any id
  | _ => !(terms.any id)

/-- The trigger data of a PATTERN firing (R228): the lowest-numbered term with an edge code that crosses. -/
def DetSt.patData (d : DetSt) (i : Nat) (srcs : List (Option Source)) : Nat × Nat :=
  let hits := ((List.range 21).filter (fun n => Nat.ble 3 (d.code n))).filterMap (fun n =>
    match srcs.getD n none with
    | some x => x.crossings.head?.map (fun c => (c.tIdx, c.frac))
    | none => none)
  hits.head?.getD (i, 0)

/-- A PATTERN detector at index i (R223). -/
def DetSt.patStep (d : DetSt) (i : Nat) (srcs : List (Option Source)) : DetSt × Option (Nat × Nat) :=
  let res := d.pattern srcs
  let now : Int := 16 * (i : Int)
  if d.restart then ({ d with res := res, since := now, restart := false }, none)
  else if res == d.res then (d, none)
  else
    let fire := if d.dcond = 0 || 5 ≤ d.dcond then d.dir (if res then 0 else 1) else !res && d.meets (now - d.since)
    ({ d with res := res, since := now }, if fire then some (d.patData i srcs) else none)

/-- The level and the edges at index i of digital line n, source code 8 and up (R212, R215): an edge that waits for an
index which the tap point has passed over acts at the next one, at its start (R105, R213). -/
def State.lineSource (s : State) (n i : Nat) : Source :=
  let line := n - 8
  let es := (s.trg.edges.filter (fun e => e.line == line && Nat.ble e.idx i))
  ⟨s.flag (F.TRG_XLEVEL.LEVEL.bit line),
   es.map (fun e =>
     let f := if e.idx = i then e.frac else 0
     ⟨false, e.rising, 16 * (i : Int) + ((f / 64 : Nat) : Int), i, f⟩)⟩

/-- Edges labelled at or before index i set the levels of their lines. -/
def State.lineLevels (s : State) (i : Nat) : State :=
  (s.trg.edges.filter (fun e => Nat.ble e.idx i)).foldl (fun t e => t.setFlag (F.TRG_XLEVEL.LEVEL.bit e.line) e.rising) s

/-- Digital line numbers run 0 to 3 and 4 to 12 for source codes 8 to 20. -/
def digitalSources : List Nat := (List.range 13).map (· + 8)

/-- The crossings of a comparator as a detector or a pattern sees them. -/
def crossingsOf (hi : Bool) (i : Nat) (v xp x : Int) (l : List Bool) : List Crossing :=
  l.map (fun r =>
    let t := crossTrigger i v xp x
    ⟨hi, r, crossInstant i v xp x, t.1, t.2⟩)

/-- The pattern comparators step on the words of index i; answers the sources of every code (R223). -/
def State.sources (s : State) (i : Nat) (words : List Int) : State × List (Option Source) :=
  let step := fun (n : Nat) =>
    cmpStep (s.sfld (F.TRG_PTH.LEVEL n)) (s.fld (F.TRG_PTH.HYST n) : Nat) (SMap.get (fun _ => {}) s.trg.pth n)
      (words.getD n (-32768))
  let ana := (List.range 4).map (fun n =>
    if s.observed n then
      let r := step n
      some (Source.mk r.1.q (crossingsOf false i (s.sfld (F.TRG_PTH.LEVEL n)) (s.trg.prev.getD n 0) (words.getD n 0) r.2))
    else none)
  let s1 := { s with trg := { s.trg with pth := (List.range 4).foldl (fun m n =>
    SMap.set (fun _ => {}) m n (if s.observed n then (step n).1 else (SMap.get (fun _ => ({} : Cmp)) m n).disarmed)) s.trg.pth } }
  let s2 := s1.lineLevels i
  (s2, ana ++ [none, none, none, none] ++ digitalSources.map (fun n => some (s2.lineSource n i)))

/-- One detector at index i: its state after it, and the trigger data where it fires (before qualification). -/
def State.stepDet (s : State) (k i : Nat) (words : List Int) (srcs : List (Option Source)) : DetSt × Option (Nat × Nat) :=
  let d := s.det k
  if !(s.detActive k) || d.remote || s.srcIdle k then (d, none)
  else if d.type = 7 then d.patStep i srcs
  else if d.src < 4 then
    if !(s.observed d.src) then (d.disarmed, none) else
    let x := words.getD d.src (-32768)
    let xp := s.trg.prev.getD d.src 0
    let l := cmpStep d.levelLo d.hyst d.lo x
    let h := cmpStep d.levelHi d.hyst d.hi x
    d.step l.1 h.1 i (orderCrossings (crossingsOf false i d.levelLo xp x l.2) (crossingsOf true i d.levelHi xp x h.2))
  else
    match srcs.getD d.src none with
    | some x => d.step { d.lo with q := x.q, restart := false } d.hi i x.crossings
    | none => (d, none)

/-- The module's own sequencers take the firings of index i (R455); about a handover the old leader takes those below H
(R469). -/
def State.firesHere (s : State) (i : Nat) : Bool :=
  if s.isFollower then (match s.pair.handover with
    | some (_, h) => Nat.blt i h
    | none => false)
  else match s.pair.handFrom with
    | some h => Nat.ble h i
    | none => true

/-- A qualified firing is reported, withheld or merged into the one that its detector has reported in the same core cycle
(R226, R227). -/
def State.report (s : State) (k i : Nat) (t : Nat × Nat) : State :=
  let cyc := (s.cycleOf i).toNat
  if SMap.get (fun _ => none) s.trg.lastRep k = some cyc then
    (s.bump (R.TRG_TD_MERGED k)).setFlag (F.TRG_TD_STAT.MERGED_SEEN k) true
  else
    let s1 := (s.bump (R.TRG_TD_COUNT k)).setReg64 (R.TRG_TD_LAST_IDX_LO k) i
    let s2 := { s1 with trg := { s1.trg with lastRep := SMap.set (fun _ => none) s1.trg.lastRep k (some cyc) } }
    if s.lateOf (s.det k) then s2
    else if !(s2.firesHere i) then s2.tell (.firing k i (t.1 + 1 == i) t.2)
    else { s2 with trg := { s2.trg with fires := s2.trg.fires ++ [⟨k, i, t.1, t.2⟩] } }

/-- The firing of detector k passes its qualifier (R224): states are those after the index. -/
def State.qualified (s : State) (k : Nat) : Bool :=
  let d := s.det k
  !d.qualEn || ((s.detState d.qualSel && !(s.srcIdle d.qualSel)) != d.qualInv)

/-- The words of index i do not follow those of the index before: no comparator is armed (R105, R217, log entry 32). -/
def State.afterGap (s : State) (i : Nat) : State :=
  if i == s.trg.next then s
  else { s with trg := { s.trg with
    dets := s.trg.dets.map (fun (e : Nat × DetSt) => (e.1, e.2.disarmed))
    pth := s.trg.pth.map (fun (e : Nat × Cmp) => (e.1, e.2.disarmed)) } }

/-- The words of index i at the tap point, as every consumer receives them (R23): those of the inputs that are sampled. -/
def State.hearIndex (s : State) (i : Nat) (words : List (BitVec 16)) : List Int × State :=
  (List.range 4).foldl (fun (a : List Int × State) n =>
    if sampledIn a.2.inp.route n then
      let r := a.2.hear n i (words.getD n 0x8000)
      (a.1 ++ [r.1.toInt], r.2)
    else (a.1 ++ [-32768], a.2)) ([], s)

/-- All detectors process the words of index i (R216 to R231, R233). -/
def State.detectIndex (s0 : State) (i : Nat) (raw : List (BitVec 16)) : State :=
  let (words, sh) := s0.hearIndex i raw
  let s := (sh.each (List.range 16) (fun t k => t.takeOver k i)).afterGap i
  let (s1, srcs) := s.sources i words
  let outs := (List.range 16).map (fun k => s1.stepDet k i words srcs)
  let s2 := ((List.range 16).zip outs).foldl (fun t e => t.setDet e.1 e.2.1) s1
  let s3 := { s2 with trg := { s2.trg with
    prev := words, next := i + 1, edges := s2.trg.edges.filter (fun e => Nat.blt i e.idx) } }
  ((List.range 16).zip outs).foldl (fun (a : State) e =>
    match e.2.2 with
    | some t => if a.qualified e.1 then a.report e.1 i t else a
    | none => a) s3

/-- Indices in order. -/
def State.detectAll (s : State) (i : Nat) : List (List (BitVec 16)) → State
  | [] => s
  | w :: l => (s.detectIndex i w).detectAll (i + 1) l

/-- Firings that no sequencer will ask for again are dropped (log entry 11). -/
def State.purgeFires (s : State) (i : Nat) : State :=
  { s with trg := { s.trg with fires := s.trg.fires.filter (fun f => Nat.blt i (f.idx + 64 * s.perCycle)) } }

/-- The detectors process the tap-point words of one core cycle, from index `first` on. -/
def State.detectCycle (s : State) (first : Nat) (obs : List (List (BitVec 16))) : State :=
  if s.frozen then s else ((s.purgeFires first).detectAll first obs).showDets

/-- DETECTOR_FIRING (R216 to R231). -/
def execDetectorFiring (first : BitVec 64) (obs : List (List (BitVec 16))) (s : State) :
    Host.Outcome State Fault Refusal :=
  s.act (fun t => t.detectCycle first.toNat obs)

/-- The fields of CFG that an APPLY on a used detector may not change (R234). -/
def cfgFixed (w : Word) : Word := w &&& 0xCF1F000F#32

/-- The first index that an APPLY of a detector acts on: the first of the tap-point core cycle after the write, of the
input with the largest D among those it uses (R194, R233). -/
def State.applyIdx (s : State) (d : DetSt) : Nat :=
  s.nextAt (43 + (List.range 4).foldl (fun a n =>
    if d.uses n && sampledIn s.inp.route n then max a (s.delayCycles n) else a) 0)

/-- An APPLY of detector k (R232, R233, R234). -/
def State.trgApply (s : State) (k : Nat) : State :=
  let new := s.detStaged k
  if s.isFollower then s.setFlag (F.TRG_TD_STAT.APPLY_DISCARD k) true
  else if s.detUsed k && cfgFixed (dwAt new 0) != cfgFixed ((s.applied k).w 0) then
    (s.setFlag (F.TRG_TD_STAT.APPLY_DISCARD k) true).raisePF 130 k
  else
    let others := (List.range 16).filter (fun j => j != k && (s.applied j).en && (s.applied j).remote)
    let d : DetSt := { cfg := new, fifth := Nat.ble 4 others.length }
    let i := s.applyIdx d
    let s1 := s.detFrom k i d
    let s2 := (s1.setReg64 (R.TRG_TD_APPLY_IDX_LO k) i).showDets
    let r := s2.detReason k
    let s3 := if s2.isLeader && d.remote && r == 0 then s2.tell (.config (.detector k new)) else s2
    if d.en && r != 0 then s3.raisePF 128 (k + 16 * r) else s3

def execTrgApply (det : Fin 16) (s : State) : Host.Outcome State Fault Refusal := s.act (fun t => t.atReg (R.TRG_TD_APPLY det) (fun u => u.trgApply det))

/-- A write to TRG_PTHn restarts that comparator (R223). -/
def State.pthWrite (s : State) (n : Nat) (v : Word) : State :=
  let s1 := s.setReg (R.TRG_PTH n) v
  { s1 with trg := { s1.trg with pth := SMap.set (fun _ => {}) s1.trg.pth n {} } }

def execTrgPthWrite (input : Fin 4) (value : Word) (s : State) : Host.Outcome State Fault Refusal :=
  s.act (fun t => t.atReg (R.TRG_PTH input) (fun u => u.pthWrite input value))

/-- XDELAY as it acts, in steps of 8 ps (R213). -/
def State.xdelay (s : State) (line : Nat) : Int := max (-2500) (s.sfld (F.TRG_XDLY.XDELAY line))

/-- The label of an instant `ps8` steps of 8 ps after the first strobe of the present core cycle (R212). -/
def State.labelAt (s : State) (ps8 : Int) : Nat × Nat :=
  let x : Rat := ps8 * 8000 / s.samplePeriod
  let i := x.floor
  (((s.time.idx : Int) + i).toNat, ((x - i) * 1024).floor.toNat)

/-- What the tap point still counts above the present index (R105, R213). -/
def State.tapAhead (s : State) : Nat := (s.trg.zeros.map (·.2)).foldl (· + ·) 0

/-- The tap point reaches a zeroing of the index: what is under way keeps its distances (R105). No context is armed, so the
firings held for sequencers fall. -/
def DetSt.rebase (x : DetSt) (d : Nat) : DetSt :=
  let f := fun (v : Int) => v - 16 * (d : Int)
  { x with up := x.up.map f, down := x.down.map f, hiDown := x.hiDown.map f, slewUp := x.slewUp.map f,
           slewDown := x.slewDown.map f, since := f x.since }

def State.tapZero (s : State) : State :=
  match s.trg.zeros with
  | (c, d) :: l =>
    if s.time.cycle < c then s
    else { s with trg := { s.trg with
      zeros := l, next := s.trg.next - d, fires := []
      dets := s.trg.dets.map (fun (e : Nat × DetSt) => (e.1, e.2.rebase d))
      coming := s.trg.coming.map (fun (e : Nat × Option (Nat × DetSt)) => (e.1, e.2.map (fun x => (x.1 - d, x.2))))
      edges := s.trg.edges.map (fun e => { e with idx := e.idx - d }) } }
  | [] => s

/-- The routing switch of a mode change: the strobe that would have been index `old` is index `i`, and a sample lasts
`was` / `now` times as long; an edge that waits keeps its instant (R105, R212). -/
def LineEdge.moved (e : LineEdge) (old i was now : Nat) : LineEdge :=
  if e.idx < old then e
  else
    let x := ((e.idx - old) * 1024 + e.frac) * now / was
    { e with idx := i + x / 1024, frac := x % 1024 }

def State.moveEdges (s : State) (old i was now : Nat) : State :=
  { s with trg := { s.trg with edges := s.trg.edges.map (fun e => e.moved old i was now) } }

/-- A write to TRG_XDLYs (R212, R215): a change of INV turns the line's level, and the edges that wait. -/
def State.xdlyWrite (s : State) (line : Nat) (v : Word) : State :=
  let s1 := s.plainWrite (R.TRG_XDLY line) v
  if s1.flag (F.TRG_XDLY.INV line) = s.flag (F.TRG_XDLY.INV line) then s1
  else
    let s2 := s1.setFlag (F.TRG_XLEVEL.LEVEL.bit line) (!(s1.flag (F.TRG_XLEVEL.LEVEL.bit line)))
    { s2 with trg := { s2.trg with edges := s2.trg.edges.map (fun e =>
        if e.line = line then { e with rising := !e.rising } else e) } }

/-- An edge of a digital line, `ago` steps of 8 ps before now, gets its label (R212, R214). Answers none where the
edge is discarded or lost. -/
def State.lineEdge (s : State) (line : Nat) (rising : Bool) (ago : Nat) : State × Bool :=
  if s.frozen then (s, false)
  else
    let up := rising != s.flag (F.TRG_XDLY.INV line)
    let seen := if s.trg.seenCycle = s.time.cycle then s.trg.seen else []
    if seen.contains (line, up) then
      ((s.bump R.TRG_XLOST).raiseOnce (F.TRG_XSTAT.LOST.bit line) 129 line routePF, false)
    else
      let (i, f) := s.labelAt (s.xdelay line - ago)
      ({ s with trg := { s.trg with
        seenCycle := s.time.cycle, seen := (line, up) :: seen, edges := s.trg.edges ++ [⟨line, up, i + s.tapAhead, f⟩] } }, true)

/-- A write to EQ_DELAYn (R195): discarded while an armed context captures the input or uses a detector on it. -/
def State.delayWrite (s : State) (n : Nat) (v : Word) : State :=
  if s.captured n || s.usedDets.any (fun k => (s.applied k).uses n) then s.setFlag (F.EQ_STAT.DELAY_DISCARD n) true
  else
    let s1 := ((s.setDelay n (getBits v 0 13) (getBits v 16 8)).markLate n).recomputeDT.showDets
    if s1.joined then s1.tell (.config (.delay s1.ownDT)) else s1

/-- EQ_DELAY_WRITE (R195). -/
def execEqDelayWrite (input : Fin 4) (value : Word) (s : State) : Host.Outcome State Fault Refusal :=
  s.act (fun t => t.atReg (R.EQ_DELAY input) (fun u => u.delayWrite input value))

end Sys2Proof.Machine
end

