-- ==== Sys2Proof/Machine/Decimation.lean ====
section
/-!
DEFINITION. The decimation chain (ch. 07): paths, their grids and outputs, phase resets and restarts, and the meaning of
DEC_PATH_WRITE.
-/
namespace Sys2Proof.Machine

/-- The kinds of decimation path, by the DPATH codes of Tables 11.4 and 12.1. -/
inductive PathKind where
  | drop | cic | ma0 | ma1 | rake
deriving DecidableEq, Repr

/-- A DPATH code (Tables 11.4 and 12.1); other codes are invalid. -/
def pathKind : Nat → Option PathKind
  | 0 => some .drop | 1 => some .cic | 3 => some .ma0 | 5 => some .ma1 | 7 => some .rake | _ => none

def PathKind.ma : PathKind → Option Nat
  | .ma0 => some 0 | .ma1 => some 1 | _ => none

/-- The number of a path in State: drop of input n at n, rake at 4 + n, CIC at 8 + n, MAm at 12 + m. -/
def PathKind.no (k : PathKind) (n : Nat) : Nat :=
  match k with
  | .drop => n | .rake => 4 + n | .cic => 8 + n | .ma0 => 12 | .ma1 => 13

/-- The registers of a path as they stand. -/
def State.pathRegs (s : State) (k : PathKind) (n : Nat) : PathSet :=
  match k with
  | .drop => ⟨s.reg (R.DEC_DROP n), 0⟩
  | .rake => ⟨s.reg (R.DEC_RAKE n), 0⟩
  | .cic => ⟨s.reg (R.DEC_CIC n), 0⟩
  | .ma0 => ⟨s.reg (R.DEC_MA_CTL 0), s.reg (R.DEC_MA_LEN 0)⟩
  | .ma1 => ⟨s.reg (R.DEC_MA_CTL 1), s.reg (R.DEC_MA_LEN 1)⟩

/-- The setting at an index from the writes to a path, newest first, and the setting after them (R207). -/
def settingAt (i : Nat) (now : PathSet) : List PathStep → PathSet
  | [] => now
  | x :: l => if x.start ≤ i then now else settingAt i x.old l

def State.pathSteps (s : State) (p : Nat) : List PathStep := SMap.get (fun _ => []) s.dec.paths p

/-- The setting of a path in force at an index (R207). -/
def State.pathAt (s : State) (k : PathKind) (n i : Nat) : PathSet := settingAt i (s.pathRegs k n) (s.pathSteps (k.no n))

/-- Order N of a CIC path (Table 7.14). -/
def PathSet.order (x : PathSet) : Nat := 3 + min 2 (getBits x.ctl 8 2)

/-- The path runs in block mode. -/
def PathSet.block (x : PathSet) (k : PathKind) : Bool :=
  match k with
  | .drop | .rake => false
  | _ => getBits x.ctl 12 1 == 1

/-- Least and greatest r + s of a path (Table 7.9). -/
def PathSet.range (x : PathSet) (k : PathKind) : Nat × Nat :=
  match k with
  | .drop => (1, 24)
  | .rake => (1, 20)
  | .cic => if x.block .cic then (1, 20) else (1, 32 - 4 * x.order)
  | k => if x.block k then (1, 20) else (0, 20)

/-- R_EXP of a path as it acts (Tables 7.13 to 7.15). -/
def PathSet.exp (x : PathSet) (k : PathKind) : Nat :=
  let e := x.range k
  max e.1 (min e.2 (getBits x.ctl 0 5))

/-- L of a moving-average path, its INPUT and EN (Table 7.15). -/
def PathSet.maLen (x : PathSet) : Nat := max 1 (min 65536 (getBits x.len 0 17))
def PathSet.input (x : PathSet) : Nat := getBits x.ctl 28 2
def PathSet.en (x : PathSet) : Bool := getBits x.ctl 31 1 == 1

/-- P0, the phase of the chain (R197). -/
def State.p0 (s : State) : Nat := s.reg64 R.DEC_SYNC_IDX_LO

/-- The first grid index of ratio R at or after i (R197). -/
def gridFrom (p0 r i : Nat) : Nat :=
  (((i : Int) + (((p0 : Int) - (i : Int)) % (r : Int))) : Int).toNat

/-- The inputs of the decimated stream of context n's arm and its path; none without a decimated stream. -/
def State.decPath (s : State) (c : Ctx) : Option (PathKind × List Nat) :=
  let d2 := dwAt c.dw 2
  match pathKind (getBits d2 8 4) with
  | none => none
  | some k =>
    if c.streaming then (if getBits d2 4 1 == 1 then none else some (k, bitsSet (getBits d2 0 4) 4))
    else if getBits d2 5 1 == 0 then none
    else match k.ma with
      | some m => some (k, [s.fld (F.DEC_MA_CTL.INPUT m)])
      | none => some (k, [getBits d2 12 2])

/-- A path feeds the decimated stream of an armed context (R207). -/
def State.pathFeeds (s : State) (k : PathKind) (n : Nat) : Bool :=
  (List.range 4).any (fun c => s.armed c && (match s.decPath (s.ctx c) with
    | some (j, ins) => j == k && ins.contains n
    | none => false))

/-- The sluice step with which a path of input n runs: that of the armed context whose stream it feeds (R196). -/
def State.pathStep (s : State) (k : PathKind) (n : Nat) : Nat :=
  match (List.range 4).find? (fun c => s.armed c && (match s.decPath (s.ctx c) with
    | some (j, ins) => j == k && ins.contains n
    | none => false)) with
  | some c => s.fld (F.ACQ_AC_SLU_STAT.STEP c)
  | none => 0

def State.restarts (s : State) (p : Nat) : List Restart := SMap.get (fun _ => []) s.dec.restarts p

def State.setRestarts (s : State) (p : Nat) (l : List Restart) : State :=
  { s with dec := { s.dec with restarts := SMap.set (fun _ => []) s.dec.restarts p l } }

/-- The restart whose run an index belongs to: the one that begins last at or before it. -/
def runOf (l : List Restart) (i : Nat) : Option Restart :=
  (l.filter (fun x => Nat.ble x.start i)).foldl (fun a x => match a with
    | some y => if y.start ≤ x.start then some x else some y
    | none => some x) none

/-- Outputs of a restart that are invalid at an index or later. -/
def Restart.left (x : Restart) (i : Nat) : Nat := min x.count (ceilDiv (x.valid - i) x.ratio)

/-- A restart of a sliding path at index i with ratio r: its first `count` outputs on the grid are invalid. -/
def restartAt (p0 i r count : Nat) (write : Bool) : Restart := ⟨i, gridFrom p0 r i + (count - 1) * r + 1, r, count, write⟩

/-- DEC_INVALIDn counts `more` outputs, and gives back `less` that it has counted and that do not occur. -/
def State.countInvalid (s : State) (n more less : Nat) : State :=
  s.setReg (R.DEC_INVALID n) (s.reg (R.DEC_INVALID n) + BitVec.ofNat 32 more - BitVec.ofNat 32 less)

/-- The path produces outputs: its input is sampled, and a moving-average path has EN=1 (R204). -/
def State.pathRuns (s : State) (k : PathKind) (n i : Nat) : Bool :=
  let x := s.pathAt k n i
  match k.ma with
  | some _ => x.en && sampledIn s.inp.route x.input
  | none => sampledIn s.inp.route n

/-- The input of a path: INPUT of a moving-average path at index i. -/
def State.pathInput (s : State) (k : PathKind) (n i : Nat) : Nat :=
  match k.ma with
  | some _ => (s.pathAt k n i).input
  | none => n

/-- N of a restart of a path: the order of a sliding CIC, 1 for a sliding mean, 0 for any other path (Table 7.11). -/
def State.invalidOf (s : State) (k : PathKind) (n i : Nat) : Nat :=
  let x := s.pathAt k n i
  if x.block k then 0
  else match k with
    | .cic => x.order
    | .ma0 | .ma1 => 1
    | _ => 0

/-- A path starts again at index i: the first N outputs of a sliding path are invalid and counted. Those that an earlier
restart has counted and that lie there are not counted again (R205, R206, R207, R585). -/
def State.restart (s : State) (write : Bool) (i : Nat) (k : PathKind) (n : Nat) : State :=
  let count := s.invalidOf k n i
  if count = 0 || !(s.pathRuns k n i) then s
  else
    let l := s.restarts (k.no n)
    let x := restartAt s.p0 i (2 ^ ((s.pathAt k n i).exp k + s.pathStep k n)) count write
    let less := match runOf l i with
      | some y => y.left i
      | none => 0
    (s.setRestarts (k.no n) (x :: l.filter (fun y => y.start != i))).countInvalid (s.pathInput k n i) count less

/-- The sliding CIC of every input and the moving averages, each with the input that its registers belong to. -/
def slidingPaths : List (PathKind × Nat) := [(.cic, 0), (.cic, 1), (.cic, 2), (.cic, 3), (.ma0, 0), (.ma1, 0)]

/-- Every path restarts at index F: a start of SAMPLE or the routing switch of a mode change (R585). -/
def State.decRestart (s : State) (i : Nat) : State := slidingPaths.foldl (fun t e => t.restart false i e.1 e.2) s

/-- A primed path keeps its history; its outputs are valid at once (Table 7.11). What an earlier restart had still to mark
from P0 on does not occur. -/
def State.primed (s : State) (p0 : Nat) (k : PathKind) (n : Nat) : State :=
  let l := s.restarts (k.no n)
  let less := match runOf l p0 with
    | some y => y.left p0
    | none => 0
  (s.setRestarts (k.no n) (l.map (fun y => if y.start ≤ p0 && Nat.blt p0 y.valid then { y with valid := p0 } else y))).countInvalid
    (s.pathInput k n p0) 0 less

/-- A write of R207 that waits for an index past P0 acts at P0, which lies on the new grid of every ratio. -/
def State.regrid (s : State) (p0 p : Nat) : State :=
  let l := (s.pathSteps p).map (fun x => if p0 < x.start then { x with start := p0 } else x)
  let s1 := { s with dec := { s.dec with paths := SMap.set (fun _ => []) s.dec.paths p l } }
  s1.setRestarts p ((s.restarts p).map (fun y =>
    if y.write && Nat.blt p0 y.start then restartAt p0 p0 y.ratio y.count true else y))

/-- One path at a decimator phase reset (Table 7.11): PRIMED of its input decides. -/
def State.phasePath (s : State) (p0 : Nat) (k : PathKind) (n : Nat) : State :=
  if (s.restarts (k.no n)).any (fun y => y.write && y.start == p0) then s
  else if s.flag (F.DEC_CTL.PRIMED (s.pathInput k n p0)) then s.primed p0 k n
  else s.restart false p0 k n

/-- A decimator phase reset at P0 (R205). -/
def State.phaseReset (s : State) (p0 : Nat) : State :=
  let s1 := s.setReg64 R.DEC_SYNC_IDX_LO p0
  let s2 := s1.each (List.range 14) (fun t p => t.regrid p0 p)
  (slidingPaths.foldl (fun t e => t.phasePath p0 e.1 e.2) s2).raisePF 116 (p0 % 2 ^ 32)

/-- The path whose register has number `reg` of DEC_PATH_WRITE, and its input. -/
def State.regPath (s : State) (reg : Nat) : Option (PathKind × Nat) :=
  if 16 ≤ reg then
    let m := (reg - 16) / 2
    some (if m = 0 then .ma0 else .ma1, s.fld (F.DEC_MA_CTL.INPUT m))
  else match reg % 4 with
    | 1 => some (.drop, reg / 4)
    | 2 => some (.rake, reg / 4)
    | 3 => some (.cic, reg / 4)
    | _ => none

/-- Offset of a path register. -/
def pathOff (reg : Nat) : Nat :=
  if 16 ≤ reg then R.DEC_MA_CTL 0 + 0x20 * ((reg - 16) / 2) + 4 * (reg % 2)
  else R.DEC_CTL 0 + 0x40 * (reg / 4) + 4 * (reg % 4)

/-- The write is refused under R207. -/
def State.pathHeld (s : State) (reg : Nat) : Bool :=
  match s.regPath reg with
  | some (k, n) => s.pathFeeds k n
  | none => [PathKind.drop, .cic, .ma0, .ma1, .rake].any (fun k => s.pathFeeds k (reg / 4))

/-- What of a path restarts it when it changes: r, ORDER, BLOCK, LEN and INPUT (R207). -/
def PathSet.key (x : PathSet) (k : PathKind) : List Nat :=
  [x.exp k, if k = .cic then x.order else 0, if x.block k then 1 else 0] ++
    (if k.ma.isSome then [x.maLen, x.input] else [])

/-- A write that has not acted yet falls to a later one: the register holds one value. -/
def State.dropWaiting (s : State) (k : PathKind) (n i : Nat) : State :=
  let p := k.no n
  let late := fun (y : Restart) => y.write && Nat.ble i y.start
  let gone := (s.restarts p).filter late
  let s1 := { s with dec := { s.dec with
    paths := SMap.set (fun _ => []) s.dec.paths p ((s.pathSteps p).filter (fun x => Nat.blt x.start i)) } }
  (s1.setRestarts p ((s.restarts p).filter (fun y => !(late y)))).countInvalid (s.pathInput k n i) 0
    ((gone.map (·.count)).foldl (· + ·) 0)

/-- A new setting of a path acts at the first index from i on that is a multiple of the old and the new ratio from P0
(R207). -/
def State.pathStart (s : State) (k : PathKind) (i : Nat) (old new : PathSet) : Nat :=
  gridFrom s.p0 (2 ^ max (old.exp k) (new.exp k)) i

/-- A write to the register of a path (R207). -/
def State.pathSet (s : State) (k : PathKind) (n off : Nat) (v : Word) : State :=
  let i := s.tapNext (s.pathInput k n s.time.idx)
  let old := s.pathAt k n (i - 1)
  let s1 := (s.dropWaiting k n i).plainWrite off v
  let new := s1.pathRegs k n
  let j := s.pathStart k i old new
  let s2 := { s1 with dec := { s1.dec with
    paths := SMap.set (fun _ => []) s1.dec.paths (k.no n) (⟨j, old⟩ :: s1.pathSteps (k.no n)) } }
  if old.key k == new.key k then s2 else s2.restart true j k n

/-- A write to a path register (R207): refused while the path feeds an armed context's stream. -/
def State.pathWrite (s : State) (reg : Nat) (v : Word) : State :=
  if s.pathHeld reg then
    s.setFlag (if 16 ≤ reg then ⟨R.DEC_STAT, 4 + (reg - 16) / 2, 1⟩ else ⟨R.DEC_STAT, reg / 4, 1⟩) true
  else match s.regPath reg with
    | some (k, n) => s.pathSet k n (pathOff reg) v
    | none => s.plainWrite (pathOff reg) v

/-- DEC_PATH_WRITE (R207). -/
def execDecPathWrite (reg : Fin 20) (value : Word) (s : State) : Host.Outcome State Fault Refusal :=
  s.act (fun t => t.atReg (pathOff reg) (fun u => u.pathWrite reg value))

/-- The mean of words, rounded half away from zero (R202). -/
def meanWords (l : List Int) : Int := roundDiv (sumInt l) l.length

/-- The mean of L words by the reciprocal of R203. -/
def maMean (len : Nat) (l : List Int) : Int :=
  roundShr (sumInt l * (roundDivNat (2 ^ 40) len : Nat)) 40

/-- Sums of R consecutive words (one integrator and comb pair of R201). -/
def boxcar (r : Nat) (l : List Int) : List Int :=
  (List.range (l.length + 1 - r)).map (fun i => sumInt ((l.drop i).take r))

/-- n integrator and comb pairs. -/
def boxcars (r : Nat) : Nat → List Int → List Int
  | 0, l => l
  | n + 1, l => boxcars r n (boxcar r l)

/-- The CIC output from its N (R - 1) + 1 words (R201). -/
def cicOutput (order rexp : Nat) (l : List Int) : Int :=
  sat16 (roundShr ((boxcars (2 ^ rexp) order l).headD 0) (order * rexp))

/-- Some word of an output is invalid. -/
def anyInvalid (l : List Int) : Bool := l.any (fun x => x == -32768)

/-- The minimum and the maximum of a rake period as a 24-bit pair (R200). -/
def rakePair (l : List Int) : Nat :=
  let v := l.filter (fun x => x != -32768)
  match v with
  | [] => pattern 12 (-2048) + 2 ^ 12 * pattern 12 (-2048)
  | x :: _ =>
    let mn := v.foldl min x
    let mx := v.foldl max x
    pattern 12 (clampInt (-2047) 2047 (ashr mn 4)) + 2 ^ 12 * pattern 12 (clampInt (-2047) 2047 (-(ashr (-mx) 4)))

/-- The output of a sliding mean with label `lab`: partial while fewer than L words have entered since its restart (R203,
Table 7.11, R585). -/
def maOutput (len : Nat) (run : Option Restart) (lab : Nat) (l : List Int) : Int :=
  let n := match run with
    | some x => lab + 1 - x.start
    | none => len
  if n < len then
    let w := l.drop (l.length - n)
    if anyInvalid w then -32768 else meanWords w
  else if anyInvalid l then -32768 else maMean len l

/-- The output of a sliding CIC: words before its restart do not enter (R201, Table 7.11). -/
def cicRun (order rexp : Nat) (run : Option Restart) (lab : Nat) (l : List Int) : Int :=
  let n := match run with
    | some x => lab + 1 - x.start
    | none => l.length
  let w := l.drop (l.length - n)
  if anyInvalid w then -32768 else cicOutput order rexp (List.replicate (l.length - w.length) 0 ++ w)

/-- An output is one of those that a restart makes invalid. -/
def early (run : Option Restart) (lab : Nat) : Bool :=
  match run with
  | some x => Nat.blt lab x.valid
  | none => false

/-- One output of a path of input n at r + s = `rexp`, labelled `lab`, from the words it covers, oldest first: a 16-bit
word, or a 24-bit pair for the rake (R199 to R203). -/
def State.decOutput (s : State) (k : PathKind) (n rexp lab : Nat) (l : List Int) : Nat :=
  let x := s.pathAt k n lab
  let run := runOf (s.restarts (k.no n)) lab
  match k with
  | .drop => pattern 16 (l.headD (-32768))
  | .rake => rakePair l
  | k =>
    pattern 16 (
      if x.block k then (if anyInvalid l then -32768 else meanWords l)
      else if early run lab then -32768
      else if k.ma.isSome then maOutput x.maLen run lab l
      else cicRun x.order rexp run lab l)

/-- Words that an output labelled `lab` at r + s = `rexp` covers, first and last index relative to its label (R197). -/
def PathSet.coverage (x : PathSet) (k : PathKind) (rexp : Nat) : Int × Int :=
  let r : Int := (2 ^ rexp : Nat)
  match k with
  | .drop | .rake => (0, r - 1)
  | k =>
    if x.block k then (0, r - 1)
    else if k.ma.isSome then (1 - (x.maLen : Nat), 0)
    else (-((x.order : Nat) * (r - 1)), 0)

/-- The first and the last index of the words that contribute to an output: of a period of the sample drop the word kept,
and of a sliding path none from before its restart (R198, R199). -/
def State.contributors (s : State) (k : PathKind) (n rexp lab : Nat) : Int × Int :=
  let e := (s.pathAt k n lab).coverage k rexp
  match k with
  | .drop => (lab, lab)
  | _ => match runOf (s.restarts (k.no n)) lab with
    | some x => (max ((lab : Int) + e.1) (if e.1 < 0 then (x.start : Int) else lab), (lab : Int) + e.2)
    | none => ((lab : Int) + e.1, (lab : Int) + e.2)

/-- Outputs per decimated line (R208). -/
def PathKind.perLine : PathKind → Nat
  | .rake => 10
  | _ => 15

/-- PATH of the line tail (Table 7.17). -/
def PathSet.code (x : PathSet) (k : PathKind) : Nat :=
  let b := if x.block k then 1 else 0
  match k with
  | .drop => 0 | .cic => 1 + b | .ma0 => 3 + b | .ma1 => 5 + b | .rake => 7

/-- The tail of a decimated line (Table 7.17). -/
def lineTail (count step path : Nat) (degraded rate trigger start : Bool) : Nat :=
  count * 2 ^ 12 + step * 2 ^ 8 + path * 2 ^ 4 + (if degraded then 8 else 0) + (if rate then 4 else 0)
    + (if trigger then 2 else 0) + (if start then 1 else 0)

/-- A decimated line from its outputs and its tail (R208). -/
def decLine (k : PathKind) (outs : List Nat) (tail : Nat) : Nat :=
  let w := if k = .rake then 24 else 16
  let empty := if k = .rake then 0x800800 else 0x8000
  (List.range k.perLine).foldl (fun a q => a + outs.getD q empty * 2 ^ (w * q)) (tail * 2 ^ 240)

end Sys2Proof.Machine
end

