-- ==== Sys2Proof/Machine/Chain.lean ====
section
/-!
DEFINITION. The journey of a sample from raw slice codes to the raw line: interleave correction under each frame's
epoch, interpolation, the twin gain step, the equaliser and the channel delay (R160, R148, R465, R183, R190), and the
packing of 21 words into a line (R282).
-/
namespace Sys2Proof.Machine

/-- Samples per interleave frame of one input. -/
def State.frameLen (s : State) : Nat := s.perCycle / 2

/-- A raw code with its epoch tag: bits 11:0 the code, bits 13:12 the tag (R24, R128). -/
def codeOf (x : BitVec 16) : Int := signed 12 (x.toNat % 4096)
def tagOf (x : BitVec 16) : Nat := x.toNat / 4096 % 4

/-- The physical slice that took the sample of index j of input n under an epoch tag; none where its position is
interpolated (R40, R128). -/
def State.sliceAt (s : State) (n : Nat) (j : Int) (tag : Nat) : Option Nat :=
  let k := banksPer s.inp.route
  let b0 := ((inputBanks s.inp.route n).head?).getD 0
  let (b, pos) := framePosition (j % (s.frameLen : Int)).toNat k b0
  match ((s.bank b).maps.take 4).find? (fun e => e.epoch % 4 == tag) with
  | some e => let c := e.map.getD pos 15; if c = 15 then none else some (13 * b + c)
  | none => none

/-- One sample before correction: its code, the slice, and u with that slice's applied set (R160). -/
structure Raw where
  code : Int
  slice : Option Nat
  u : Int
deriving DecidableEq, Repr

/-- The sample of index j: its code is -2048 where no strobe took one; elsewhere as the slice-map selector passes it on
(R32). -/
def State.raw (s : State) (n : Nat) (j : Int) (x : BitVec 16) : Raw :=
  let c := if s.strobedAt j then selected (codeOf x) else -2048
  match s.sliceAt n j (tagOf x) with
  | some p => ⟨c, some p, corrU (s.corrApplied s.inp.route p 0 (s.frameOf j)) (s.corrApplied s.inp.route p 1 (s.frameOf j)) c⟩
  | none => ⟨c, none, 0⟩

/-- u of a neighbour: none where its code is invalid or its position interpolated (R161). -/
def Raw.neighbour (r : Raw) : Option Int := if r.code = -2048 || r.slice.isNone then none else some r.u

/-- The corrected word at position i of a window of samples from index j0 on; none at an interpolated position. -/
def State.corrected (s : State) (j0 : Int) (w : List Raw) (i : Nat) : Option Int :=
  let empty : Raw := ⟨-2048, none, 0⟩
  let r := w.getD i empty
  match r.slice with
  | some p =>
    let f := s.frameOf (j0 + i)
    let taps := corrTaps (s.corrApplied s.inp.route p 2 f) (s.corrApplied s.inp.route p 3 f) s.samplePeriod
    some (corrOutput r.code r.u taps ((List.range 8).map (fun k =>
      if i + k < 4 then none else (w.getD (i + k - 4) empty).neighbour)))
  | none => none

/-- A corrected word that interpolation may use (R148). -/
def usable (x : Option Int) : Option Int := x.filter (fun v => v != -32768)

/-- Interpolated positions take their value from their neighbours (R148). -/
def interpolateAll (l : List (Option Int)) : List Int :=
  (List.range l.length).map (fun i =>
    match l.getD i none with
    | some v => v
    | none => interpolated (if i = 0 then none else usable (l.getD (i - 1) none)) (usable (l.getD (i + 1) none)))

/-- GAIN and OFF of the follower's gain step as they act in a frame (R163, R465, R466). -/
def State.twinAt (s : State) (frame : Nat) : Int × Int :=
  match s.pair.targets.find? (fun x => Nat.ble x.start frame) with
  | some x => if x.ramp then (rampValue x.gain0 x.gain (frame - x.start), rampValue x.off0 x.off (frame - x.start)) else (x.gain, x.off)
  | none => match s.pair.targets.getLast? with
    | some x => (x.gain0, x.off0)
    | none => ((s.fld F.PAIR_TWIN_GAIN.V : Nat), s.sfld F.PAIR_TWIN_OFF.V)

/-- The gain step of the interleave form on the follower's IN0, in a frame (R465). -/
def State.twinStep (s : State) (n frame : Nat) (y : Int) : Int :=
  if n = 0 && s.fld F.PAIR_STAT.ROLE == 2 && s.flag F.PAIR_STAT.FORM && y != -32768 then
    sat16 (roundShr ((y * 16 - (s.twinAt frame).2) * (s.twinAt frame).1) 21)
  else y

/-- The equaliser output at position i of a window of words from index j0 on (R183). -/
def State.equalised (s : State) (n : Nat) (j0 : Int) (w : List Int) (i : Nat) : Int :=
  let (t0, t) := eqTaps s.inp.route
  let f := s.frameOf (j0 + i)
  let entries := (List.range t).map (· + t0)
  eqOutput (entries.map (fun e => s.coeff n e f))
    (entries.map (fun e => if i + 64 < e then -32768 else w.getD (i + 64 - e) (-32768))) (w.getD i (-32768))

/-- First index of the window that the words of input n from index i0 on need. -/
def windowStart (i0 int : Nat) : Int := (i0 : Int) - (int : Int) - 80

/-- The 21 words of input n from index i0 on under a delay (INT, FRAC), from the 181 tagged raw codes from index
i0 - INT - 80 on. -/
def State.wordsUnder (s : State) (n i0 : Nat) (delay : Nat × Nat) (codes : List (BitVec 16)) : List Int :=
  let j0 := windowStart i0 delay.1
  let raws := (List.range codes.length).map (fun (i : Nat) => s.raw n (j0 + i) (codes.getD i 0x800))
  let z := interpolateAll ((List.range raws.length).map (fun i => s.corrected j0 raws i))
  let y := (List.range z.length).map (fun (i : Nat) => s.twinStep n (s.frameOf (j0 + i)) (z.getD i (-32768)))
  let rom := fracRom delay.2
  let e := (List.range 28).map (fun i => s.equalised n j0 y (i + 76))
  (List.range 21).map (fun q => fracOutput rom ((List.range 8).map (fun k => e.getD (q + 7 - k) (-32768))))

/-- The 21 tap-point words of input n from index i0 on: each under the delay of its own index (R195). `codes` are the raw
codes for the delay of the first word, `codes2` those for the delay of the last. -/
def State.tapWords (s : State) (n i0 : Nat) (codes codes2 : List (BitVec 16)) : List Int :=
  let d := s.delayOf n i0
  let d2 := s.delayOf n (i0 + 20)
  let a := s.wordsUnder n i0 d codes
  if d = d2 then a
  else
    let b := s.wordsUnder n i0 d2 codes2
    (List.range 21).map (fun q => if s.delayOf n (i0 + q) = d then a.getD q (-32768) else b.getD q (-32768))

/-- A 12-bit code of a raw line (R282). -/
def lineCode (x : Int) : Nat := pattern 12 (if x = -32768 then -2048 else clampInt (-2047) 2047 (roundShr x 4))

/-- A raw line from its words; missing ones are -2048. Bits 255:252 hold the tally (R282). -/
def rawLine (words : List Int) (tally : Nat) : Nat :=
  (List.range 21).foldl (fun a k => a + lineCode (words.getD k (-32768)) * 2 ^ (12 * k)) (tally * 2 ^ 252)

/-- The samples of input n with indices from lo to hi include a degraded one (R36, R49, R84, R147, R148, Table 1.6): frame
sample ph of its position occurs from the first to the last of the frames that hold an index of the range. -/
def State.spanDegraded (s : State) (n : Nat) (lo hi : Int) (sw : Bool) : Bool :=
  let k := banksPer s.inp.route
  let b0 := ((inputBanks s.inp.route n).head?).getD 0
  let len : Int := s.frameLen
  (List.range s.frameLen).any (fun ph =>
    let i := lo + ((ph : Int) - lo) % len
    let e := framePosition ph k b0
    decide (i ≤ hi) && s.posDegraded e.1 e.2 (s.frameOf i) (s.frameOf (hi - (hi - (ph : Int)) % len)) sw)

/-- A line of input n that holds the indices from lo to hi carries the degraded bit (Table 11.1, R464). -/
def State.capDegraded (s : State) (n : Nat) (lo hi : Int) : Bool := s.spanDegraded n lo hi true

/-- Its only cause is the switch-over of R84 (R300). -/
def State.switchOnly (s : State) (n : Nat) (lo hi : Int) : Bool :=
  s.spanDegraded n lo hi true && !(s.spanDegraded n lo hi false)

end Sys2Proof.Machine
end

