-- ==== Sys2Proof/Machine/Rings.lean ====
section
/-!
DEFINITION. The operations of the descriptor rings (ch. 15): room in a CQ, completions and their phase, MSI-X
messages, and starting a descriptor.
-/
namespace Sys2Proof.Machine

/-- Status codes (Table 0.6). -/
inductive Status where
  | ok | truncated | clamped | aborted | refNotReady | busy | badDescriptor | partitionFault
  | clockLost | clockSwitched | degraded | refusedPlaying | overflowGap | notSupportedCompat | pairLost
deriving DecidableEq, Repr

/-- The code of a status (Table 0.6). -/
def Status.code : Status → Nat
  | .ok => 0 | .truncated => 1 | .clamped => 2 | .aborted => 3 | .refNotReady => 4 | .busy => 5
  | .badDescriptor => 6 | .partitionFault => 7 | .clockLost => 8 | .clockSwitched => 9
  | .degraded => 10 | .refusedPlaying => 11 | .overflowGap => 12 | .notSupportedCompat => 13
  | .pairLost => 14

/-- Default of the per-ring counts: 0. -/
def zero : Nat → Nat := fun _ => 0

/-- Slots of the ring's queues: 2^SIZE_EXP, SIZE_EXP acting from 4 to 16 (R383, Table 15.9). -/
def State.ringSize (s : State) (r : Nat) : Nat :=
  2 ^ (max 4 (min 16 (s.fld (F.HIF_RING_CTL.SIZE_EXP r))))

def State.ringOwner (s : State) (r : Nat) : Nat := s.fld (F.HIF_RING_CTL.OWNER r)

/-- The ring takes the AX48 descriptor format (R410). -/
def State.ringV1 (s : State) (r : Nat) : Bool := s.flag (F.HIF_RING_CTL.V1 r)

def State.busMasterOn (s : State) (f : Nat) : Bool := s.hif.busMaster.contains f

/-- Opcode, flags and fields of dword 0 (Table 15.4). -/
def Desc.opcode (d : Desc) : Nat := getBits (dwAt d.dw 0) 0 8
def Desc.fence (d : Desc) : Bool := getBits (dwAt d.dw 0) 8 1 == 1
def Desc.irq (d : Desc) : Bool := getBits (dwAt d.dw 0) 9 1 == 1
def Desc.context (d : Desc) : Nat := getBits (dwAt d.dw 0) 16 4
def Desc.version (d : Desc) : Nat := getBits (dwAt d.dw 0) 20 4
def Desc.tag (d : Desc) : Word := dwAt d.dw 1

/-- Bits `lo` to `lo + w - 1` of dword `i` of a descriptor. -/
def Desc.f (d : Desc) (i lo w : Nat) : Nat := getBits (dwAt d.dw i) lo w

/-- Dword `i` of a descriptor as a number. -/
def Desc.n (d : Desc) (i : Nat) : Nat := (dwAt d.dw i).toNat

/-- Every bit of dwords `a` to 15 outside the masks of a list (dword, mask) is 0. -/
def Desc.reservedClear (d : Desc) (a : Nat) (masks : List (Nat × Word)) : Bool :=
  (List.range 16).all (fun i => Nat.blt i a ||
    (dwAt d.dw i &&& ~~~ (masks.foldl (fun m e => if e.1 = i then m ||| e.2 else m) 0)) == 0)

/-- The opcodes whose completions are extended: ACQ_ARM and ACQ_STREAM (R393). -/
def extOpcode (op : Nat) : Bool := op == 1 || op == 3

/-- CQ slots that the completion of an opcode takes on a ring (R391, R410). -/
def State.slotsOf (s : State) (r op : Nat) : Nat := if extOpcode op && !(s.ringV1 r) then 2 else 1

/-- CQ slots promised to the fetched descriptors of a ring. -/
def State.promised (s : State) (r : Nat) : Nat :=
  ((s.hif.descs.filter (fun d => d.ring == r)).map (fun d => s.slotsOf r d.opcode)).foldl (· + ·) 0
    + ((s.hif.waiting.filter (fun w => w.ring == r)).map (fun w => if w.ext then 2 else 1)).foldl (· + ·) 0

/-- CQ slots of a ring neither used nor promised (R391). -/
def State.cqRoom (s : State) (r : Nat) : Nat :=
  s.ringSize r - (SMap.get zero s.hif.cqUsed r + s.promised r)

/-- The write position moves on by `n` slots; the phase flips at the wrap (R394). -/
def State.advanceCq (s : State) (r n : Nat) : State :=
  let t := s.fld (F.HIF_RING_PTR.CQ_TAIL r) + n
  let z := s.ringSize r
  let s1 := s.setFld (F.HIF_RING_PTR.CQ_TAIL r) (t % z)
  let s2 := if z ≤ t then s1.setFld (F.HIF_RING_STAT.PHASE r) (1 - s.fld (F.HIF_RING_STAT.PHASE r)) else s1
  { s2 with hif := { s2.hif with cqUsed := SMap.set zero s2.hif.cqUsed r (SMap.get zero s2.hif.cqUsed r + n) } }

/-- The ring sends the message of its vector; a vector beyond the owner's table sets VEC_ERR and raises E041 (R398). -/
def State.signal (s : State) (r : Nat) : State :=
  let v := s.fld (F.HIF_RING_IRQ.VECTOR r)
  let o := s.ringOwner r
  if (if o = 0 then 63 else 7) < v then
    s.raiseOnce (F.HIF_RING_STAT.VEC_ERR r) 41 r (s.routeRing r)
  else
    { s with hif := { s.hif with msix := (o, v) :: s.hif.msix, uncovered := SMap.set zero s.hif.uncovered r 0, coverAt := SMap.erase s.hif.coverAt r } }

/-- A completion or record has been written; the ring signals it at once, or at COAL_CNT of them (R398, R419). -/
def State.cover (s : State) (r : Nat) (atOnce : Bool) : State :=
  let n := SMap.get zero s.hif.uncovered r + 1
  let s1 := { s with hif := { s.hif with
    uncovered := SMap.set zero s.hif.uncovered r n
    coverAt := if n = 1 then SMap.set zero s.hif.coverAt r s.time.elapsed else s.hif.coverAt } }
  if s1.flag (F.HIF_RING_IRQ.IRQ_EN r) && (atOnce || Nat.ble (max 1 (s1.fld (F.HIF_RING_IRQ.COAL_CNT r))) n)
  then s1.signal r else s1

/-- Byte address of CQ slot `t` of a ring with slots of `n` bytes. -/
def State.cqSlot (s : State) (r t n : Nat) : Nat := s.reg64 (R.HIF_RING_CQ_BASE_LO r) + n * t

/-- A completion reaches the CQ: dwords 1 and up first, dword 0 with the phase last (R393, R394). -/
def State.writeCompletion (s : State) (w : Waiting) : State :=
  let r := w.ring
  let f := s.ringOwner r
  let t := s.fld (F.HIF_RING_PTR.CQ_TAIL r)
  let dw0 := putBits (dwAt w.dw 0) 31 1 (s.fld (F.HIF_RING_STAT.PHASE r))
  let s1 := s.post f (s.cqSlot r t 32 + 4) ((w.dw.drop 1).take 7)
  let s2 := if w.ext then s1.post f (s.cqSlot r ((t + 1) % s.ringSize r) 32) ((w.dw.drop 8).take 8) else s1
  let s3 := s2.post f (s.cqSlot r t 32) [dw0]
  ((s3.advanceCq r (if w.ext then 2 else 1)).bump (R.HIF_RING_DONE r)).cover r w.irq

/-- The first fetched descriptor of a ring that has not started. -/
def State.headOf (s : State) (r : Nat) : Option Desc :=
  s.hif.descs.find? (fun d => d.ring == r && !d.started)

/-- Some descriptor of the ring before the one of fetch number `q` has not completed: its completion is not written
(R389). -/
def State.earlier (s : State) (r q : Nat) : Bool :=
  s.hif.descs.any (fun d => d.ring == r && Nat.blt d.seq q) || s.hif.waiting.any (fun w => w.ring == r && Nat.blt w.seq q)

/-- Opcodes that R367 holds until the stacks are active: ACQ_ARM, ACQ_STREAM, STIM_START, PAT_START. -/
def needsStacks (op : Nat) : Bool := op == 0x01 || op == 0x03 || op == 0x42 || op == 0x52

def State.isHarvRing (s : State) (r : Nat) : Bool := s.fld (F.HIF_RING_CTL.TYPE r) == 1

/-- The next start of a ring is held: FENCE, a waiting HARV_STREAM, or R367 (R389). -/
def State.held (s : State) (r : Nat) : Bool :=
  match s.headOf r with
  | none => false
  | some d => (d.fence && s.earlier r d.seq) || (needsStacks d.opcode && !(s.flag F.MEM_STAT.ACTIVE))
      || s.hif.harvests.any (fun h => h.ring == r && h.waits)

/-- WAITING of the ring shows whether its next start is held. -/
def State.showHeld (s : State) (r : Nat) : State := s.setFlag (F.HIF_RING_STAT.WAITING r) (s.held r)

/-- The descriptor is no longer outstanding. -/
def State.dropDesc (s : State) (d : Desc) : State :=
  { s with hif := { s.hif with descs := s.hif.descs.filter (fun (e : Desc) => e.seq != d.seq) } }

/-- A completion is written, or waits for Bus Master Enable of the ring's owner (R379). -/
def State.sendCompletion (s : State) (w : Waiting) : State :=
  if s.busMasterOn (s.ringOwner w.ring) then s.writeCompletion w
  else { s with hif := { s.hif with waiting := s.hif.waiting ++ [w] } }

/-- A descriptor completes with a status code and the payload of dwords 2 and up (R393). -/
def State.completeCode (s : State) (d : Desc) (code : Nat) (payload : List Word) : State :=
  let ext := extOpcode d.opcode && !(s.ringV1 d.ring)
  let dw0 := BitVec.ofNat 32 (d.opcode * 2 ^ 16 + code + (if ext then 2 ^ 30 else 0))
  let dw := (dw0 :: d.tag :: payload) ++ List.replicate 16 0
  ((s.dropDesc d).sendCompletion ⟨d.ring, ext, d.irq, dw.take 16, d.seq⟩).showHeld d.ring

/-- A descriptor completes. -/
def State.complete (s : State) (d : Desc) (st : Status) (payload : List Word) : State :=
  s.completeCode d st.code payload

/-- The refused descriptors at the head of a HARV ring complete in ring order (R388, R389). -/
def State.flushRefused (s : State) (r : Nat) : Nat → State
  | 0 => s
  | n + 1 =>
    match s.hif.descs.find? (fun d => d.ring == r) with
    | some d =>
      match d.refused with
      | some code => (s.completeCode d code []).flushRefused r n
      | none => s
    | none => s

/-- A descriptor finishes; on a HARV ring the refused ones behind it follow. -/
def State.finish (s : State) (d : Desc) (st : Status) (payload : List Word) : State :=
  (s.complete d st payload).flushRefused d.ring 8

/-- The descriptor may start: it is next on its ring, its fence and its ring's order hold (R389), and R367 does not
hold it. -/
def State.mayStart (s : State) (r : Nat) (d : Desc) : Bool :=
  !d.started && d.refused == none && !((d.fence || s.isHarvRing r) && s.earlier r d.seq)
    && !(needsStacks d.opcode && !(s.flag F.MEM_STAT.ACTIVE))

/-- A descriptor that has started. -/
def Desc.begun (d : Desc) : Desc := { d with started := true }

/-- The state once a descriptor of the ring has started. -/
def State.begin (s : State) (r : Nat) (d : Desc) : State :=
  ({ s with hif := { s.hif with
    descs := s.hif.descs.map (fun (e : Desc) => if e.seq == d.seq then d.begun else e) } }).showHeld r

/-- The next descriptor of the ring where it has the opcode and may start; it counts as started from then on. -/
def State.startNext (s : State) (r op : Nat) : Option (Desc × State) :=
  match s.headOf r with
  | none => none
  | some d => if d.opcode == op && s.mayStart r d then some (d.begun, s.begin r d) else none

/-- The started descriptor of the ring with the opcode, where there is one. -/
def State.running (s : State) (r op : Nat) : Option Desc :=
  s.hif.descs.find? (fun d => d.ring == r && d.started && d.opcode == op)

/-- The outstanding descriptor of a fetch number. -/
def State.descOf (s : State) (q : Nat) : Option Desc := s.hif.descs.find? (fun d => d.seq == q)

/-- The effect of starting the ring's next descriptor of an opcode; nothing where none may start. -/
def State.withStart (s : State) (r op : Nat) (f : Desc → State → State) : State :=
  match s.startNext r op with
  | some (d, t) => f d t
  | none => s

end Sys2Proof.Machine
end

