-- ==== Sys2Proof/Machine/Memory.lean ====
section
/-!
DEFINITION. The capture memory controller (ch. 14): line locations, the write buffer, arbitration, refresh,
self-refresh, training and the error log, and the meanings of MEM_HASH_WRITE, PORT_PANIC, REFRESH_INTERVAL,
STACK_TEMP_READ, SELF_REFRESH_ENTRY, SELF_REFRESH_EXIT, RETRAIN_STEP, LOAD_OFFSET_RETRAIN, HBM_ECC_CORRECTED,
HBM_ECC_UNCORRECTABLE and COMMAND_SLOT.
-/
namespace Sys2Proof.Machine

/-- Lines of capture memory (R347). -/
def memLines : Nat := 1610612736

/-- XOR of the low n bits. -/
def parity (x n : Nat) : Nat := popCount x n % 2

/-- What the PC hash inverts: bit k where PCMASK[k] selects an odd number of the line bits h (R348). -/
def State.pcHash (s : State) (h : Nat) : Nat :=
  bitsOf ((List.range 6).filter (fun k => parity (h &&& s.fld (F.MEM_HASH_PC.MASK k)) 20 == 1))

/-- What the bank hash inverts: bit j where BKMASK[j] selects an odd number of the line bits g (R348). -/
def State.bkHash (s : State) (g : Nat) : Nat :=
  bitsOf ((List.range 4).filter (fun j => parity (g &&& s.fld (F.MEM_HASH_BK.MASK j)) 16 == 1))

/-- PC of line l, and its bank within its SID (R348). -/
def State.pcOf (s : State) (l : Nat) : Nat := (l % 2 ^ 6) ^^^ s.pcHash (l / 2 ^ 11 % 2 ^ 20)
def State.bkOf (s : State) (l : Nat) : Nat := (l / 2 ^ 11 % 2 ^ 4) ^^^ s.bkHash (l / 2 ^ 15 % 2 ^ 16)

def lineCol (l : Nat) : Nat := l / 2 ^ 6 % 2 ^ 5
def lineRow (l : Nat) : Nat := l / 2 ^ 15 % 2 ^ 14
def lineSid (l : Nat) : Nat := l / 2 ^ 29 % 4

/-- The location of line l as one number: SID and row, bank, column and PC in the places that the line's own bits have (R348).
A byte stays at its location when the masks change (R350). -/
def State.place (s : State) (l : Nat) : Nat :=
  l / 2 ^ 15 * 2 ^ 15 + s.bkOf l % 2 ^ 4 * 2 ^ 11 + lineCol l * 2 ^ 6 + s.pcOf l % 2 ^ 6

/-- The location of a byte of capture memory. -/
def State.loc (s : State) (a : Nat) : Nat := 32 * s.place (a / 32) + a % 32

/-- The bank of line l among the 48 of its PC. -/
def State.bank48 (s : State) (l : Nat) : Nat := 16 * lineSid l + s.bkOf l

/-- MEM_XLATE_OUT for a line number (Table 14.2). -/
def State.xlate (s : State) (l : Nat) : Word :=
  if memLines ≤ l then 0xFFFFFFFF#32
  else BitVec.ofNat 32
    (lineSid l * 2 ^ 30 + lineRow l * 2 ^ 16 + lineCol l * 2 ^ 11 + s.bkOf l * 2 ^ 7 + s.pcOf l)

/-- MEM_XLATE_OUT shows the location of MEM_XLATE_IN. -/
def State.showXlate (s : State) : State := s.setReg R.MEM_XLATE_OUT (s.xlate (s.fld F.MEM_XLATE_IN.LINE))

/-- Base line, length, type and owner of partition k (Tables 11.2 and 11.3). -/
def State.ptValid (s : State) (k : Nat) : Bool := s.flag (F.MEM_PT_CFG.VALID k)
def State.ptBase (s : State) (k : Nat) : Nat := s.fld (F.MEM_PT_BASE.BASE k) * 2048
def State.ptLen (s : State) (k : Nat) : Nat := s.fld (F.MEM_PT_LEN.LEN k) * 2048
def State.ptType (s : State) (k : Nat) : Nat := s.fld (F.MEM_PT_CFG.TYPE k)
def State.ptOwner (s : State) (k : Nat) : Nat := s.fld (F.MEM_PT_CFG.OWNER k)
def State.ptInUse (s : State) (k : Nat) : Bool := s.flag (F.MEM_PT_CFG.IN_USE k)

/-- The partition that retraining uses (R369). -/
def State.spill (s : State) : Option Nat :=
  (List.range 16).find? (fun k => s.ptValid k && s.ptType k == 6 && s.ptOwner k == 0)

/-- NO_SPILL shows whether there is one. -/
def State.showSpill (s : State) : State := s.setFlag F.MEM_STAT.NO_SPILL (s.spill.isNone)

/-- An unlisted byte of capture memory (log entry 9). -/
def memByte : Nat → Byte := fun _ => 0

/-- Capture memory is in its canonical form: addresses strictly rising, no byte listed that an unlisted one equals. -/
def Memory.wf (m : SMap Byte) : Bool := SMap.wf memByte m

/-- `n` bytes of capture memory from a byte address. -/
def State.memBytes (s : State) (a n : Nat) : List Byte :=
  (List.range n).map (fun i => SMap.get memByte s.mem.bytes (s.loc (a + i)))

/-- Line l has been found uncorrectable and not been written since (R374). -/
def State.poisoned (s : State) (l : Nat) : Bool := s.mem.poison.contains (s.place l)

/-- The poison line (R374). -/
def poisonLine : Nat :=
  (List.range 21).foldl (fun a k => a + 0x800 * 2 ^ (12 * k)) (8 * 2 ^ 252)

/-- A line as a read of capture memory delivers it (R374). -/
def State.readLine (s : State) (l : Nat) : Nat :=
  if s.poisoned l then poisonLine else bytesNat (s.memBytes (32 * l) 32)

/-- Occupancy O of the write buffer in lines (R351). -/
def State.occupancy (s : State) : Nat := 16 * s.mem.slots.length

/-- MEM_WB_OCC shows O, and MEM_WB_PEAK its highest value. -/
def State.showOcc (s : State) : State :=
  let s1 := s.setFld F.MEM_WB_OCC.V s.occupancy
  if s1.fld F.MEM_WB_PEAK.V < s.occupancy then s1.setFld F.MEM_WB_PEAK.V s.occupancy else s1

/-- A line joins the slot of its group where that has not begun to drain, and takes a free slot otherwise (R351). -/
def joinSlot (l port : Nat) : List WbSlot → List WbSlot
  | [] => [⟨l / 16, [(l % 16, port)], false⟩]
  | x :: r =>
    if x.group == l / 16 && !x.draining then
      { x with lines := x.lines.filter (fun e => e.1 != l % 16) ++ [(l % 16, port)] } :: r
    else x :: joinSlot l port r

/-- A write of line l finds a slot: that of its group where it has not begun to drain, or one of the 4,096 that is free
(R351). -/
def hasRoom (l : Nat) (slots : List WbSlot) : Bool :=
  slots.any (fun x => x.group == l / 16 && !x.draining) || Nat.blt slots.length 4096

/-- A write of a line enters the write buffer; one that finds no free slot waits for one, and later ones behind it. -/
def State.buffer (s : State) (l port : Nat) : State :=
  if s.mem.overflow.isEmpty && hasRoom l s.mem.slots then
    ({ s with mem := { s.mem with slots := joinSlot l port s.mem.slots } }).showOcc
  else { s with mem := { s.mem with overflow := s.mem.overflow ++ [(l, port)] } }

/-- The writes that wait for a slot enter the buffer while there is one. -/
def State.admitLines (s : State) : Nat → State
  | 0 => s
  | n + 1 =>
    match s.mem.overflow with
    | e :: r =>
      if hasRoom e.1 s.mem.slots then
        ({ s with mem := { s.mem with slots := joinSlot e.1 e.2 s.mem.slots, overflow := r } }).showOcc.admitLines n
      else s
    | [] => s

/-- The buffer has an entry for the group of line l (R360). -/
def State.hasEntry (s : State) (l : Nat) : Bool :=
  s.mem.slots.any (fun x => x.group == l / 16) || s.mem.overflow.any (fun e => e.1 / 16 == l / 16)

/-- Line l itself is in the buffer. -/
def State.inBuffer (s : State) (l : Nat) : Bool :=
  s.mem.slots.any (fun x => x.group == l / 16 && x.lines.any (fun e => e.1 == l % 16))
    || s.mem.overflow.any (fun e => e.1 == l)

/-- Values written to the places of keys from `k` on. -/
def setPlaces (f : Nat → Nat) (m : SMap Byte) (k : Nat) : List Byte → SMap Byte
  | [] => m
  | v :: l => setPlaces f (SMap.set memByte m (f k) v) (k + 1) l

/-- Bytes of capture memory change. Reads see a write as soon as it has entered the buffer (R360). -/
def State.putBytes (s : State) (a : Nat) (b : List Byte) : State :=
  { s with mem := { s.mem with bytes := setPlaces s.loc s.mem.bytes a b } }

/-- A whole line is written through a port; it is no longer uncorrectable. -/
def State.writeLine (s : State) (port l x : Nat) : State :=
  if memLines ≤ l then s
  else
    let s1 := s.putBytes (32 * l) (natBytes x 32)
    ({ s1 with mem := { s1.mem with poison := s1.mem.poison.filter (fun e => e != s.place l) } }).buffer l port

/-- Consecutive lines written through a port. -/
def State.writeLines (s : State) (port l : Nat) : List Nat → State
  | [] => s
  | x :: r => (s.writeLine port l x).writeLines port (l + 1) r

/-- Bulk writes enter the buffer while O is below 8,192 lines (R353). -/
def State.bulkRoom (s : State) : Bool := Nat.blt s.occupancy 8192

/-- A bulk write of bytes enters the buffer: every line it touches, its uncorrectable mark kept unless
it is written whole. -/
def State.bulkWrite (s : State) (w : BulkWrite) : State :=
  let n := w.bytes.length
  let whole := fun (l : Nat) => Nat.ble w.addr (32 * l) && Nat.ble (32 * l + 32) (w.addr + n)
  let s1 := s.putBytes w.addr w.bytes
  let ls := (List.range ((w.addr + n - 1) / 32 - w.addr / 32 + 1)).map (· + w.addr / 32)
  let s2 := { s1 with mem := { s1.mem with
    poison := s1.mem.poison.filter (fun p => !((ls.filter whole).any (fun l => s.place l == p))) } }
  if n = 0 then s else ls.foldl (fun t l => t.buffer l w.port) s2

/-- The bulk writes that wait enter the buffer while it has room. -/
def State.admitBulk (s : State) : Nat → State
  | 0 => s
  | n + 1 =>
    match s.mem.bulk with
    | w :: r => if s.bulkRoom then (({ s with mem := { s.mem with bulk := r } }).bulkWrite w).admitBulk n else s
    | [] => s

/-- The stacks are active (R368, R365). -/
def State.memActive (s : State) : Bool := s.flag F.MEM_STAT.ACTIVE

/-- The waiting starts of R367 show whether they are still held. -/
def State.wakeRings (s : State) : State := s.each (List.range 64) State.showHeld

/-- Refresh count of a bank (R361). -/
def State.refCount (s : State) (pc bk : Nat) : Nat :=
  SMap.get zero s.mem.refBase (pc / 32) - SMap.get zero s.mem.refDone (48 * pc + bk)

def limitFld (k : Nat) : Fld := ⟨R.MEM_REF_STAT, 4 + 4 * k, 4⟩
def maxoutFld (k : Nat) : Fld := ⟨R.MEM_REF_STAT, 12 + 4 * k, 4⟩
def catchupFld (k : Nat) : Fld := ⟨R.MEM_REF_STAT, k, 1⟩
def hotFld (k : Nat) : Fld := ⟨R.MEM_STAT, 3 + k, 1⟩
def tempFld (k : Nat) : Fld := ⟨R.MEM_TEMP, 16 * k, 8⟩

/-- The highest refresh count of a stack. -/
def State.refMax (s : State) (k : Nat) : Nat :=
  SMap.get zero s.mem.refBase k -
    (List.range 1536).foldl (fun a i => min a (SMap.get zero s.mem.refDone (1536 * k + i)))
      (SMap.get zero s.mem.refDone (1536 * k))

/-- A catch-up of stack k starts where a count exceeds the limit (R363). -/
def State.checkCatchup (s : State) (k : Nat) : State :=
  let m := s.refMax k
  let lim := s.fld (limitFld k)
  if lim < m && !(s.flag (catchupFld k)) then
    ((s.setFlag (catchupFld k) true).bump R.MEM_CATCHUPS).raisePF 200 (k + 2 ^ 8 * satNat 255 (m - lim))
  else s

/-- A refresh interval of stack k elapses: every bank's count rises by 1; in self-refresh none does (R361, R365). -/
def State.refreshInterval (s : State) (k : Nat) : State :=
  if s.memActive then
    let s1 := { s with mem := { s.mem with
      refBase := SMap.set zero s.mem.refBase k (SMap.get zero s.mem.refBase k + 1) } }
    let m := satNat 15 (s1.refMax k)
    let s2 := if s1.fld (maxoutFld k) < m then s1.setFld (maxoutFld k) m else s1
    s2.checkCatchup k
  else s

def execRefreshInterval (stack : Fin 2) (s : State) : Host.Outcome State Fault Refusal :=
  s.act (fun t => t.refreshInterval stack)

/-- A stack temperature is read (R362). -/
def State.stackTemp (s : State) (k temp : Nat) : State :=
  let s1 := s.setFld (tempFld k) temp
  let t := signed 8 temp
  let hot := s1.flag (hotFld k)
  if !hot && decide (85 < t) then
    (((s1.setFlag (hotFld k) true).setFld (limitFld k) 4).raisePF 199 (k + 2)).checkCatchup k
  else if hot && decide (t < 82) then
    ((s1.setFlag (hotFld k) false).setFld (limitFld k) 8).raisePF 199 k
  else s1

def execStackTempRead (stack : Fin 2) (temp : BitVec 8) (s : State) : Host.Outcome State Fault Refusal :=
  s.act (fun t => t.stackTemp stack temp.toNat)

/-- The lines in the buffer, oldest slot first: (line, port). -/
def State.bufferedLines (s : State) : List (Nat × Nat) :=
  s.mem.slots.flatMap (fun x => x.lines.map (fun e => (16 * x.group + e.1, e.2)))

/-- Of several writes of one line the oldest: writes of a line reach the stack in the order in which they entered (R351). -/
def firstOfLine : List (Nat × Nat) → List Nat → List (Nat × Nat)
  | [], _ => []
  | e :: l, seen => if seen.contains e.1 then firstOfLine l seen else e :: firstOfLine l (e.1 :: seen)

/-- The writes that wait for a PC, oldest first: (line, port). -/
def State.waitingLines (s : State) (pc : Nat) : List (Nat × Nat) :=
  (firstOfLine s.bufferedLines []).filter (fun e => s.pcOf e.1 == pc)

/-- The reads that wait for a PC and whose group has no entry any more (R360). -/
def State.waitingReads (s : State) (pc : Nat) : List MemRead :=
  s.mem.reads.filter (fun r => s.pcOf r.line == pc && !(s.hasEntry r.line))

/-- The ports that hold a request for a PC. -/
def State.portsFor (s : State) (pc : Nat) : List Nat :=
  (List.range 8).filter (fun p => (s.waitingLines pc).any (fun e => e.2 == p) || (s.waitingReads pc).any (fun r => r.port == p))

/-- PANIC of port p. -/
def State.panics (s : State) (p : Nat) : Bool := s.flag (F.MEM_PORT_STAT.PANIC p)

def State.prio (s : State) (p : Nat) : Nat := s.fld (F.MEM_PORT_CTL.PRIO p)

/-- The first port of a list in the order of higher PRIO, then lower number. -/
def State.firstPort (s : State) (l : List Nat) : Option Nat :=
  l.find? (fun p => l.all (fun q => Nat.blt (s.prio q) (s.prio p) || (Nat.ble (s.prio q) (s.prio p) && Nat.ble p q)))

/-- WEIGHT as it acts. -/
def State.weight (s : State) (p : Nat) : Nat := max 1 (s.fld (F.MEM_PORT_CTL.WEIGHT p))

/-- The port of row 6 of Table 14.5 and the state with its round counted: among the ports of the highest PRIO, each
serves up to WEIGHT requests per round, and a round in which none of them has any left to serve gives way to the next (log
entry 10). -/
def State.roundPort (s : State) (pc : Nat) (l : List Nat) : Option (Nat × State) :=
  match s.firstPort l with
  | none => none
  | some p0 =>
    let eq := l.filter (fun p => s.prio p == s.prio p0)
    let put := fun (t : State) (p c : Nat) =>
      { t with mem := { t.mem with served := SMap.set zero t.mem.served (8 * pc + p) c } }
    match eq.find? (fun p => Nat.blt (SMap.get zero s.mem.served (8 * pc + p)) (s.weight p)) with
    | some p => some (p, put s p (SMap.get zero s.mem.served (8 * pc + p) + 1))
    | none => some (p0, put (eq.foldl (fun t p => put t p 0) s) p0 1)

/-- A request of port p has waited `wait` ns (R356, Table 14.10). -/
def State.noteWait (s : State) (p wait : Nat) : State :=
  if s.reg (R.MEM_PORT_MAXLAT p) < BitVec.ofNat 32 wait then s.setReg (R.MEM_PORT_MAXLAT p) (BitVec.ofNat 32 wait) else s

/-- The bytes that a read of capture memory delivers from a byte address (R374). -/
def State.readBytes (s : State) (a n : Nat) : List Byte :=
  let l := (List.range (ceilDiv (a % 32 + n) 32)).flatMap (fun i => natBytes (s.readLine (a / 32 + i)) 32)
  (l.drop (a % 32)).take n

/-- Dwords from little-endian bytes (R8). -/
def bytesWords : List Byte → List Word
  | a :: b :: c :: d :: l => bytesWord a b c d :: bytesWords l
  | _ => []

/-- A dword of capture memory as the BAR4 window shows it: all ones beyond the last line (R381). -/
def State.bar4Dword (s : State) (a : Nat) : Word :=
  if 32 * memLines ≤ a then 0xFFFFFFFF#32 else (bytesWords (s.readBytes a 4)).headD 0

/-- A BAR4 read of `n` dwords from a byte address of capture memory is answered (R374, R381). -/
def State.bar4Answer (s : State) (a n : Nat) : State :=
  let ep := (List.range n).any (fun i => s.poisoned ((a + 4 * i) / 32))
  { s with hif := { s.hif with
    reads := ⟨(List.range n).map (fun i => s.bar4Dword (a + 4 * i)), ep, false⟩ :: s.hif.reads } }

/-- The BAR4 reads that wait are answered, but those of whose lines some still wait (R360, R372). -/
def State.bar4Serve (s : State) : State :=
  let waits := fun (e : Nat × Nat) => s.mem.reads.any (fun r => r.who == .bar4 e.1 e.2)
  (s.hif.bar4.filter (fun e => !(waits e))).foldl (fun t e => t.bar4Answer e.1 e.2)
    { s with hif := { s.hif with bar4 := s.hif.bar4.filter waits } }

/-- The lines of a read whose groups have an entry wait at the port (R360). -/
def State.requestLines (s : State) (port : Nat) (who : ReadFor) (lines : List Nat) : State :=
  { s with mem := { s.mem with reads := s.mem.reads ++ (lines.filter s.hasEntry).map (fun l => ⟨port, l, who⟩) } }

/-- Reads for a purpose still wait. -/
def State.readsWait (s : State) (p : ReadFor → Bool) : Bool := s.mem.reads.any (fun r => p r.who)

/-- A tail update reads its line and writes it back through PORT1 with a bit set (R283, R374). -/
def State.setLineBit (s : State) (l bit : Nat) : State :=
  let x := s.readLine l
  s.writeLine 1 l (if natBit x bit then x else x + 2 ^ bit)

/-- A read that waited has been issued. -/
def State.readDone (s : State) (r : MemRead) : State :=
  match r.who with
  | .bar4 _ _ => if s.memActive then s.bar4Serve else s
  | .tail bit => s.setLineBit r.line bit
  | .harvest _ => s

/-- The oldest waiting request of a port in a PC is issued to the stack, writes before reads; an emptied slot is free. -/
def State.issue (s : State) (pc p wait : Nat) : State :=
  match (s.waitingLines pc).find? (fun e => e.2 == p), (s.waitingReads pc).find? (fun r => r.port == p) with
  | some e, _ =>
    let slots := (s.mem.slots.foldl (fun (a : List WbSlot × Bool) x =>
      if !a.2 && x.group == e.1 / 16 && x.lines.contains (e.1 % 16, p) then
        (a.1 ++ [{ x with lines := x.lines.filter (fun y => y != (e.1 % 16, p)), draining := true }], true)
      else (a.1 ++ [x], a.2)) ([], false)).1
    let s1 := ({ s with mem := { s.mem with slots := slots.filter (fun x => !x.lines.isEmpty) } }).showOcc
    ((s1.noteWait p wait).admitLines 16).admitBulk 64
  | none, some r => (({ s with mem := { s.mem with reads := s.mem.reads.erase r } }).noteWait p wait).readDone r
  | none, none => s

/-- A refresh of one bank of a PC; the set in force is applied to the PC with it (R361, R371). -/
def State.refreshBank (s : State) (pc bk : Nat) : State :=
  let s1 := { s with mem := { s.mem with
    refDone := SMap.set zero s.mem.refDone (48 * pc + bk) (SMap.get zero s.mem.refDone (48 * pc + bk) + 1)
    loadPcs := if natBit s.mem.loadPcs pc == s.anyArmed then s.mem.loadPcs
      else if s.anyArmed then s.mem.loadPcs + 2 ^ pc else s.mem.loadPcs - 2 ^ pc } }
  let k := pc / 32
  if s1.flag (catchupFld k) && Nat.ble (s1.refMax k) (s1.fld (limitFld k)) then s1.setFlag (catchupFld k) false else s1

/-- A command slot of a PC serves the first class of Table 14.5 that has work (R358). The served request has waited
`wait` ns. Row 4, the retraining step, is the command RETRAIN_STEP. -/
def State.commandSlot (s : State) (pc wait : Nat) : State :=
  if !s.memActive then s
  else
    let banks := List.range 48
    let lim := s.fld (limitFld (pc / 32))
    let ports := s.portsFor pc
    let busy := (s.bufferedLines.map (·.1) ++ s.mem.reads.map (·.line)).filterMap (fun l =>
      if s.pcOf l == pc then some (s.bank48 l) else none)
    match banks.find? (fun b => Nat.blt lim (s.refCount pc b)) with
    | some b => s.refreshBank pc b
    | none =>
    match s.firstPort (ports.filter (fun p => Nat.blt p 4 && s.panics p)) with
    | some p => s.issue pc p wait
    | none =>
    match s.firstPort (ports.filter s.panics) with
    | some p => s.issue pc p wait
    | none =>
    match banks.find? (fun b => s.refCount pc b != 0 && !(busy.contains b)) with
    | some b => s.refreshBank pc b
    | none =>
    match s.roundPort pc ports with
    | some (p, t) => t.issue pc p wait
    | none =>
    match banks.find? (fun b => s.refCount pc b != 0) with
    | some b => s.refreshBank pc b
    | none => s

def execCommandSlot (pc : Fin 64) (wait : Nat) (s : State) : Host.Outcome State Fault Refusal :=
  s.act (fun t => if t.clk.memNext.isSome then t else t.commandSlot pc wait)

/-- Port p is to panic (R357): `measure` is the wait in ns of the oldest request it holds for any PC, and for PORT2 and PORT3
the fill of the prefetch FIFO in lines; none where it holds no request. PORT7 has no panic measure. -/
def State.mustPanic (s : State) (p : Nat) (measure : Option Nat) : Bool :=
  p != 7 && s.flag (F.MEM_PORT_CTL.PANIC_EN p) && (match measure with
    | some m => if p = 2 || p = 3 then Nat.blt m (s.fld (F.MEM_PORT_CTL.PANIC_THR p))
      else Nat.ble (s.fld (F.MEM_PORT_CTL.PANIC_THR p)) m
    | none => false)

/-- A panic of a port starts or ends as its measure finds it (R357). -/
def State.portPanic (s : State) (p : Nat) (measure : Option Nat) : State :=
  if !(s.mustPanic p measure) then s.setFlag (F.MEM_PORT_STAT.PANIC p) false
  else if s.panics p then s
  else
    let s1 := (s.setFlag (F.MEM_PORT_STAT.PANIC p) true).bump (R.MEM_PORT_PANICS p)
    if p < 4 then s1.raiseOnce (F.MEM_PORT_STAT.PANIC_SEEN p) 206 p routePF else s1

def execPortPanic (port : Fin 8) (measure : Option Nat) (s : State) : Host.Outcome State Fault Refusal :=
  s.act (fun t => t.portPanic port measure)

/-- A write to MEM_PORTp_CTL (R359): a port without PANIC_EN does not panic (R357). -/
def State.portWrite (s : State) (p : Nat) (v : Word) : State :=
  let s1 := s.plainWrite (R.MEM_PORT_CTL p) v
  if s1.flag (F.MEM_PORT_CTL.PANIC_EN p) then s1 else s1.setFlag (F.MEM_PORT_STAT.PANIC p) false

/-- Offset of hash register j: 0 to 5 MEM_HASH_PC, 6 to 9 MEM_HASH_BK. -/
def hashFld (j : Nat) : Fld := if j < 6 then F.MEM_HASH_PC.MASK j else F.MEM_HASH_BK.MASK (j - 6)

/-- A write to a hash mask (R350). -/
def State.hashWrite (s : State) (j : Nat) (v : Word) : State :=
  if (List.range 16).any s.ptValid then s.setFlag F.MEM_STAT.HASH_DISCARD true
  else (s.setFld (hashFld j) (getBits v 0 20)).showXlate

def execMemHashWrite (reg : Fin 10) (value : Word) (s : State) : Host.Outcome State Fault Refusal :=
  s.act (fun t => t.atReg (hashFld reg).off (fun u => u.hashWrite reg value))

/-- A stimulus sequence or a pattern runs (R365): its state is not idle. -/
def State.playing (s : State) : Bool := s.fld F.STM_STAT.STATE != 0 || s.fld F.PAT_STAT2.STATE != 0

/-- A port holds a request, or the host interface holds a descriptor that needs the stacks (R365, R367). -/
def State.memRequested (s : State) : Bool :=
  !s.mem.slots.isEmpty || !s.mem.bulk.isEmpty || !s.mem.reads.isEmpty || !s.hif.bar4.isEmpty || s.hif.harvests.any (fun h => !h.waits)
    || s.hif.descs.any (fun d => needsStacks d.opcode && !d.started && d.refused == none)

/-- The refresh counts restart at 0. -/
def State.clearCounts (s : State) : State :=
  let s1 := { s with mem := { s.mem with refBase := [], refDone := [] } }
  (s1.setFlag (catchupFld 0) false).setFlag (catchupFld 1) false

/-- The stacks enter self-refresh (R365, R372): `q` is 1 in the fault case. -/
def State.enterSelfRefresh (s : State) (q : Nat) : State :=
  ((((s.clearCounts.setFlag F.MEM_STAT.SR true).setFlag F.MEM_STAT.ACTIVE false).bump R.MEM_SR_COUNT).raisePF 201
    q).wakeRings

/-- SELF_REFRESH_ENTRY: the idle conditions of R365 have held for SR_IDLE. -/
def State.selfRefreshEntry (s : State) : State :=
  if s.flag F.MEM_CTL.SR_AUTO && s.memActive && !s.anyArmed && !s.playing && !s.memRequested
    && !(s.flag F.CLK_STAT.RATE_CHANGING) then s.enterSelfRefresh 0 else s

def execSelfRefreshEntry (s : State) : Host.Outcome State Fault Refusal := s.act State.selfRefreshEntry

/-- The stacks leave self-refresh: counts restart, E202, and what waited goes on (R365, R367, R372). -/
def State.leaveSelfRefresh (s : State) : State :=
  ((((s.clearCounts.setFlag F.MEM_STAT.SR false).setFlag F.MEM_STAT.SR_FAULT false).setFlag F.MEM_STAT.ACTIVE
    true).raisePF 202 0).wakeRings.bar4Serve

/-- SELF_REFRESH_EXIT: a request has brought the stacks out; a fault self-refresh ends only as R372 states. -/
def State.selfRefreshExit (s : State) : State :=
  if s.flag F.MEM_STAT.SR && !(s.flag F.MEM_STAT.SR_FAULT) then s.leaveSelfRefresh else s

def execSelfRefreshExit (s : State) : Host.Outcome State Fault Refusal := s.act State.selfRefreshExit

/-- The line in column c of a PC in the first 2,048 lines from `base` (R349). -/
def State.spillLine (s : State) (base pc c : Nat) : Nat :=
  let l0 := base + 64 * c
  l0 + (s.pcOf l0 ^^^ pc)

/-- A retraining step writes a test line: the line's content is open (R369). -/
def State.testLine (s : State) (pc c : Nat) : State :=
  match s.spill with
  | some k =>
    let (v, s1) := s.draw 256
    s1.writeLine 7 (s.spillLine (s.ptBase k) pc c) v.toNat
  | none => s

/-- Retraining may run: at 6.4 Gbit/s, with the stacks active, no memory clock change in progress and a SPILL partition (R88,
R369, R370). -/
def State.canTrain (s : State) : Bool :=
  s.memActive && s.clk.memNext.isNone && !(s.flag F.CLK_STAT.MEM_BACKUP) && !(s.flag F.CLK_STAT.BYPASS && s.flag F.MEM_STAT.SR_FAULT)
    && s.spill.isSome

def noTemp : Nat → Int := fun _ => 0

/-- The next PC to retrain (R370). -/
def State.nextPc (s : State) : Nat :=
  match (List.range 64).find? (fun p =>
    decide (8 < (s.sfld (tempFld (p / 32)) - SMap.get noTemp s.mem.trnTemp p).natAbs)) with
  | some p => p
  | none => s.fld F.MEM_TRN_STAT.NEXT_PC

/-- A step finds no setting inside the margin: the previous one stays (R370, Table 22.1). -/
def State.trainFail (s : State) (pc : Nat) : State := ((s.bump R.MEM_TRN_FAILS).raisePF 203 pc).fault 0x0008 pc

/-- A setting found for step c of a PC, counted from the boot set (R371). -/
def State.trainSet (s : State) (pc c : Nat) (x : Int) : State :=
  let k := 32 * pc + c
  let off := SMap.get noTemp s.mem.loadOff k
  { s with mem := { s.mem with idleSet := SMap.set noTemp s.mem.idleSet k (if s.anyArmed then x - off else x) } }

/-- The retraining of a PC is complete. -/
def State.trainDone (s : State) (pc : Nat) : State :=
  let s1 := { s with mem := { s.mem with
    trnPc := none, trnStep := 0
    trnTemp := SMap.set noTemp s.mem.trnTemp pc (s.sfld (tempFld (pc / 32))) } }
  (s1.bump R.MEM_TRN_COUNT).setFld F.MEM_TRN_STAT.LAST_PC pc

/-- A retraining step of a PC waits: for a catch-up refresh, a panicking port or a request of a real-time port (rows 1 to 4 of
Table 14.5). -/
def State.stepWaits (s : State) (pc : Nat) : Bool :=
  (List.range 48).any (fun b => Nat.blt (s.fld (limitFld (pc / 32))) (s.refCount pc b))
    || (s.portsFor pc).any (fun p => Nat.blt p 4 || s.panics p)

/-- One of the 32 steps of a retraining runs (R358 row 4, R370). `found` is the setting inside the margin, if any. -/
def State.retrainStep (s : State) (found : Option Int) : State :=
  if !(s.canTrain) || !(s.flag F.MEM_CTL.RETRAIN_EN) || s.mem.offsetPc.isSome then s
  else
    let pc := s.mem.trnPc.getD s.nextPc
    if s.stepWaits pc then s
    else
      let c := s.mem.trnStep
      let cyc := s.mem.trnPc.isNone && pc == s.fld F.MEM_TRN_STAT.NEXT_PC
      let s1 := if cyc then s.setFld F.MEM_TRN_STAT.NEXT_PC (pc + 1) else s
      let s2 := ({ s1 with mem := { s1.mem with trnPc := some pc, trnStep := c + 1 } }).testLine pc c
      let s3 := match found with
        | some x => s2.trainSet pc c x
        | none => s2.trainFail pc
      if c + 1 = 32 then s3.trainDone pc else s3

def execRetrainStep (found : Option Int) (s : State) : Host.Outcome State Fault Refusal :=
  s.act (fun t => t.retrainStep found)

/-- A result of the retraining that learns the load offsets: the offset is the result less the boot set (R371). -/
def State.offsetSet (s : State) (pc c : Nat) (x : Int) : State :=
  { s with mem := { s.mem with loadOff := SMap.set noTemp s.mem.loadOff (32 * pc + c) x } }

/-- The next PC is retrained to learn its load offset (R371). -/
def State.offsetTrain (s : State) (found : List (Option Int)) : State :=
  match s.mem.offsetPc with
  | none => s
  | some pc =>
    if !s.canTrain then s
    else
      let s1 := s.each (List.range 32) (fun t c =>
        let t1 := t.testLine pc c
        match found.getD c none with
        | some x => t1.offsetSet pc c x
        | none => t1.trainFail pc)
      let s2 := s1.trainDone pc
      if pc < 63 then { s2 with mem := { s2.mem with offsetPc := some (pc + 1) } }
      else ({ s2 with mem := { s2.mem with offsetPc := none } }).setFlag F.MEM_STAT.OFFSETS true

def execLoadOffsetRetrain (found : List (Option Int)) (s : State) : Host.Outcome State Fault Refusal :=
  s.act (fun t => t.offsetTrain found)

/-- An entry of the error log (R375). -/
def State.eccLog (s : State) (ue : Bool) (l port w synd : Nat) : State :=
  let e := s.fld F.MEM_ECC_LOGPTR.V
  (s.setRegs (R.MEM_ECC_LOG e 0)
    (BitVec.ofNat 32 ((if ue then 2 ^ 31 else 0) + l)
      :: BitVec.ofNat 32 (port * 2 ^ 24 + synd * 2 ^ 16 + w * 2 ^ 8 + s.pcOf l) :: eventTime s.now)).setFld
    F.MEM_ECC_LOGPTR.V (e + 1)

/-- One millisecond in 2^-64 s. -/
def millisecond : Nat := 2 ^ 64 / 1000

/-- A corrected error is found by a read through a port (R373, R375). -/
def State.eccCorrected (s : State) (l port w synd : Nat) : State :=
  if memLines ≤ l then s
  else
    let s1 := (s.bumpSat F.MEM_ECC_CE.V 1).eccLog false l port w synd
    let due := match s1.mem.eccAt with
      | some t => decide (t + millisecond ≤ s1.time.elapsed)
      | none => true
    let s2 := if due
      then ({ s1 with mem := { s1.mem with eccAt := some s1.time.elapsed } }).raisePF 196 l else s1
    let s3 := s2.fault 0x0007 (s.pcOf l)
    if s3.flag F.MEM_CTL.ECC_WB && !(s3.inBuffer l) then s3.buffer l 7 else s3

def execHbmEccCorrected (line : Nat) (port : Fin 8) (word : Fin 4) (syndrome : BitVec 8) (s : State) :
    Host.Outcome State Fault Refusal :=
  s.act (fun t => t.eccCorrected line port word syndrome.toNat)

/-- A read through a port finds an uncorrectable line (R374, R375). -/
def State.eccUncorrectable (s : State) (l port w synd : Nat) : State :=
  if memLines ≤ l then s
  else
    let s1 := ((s.bumpSat F.MEM_ECC_UE.V 1).raisePF 197 l).eccLog true l port w synd
    (if s1.poisoned l then s1
      else { s1 with mem := { s1.mem with poison := s1.place l :: s1.mem.poison } }).fault 0x0105 (s.pcOf l)

def execHbmEccUncorrectable (line : Nat) (port : Fin 8) (word : Fin 4) (syndrome : BitVec 8) (s : State) :
    Host.Outcome State Fault Refusal :=
  s.act (fun t => t.eccUncorrectable line port word syndrome.toNat)

end Sys2Proof.Machine
end

