-- ==== Sys2Proof/Machine/Pans.lean ====
section
/-!
DEFINITION. The accumulation pans (ch. 13): gangs, passes, buffers, migration, and the meanings of PAN_ATTACH,
PAN_SWAP, PAN_HARVEST, PAN_HARVEST_COMPLETE, PAN_DETACH, PAN_CLEAR, PAN_CLEAR_COMPLETE, PAN_SELFTEST,
PAN_SELFTEST_COMPLETE, PAN_PASS_COMPLETE and PAN_CELL_ECC_ERROR.
-/
namespace Sys2Proof.Machine

/-- Fields of an assignment, dwords 2 to 7 (Table 13.5). -/
def asg (dw : List Word) (i lo w : Nat) : Nat := getBits (dwAt dw (i - 2)) lo w
def asgInput (dw : List Word) : Nat := asg dw 2 16 2
def asgPing (dw : List Word) : Bool := asg dw 2 12 1 == 1
def asgMode (dw : List Word) : Nat := asg dw 2 8 2
def asgOffset (dw : List Word) : Int := signed 32 (asg dw 3 0 32)
def asgPoints (dw : List Word) : Nat := asg dw 4 0 25
def asgStride (dw : List Word) : Nat := asg dw 5 0 16
def asgAuto (dw : List Word) : Nat := asg dw 6 0 17
def asgRows (dw : List Word) : Nat := if asgMode dw = 2 then 2 ^ asg dw 7 24 4 else 1
def asgShift (dw : List Word) : Nat := asg dw 7 16 4
def asgLow (dw : List Word) : Int := signed 16 (asg dw 7 0 16)

/-- Cleared value of a cell (Table 13.2). -/
def clearedCell (mode : Nat) : Nat → Word := fun _ => if mode = 1 then 0x80007FFF#32 else 0

/-- Bank depth W_b (R335). -/
def bankDepth (dw : List Word) (g : Nat) : Nat := ceilDiv (asgPoints dw) (48 * g) * asgRows dw

/-- The gang is within rate (R325). -/
def withinRate (dw : List Word) (g s : Nat) : Bool := Nat.ble (ceilDiv s (asgStride dw)) (48 * g)

/-- The members of a gang. -/
def members (f code : Nat) : List Nat := (List.range (2 ^ code)).map (· + f)

def Gang.buf (g : Gang) (b : Nat) : PanBuf := SMap.get (fun _ => {}) g.bufs b
def Gang.setBuf (g : Gang) (b : Nat) (x : PanBuf) : Gang := { g with bufs := SMap.set (fun _ => {}) g.bufs b x }

/-- State of buffer b of the gang at F (Table 13.3). -/
def bufFld (f b : Nat) : Fld := if b = 0 then F.PAN_STAT.BUF0 f else F.PAN_STAT.BUF1 f
def State.bufState (s : State) (f b : Nat) : Nat := s.fld (bufFld f b)

/-- The buffers of a gang. -/
def Gang.buffers (g : Gang) : List Nat := if asgPing g.dw then [0, 1] else [0]

/-- A field of PAN_STAT set in every member of a gang. -/
def State.panFld (s : State) (f code : Nat) (fld : Nat → Fld) (x : Nat) : State :=
  (members f code).foldl (fun t k => t.setFld (fld k) x) s

/-- The state of a buffer changes; PAN_PASSES follows. -/
def State.setBufState (s : State) (f : Nat) (g : Gang) (b x : Nat) : State :=
  s.panFld f g.code (fun k => bufFld k b) x

/-- PAN_PASSES shows the passes in the FILLING buffer. -/
def State.showPasses (s : State) (f : Nat) (g : Gang) : State :=
  match g.buffers.find? (fun b => s.bufState f b == 1) with
  | some b => s.setReg (R.PAN_PASSES f) (BitVec.ofNat 32 (g.buf b).passes)
  | none => s.setReg (R.PAN_PASSES f) 0

/-- The gang is no longer owned once it is detached and every buffer is FREE (R340). -/
def State.releaseGang (s : State) (f : Nat) : State :=
  match s.gang f with
  | some g =>
    if !g.attached && g.migrate.isEmpty && [0, 1].all (fun b => s.bufState f b == 0) then
      (s.panFld f g.code (fun k => F.PAN_STAT.OWNED k) 0).setGang f none
    else s
  | none => s

/-- A descriptor that waits completes. -/
def State.finishSeq (s : State) (q : Nat) (st : Status) (payload : List Word) : State :=
  match s.descOf q with
  | some d => s.finish d st payload
  | none => s

/-- PAN_DETACH completes when no buffer is FILLING or CLOSING, and after the migrations before it (R338, R343). -/
def State.checkDetach (s : State) (f : Nat) : State :=
  match s.gang f with
  | some g =>
    if !g.migrate.isEmpty || [0, 1].any (fun b => s.bufState f b == 1 || s.bufState f b == 2) then s
    else
      let s1 := s.setGang f (some { g with detaches := [] })
      (g.detaches.foldl (fun t q => t.finishSeq q .ok []) s1).releaseGang f
  | none => s

/-- A buffer becomes CLOSED: E192, and the PAN_SWAP that named it completes (R337, R341). -/
def State.bufClosed (s : State) (f b : Nat) : State :=
  match s.gang f with
  | some g =>
    let x := g.buf b
    let s1 := (s.setBufState f g b 3).setGang f (some { g with swaps := g.swaps.filter (fun e => e.2 != b) })
    let s2 := s1.raise 192 (f + 8 * b + 16 * x.cause + 2 ^ 16 * satNat 65535 x.passes) (s.routeGang f)
    let s3 := (g.swaps.filter (fun e => e.2 == b)).foldl (fun t e =>
      t.finishSeq e.1 .ok [BitVec.ofNat 32 b, BitVec.ofNat 32 x.passes]) s2
    s3.showPasses f g
  | none => s

/-- The FILLING buffer of a gang. -/
def State.filling (s : State) (f : Nat) : Option Nat := [0, 1].find? (fun b => s.bufState f b == 1)

/-- A FILLING buffer closes (R337): passes accepted in this core cycle or earlier complete into it. -/
def State.closeBuf (s : State) (f b cause : Nat) : State :=
  match s.gang f with
  | some g =>
    let g1 := g.setBuf b { g.buf b with cause := cause, closeAt := some s.time.cycle }
    ((s.setGang f (some g1)).setBufState f g1 b 2).showPasses f g1
  | none => s

/-- The core cycle in which a buffer began to close has passed. -/
def PanBuf.closeOver (x : PanBuf) (cycle : Nat) : Bool :=
  match x.closeAt with
  | some c => Nat.blt c cycle
  | none => true

/-- The CLOSING buffers of a gang that no pass can enter any more and whose passes are complete become CLOSED (R336). -/
def State.closeDone (s : State) (f : Nat) : State :=
  match s.gang f with
  | some g =>
    s.each ([0, 1].filter (fun b => s.bufState f b == 2 && (g.buf b).closeOver s.time.cycle
      && !(g.passes.any (fun p => p.buf == b)))) (fun t b => t.bufClosed f b)
  | none => s

/-- A skip for reason r (R331): 0 OCCUPIED, 1 NO_BUFFER, 2 LATE, 3 RATE. -/
def State.panSkip (s : State) (f r : Nat) : State :=
  let s1 := if r = 2 then s.bump (R.PAN_LATE f) else s.bump (R.PAN_SKIP f)
  s1.raiseOnce ⟨R.PAN_FLAGS f, r, 1⟩ 193 (f + 16 * r) (s.routeGang f)


/-- Core cycles that a pass with trigger index t occupies (R331). -/
def State.passSpan (s : State) (dw : List Word) (t : Nat) : Int × Int :=
  let a := (t : Int) + asgOffset dw
  (s.cycleOf a, s.cycleOf (a + (((asgPoints dw - 1) * asgStride dw : Nat) : Int)))

/-- A pass is late (R330): its first word enters 512 core cycles after its tap point (Table 1.8). -/
def State.passLate (s : State) (dw : List Word) (t : Nat) : Bool :=
  decide ((s.passSpan dw t).1 + 555 + (s.delayCycles (asgInput dw) : Nat) < s.cycleOf (t : Int) + 59 + (s.dT + s.twinLag : Nat))

/-- WAITING shows whether a pass is skipped for want of a FREE buffer. -/
def State.setWaiting (s : State) (f : Nat) (g : Gang) (b : Bool) : State :=
  s.panFld f g.code (fun k => F.PAN_STAT.WAITING k) (if b then 1 else 0)

/-- A pass with the points of an assignment enters a buffer (R329, R337). `seg` is its segment number. -/
def State.passInto (s : State) (f b n t seg : Nat) (dw : List Word) : State :=
  match s.gang f with
  | some g =>
    let x : PanBuf := if s.bufState f b == 0 then
      { pepoch := s.fld (F.PAN_STAT.PEPOCH f), ctx := n, dw := dw, firstSeg := seg, firstIdx := t
        arm := (s.ctx n).arms } else g.buf b
    let x1 := { x with passes := x.passes + 1, lastSeg := seg, lastIdx := t }
    let g1 := { g.setBuf b x1 with passes := g.passes ++ [⟨b, t⟩], span := some (s.passSpan dw t) }
    if s.bufState f b == 2 then s.setGang f (some g1)
    else
      let s1 := ((s.setGang f (some g1)).setBufState f g1 b 1).showPasses f g1
      if asgAuto dw != 0 && x1.passes == asgAuto dw then s1.closeBuf f b 1
      else if asgMode dw = 0 && Nat.ble 65536 x1.passes then s1.closeBuf f b 2
      else s1
  | none => s

/-- The pass would occupy a core cycle that the gang's previous pass occupies (R331). -/
def State.passOverlaps (s : State) (g : Gang) (dw : List Word) (t : Nat) : Bool :=
  match g.span with
  | some (a, b) =>
    let p := s.passSpan dw t
    decide (p.1 ≤ b) && decide (a ≤ p.2)
  | none => false

/-- Why a pass under an assignment is skipped, whatever its buffer (R330, R331). -/
def State.skipReason (s : State) (g : Gang) (dw : List Word) (t : Nat) : Option Nat :=
  if s.passLate dw t then some 2
  else if s.passOverlaps g dw t then some 0
  else if !(withinRate dw (2 ^ g.code) s.perCycle) then some 3
  else none

/-- An assignment takes the completions of context n: the arm's INPUTS include its INPUT (R329). -/
def State.passTakes (s : State) (n : Nat) (dw : List Word) : Bool :=
  natBit (s.fld (F.ACQ_AC_STAT.INPUTS n)) (asgInput dw)

/-- The buffer that began to close in this core cycle and still takes the passes of context n (R337). -/
def State.closingNow (s : State) (f n : Nat) (g : Gang) : Option Nat :=
  [0, 1].find? (fun b => s.bufState f b == 2 && (g.buf b).closeAt == some s.time.cycle && (g.buf b).ctx == n
    && s.passTakes n (g.buf b).dw)

/-- An ACCEPTED completion of context n reaches the gang at F (R329 to R331, R337, R338). -/
def State.passAccept (s : State) (f n t seg : Nat) : State :=
  match s.gang f with
  | some g =>
    match s.closingNow f n g with
    | some b => (match s.skipReason g (g.buf b).dw t with
      | some r => s.panSkip f r
      | none => s.passInto f b n t seg (g.buf b).dw)
    | none =>
      if !g.migrate.isEmpty then (if g.migrate.any (fun m => m.live && m.ctx == n) then s.panSkip f 0 else s)
      else if !g.attached || g.ctx != n || !(s.passTakes n g.dw) then s
      else match s.skipReason g g.dw t with
        | some r => s.panSkip f r
        | none => match s.filling f with
          | some b => s.passInto f b n t seg g.dw
          | none =>
            match g.buffers.find? (fun b => s.bufState f b == 0) with
            | some b => s.passInto f b n t seg g.dw
            | none => (s.setWaiting f g true).panSkip f 1
  | none => s

/-- An ACCEPTED completion of context n forms its passes. -/
def State.panAccept (s : State) (n t seg : Nat) : State := s.each (List.range 8) (fun u f => u.passAccept f n t seg)

/-- An arm of context n takes effect: buffers that hold passes of an earlier arm close with cause 6 (R337). -/
def State.panArm (s : State) (n : Nat) : State :=
  s.each (List.range 8) (fun t f =>
    match t.gang f, t.filling f with
    | some g, some b =>
      if g.ctx = n && (g.buf b).arm != (t.ctx n).arms then t.closeBuf f b 6 else t
    | _, _ => t)

/-- One word updates its point (R327). A poisoned cell stays poison. -/
def PanBuf.update (b : PanBuf) (q : Nat) (x : Int) : PanBuf :=
  let m := asgMode b.dw
  let rows := asgRows b.dw
  let put := fun (k : Nat) (f : Word → Word) =>
    let c := SMap.get (clearedCell m) b.cells k
    if c = 0x80000000#32 then b.cells else SMap.set (clearedCell m) b.cells k (f c)
  if x = -32768 then { b with inv := satNat (2 ^ 32 - 1) (b.inv + 1) }
  else match m with
    | 0 => { b with cells := put q (fun c => c + BitVec.ofInt 32 x) }
    | 1 => { b with cells := put q (fun c =>
        BitVec.ofNat 32 (pattern 16 (max (signed 16 (getBits c 16 16)) x) * 2 ^ 16
          + pattern 16 (min (signed 16 (getBits c 0 16)) x))) }
    | _ =>
      let r := ashr (x - asgLow b.dw) (asgShift b.dw)
      if r < 0 || decide ((rows : Int) ≤ r) then { b with out := satNat (2 ^ 32 - 1) (b.out + 1) }
      else { b with cells := put (q * rows + r.toNat) (fun c => BitVec.ofNat 32 (satNat 0x7FFFFFFF (c.toNat + 1))) }

/-- The words of a pass update points q on. -/
def PanBuf.updates (b : PanBuf) (q : Nat) : List Int → PanBuf
  | [] => b
  | x :: l => (b.update q x).updates (q + 1) l

/-- A new assignment takes effect (R338, R339); the counters of the gang are those of its first pan. -/
def State.assign (s : State) (f code owner n : Nat) (dw : List Word) (live : Bool) (g : Gang) : State :=
  let pe := s.fld (F.PAN_STAT.PEPOCH f) + 1
  let g1 := { g with attached := live, ctx := n, dw := dw, owner := owner, code := code }
  let put := fun (t : State) (fl : Nat → Fld) (x : Nat) => t.panFld f code fl x
  let s1 := put (put (put (s.setGang f (some g1)) F.PAN_STAT.PEPOCH pe) F.PAN_STAT.OWNER owner) F.PAN_STAT.CONTEXT n
  let s2 := put (put (put s1 F.PAN_STAT.INPUT (asgInput dw)) F.PAN_STAT.FIRST f) F.PAN_STAT.GANG code
  let s3 := put (put s2 F.PAN_STAT.MODE (asgMode dw)) F.PAN_STAT.PINGPONG (if asgPing dw then 1 else 0)
  let s4 := put (put s3 F.PAN_STAT.OWNED 1) F.PAN_STAT.ATTACHED (if live then 1 else 0)
  s4.each (members f code) (fun t k => (t.setReg (R.PAN_SKIP k) 0).setReg (R.PAN_LATE k) 0)

/-- The waiting migrations take effect in order, at the latest PAN_ATTACH's core cycle or once no pass of the old assignment
is left; a PAN_DETACH that followed one leaves its gang detached (R338, R343). -/
def State.migrated (s : State) (f : Nat) : State :=
  match s.gang f with
  | some g =>
    if g.passes.isEmpty && g.migrate.all (fun m => Nat.blt m.cycle s.time.cycle) then
      g.migrate.foldl (fun t m =>
        let t1 := t.assign f g.code g.owner m.ctx m.dw m.live { (t.gang f).getD g with migrate := [] }
        t1.finishSeq m.seq .ok [BitVec.ofNat 32 (t1.fld (F.PAN_STAT.PEPOCH f))]) s
    else s
  | none => s

/-- What is due in the gang at F: closes that are over, then migrations, then detaches (R336, R338, R343). -/
def State.gangDue (s : State) (f : Nat) : State := ((s.closeDone f).migrated f).checkDetach f

/-- What is due in the gangs at the start of a core cycle. -/
def State.pansDue (s : State) : State := s.each (List.range 8) State.gangDue

/-- Index of the word that point q of a pass takes (R329). -/
def passIndex (dw : List Word) (t q : Nat) : Int := (t : Int) + asgOffset dw + ((q * asgStride dw : Nat) : Int)

/-- The words of points q on of a pass, n of them, as every consumer receives them (R23). `ws` are the words that enter;
where it has none, the word is the one on record, or a free value that then stands on record (log entry 12). -/
def State.passWords (s : State) (dw : List Word) (t q : Nat) : Nat → List (BitVec 16) → List Int × State
  | 0, _ => ([], s)
  | n + 1, ws =>
    let i := passIndex dw t q
    let (w, s1) := match ws with
      | w :: _ => (w, s)
      | [] => s.draw 16
    let (x, s2) := if i < 0 then (w, s1) else s1.hear (asgInput dw) i.toNat w
    let r := s2.passWords dw t (q + 1) n ws.tail
    (x.toInt :: r.1, r.2)

/-- One of the first n words of a pass lies on a line that carries the degraded bit (R332). -/
def State.passDegraded (s : State) (dw : List Word) (t n : Nat) : Bool :=
  (List.range n).any (fun q =>
    let i := passIndex dw t q
    s.capDegraded (asgInput dw) (i / 21 * 21) (i / 21 * 21 + 20))

/-- The first n words of a pass of the gang at F enter its buffer (R327, R332). -/
def State.accumulate (s : State) (f : Nat) (p : Pass) (n : Nat) (ws : List (BitVec 16)) : State :=
  match s.gang f with
  | some g =>
    let dw := (g.buf p.buf).dw
    let r := s.passWords dw p.t 0 n ws
    let x := (g.buf p.buf).updates 0 r.1
    r.2.setGang f (some (g.setBuf p.buf { x with deg := x.deg + (if s.passDegraded dw p.t n then 1 else 0) }))
  | none => s

/-- The last update of the gang's oldest pass is complete (R336, R337); `words` are its words by point. -/
def State.passComplete (s : State) (f : Nat) (words : List (BitVec 16)) : State :=
  match s.gang f with
  | some g =>
    match g.passes with
    | p :: rest =>
      let s1 := (s.setGang f (some { g with passes := rest })).accumulate f p (asgPoints (g.buf p.buf).dw) words
      s1.gangDue f
    | [] => s
  | none => s

/-- PAN_PASS_COMPLETE (R327, R332, R336). -/
def execPanPassComplete (first : Fin 8) (words : List (BitVec 16)) (s : State) : Host.Outcome State Fault Refusal :=
  s.act (fun t => t.passComplete first words)

/-- Points of a pass whose words have entered the accumulators by the present core cycle (R330, R333). -/
def State.reached (s : State) (dw : List Word) (t : Nat) : Nat :=
  let d := s.delayCycles (asgInput dw)
  ((List.range (asgPoints dw)).takeWhile (fun q =>
    decide (s.cycleOf (passIndex dw t q) + 555 + (d : Nat) ≤ (s.time.cycle : Int)))).length

/-- A pass is cut now: its last word has not entered the accumulators (R333). -/
def State.cutsPass (s : State) (g : Gang) (p : Pass) : Bool :=
  Nat.blt (s.reached (g.buf p.buf).dw p.t) (asgPoints (g.buf p.buf).dw)

/-- A cut leaves CUT_POINT at the lowest point not reached. -/
def PanBuf.cutAt (x : PanBuf) (n : Nat) : PanBuf :=
  { x with cause := 5, cut := some (match x.cut with
    | some c => min c n
    | none => n) }

/-- The passes of the gang at F are cut: SAMPLE stops or a mode change starts (R333). The words that have entered stay, those
of the buffer's passes that are not cut among them, and the buffer is CLOSED at once. -/
def State.cutGang (s : State) (f : Nat) : State :=
  match s.gang f with
  | some g =>
    let bufs := ((g.passes.filter (s.cutsPass g)).map (fun (p : Pass) => p.buf)).eraseDups
    let hit := g.passes.filter (fun p => bufs.contains p.buf)
    let s1 := hit.foldl (fun (t : State) p => t.accumulate f p (s.reached (g.buf p.buf).dw p.t) []) s
    match s1.gang f with
    | some h =>
      let h1 := (hit.filter (s.cutsPass g)).foldl (fun (y : Gang) p =>
        y.setBuf p.buf ((y.buf p.buf).cutAt (s.reached (g.buf p.buf).dw p.t)))
        { h with passes := h.passes.filter (fun p => !(bufs.contains p.buf)) }
      ((s1.setGang f (some h1)).each bufs (fun t b => t.bufClosed f b)).gangDue f
    | none => s1
  | none => s

def State.cutPans (s : State) : State := s.each (List.range 8) State.cutGang

/-- The gang that FIRST and GANG of a descriptor name. -/
def State.namedGang (s : State) (f code : Nat) : Option Gang :=
  match s.gang f with
  | some g => if g.code = code then some g else none
  | none => none

/-- Conditions of row 1 of Table 13.6 that every gang descriptor shares. -/
def State.gangBad (s : State) (d : Desc) (f code : Nat) : Bool :=
  f % 2 ^ code != 0 || (match s.namedGang f code with
    | some g => g.owner != s.ringOwner d.ring
    | none => false)

/-- A named pan belongs to a gang with another F or G. -/
def State.gangClash (s : State) (f code : Nat) : Bool :=
  (List.range 8).any (fun k => match s.gang k with
    | some g => (members k g.code).any ((members f code).contains ·) && !(k == f && g.code == code)
    | none => false)

/-- The dwords 2 to 7 of a descriptor. -/
def Desc.asg (d : Desc) : List Word := (d.dw.drop 2).take 6

/-- Table 13.6 for PAN_ATTACH. -/
def State.attachStatus (s : State) (d : Desc) : Option Status :=
  let dw := d.asg
  let f := d.f 2 0 3
  let code := d.f 2 4 2
  let g := 2 ^ code
  let bad := !(d.reservedClear 2 [(2, 0x31337), (3, 0xFFFFFFFF), (4, 0x1FFFFFF), (5, 0xFFFF), (6, 0x1FFFF), (7, 0xF0FFFFF)])
    || s.gangBad d f code || Nat.blt 3 d.context || asgMode dw == 3 || asgPoints dw == 0 || asgStride dw == 0
    || Nat.blt 65536 (asgAuto dw)
    || (asgMode dw == 2 && (Nat.blt (asg dw 7 24 4) 4 || Nat.blt 10 (asg dw 7 24 4) || Nat.blt 12 (asgShift dw)))
    || Nat.blt (if asgPing dw then 21846 else 43692) (bankDepth dw g)
    || !(sampledIn s.inp.route (asgInput dw)) || !(withinRate dw g s.perCycle)
    || decide (asgOffset dw < -((496 - ((s.dT + s.twinLag : Nat) : Int)) * (s.perCycle : Int)))
  let busy := s.gangClash f code
    || (members f code).any (fun k => s.flag (F.PAN_STAT.TESTING k) || s.flag (F.HLTH_STAT.FENCED.bit k))
    || (s.armed d.context && s.fld (F.ACQ_AC_STAT.OWNER d.context) != s.ringOwner d.ring)
  if bad then some .badDescriptor else if busy then some .busy else none

/-- The FILLING buffer of a gang closes, if there is one. -/
def State.closeFilling (s : State) (f cause : Nat) : State :=
  match s.filling f with
  | some b => s.closeBuf f b cause
  | none => s

/-- PAN_ATTACH (R338, R339): on an attached gang a migration, and one behind a migration that still waits waits too. -/
def State.panAttach (s : State) (d : Desc) : State :=
  match s.attachStatus d with
  | some st => s.finish d st []
  | none =>
    let f := d.f 2 0 3
    let code := d.f 2 4 2
    match s.gang f with
    | some g =>
      if g.attached || !g.migrate.isEmpty then
        (s.setGang f (some { g with
          migrate := g.migrate ++ [⟨d.context, d.asg, d.seq, s.time.cycle, true⟩] })).closeFilling f 3
      else
        let s1 := s.assign f code g.owner d.context d.asg true g
        s1.finish d .ok [BitVec.ofNat 32 (s1.fld (F.PAN_STAT.PEPOCH f))]
    | none =>
      let s1 := s.assign f code (s.ringOwner d.ring) d.context d.asg true {}
      s1.finish d .ok [BitVec.ofNat 32 (s1.fld (F.PAN_STAT.PEPOCH f))]

def execPanAttach (ring : Fin 64) (s : State) : Host.Outcome State Fault Refusal :=
  s.act (fun t => t.withStart ring 0x31 (fun d u => u.panAttach d))

/-- PAN_SWAP (R341). -/
def State.panSwap (s : State) (d : Desc) : State :=
  let f := d.f 2 0 3
  let code := d.f 2 4 2
  if !(d.reservedClear 2 [(2, 0x37)]) || s.gangBad d f code || d.context != 15 then s.finish d .badDescriptor []
  else match s.namedGang f code, s.filling f with
    | some g, some b => (s.setGang f (some { g with swaps := g.swaps ++ [(d.seq, b)] })).closeBuf f b 0
    | _, _ => s.finish d .ok [0xFFFFFFFF, 0]

def execPanSwap (ring : Fin 64) (s : State) : Host.Outcome State Fault Refusal :=
  s.act (fun t => t.withStart ring 0x32 (fun d u => u.panSwap d))

/-- PAN_DETACH (R343). -/
def State.panDetach (s : State) (d : Desc) : State :=
  let f := d.f 2 0 3
  let code := d.f 2 4 2
  if !(d.reservedClear 2 [(2, 0x37)]) || s.gangBad d f code || d.context != 15 then s.finish d .badDescriptor []
  else match s.namedGang f code with
    | some g =>
      let g1 := { g with
        attached := false, detaches := g.detaches ++ [d.seq], migrate := g.migrate.map (fun m => { m with live := false }) }
      (((s.setGang f (some g1)).panFld f code (fun k => F.PAN_STAT.ATTACHED k) 0).closeFilling f 4).checkDetach f
    | none => s.finish d .ok []

def execPanDetach (ring : Fin 64) (s : State) : Host.Outcome State Fault Refusal :=
  s.act (fun t => t.withStart ring 0x34 (fun d u => u.panDetach d))

/-- A buffer is not CLOSED, or a harvest or a clear of it runs (Table 13.6). -/
def State.bufBusy (s : State) (f code b : Nat) : Bool :=
  match s.namedGang f code with
  | some g => s.bufState f b != 3 || g.harvests.any (fun e => e.2.1 == b) || g.clears.any (fun e => e.2 == b)
  | none => true

/-- Bytes that a harvest of a buffer writes (R342). -/
def PanBuf.bytes (b : PanBuf) : Nat := 64 + 4 * (asgPoints b.dw * asgRows b.dw)

/-- PAN_HARVEST starts (R342). -/
def State.panHarvest (s : State) (d : Desc) : State :=
  let f := d.f 2 0 3
  let code := d.f 2 4 2
  let b := d.f 2 8 1
  let bad := !(d.reservedClear 2 [(2, 0x337), (4, 0xFFFFFFFF), (5, 0xFFFFFFFF), (6, 0xFFFFFFFF)])
    || s.gangBad d f code || d.context != 15 || dw64 d.dw 4 % 64 != 0
    || (match s.namedGang f code with
      | some g => (b == 1 && !(asgPing g.dw)) || Nat.blt (d.n 6)
          (if s.bufState f b = 0 then { g.buf b with dw := g.dw } else g.buf b).bytes
      | none => false)
  if bad then s.finish d .badDescriptor []
  else match s.namedGang f code with
    | some g =>
      if s.bufBusy f code b then s.finish d .busy []
      else s.setGang f (some { g with harvests := g.harvests ++ [(d.seq, b, d.f 2 9 1 == 1)] })
    | none => s.finish d .busy []

def execPanHarvest (ring : Fin 64) (s : State) : Host.Outcome State Fault Refusal :=
  s.act (fun t => t.withStart ring 0x33 (fun d u => u.panHarvest d))

/-- The buffer header (Table 13.7). -/
def PanBuf.header (x : PanBuf) (f code b : Nat) : List Word :=
  let dw := x.dw
  let density := asgMode dw == 2
  let opt := fun (n : Nat) => if density then n else 0
  let w := BitVec.ofNat 32
  [w (x.pepoch * 2 ^ 24 + x.cause * 2 ^ 20 + x.ctx * 2 ^ 18 + asgInput dw * 2 ^ 16 + f * 2 ^ 13 + code * 2 ^ 11
      + (if x.cut.isSome then 2 ^ 10 else 0) + asgMode dw * 2 ^ 8 + opt (asgShift dw) * 2 + b),
   w x.passes, w x.firstSeg, w x.lastSeg, lo32 x.firstIdx, hi32 x.firstIdx, lo32 x.lastIdx, hi32 x.lastIdx,
   w x.deg, w x.inv, w x.out, w (x.cut.getD 0xFFFFFFFF), w (satNat 65535 x.eccU * 2 ^ 16 + satNat 65535 x.eccC),
   w (opt (asg dw 7 24 4) * 2 ^ 25 + asgPoints dw), w (opt (asg dw 7 0 16) * 2 ^ 16 + asgStride dw),
   w (asg dw 3 0 32)]

/-- The cells of a buffer in point order (R342). -/
def PanBuf.cellList (x : PanBuf) : List Word :=
  SMap.getList (clearedCell (asgMode x.dw)) x.cells 0 (asgPoints x.dw * asgRows x.dw)

/-- A buffer becomes FREE, and passes no longer wait (R337, R342, R344). -/
def State.freeBuf (s : State) (f b : Nat) : State :=
  match s.gang f with
  | some g =>
    let g1 := g.setBuf b {}
    ((((s.setGang f (some g1)).setBufState f g1 b 0).setWaiting f g1 false)).releaseGang f
  | none => s

/-- The gang with the harvest or the clear of a ring's descriptor. -/
def State.gangWhere (s : State) (p : Gang → Bool) : Option (Nat × Gang) :=
  ((List.range 8).filterMap (fun f => (s.gang f).map (fun g => (f, g)))).find? (fun e => p e.2)

/-- The pan harvest that runs for ring r: every byte is written and the completion follows (R342). -/
def State.panHarvested (s : State) (r : Nat) : State :=
  match s.running r 0x33 with
  | none => s
  | some d =>
    match s.gangWhere (fun g => g.harvests.any (fun e => e.1 == d.seq)) with
    | none => s
    | some (f, g) =>
      match g.harvests.find? (fun e => e.1 == d.seq) with
      | none => s
      | some (_, b, clear) =>
        if !(s.busMasterOn (s.ringOwner r)) then s
        else
          let x := g.buf b
          let data := x.header f g.code b ++ x.cellList
          let s1 := (s.postData (s.ringOwner r) (dw64 d.dw 4) data).flushReads (s.ringOwner r) (dw64 d.dw 4) (4 * data.length)
          let s2 := s1.setGang f (some { g with harvests := g.harvests.filter (fun e => e.1 != d.seq) })
          let s3 := s2.finish d .ok [BitVec.ofNat 32 x.bytes]
          if clear then s3.freeBuf f b else s3

def execPanHarvestComplete (ring : Fin 64) (s : State) : Host.Outcome State Fault Refusal :=
  s.act (fun t => t.panHarvested ring)

/-- PAN_CLEAR starts (R344). -/
def State.panClear (s : State) (d : Desc) : State :=
  let f := d.f 2 0 3
  let code := d.f 2 4 2
  let b := d.f 2 8 1
  if !(d.reservedClear 2 [(2, 0x137)]) || s.gangBad d f code || d.context != 15 then s.finish d .badDescriptor []
  else match s.namedGang f code with
    | some g =>
      if s.bufBusy f code b then s.finish d .busy []
      else s.setGang f (some { g with clears := g.clears ++ [(d.seq, b)] })
    | none => s.finish d .busy []

def execPanClear (ring : Fin 64) (s : State) : Host.Outcome State Fault Refusal :=
  s.act (fun t => t.withStart ring 0x35 (fun d u => u.panClear d))

/-- The cleared buffer of the ring's PAN_CLEAR becomes FREE and the descriptor completes (R344). -/
def State.panCleared (s : State) (r : Nat) : State :=
  match s.running r 0x35 with
  | none => s
  | some d =>
    match s.gangWhere (fun g => g.clears.any (fun e => e.1 == d.seq)) with
    | none => s
    | some (f, g) =>
      let b := ((g.clears.find? (fun e => e.1 == d.seq)).map (·.2)).getD 0
      let s1 := (s.setGang f (some { g with clears := g.clears.filter (fun e => e.1 != d.seq) })).freeBuf f b
      s1.finish d .ok []

def execPanClearComplete (ring : Fin 64) (s : State) : Host.Outcome State Fault Refusal :=
  s.act (fun t => t.panCleared ring)

/-- A pan is attached, or a buffer of it is not FREE: it belongs to an owned gang (R340). -/
def State.panOwned (s : State) (k : Nat) : Bool := s.flag (F.PAN_STAT.OWNED k)

/-- PAN_SELFTEST starts (R345). -/
def State.panTest (s : State) (d : Desc) : State :=
  let pans := bitsSet (d.f 2 0 8) 8
  if !(d.reservedClear 2 [(2, 0xFF)]) || d.context != 15 || s.ringOwner d.ring != 0 then s.finish d .badDescriptor []
  else if pans.any s.panOwned then s.finish d .busy []
  else
    let s1 := { s with pan := { s.pan with tests := s.pan.tests ++ [(d.seq, d.ring, d.f 2 0 8)] } }
    pans.foldl (fun t k => t.setFlag (F.PAN_STAT.TESTING k) true) s1

def execPanSelftest (ring : Fin 64) (s : State) : Host.Outcome State Fault Refusal :=
  s.act (fun t => t.withStart ring 0x36 (fun d u => u.panTest d))

/-- The result of a self-test for one pan: its count, and its fence (R345, R549). -/
def State.panTested (s : State) (k n : Nat) : State :=
  let s1 := (s.setReg (R.PAN_TEST k) (BitVec.ofNat 32 n)).setFlag (F.PAN_STAT.TESTING k) false
  if n = 0 then s1.setFlag (F.HLTH_STAT.FENCED.bit k) false
  else (s1.setFlag (F.HLTH_STAT.FENCED.bit k) true).fault 0x000A k

/-- The self-test of a ring ends; `fails` are the failing cells of pans 0 to 7 (R345). -/
def State.panTestDone (s : State) (r : Nat) (fails : List Nat) : State :=
  match s.pan.tests.find? (fun e => e.2.1 == r) with
  | none => s
  | some (q, _, mask) =>
    let pans := bitsSet mask 8
    let bad := bitsOf (pans.filter (fun k => fails.getD k 0 != 0))
    let s1 := { s with pan := { s.pan with tests := s.pan.tests.filter (fun e => e.1 != q) } }
    let s2 := pans.foldl (fun t k => t.panTested k (fails.getD k 0)) s1
    (s2.raisePF 195 (mask + 2 ^ 8 * bad)).finishSeq q .ok [BitVec.ofNat 32 mask, BitVec.ofNat 32 bad]

def execPanSelftestComplete (ring : Fin 64) (fails : List Nat) (s : State) : Host.Outcome State Fault Refusal :=
  s.act (fun t => t.panTestDone ring fails)

/-- The gang of a pan, with its first pan. -/
def State.gangOf (s : State) (k : Nat) : Option (Nat × Gang) :=
  ((List.range 8).filterMap (fun f => (s.gang f).map (fun g => (f, g)))).find? (fun e => (members e.1 e.2.code).contains k)

/-- The banks of the gang at F are split between two buffers: those of the assignment whose passes they hold. -/
def State.splitBanks (s : State) (f : Nat) (g : Gang) : Bool :=
  if s.bufState f 0 != 0 then asgPing (g.buf 0).dw else if s.bufState f 1 != 0 then true else asgPing g.dw

/-- Buffer and cell number q * rows + row at a cell of a bank of a pan (R324, R335). -/
def cellPlace (g : Gang) (split : Bool) (f k bank cell : Nat) : Nat × Nat :=
  let b := if split then cell / 21846 else 0
  let w := if split then cell % 21846 else cell
  let dw := (g.buf b).dw
  let q := 48 * 2 ^ g.code * (w / asgRows dw) + 48 * (k - f) + bank
  (b, q * asgRows dw + w % asgRows dw)

/-- A cell read finds a corrected or a double-bit error (R328). -/
def State.cellError (s : State) (k bank cell : Nat) (double : Bool) : State :=
  let s1 := if double
    then (((s.bumpSat (F.PAN_ECC.UNCORR k) 1).setFlag (F.PAN_FLAGS.ECC_UNC k) true).raise 194 (k + 8 * bank)
      (s.routeGang k)).fault 0x010F k
    else ((s.bumpSat (F.PAN_ECC.CORR k) 1).setFlag (F.PAN_FLAGS.ECC_CORR k) true).fault 0x0009 k
  match s1.gangOf k with
  | some (f, g) =>
    let (b, c) := cellPlace g (s1.splitBanks f g) f k bank cell
    let x := g.buf b
    let inside := Nat.blt c (asgPoints x.dw * asgRows x.dw)
    let x1 := if double then { x with
        eccU := x.eccU + 1
        cells := if inside then SMap.set (clearedCell (asgMode x.dw)) x.cells c 0x80000000#32 else x.cells }
      else { x with eccC := x.eccC + 1 }
    s1.setGang f (some (g.setBuf b x1))
  | none => s1

/-- PAN_CELL_ECC_ERROR (R328). -/
def execPanCellEccError (pan : Fin 8) (bank : Fin 48) (cell : Fin 43692) (double : Bool) (s : State) :
    Host.Outcome State Fault Refusal :=
  s.act (fun t => t.cellError pan bank cell double)

end Sys2Proof.Machine
end

