-- ==== Sys2Proof/Machine/Acquisition.lean ====
section
/-!
DEFINITION. Acquisition contexts (ch. 11 and the ends of ch. 12): partitions, the arm descriptors and their checks, an
arm taking effect, slots and segments, index entries, the trigger log, and the ends of an acquisition.
-/
namespace Sys2Proof.Machine

/-- Fields of the arm descriptor of a context (Tables 11.4 and 12.1). -/
def Ctx.a (c : Ctx) (i lo w : Nat) : Nat := getBits (dwAt c.dw i) lo w
def Ctx.inputs (c : Ctx) : List Nat := bitsSet (c.a 2 0 4) 4
def Ctx.rawEn (c : Ctx) : Bool := c.a 2 4 1 == 1
def Ctx.decEn (c : Ctx) : Bool := if c.streaming then !c.rawEn else c.a 2 5 1 == 1
def Ctx.armAt (c : Ctx) : Option Nat :=
  if c.a 2 16 1 = 1 then some (if c.streaming then dw64 c.dw 4 else dw64 c.dw 7) else none
def Ctx.pre (c : Ctx) : Nat := c.a 4 0 32
def Ctx.post (c : Ctx) : Nat := c.a 5 0 32
def Ctx.nseg (c : Ctx) : Nat := if c.a 6 0 26 = 0 then 2 ^ 26 else c.a 6 0 26
def Ctx.inPart (c : Ctx) (m : Nat) : Nat := c.a 3 (4 * m) 4
def Ctx.decPart (c : Ctx) : Nat := c.a 3 16 4
def Ctx.idxPart (c : Ctx) : Nat := c.a 3 20 4
def Ctx.logPart (c : Ctx) : Nat := c.a 3 24 4
def Ctx.trigEn (c : Ctx) : Bool := !c.streaming || c.a 2 17 1 == 1

/-- The context as its pending arm asks for it. -/
def Ctx.asked (c : Ctx) : Ctx :=
  match c.req with
  | some r => { streaming := r.streaming, seq := r.seq, ring := r.ring, dw := r.dw, late := r.late, phase := .pending
                parts := c.parts, arms := c.arms }
  | none => c

/-- LOG_EN of context n. -/
def State.logEn (s : State) (n : Nat) : Bool := s.flag (F.TRG_AC_SEQ.LOG_EN n)

/-- The partitions that an arm of context n names, with the type each must have (Tables 11.4, 12.1). -/
def State.named (s : State) (n : Nat) (c : Ctx) : List (Nat × Nat) :=
  if c.streaming then c.inputs.map (fun m => (c.inPart m, 1)) ++ [(c.logPart, 3)]
  else (if c.rawEn then c.inputs.map (fun m => (c.inPart m, 0)) else []) ++
    (if c.decEn then [(c.decPart, 0)] else []) ++ [(c.idxPart, 2)] ++ (if s.logEn n then [(c.logPart, 3)] else [])

/-- Sluice step bounds s_lo and s_hi of a context (R312). -/
def State.stepBounds (s : State) (n : Nat) (c : Ctx) : Nat × Nat :=
  match s.decPath c with
  | some (k, ins) =>
    let m := ins.headD 0
    let hi := min (min 12 (s.fld (F.ACQ_AC_SLU_CTL.SMAX n))) (((s.pathAt k m s.time.idx).range k).2 - (s.pathAt k m s.time.idx).exp k)
    (min (s.fld (F.ACQ_AC_SLU_CTL.SMIN n)) hi, hi)
  | none => (0, 0)

/-- Raw slot length SL (R287). -/
def Ctx.slotLines (c : Ctx) : Nat := ceilDiv (c.pre + c.post) 21 + 1

/-- r + s of the context's decimated stream at a step, under the setting in force at its next output, or at the present
index for one that is not armed (R196, R207). -/
def State.decExp (s : State) (c : Ctx) (step : Nat) : Nat :=
  match s.decPath c with
  | some (k, ins) => (s.pathAt k (ins.headD 0) (if c.phase == .armed then c.dnext else s.time.idx)).exp k + step
  | none => 0

/-- P of the context's decimated stream. -/
def State.decPer (s : State) (c : Ctx) : Nat :=
  match s.decPath c with
  | some (k, _) => k.perLine
  | none => 15

/-- Decimated slot length DSL at a step, 0 without a decimated stream (R287). -/
def State.decSlotLines (s : State) (c : Ctx) (step : Nat) : Nat :=
  if c.decEn then ceilDiv (ceilDiv (c.pre + c.post) (2 ^ s.decExp c step) + 1) (s.decPer c) + 2 else 0

/-- Lines of the raw partitions and of the decimated partition of an arm. -/
def State.rawLen (s : State) (c : Ctx) : Nat := s.ptLen (c.inPart (c.inputs.headD 0))
def State.decLen (s : State) (c : Ctx) : Nat := s.ptLen c.decPart

/-- K (R287) for slot lengths SL and DSL. -/
def State.slotCount (s : State) (c : Ctx) (sl dsl : Nat) : Nat :=
  match c.rawEn, c.decEn with
  | true, true => min (s.rawLen c / sl) (s.decLen c / dsl)
  | true, false => s.rawLen c / sl
  | _, _ => s.decLen c / dsl

/-- Lines of slot k of the raw partitions, and of the decimated one, for K slots (R287). -/
def rawSlot (plen sl kk k : Nat) : Nat := if k < kk then sl else plen - kk * sl

/-- The active mode (R47). -/
def State.activeMode (s : State) : Nat := s.fld F.INP_MODE_STAT.ACTIVE_MODE

/-- Row 1 of Table 11.5 for ACQ_ARM: DPATH and a named MA path are checked whatever DEC_EN holds, the decimated input where
there is a decimated stream (log entry 91). -/
def State.armBad (s : State) (d : Desc) (c : Ctx) : Bool :=
  let n := d.context
  !(d.reservedClear 2 [(2, 0x13F3F), (3, 0xFFFFFFF), (4, 0xFFFFFFFF), (5, 0xFFFFFFFF), (6, 0x3FFFFFF),
    (7, 0xFFFFFFFF), (8, 0xFFFFFFFF)])
  || Nat.blt 3 n || (!c.rawEn && !c.decEn) || c.inputs.isEmpty || c.post == 0 || Nat.ble (2 ^ 32) (c.pre + c.post)
  || (match pathKind (c.a 2 8 4) with
    | some k => (match k.ma with
      | some m => !(s.flag (F.DEC_MA_CTL.EN m))
      | none => false)
    | none => true)
  || (match s.decPath c with
    | some (_, ins) => !(ins.all (c.inputs.contains ·))
    | none => false)
  || !(c.inputs.all (sampledIn s.activeMode)) || (s.stages n).any (fun j => s.advMask n j == 0)
  || (s.joined && c.armAt.isNone)

/-- The paths of the named inputs agree in R_EXP, ORDER and BLOCK (R306). -/
def State.sameSettings (s : State) (k : PathKind) (l : List Nat) : Bool :=
  let key := fun (m : Nat) => match k with
    | .drop => [s.fld (F.DEC_DROP.R_EXP m)]
    | .rake => [s.fld (F.DEC_RAKE.R_EXP m)]
    | .cic => [s.fld (F.DEC_CIC.R_EXP m), s.fld (F.DEC_CIC.ORDER m), s.fld (F.DEC_CIC.BLOCK m)]
    | _ => []
  l.all (fun m => key m == key (l.headD 0))

/-- Row 1 of Table 11.5 for ACQ_STREAM (R306). -/
def State.streamBad (s : State) (d : Desc) (c : Ctx) : Bool :=
  let n := d.context
  !(d.reservedClear 2 [(2, 0x30F1F), (3, 0xF00FFFF), (4, 0xFFFFFFFF), (5, 0xFFFFFFFF)])
  || Nat.blt 3 n || c.inputs.isEmpty
  || (!c.rawEn && (match s.decPath c with
    | some (k, ins) => (match k.ma with
        | some m => !(s.flag (F.DEC_MA_CTL.EN m)) || ins != [s.fld (F.DEC_MA_CTL.INPUT m)]
        | none => false) || !(s.sameSettings k ins)
    | none => true))
  || !(c.inputs.all (sampledIn s.activeMode))
  || (c.trigEn && (s.stages n).any (fun j => s.advMask n j == 0)) || (s.joined && c.armAt.isNone)

/-- The sequencer of context n uses a twin source (R293). -/
def State.usesTwin (s : State) (n : Nat) : Bool :=
  (List.range 16).any (fun k => s.seqNames n k && (s.applied k).remote)

/-- Row 4 of Table 11.5. A pending arm counts as armed (log entry 13). -/
def State.armBusy (s : State) (n : Nat) (c : Ctx) : Bool :=
  (s.ctx n).phase != .idle || !(s.flag (F.ACQ_AC_CTL.EN n))
  || (List.range 4).any (fun m => m != n && (s.ctx m).phase != .idle && c.inputs.any ((s.ctx m).asked.inputs.contains ·))
  || s.flag F.INP_MODE_STAT.CHANGING || s.flag F.CLK_STAT.RATE_CHANGING
  || c.inputs.any (fun m => natBit (s.fld F.CAL_STAT.FG_ACTIVE) m || natBit (s.fld F.INP_STAT.INJ) m)

/-- A partition serves an arm of context n by a function: the right type and owner, and free (R284 to R286). -/
def State.ptServes (s : State) (n own : Nat) (e : Nat × Nat) : Bool :=
  s.ptValid e.1 && s.ptType e.1 == e.2 && s.ptOwner e.1 == own
    && (!(s.ptInUse e.1) || (s.ctx n).parts.contains e.1)

/-- No element occurs twice. -/
def noRepeat (l : List Nat) : Bool := l.eraseDups.length == l.length

/-- Row 5 of Table 11.5. -/
def State.armParts (s : State) (n own : Nat) (c : Ctx) : Bool :=
  let nm := s.named n c
  let ins := c.inputs.map c.inPart
  let same := ins.all (fun k => s.ptLen k == s.ptLen (ins.headD 0))
  let step := (s.stepBounds n c).1
  let sl := c.slotLines
  let dsl := s.decSlotLines c step
  let kk := s.slotCount c sl dsl
  nm.all (s.ptServes n own) && noRepeat (nm.map (·.1)) && (!(c.streaming || c.rawEn) || same)
    && (c.streaming ||
      ((!c.rawEn || Nat.ble (c.pre + 1) (21 * (rawSlot (s.rawLen c) sl kk 0 - 1)))
        && (!c.decEn || Nat.ble (c.pre + 1) (s.decPer c * (rawSlot (s.decLen c) dsl kk 0 - 1)))
        && Nat.ble (c.nseg * ((if c.rawEn then 1 else 0) + (if c.decEn then 1 else 0))) (s.ptLen c.idxPart)))

/-- R50: the reference buffers that serve an input are ready. -/
def State.refsReady (s : State) (n : Nat) : Bool :=
  (List.range 4).all (fun k => !(refServes s.activeMode k n) || s.flag (F.INP_REF_STAT.READY.bit k))

/-- The status that refuses an arm, in the order of Table 11.5. -/
def State.armStatus (s : State) (d : Desc) (c : Ctx) : Option Status :=
  let n := d.context
  if (if c.streaming then s.streamBad d c else s.armBad d c) then some .badDescriptor
  else if s.compat && (s.seqNames n 16 || s.usesTwin n) then some .notSupportedCompat
  else if s.flag F.CLK_STAT.BYPASS then some .clockLost
  else if s.armBusy n c then some .busy
  else if !(s.armParts n (s.ringOwner d.ring) c) then some .partitionFault
  else if !(c.inputs.all s.refsReady) then some .refNotReady
  else none

/-- IN_USE of partition k shows whether a context keeps it (R285); STIM and PAT partitions are marked by their players. -/
def State.showUse (s : State) (k : Nat) : State :=
  if s.ptType k = 4 || s.ptType k = 5 then s
  else s.setFlag (F.MEM_PT_CFG.IN_USE k) ((List.range 4).any (fun n => (s.ctx n).parts.contains k))

/-- The partitions that context n keeps become those of a list. -/
def State.useParts (s : State) (n : Nat) (l : List Nat) : State :=
  let old := (s.ctx n).parts
  (old ++ l).foldl State.showUse (s.setCtx n { s.ctx n with parts := l })

/-- The write demand of context n in bytes per second (R352). -/
def State.ctxDemand (s : State) (n : Nat) : Rat :=
  let c := s.ctx n
  if !(s.armed n) then 0
  else
    let raw : Rat := if c.rawEn then (c.inputs.length : Rat) * s.sampleHz * 32 / 21 else 0
    match s.decPath c with
    | some (_, ins) =>
      raw + (ins.length : Rat) * s.sampleHz / (2 ^ s.decExp c (s.fld (F.ACQ_AC_SLU_STAT.STEP n)) : Nat) * 32
        / (s.decPer c : Nat)
    | none => raw

/-- D is computed: at each arm, each end of an acquisition and each step change (R352). -/
def State.demand (s : State) : State :=
  let total := (List.range 4).foldl (fun a n => a + s.ctxDemand n) (0 : Rat)
  let d := (total / 1000000000).ceil.toNat + (if s.anyArmed then 20 else 0)
  let tooMuch := Nat.blt 600 d
  let s1 := (s.setFld F.MEM_RT_DEMAND.V d).setFlag F.MEM_STAT.OVER_BUDGET tooMuch
  let s2 := if tooMuch && !s.acq.overSaid then s1.raisePF 205 d else s1
  { s2 with acq := { s2.acq with overSaid := tooMuch } }

/-- SLU_STAT and the streaming counters of context n at an arm (Tables 12.8 and 12.9). -/
def State.clearStream (s : State) (n step : Nat) : State :=
  let s1 := (s.setFld (F.ACQ_AC_SLU_STAT.STEP n) step).setFlag (F.ACQ_AC_SLU_STAT.AT_MAX n) false
  let s2 := s1.setFlag (F.ACQ_AC_SLU_STAT.GAP_OPEN n) false
  ([R.ACQ_AC_SLU_CHANGES n, R.ACQ_AC_GAPS n, R.ACQ_AC_GAP_SAMP_LO n, R.ACQ_AC_GAP_SAMP_HI n, R.ACQ_AC_SW_LO n,
    R.ACQ_AC_SW_HI n, R.ACQ_AC_TH_LO n, R.ACQ_AC_TH_HI n] ++ (List.range 4).flatMap (fun m =>
    [R.ACQ_AC_SH_LO n m, R.ACQ_AC_SH_HI n m])).foldl (fun t off => t.setReg off 0) s2

/-- The sequencer's counters and flags of context n at an arm (R236). -/
def State.clearSeq (s : State) (n : Nat) : State :=
  let s1 := ([R.TRG_AC_COMPL n, R.TRG_AC_OVERLAP n, R.TRG_AC_HELD n, R.TRG_AC_TIMEOUTS n, R.TRG_AC_RESETS n,
    R.TRG_AC_LOG_LOST n, R.TRG_AC_LOG_COUNT_LO n, R.TRG_AC_LOG_COUNT_HI n, R.ACQ_AC_SEGS n, R.ACQ_AC_NONOK n,
    R.ACQ_AC_DEADEXT n]).foldl (fun t off => t.setReg off 0) s
  ((s1.setFlag (F.TRG_AC_STAT.LOG_FULL n) false).setFld (F.TRG_AC_STAT.STAGE n) 0).setFlag (F.TRG_AC_STAT.HOLDING n) false

/-- f of the slot that an index makes current: the next multiple of 21 at or after it (R289). -/
def firstLine (i : Nat) : Nat := 21 * ceilDiv i 21

/-- The last index of the present core cycle. -/
def State.lastOfCycle (s : State) : Nat := s.time.idx + s.perCycle - 1

/-- A TLOG partition has filled with LOG_WRAP=0: LOG_FULL, and E132 once per arm (R253, Tables 9.7 and 9.8). -/
def State.logFilled (s : State) (n : Nat) : State :=
  let c := s.ctx n
  if c.streaming || s.flag (F.TRG_AC_SEQ.LOG_WRAP n) || Nat.blt (s.reg64 (R.TRG_AC_LOG_COUNT_LO n)) (2 * s.ptLen c.logPart)
  then s
  else
    let s1 := s.setFlag (F.TRG_AC_STAT.LOG_FULL n) true
    if c.once.contains 132 then s1
    else (s1.setCtx n { c with once := 132 :: c.once }).raise 132 n (s1.routeCtx n)

/-- Free entries of context n's TLOG partition: the log free space (R310). -/
def State.logFree (s : State) (n : Nat) : Nat :=
  2 * s.ptLen (s.ctx n).logPart - (s.reg64 (R.TRG_AC_LOG_COUNT_LO n) - s.reg64 (R.ACQ_AC_TH_LO n))

/-- A line of the log is written: 16 bytes of entry q' of the TLOG partition (R252). An entry that finds the partition full
is lost: a streaming one is never written over an unreleased entry (R253, R311). -/
def State.writeLog (s : State) (n : Nat) (dw : List Word) : State :=
  let c := s.ctx n
  let q := s.reg64 (R.TRG_AC_LOG_COUNT_LO n)
  let cap := 2 * s.ptLen c.logPart
  if (if c.streaming then s.logFree n == 0 else !(s.flag (F.TRG_AC_SEQ.LOG_WRAP n)) && Nat.ble cap q) then
    s.bump (R.TRG_AC_LOG_LOST n)
  else
    let l := s.ptBase c.logPart + q % cap / 2
    let s1 := (s.putBytes (32 * l + 16 * (q % 2)) (wordsBytes dw)).buffer l 1
    (s1.setReg64 (R.TRG_AC_LOG_COUNT_LO n) (q + 1)).logFilled n

/-- INDEX of an entry, and whether it is a sluice record (Tables 9.6a and 12.4). -/
def LogEntry.idx (e : LogEntry) : Nat := dw64 e.dw 0
def LogEntry.record (e : LogEntry) : Bool := getBits (dwAt e.dw 2) 20 2 == 3

/-- Completions of context n with lower indices may still be decided: the core cycle c(i) + 67 + D_T of index i has not
passed (R318, Table 11.6). -/
def State.undecided (s : State) (n i : Nat) : Bool :=
  (s.ctx n).trigEn && s.armed n && !s.frozen && decide ((s.time.cycle : Int) < s.cycleOf i + (67 + s.dT : Nat))

/-- An entry stays in the FIFO: a sluice record until the completions before it are decided, and a streaming entry while its
partition has no free entry (R311, R318). -/
def State.logWaits (s : State) (e : LogEntry) : Bool :=
  (e.record && s.undecided e.ctx e.idx) || ((s.ctx e.ctx).streaming && s.logFree e.ctx == 0)

/-- The first entry that may be written, and the rest: an entry behind a waiting one of its context waits too. -/
def State.popFrom (s : State) : List LogEntry → List Nat → Option (LogEntry × List LogEntry)
  | [], _ => none
  | e :: l, held =>
    if held.contains e.ctx || s.logWaits e then (s.popFrom l (e.ctx :: held)).map (fun q => (q.1, e :: q.2))
    else some (e, l)

/-- The oldest entry of the FIFO that does not wait is written (R254). -/
def State.popLog (s : State) : State :=
  match s.popFrom s.trg.log [] with
  | some (e, r) => ({ s with trg := { s.trg with log := r } }).writeLog e.ctx e.dw
  | none => s

/-- The FIFO's entries of context n are written. -/
def State.flushLog (s : State) (n : Nat) : State :=
  let mine := s.trg.log.filter (fun e => e.ctx == n)
  let s1 := { s with trg := { s.trg with log := s.trg.log.filter (fun e => e.ctx != n) } }
  mine.foldl (fun t e => t.writeLog n e.dw) s1

/-- TLOG_ENTRY_WRITE (R252 to R254). -/
def execTlogEntryWrite (s : State) : Host.Outcome State Fault Refusal := s.act State.popLog

/-- An entry with LOSS where entries of its context have been lost before it (Tables 9.6a and 12.4). -/
def withLoss (lost : Bool) (dw : List Word) : List Word := if lost then dw.modify 2 (fun w => w ||| 0x80000#32) else dw

/-- An entry enters the FIFO before those of its context with a higher index (R318). -/
def logInsert (x : LogEntry) (l : List LogEntry) : List LogEntry :=
  let after := fun (e : LogEntry) => e.ctx == x.ctx && Nat.blt x.idx e.idx
  l.takeWhile (fun e => !(after e)) ++ x :: l.dropWhile (fun e => !(after e))

/-- An entry enters the FIFO, or is discarded where that is full; a sluice record is never discarded (R254, R318). -/
def State.pushLog (s : State) (n : Nat) (dw : List Word) (record : Bool) : State :=
  if !record && Nat.ble 4096 s.trg.log.length then
    let s1 := ((s.bump (R.TRG_AC_LOG_LOST n)).setFlag (F.TRG_AC_STAT.LOG_LOSS n) true).raise 131 n (s.routeCtx n)
    { s1 with trg := { s1.trg with loss := putBit s1.trg.loss n true } }
  else
    { s with trg := { s.trg with
      log := logInsert ⟨n, withLoss (natBit s.trg.loss n) dw⟩ s.trg.log, loss := putBit s.trg.loss n false } }

/-- Tail updates still wait. -/
def State.tailsWait (s : State) : Bool := s.readsWait (fun w => match w with
  | .tail _ => true
  | _ => false)

/-- The entries of the index queue's oldest segment: the first one is written, after the tail updates (R283, R299). -/
def State.popIndex (s : State) : State :=
  match s.acq.queue with
  | [] => s
  | x :: r =>
    if s.tailsWait then s
    else match x.lines with
    | [] => { s with acq := { s.acq with queue := r } }
    | e :: l =>
      let q := if l.isEmpty then r else { x with lines := l } :: r
      ({ s with acq := { s.acq with queue := q } }).writeLine 1 e.1 e.2

/-- INDEX_ENTRY_WRITE (R299). -/
def execIndexEntryWrite (s : State) : Host.Outcome State Fault Refusal := s.act State.popIndex

/-- The outstanding index entries of context n are written. -/
def State.flushIndex (s : State) (n : Nat) : State :=
  let mine := (s.acq.queue.filter (fun x => x.ctx == n)).flatMap (·.lines)
  let s1 := { s with acq := { s.acq with queue := s.acq.queue.filter (fun x => x.ctx != n) } }
  mine.foldl (fun t e => t.writeLine 1 e.1 e.2) s1

/-- Status codes of the causes of Tables 11.9 and 12.5 by their row: 0 OK, 1 CLAMPED, 2 ACQ_STOP, 3 stop at once,
4 ABORT, 5 bypass, 6 pair link loss. -/
def endStatus (row : Nat) : Status :=
  match row with
  | 1 => .clamped | 3 => .truncated | 4 => .aborted | 5 => .clockLost | 6 => .pairLost | _ => .ok

/-- A sluice record (Table 12.4). -/
def sluiceRecord (n idx type new old whr : Nat) : List Word :=
  [lo32 idx, hi32 idx, BitVec.ofNat 32 (3 * 2 ^ 20 + n * 2 ^ 16 + type * 2 ^ 12 + new * 2 ^ 8 + old * 2 ^ 4),
   BitVec.ofNat 32 whr]

/-- W of a streaming context. -/
def State.lineCount (s : State) (n : Nat) : Nat := s.reg64 (R.ACQ_AC_SW_LO n)

/-- The step in force. -/
def State.step (s : State) (n : Nat) : Nat := s.fld (F.ACQ_AC_SLU_STAT.STEP n)

/-- A gap of context n closes with a GAP_END record at an index (R316). -/
def State.gapClose (s : State) (n idx : Nat) : State :=
  let c := s.ctx n
  let lost := idx - c.gapStart
  let s1 := s.pushLog n (sluiceRecord n idx 2 (s.step n) (s.step n) (s.lineCount n)) true
  let s2 := (s1.setReg64 (R.ACQ_AC_GAP_SAMP_LO n) (s1.reg64 (R.ACQ_AC_GAP_SAMP_LO n) + lost)).setFlag
    (F.ACQ_AC_SLU_STAT.GAP_OPEN n) false
  (s2.setCtx n { c with rateBit := true, next := idx, dnext := idx }).raise 167
    (n + 2 ^ 8 * satNat (2 ^ 24 - 1) (lost / 256)) (s2.routeCtx n)

/-- The payload of the arm completion (R303, R321). -/
def State.armPayload (s : State) (n : Nat) (c : Ctx) : List Word :=
  if c.streaming then
    [s.reg (R.ACQ_AC_SW_LO n), s.reg (R.ACQ_AC_SLU_CHANGES n), s.reg (R.ACQ_AC_GAPS n), s.reg (R.TRG_AC_COMPL n),
     s.reg (R.ACQ_AC_GAP_SAMP_LO n), s.reg (R.ACQ_AC_GAP_SAMP_HI n)] ++ eventTime s.now
  else
    [BitVec.ofNat 32 c.closed, s.reg (R.ACQ_AC_NONOK n), s.reg (R.TRG_AC_OVERLAP n), s.reg (R.TRG_AC_HELD n),
     BitVec.ofNat 32 c.entries] ++ eventTime s.now

/-- Every written line and entry of a streaming context has been released (R311). -/
def State.allReleased (s : State) (n : Nat) : Bool :=
  (s.ctx n).inputs.all (fun m => s.reg64 (R.ACQ_AC_SH_LO n m) == s.lineCount n)
    && s.reg64 (R.ACQ_AC_TH_LO n) == s.reg64 (R.TRG_AC_LOG_COUNT_LO n)

/-- A streaming context that is idle gives up its partitions once everything is released (R311). -/
def State.releaseParts (s : State) (n : Nat) : State :=
  if (s.ctx n).streaming && (s.ctx n).phase == .idle && s.allReleased n then s.useParts n [] else s

/-- The acquisition of context n ends for the cause of a row: index entries and log entries are written, then the arm
completion; partitions are released (R301, R321). -/
def State.acqEnd (s : State) (n row : Nat) : State :=
  let c0 := s.ctx n
  let last := match c0.ending with
    | some (_, e, _) => e
    | none => s.lastOfCycle
  let s0 := if c0.streaming && s.flag (F.ACQ_AC_SLU_STAT.GAP_OPEN n) then s.gapClose n (last + 1) else s
  let c := s0.ctx n
  let s1 := (s0.flushIndex n).flushLog n
  let st := if c.streaming && row ≤ 2 && s1.reg (R.ACQ_AC_GAPS n) != 0 then Status.overflowGap else endStatus row
  let s2 := match s1.descOf c.seq with
    | some d => s1.finish d st (s1.armPayload n c)
    | none => s1
  let s3 := (s2.setFlag (F.ACQ_AC_STAT.ARMED n) false).setFlag (F.ACQ_AC_STAT.SEG_OPEN n) false
  let s4 := s3.setCtx n { s3.ctx n with phase := .idle, segs := [], stops := [], ending := none, stopping := false }
  let s5 := if c.streaming then s4.releaseParts n else s4.useParts n []
  let s6 := (s5.raise 161 (n + 2 ^ 16 * st.code) (s5.routeCtx n)).demand.recomputeDT.showDets
  c.stops.foldl (fun t q => t.finishSeq q .ok [1]) s6

/-- A pending arm is cancelled with a status (R302). -/
def State.armCancel (s : State) (n : Nat) (st : Status) : State :=
  let c := s.ctx n
  let s1 := s.setCtx n { c with phase := .idle, stops := [], req := none }
  let s2 := match s1.descOf c.asked.seq with
    | some d => s1.finish d st []
    | none => s1
  (c.stops.foldl (fun t q => t.finishSeq q .ok [1]) s2).releaseParts n

/-- The arm summary of context n's pending arm (R460). -/
def State.armSummary (s : State) (n : Nat) : ArmSummary :=
  let c := (s.ctx n).asked
  if c.streaming then ⟨n, 3, c.armAt.getD 0, 0, 0, 0, 0, 0, 0⟩
  else
    let sl := c.slotLines
    let dsl := s.decSlotLines c (s.stepBounds n c).1
    ⟨n, 1, c.armAt.getD 0, c.pre, c.post, c.nseg, sl, dsl, s.slotCount c sl dsl⟩

/-- Context n holds a twin arm that waits for the leader's comparison. -/
def State.twinWaits (s : State) (n : Nat) : Bool :=
  (s.ctx n).phase == .pending && ((s.ctx n).req.map (·.go)) == some none

/-- Both arms of context n take effect at x (R460). -/
def State.twinGo (s : State) (n x : Nat) : State :=
  let c := s.ctx n
  let at0 := (c.asked.armAt).getD 0
  let s1 := s.setCtx n { c with req := c.req.map (fun r => { r with go := some x, late := decide (at0 < x) }) }
  { s1 with pair := { s1.pair with theirs := s1.pair.theirs.filter (fun (a : ArmSummary) => a.ctx != n) } }

/-- Unequal summaries end both arms (R460). -/
def State.twinUnequal (s : State) (n : Nat) : State :=
  let s1 := { s with pair := { s.pair with theirs := s.pair.theirs.filter (fun (a : ArmSummary) => a.ctx != n) } }
  if s1.twinWaits n then s1.armCancel n .badDescriptor else s1

/-- The leader compares the two summaries of context n once both are present (R460). -/
def State.twinCompare (s : State) (n : Nat) : State :=
  match s.pair.theirs.find? (fun (a : ArmSummary) => a.ctx == n) with
  | some a =>
    if s.isLeader && s.twinWaits n then
      if a = s.armSummary n then
        let x := max a.armAt ((s.coreNo + 4 * s.dL) * s.perCycle)
        (s.twinGo n x).tell (.arm (.go n x))
      else (s.twinUnequal n).tell (.arm (.unequal n))
    else s
  | none => s

/-- A twin arm waits: its summary goes to the partner (R460). -/
def State.twinWait (s : State) (n : Nat) : State := (s.tell (.arm (.summary (s.armSummary n)))).twinCompare n

/-- ACQ_ARM or ACQ_STREAM: the checks, and a pending arm where they pass; in a twin it waits for
the partner's (R293, R295, R306, R460). -/
def State.armStart (s : State) (d : Desc) (streaming : Bool) : State :=
  let old := s.ctx d.context
  let late := match (Ctx.armAt { streaming := streaming, dw := d.dw }) with
    | some i => decide (i < s.time.idx)
    | none => false
  let c : Ctx := { old with phase := .pending, stops := [], req := some ⟨streaming, d.seq, d.ring, d.dw, late, none⟩ }
  match s.armStatus d c.asked with
  | some st => s.finish d st []
  | none => if s.joined then (s.setCtx d.context c).twinWait d.context else s.setCtx d.context c

def execAcqArm (ring : Fin 64) (s : State) : Host.Outcome State Fault Refusal :=
  s.act (fun t => t.withStart ring 0x01 (fun d u => u.armStart d false))

def execAcqStream (ring : Fin 64) (s : State) : Host.Outcome State Fault Refusal :=
  s.act (fun t => t.withStart ring 0x03 (fun d u => u.armStart d true))

/-- The last word that an output covers, relative to its label: nonzero for period paths (R197). -/
def State.reach (s : State) (n : Nat) : Nat :=
  let c := s.ctx n
  match s.decPath c with
  | some (k, ins) => ((s.pathAt k (ins.headD 0) c.dnext).coverage k (s.decExp c (s.step n))).2.toNat
  | none => 0

/-- The decimated stream of context n has no output left that is labelled with an index up to e: where SAMPLE has stopped,
an output that covers a word past the last one does not come. -/
def State.decDone (s : State) (n e : Nat) : Bool :=
  Nat.blt e (s.ctx n).dnext || (s.frozen && Nat.blt s.time.lastIdx ((s.ctx n).dnext + s.reach n))

/-- Everything that the ending acquisition still writes has been packed (R301, R321). -/
def State.drained (s : State) (n e : Nat) : Bool :=
  let c := s.ctx n
  if c.streaming then
    s.flag (F.ACQ_AC_SLU_STAT.GAP_OPEN n) || (if c.rawEn then Nat.blt e c.next else s.decDone n e)
  else c.segs.isEmpty

/-- The acquisition ends once the core cycle of its cause has passed, in which a lower row may still decide, its last
lines are packed and no tail update waits (R283, R301, R321). -/
def State.tryEnd (s : State) (n : Nat) : State :=
  match (s.ctx n).ending with
  | some (row, e, cyc) => if Nat.blt cyc s.time.cycle && s.drained n e && !s.tailsWait then s.acqEnd n row else s
  | none => s

/-- The acquisitions that are to end, at the start of a core cycle. -/
def State.endsDue (s : State) : State := s.each (List.range 4) State.tryEnd

/-- A waiting twin arm of context n has ended on its own module: the partner's keeps waiting (R460). -/
def State.twinWithdraw (s : State) (n row : Nat) : State :=
  if s.joined && row != 6 then s.tell (.arm (.withdraw n)) else s

/-- The place of a cause in its table: in Table 12.5 pair link loss stands above bypass, in Table 11.9 below it. -/
def Ctx.endRank (c : Ctx) (row : Nat) : Nat := if c.streaming && row == 6 then 9 else 2 * row

/-- Core cycles for which a follower waits after a stop: the leader's decisions before it are still on their way (R461,
R462). -/
def State.endLag (s : State) (row : Nat) : Nat := if s.isFollower && (row == 2 || row == 3) then s.dL else 0

/-- The acquisition of context n is to end for the cause of a row, with e the last index that it packs: a cause of the same
core cycle in a lower row replaces one above it (R301, R321). -/
def State.endFor (s : State) (n row e : Nat) : State :=
  let c := s.ctx n
  let replace := match c.ending with
    | some (r, _, cyc) => cyc == s.time.cycle + s.endLag r && Nat.blt (c.endRank r) (c.endRank row)
    | none => true
  if replace then s.setCtx n { c with ending := some (row, e, s.time.cycle + s.endLag row) } else s

/-- An open segment as a stop for the cause of a row leaves it: cut at index `cut`, in bypass at the last valid sample
(R301, R87). -/
def Seg.cutFor (g : Seg) (row last cut : Nat) : Seg :=
  let st := if row = 5 then 8 else if row = 6 then 14 else 1
  if row = 5 then { g with last := min g.last last, forced := some st }
  else if cut < g.last then { g with last := max g.first cut, forced := some st }
  else if row = 6 then { g with forced := some st } else g

/-- Context n stops for the cause of a row: open segments are cut at the end of the line that holds the last index of
this core cycle, and in bypass their last sample is the last valid one (R301, R87). -/
def State.stopCtx (s : State) (n row : Nat) : State :=
  let c := s.ctx n
  match c.phase with
  | .idle => s
  | .pending => (s.armCancel n (endStatus (if row ≤ 3 then 3 else row))).twinWithdraw n row
  | .armed =>
    let last := if s.frozen then s.time.lastIdx else s.lastOfCycle
    let cut := 21 * (last / 21) + 20
    let s1 := s.endFor n row (if c.streaming || row == 5 then last else cut)
    if (s1.ctx n).ending == c.ending then s1
    else s1.setCtx n { s1.ctx n with segs := c.segs.map (fun (g : Seg) => g.cutFor row last cut) }

/-- STOP with IMMEDIATE=0 (R301): the open segment completes; no further one opens. -/
def State.stopSoft (s : State) (n : Nat) : State :=
  let c := s.ctx n
  if c.segs.isEmpty then s.stopCtx n 2 else s.setCtx n { c with stopping := true }

/-- A stop acts on context n: 2 ACQ_STOP with IMMEDIATE=0, 3 EN=0, 7 ACQ_STOP with IMMEDIATE=1 (R301, R321). -/
def State.stopFor (s : State) (n cause : Nat) : State :=
  if (s.ctx n).phase != .armed then s
  else if cause = 3 then s.stopCtx n 3
  else if (s.ctx n).streaming then s.stopCtx n 2
  else if cause = 7 then s.stopCtx n 3 else s.stopSoft n

/-- A stop of an armed context: at once, or on both modules of a twin D_L core cycles on (R462). -/
def State.stopRequest (s : State) (n cause : Nat) : State :=
  if s.joined then
    ({ s with pair := { s.pair with stops := s.pair.stops ++ [(s.coreNo + s.dL, n, cause)] } }).tell (.arm (.stop n cause))
  else s.stopFor n cause

/-- The twin stops that fall due in the present core cycle act (R462). -/
def State.applyStops (s : State) : State :=
  let now := s.pair.stops.filter (fun e => Nat.ble e.1 s.coreNo)
  if now.isEmpty then s
  else now.foldl (fun t e => t.stopFor e.2.1 e.2.2)
    { s with pair := { s.pair with stops := s.pair.stops.filter (fun e => Nat.blt s.coreNo e.1) } }

/-- ACQ_STOP (R302, R321, R460, R462). -/
def State.acqStop (s : State) (d : Desc) : State :=
  let n := d.context
  let c := s.ctx n
  if Nat.blt 3 n || !(d.reservedClear 2 [(2, 1)]) then s.finish d .badDescriptor []
  else match c.phase with
    | .idle => s.finish d .ok [0]
    | .pending =>
      ((s.setCtx n { c with stops := c.stops ++ [d.seq] }).armCancel n .truncated).twinWithdraw n 3
    | .armed =>
      if s.fld (F.ACQ_AC_STAT.OWNER n) != s.ringOwner d.ring then s.finish d .badDescriptor []
      else
        (s.setCtx n { c with stops := c.stops ++ [d.seq] }).stopRequest n (if d.f 2 0 1 = 1 then 7 else 2)

def execAcqStop (ring : Fin 64) (s : State) : Host.Outcome State Fault Refusal :=
  s.act (fun t => t.withStart ring 0x02 (fun d u => u.acqStop d))

/-- A write of ACQ_ACn_CTL with EN=0 stops the context at once (R301, R302). -/
def State.acqCtlWrite (s : State) (n : Nat) (v : Word) : State :=
  let s1 := s.plainWrite (R.ACQ_AC_CTL n) v
  if getBits v 0 1 = 0 then (if s1.armed n then s1.stopRequest n 3 else s1.stopCtx n 3) else s1

/-- ACQ_CTL_EN_CLEAR: EN is written 0, the other fields keep their values. -/
def execAcqCtlEnClear (ctx : Fin 4) (s : State) : Host.Outcome State Fault Refusal :=
  s.act (fun t => t.atReg (R.ACQ_AC_CTL ctx) (fun u => u.acqCtlWrite ctx (u.reg (R.ACQ_AC_CTL ctx) &&& 0xFFFFFFFE#32)))

/-- Contexts of a list stop for want of room in the write buffer, as if their EN had been written 0 (R354). -/
def State.reserveStopOf (s : State) (l : List Nat) : State :=
  let mask := bitsOf l
  let s1 := s.each l (fun t n =>
    let u := t.stopCtx n 3
    if u.joined then u.tell (.arm (.stop n 3)) else u)
  (s1.setFlag F.MEM_STAT.RESERVE_SEEN true).raise 198 mask (s.routeCtxs mask)

/-- The reserve mark stops every armed context (R354). -/
def State.reserveStop (s : State) : State := s.reserveStopOf ((List.range 4).filter s.armed)

/-- WRITE_BUFFER_RESERVE (R354): O has reached 53,248 lines. -/
def execWriteBufferReserve (s : State) : Host.Outcome State Fault Refusal :=
  s.act (fun t => if 53248 ≤ t.occupancy then t.reserveStop else t)

/-- ACQ_ACn status of an arm that takes effect (R294): ARMED, OWNER, INPUTS, ARM_LATE and the arm index. -/
def State.armRegs (s : State) (n : Nat) : State :=
  let c := s.ctx n
  let own := match s.descOf c.seq with
    | some d => s.ringOwner d.ring
    | none => s.ringOwner c.ring
  let s1 := (s.setFlag (F.ACQ_AC_STAT.ARMED n) true).setFld (F.ACQ_AC_STAT.OWNER n) own
  let s2 := s1.setFld (F.ACQ_AC_STAT.INPUTS n) (c.a 2 0 4)
  let s3 := if c.late then s2.setFlag (F.ACQ_AC_STAT.ARM_LATE n) true else s2
  s3.setReg64 (R.ACQ_AC_ARM_IDX_LO n) s.time.idx

/-- The slot geometry of a segmented arm, or the arm time of a streaming one (R287, R306). -/
def State.armGeometry (s : State) (n : Nat) : State :=
  let c := s.ctx n
  let sl := c.slotLines
  let dsl := s.decSlotLines c (s.stepBounds n c).1
  if c.streaming then s.setTime (R.ACQ_AC_ARM_TIME_0 n) (s.tideOf s.time.idx)
  else
    let s1 := s.setReg (R.ACQ_AC_SLOT n) (BitVec.ofNat 32 sl)
    let s2 := s1.setReg (R.ACQ_AC_DSLOT n) (BitVec.ofNat 32 dsl)
    s2.setReg (R.ACQ_AC_NSLOT n) (BitVec.ofNat 32 (s.slotCount c sl dsl))

/-- The context's packers and partitions at an arm (R285, R289). -/
def State.armCtx (s : State) (n : Nat) : State :=
  let c := s.ctx n
  let a := s.time.idx
  let g := gridFrom s.p0 (2 ^ s.decExp c (s.stepBounds n c).1) (if c.streaming then a else firstLine a)
  let c1 : Ctx := { c with phase := .armed, f := firstLine a, next := firstLine a, arms := c.arms + 1, dnext := g, seqNext := a }
  (s.setCtx n c1).useParts n ((s.named n c).map (·.1))

/-- Capture memory at an arm: E204 without a SPILL partition, and else the load offsets are learnt where they are not
known (R369, R371). -/
def State.armMemory (s : State) : State :=
  if s.spill.isNone then s.raisePF 204 0
  else if s.flag F.MEM_STAT.OFFSETS || s.mem.offsetPc.isSome then s
  else { s with mem := { s.mem with offsetPc := some 0 } }

/-- D_T is fixed and LOSS is clear at an arm (R226, R254). -/
def State.armTrigger (s : State) (n : Nat) : State :=
  let s1 := s.recomputeDT
  { s1 with trg := { s1.trg with loss := putBit s1.trg.loss n false } }

/-- E160 with the late mark. -/
def State.armEvent (s : State) (n : Nat) : State :=
  s.raise 160 (n + (if (s.ctx n).late then 4 else 0)) (s.routeCtx n)

/-- The sequence of actions when an arm takes effect (R294, R306, R311, R369, R371, R352, R354). -/
def State.armEffect (s : State) (n : Nat) : State :=
  let s0 := s.setCtx n (s.ctx n).asked
  let s1 := ((s0.armTrigger n).armRegs n).clearSeq n
  let s2 := (s1.clearStream n (s0.stepBounds n (s0.ctx n)).1).armGeometry n
  let s3 := ((s2.armCtx n).armEvent n).demand
  let s4 := (s3.armMemory.panArm n).showDets
  if 49152 ≤ s4.occupancy then s4.reserveStopOf [n] else s4

/-- The samples of an arm's inputs may enter a stream: no mode change is in progress, the active mode samples each input,
and none is under foreground calibration or has its injector connected (Table 2.5, R53). -/
def State.inputsFree (s : State) (c : Ctx) : Bool :=
  !(s.flag F.INP_MODE_STAT.CHANGING) && c.inputs.all (fun m => sampledIn s.activeMode m
    && !(natBit (s.fld F.CAL_STAT.FG_ACTIVE) m) && !(natBit (s.fld F.INP_STAT.INJ) m))

/-- The arm of context n may take effect now (R294, R295, R460). A pending arm whose inputs have since come under a mode
change or a calibration waits for its end (log entry 92). -/
def State.armDue (s : State) (n : Nat) : Bool :=
  let c := (s.ctx n).asked
  c.phase == .pending && !s.frozen && s.inputsFree c &&
    (if s.joined then (match (s.ctx n).req.bind (·.go) with
      | some x => decide (x ≤ s.time.idx)
      | none => false)
    else c.late || (match c.armAt with
      | some i => decide (i ≤ s.time.idx)
      | none => true))

/-- ARM_TAKE_EFFECT (R294, R295). -/
def execArmTakeEffect (ctx : Fin 4) (s : State) : Host.Outcome State Fault Refusal :=
  s.act (fun t => if t.armDue ctx then t.armEffect ctx else t)

/-- SL, DSL and K of the acquisition in force. -/
def State.slotSl (s : State) (n : Nat) : Nat := s.fld (F.ACQ_AC_SLOT.V n)
def State.slotDsl (s : State) (n : Nat) : Nat := s.fld (F.ACQ_AC_DSLOT.V n)
def State.slotK (s : State) (n : Nat) : Nat := s.fld (F.ACQ_AC_NSLOT.V n)

/-- Lines of raw slot k and of decimated slot k of context n. -/
def State.rawSlotLen (s : State) (n k : Nat) : Nat := rawSlot (s.rawLen (s.ctx n)) (s.slotSl n) (s.slotK n) k
def State.decSlotLen (s : State) (n k : Nat) : Nat := rawSlot (s.decLen (s.ctx n)) (s.slotDsl n) (s.slotK n) k

/-- Slots of the acquisition, the remainder slot among them (R287). -/
def State.slots (s : State) (n : Nat) : Nat :=
  let c := s.ctx n
  let k := s.slotK n
  let rem := (!c.rawEn || Nat.ble 2 (s.rawSlotLen n k)) && (!c.decEn || Nat.ble 2 (s.decSlotLen n k))
  k + (if rem then 1 else 0)

/-- Line of a raw partition, relative to its base, for index i in slot k with first index f (R289). -/
def State.rawLineOf (s : State) (n k f i : Nat) : Nat := k * s.slotSl n + (i - f) / 21 % s.rawSlotLen n k

/-- The context can open no further segment (Table 9.2). -/
def State.noMoreSegs (s : State) (n : Nat) : Bool :=
  let c := s.ctx n
  c.stopping || c.ending.isSome || Nat.ble c.nseg c.opened || Nat.ble (s.slots n) c.opened

/-- Some outputs of a decimated stream: the first label, the ratio, how many, and the places that their line leaves empty
after them. -/
structure DRun where
  lab : Nat
  ratio : Nat
  count : Nat
  pad : Nat
deriving DecidableEq, Repr

/-- The outputs of a run labelled up to index t; the empty places follow only where no output is left out. -/
def DRun.upTo (x : DRun) (t : Nat) : DRun :=
  let k := if t < x.lab then 0 else min x.count ((t - x.lab) / x.ratio + 1)
  { x with count := k, pad := if k = x.count then x.pad else 0 }

/-- Places that the outputs of a run labelled from `first` on take, with the empty ones after them. -/
def DRun.places (x : DRun) (first : Nat) : Nat :=
  let k := x.count - ceilDiv (first - x.lab) x.ratio
  if k = 0 then 0 else k + x.pad

/-- The first index of those after which at most k places are taken, runs newest first; 0 where all places are at most k. -/
def cutAfter (k : Nat) : List DRun → Nat
  | [] => 0
  | x :: l =>
    if k < x.count + x.pad then x.lab + (x.count - 1 - (k - x.pad)) * x.ratio + 1 else cutAfter (k - (x.count + x.pad)) l

/-- The label that comes after k places, runs oldest first, from grid label `d` of ratio `r` on where the runs end. -/
def labelAfter (d r k : Nat) : List DRun → Nat
  | [] => d + k * r
  | x :: l => if k < x.count then x.lab + k * x.ratio else labelAfter d r (k - (x.count + x.pad)) l

/-- The outputs of context n's decimated lines packed so far, newest first, and the part of the grid from the next label to
index t. -/
def State.decRuns (s : State) (n t : Nat) : List DRun :=
  let c := s.ctx n
  let r := 2 ^ s.decExp c (s.step n)
  (if c.dnext ≤ t then [⟨c.dnext, r, (t - c.dnext) / r + 1, 0⟩] else [])
    ++ c.dlines.map (fun l => ⟨l.lab, l.ratio, l.count, s.decPer c - l.count⟩)

/-- Where the decimated remainder slot binds: the least first index of a segment with trigger index t whose outputs up to t
fit, and for a first index the largest POST with which all fit (R291). A slot of L lines takes P * (L - 1) outputs; the
places that short lines leave empty count as taken (log entry 93). -/
def State.decFirst (s : State) (n t : Nat) : Nat :=
  let room := s.decPer (s.ctx n) * (s.decSlotLen n (s.slotK n) - 1)
  cutAfter room ((s.decRuns n t).map (fun x => x.upTo t))

def State.decPost (s : State) (n t first : Nat) : Nat :=
  let c := s.ctx n
  let runs := s.decRuns n t
  let room := s.decPer c * (s.decSlotLen n (s.slotK n) - 1)
  let used := (runs.map (fun x => (x.upTo t).places first)).foldl (· + ·) 0
  let later := (runs.filterMap (fun x =>
    let k := (x.upTo t).count
    if k < x.count then some { x with lab := x.lab + k * x.ratio, count := x.count - k } else none)).reverse
  let r := 2 ^ s.decExp c (s.step n)
  labelAfter (if c.dnext ≤ t then c.dnext + ((t - c.dnext) / r + 1) * r else c.dnext) r (room - used) later - t

/-- First, planned last and clamping of a segment with trigger index t (R290, R291). -/
def State.segBounds (s : State) (n t : Nat) : Nat × Nat × Bool :=
  let c := s.ctx n
  let k := c.opened
  let cap := 21 * (s.rawSlotLen n k - 1)
  let lo := max (t - c.pre) c.f
  let f1 := if c.rawEn then max lo (t + 1 - cap) else lo
  let binds := c.decEn && k == s.slotK n
  let first := if binds then max f1 (s.decFirst n t) else f1
  let p1 := if c.rawEn then min c.post (cap - (t - first)) else c.post
  let post := if binds then min p1 (s.decPost n t first) else p1
  (first, t + post - 1, Nat.blt post c.post)

/-- Some output of a decimated line is labelled with, or covers, index t (Table 7.17). -/
def State.lineCovers (s : State) (c : Ctx) (l : DLine) (t : Nat) : Bool :=
  match s.decPath c with
  | some (k, ins) =>
    let m := ins.headD 0
    let (a, b) := (s.pathAt k m l.lab).coverage k (Nat.log2 l.ratio)
    (List.range l.count).any (fun q =>
      let lab : Int := (l.lab : Int) + ((q * l.ratio : Nat) : Int)
      decide (lab + a ≤ (t : Int)) && decide ((t : Int) ≤ lab + b))
  | none => false

/-- The line holds the first output of a segment (Table 7.17): one of its outputs lies in the segment, and none before the
line is labelled with an index of it. -/
def DLine.starts (l : DLine) (g : Seg) : Bool :=
  Nat.ble l.before g.first && (List.range l.count).any (fun q =>
    Nat.ble g.first (l.lab + q * l.ratio) && Nat.ble (l.lab + q * l.ratio) g.last)

/-- A tail update sets a bit of a line already packed (R283, R360, R374): the line, and whether it was uncorrectable. A line
still in the buffer is updated in its slot; of one in the stack the read waits while its group has an entry. -/
def State.tailUpdate (s : State) (l bit : Nat) : State × Bool :=
  let x := s.readLine l
  (if s.inBuffer l then s.putBytes (32 * l) (natBytes (if natBit x bit then x else x + 2 ^ bit) 32)
    else if s.hasEntry l then s.requestLines 1 (.tail bit) [l]
    else s.setLineBit l bit, s.poisoned l)

/-- Tail updates of a list of lines and bits. -/
def State.tailUpdates (s : State) : List (Nat × Nat) → State × Bool
  | [] => (s, false)
  | e :: l =>
    let r := s.tailUpdate e.1 e.2
    let q := r.1.tailUpdates l
    (q.1, r.2 || q.2)

/-- The lines of context n, already packed, whose bits a new segment sets (R283). -/
def State.tailLines (s : State) (n : Nat) (g : Seg) : List (Nat × Nat) :=
  let c := s.ctx n
  let raw := if c.rawEn then [(g.first, 252), (g.t, 253)].flatMap (fun e =>
    if e.1 < c.next && Nat.ble g.f e.1 then
      c.inputs.map (fun m => (s.ptBase (c.inPart m) + s.rawLineOf n g.num g.f e.1, e.2)) else []) else []
  let dec := if c.decEn then c.dlines.flatMap (fun l =>
    (if l.starts g then [(s.ptBase c.decPart + l.line, 240)] else [])
      ++ (if s.lineCovers c l g.t then [(s.ptBase c.decPart + l.line, 241)] else [])) else []
  raw ++ dec

/-- A segment that the leader accepted before an immediate stop, opened on the follower after it: it ends as the leader's
does (R461, R462). -/
def State.stopped (s : State) (n : Nat) (g : Seg) : Seg :=
  match (s.ctx n).ending with
  | some (row, e, _) => if row = 2 then g else g.cutFor row e e
  | none => g

/-- A segment opens for an ACCEPTED completion of context n (R290, R296, R289, R283). -/
def State.openSegment (s : State) (n t frac mask : Nat) : State :=
  let c := s.ctx n
  let (first, last, clamped) := s.segBounds n t
  let g : Seg := ⟨c.opened, c.f, t, frac, mask, first, last, clamped, false, none⟩
  let (s1, bad) := s.tailUpdates (s.tailLines n g)
  let g1 := { (s.stopped n g) with poisoned := bad }
  let f' := 21 * (last / 21 + 1)
  let rr := 2 ^ s.decExp c (s.step n + if c.stepReq.isEmpty then 0 else 1)
  let req := if c.stepDown then c.stepReq ++ [⟨false, f', gridFrom s.p0 rr f'⟩] else c.stepReq
  (s1.setCtx n { c with
    opened := c.opened + 1, f := f', segs := c.segs ++ [g1], lastSeg := some g1
    stepReq := req, stepDown := false }).setFlag (F.ACQ_AC_STAT.SEG_OPEN n) true

/-- A degraded line holds a sample or an output of a segment. -/
def DegLine.meets (e : DegLine) (g : Seg) : Bool :=
  (List.range e.count).any (fun q => Nat.ble g.first (e.lab + q * e.ratio) && Nat.ble (e.lab + q * e.ratio) g.last)

/-- The status of a segment at its close (Table 11.8). -/
def State.segStatus (c : Ctx) (g : Seg) : Status :=
  let mine := c.degr.filter (fun e => e.meets g)
  match g.forced with
  | some 8 => .clockLost
  | some 14 => .pairLost
  | some _ => .truncated
  | none =>
    if g.clamped then .clamped
    else if g.poisoned || mine.any (fun e => !e.switch) then .degraded
    else if mine.isEmpty then .ok else .clockSwitched

/-- An index entry (Table 11.7). -/
def State.indexEntry (s : State) (g : Seg) (st : Status) (dec : Bool) (start len : Nat) : Nat :=
  let tide := s.tideOf g.t
  g.t % 2 ^ 64 + tide % 2 ^ 64 * 2 ^ 64
    + (g.frac % 1024 * 2 ^ 16 + tide / 2 ^ 64 % 2 ^ 16) * 2 ^ 128
    + (st.code * 2 ^ 16 + g.mask % 2 ^ 16) * 2 ^ 160
    + ((if dec then 2 ^ 31 else 0) + start) * 2 ^ 192 + len % 2 ^ 32 * 2 ^ 224

/-- Start line and length of the decimated stream of a segment (R291). -/
def decSpan (c : Ctx) (g : Seg) : Nat × Nat :=
  let inside := fun (l : DLine) => ((List.range l.count).filter (fun q =>
    Nat.ble g.first (l.lab + q * l.ratio) && Nat.ble (l.lab + q * l.ratio) g.last)).length
  let ls := (c.dlines.reverse).filter (fun l => inside l != 0)
  (((ls.head?).map (·.line)).getD 0, (ls.map inside).foldl (· + ·) 0)

/-- The entries of a closing segment (R299). -/
def State.segEntries (s : State) (n : Nat) (g : Seg) (st : Status) : List (Nat × Nat) :=
  let c := s.ctx n
  let b := s.ptBase c.idxPart + c.entries
  let raw := if c.rawEn then [s.indexEntry g st false (s.rawLineOf n g.num g.f g.first) (g.last + 1 - g.first)] else []
  let dec := if c.decEn then [let p := decSpan c g; s.indexEntry g st true p.1 p.2] else []
  (List.range (raw ++ dec).length).map (fun i => (b + i, (raw ++ dec).getD i 0))

/-- The oldest open segment of context n has been packed to its last sample (R296). -/
def State.segPacked (s : State) (n : Nat) (g : Seg) : Bool :=
  let c := s.ctx n
  (!c.rawEn || Nat.blt g.last c.next) && (!c.decEn || s.decDone n g.last)

/-- NOTIFY: SEGS has reached a multiple of 2^NOTIFY_EXP (Table 11.10). -/
def State.notify (s : State) (n : Nat) : State :=
  let k := s.fld (F.ACQ_AC_SEGS.V n)
  if s.flag (F.ACQ_AC_CTL.NOTIFY_EN n) && k % 2 ^ min 26 (s.fld (F.ACQ_AC_CTL.NOTIFY_EXP n)) == 0
  then s.raise 163 (n + 4 * k) (s.routeCtx n) else s

/-- The oldest open segment of context n closes (R296, R299, R300, R301). -/
def State.segClose (s : State) (n : Nat) : State :=
  let c := s.ctx n
  match c.segs with
  | [] => s
  | g :: rest =>
    if !(s.segPacked n g) then s
    else
      let st := State.segStatus c g
      let es := s.segEntries n g st
      let s1 := { s with acq := { s.acq with queue := s.acq.queue ++ [IdxItem.mk n es] } }
      let s2 := (s1.setCtx n { c with
        segs := rest, entries := c.entries + es.length, closed := c.closed + 1
        degr := c.degr.filter (fun e => Nat.blt g.last (e.lab + (e.count - 1) * e.ratio))
        dlines := c.dlines.filter (fun l => Nat.blt g.last (l.lab + (l.count - 1) * l.ratio)) }).setFlag
        (F.ACQ_AC_STAT.SEG_OPEN n) (!rest.isEmpty)
      let s3 := s2.setFld (F.ACQ_AC_SEGS.V n) (s2.fld (F.ACQ_AC_SEGS.V n) + 1)
      let s4 := if st == .ok then s3
        else (s3.bump (R.ACQ_AC_NONOK n)).raise 162 (n + 2 ^ 16 * st.code) (s3.routeCtx n)
      let s5 := s4.notify n
      let s6 := if g.num + 1 = c.nseg then s5.endFor n 0 g.last
        else if g.num + 1 = s5.slots n then s5.endFor n 1 g.last
        else if c.stopping && rest.isEmpty then s5.endFor n 2 g.last
        else s5
      s6.tryEnd n

/-- SEGMENT_CLOSE (R296). -/
def execSegmentClose (ctx : Fin 4) (s : State) : Host.Outcome State Fault Refusal := s.act (fun t => t.segClose ctx)

/-- Two spans of lines overlap. -/
def spansMeet (a la b lb : Nat) : Bool := Nat.blt a (b + lb) && Nat.blt b (a + la)

/-- Partition k with the given registers meets the conditions of R284. -/
def State.ptGood (s : State) (k base len cfg : Nat) : Bool :=
  Nat.ble (base + len) memLines && Nat.ble 2048 len && Nat.ble (cfg % 8) 6 && Nat.ble (cfg / 2 ^ 8 % 16) 8
    && !(s.flag F.MEM_STAT.TRAIN_FAIL)
    && (List.range 16).all (fun j => j == k || !(s.ptValid j) || !(spansMeet base len (s.ptBase j) (s.ptLen j)))

/-- A write to a partition register: 0 BASE, 1 LEN, 2 CFG (R284, R285, R368). -/
def State.ptWrite (s : State) (k r : Nat) (v : Word) : State :=
  let off := R.MEM_PT_BASE k + 4 * r
  let s1 := s.plainWrite off v
  let err := fun (t : State) => t.setFlag (F.MEM_PT_CFG.ERR k) true
  if s.ptInUse k then s
  else if !(s1.ptValid k) then s1.showSpill
  else if s.ptGood k (s1.ptBase k) (s1.ptLen k) (s1.reg (R.MEM_PT_CFG k)).toNat then s1.showSpill
  else if s.ptValid k then err s
  else err (s1.setFlag (F.MEM_PT_CFG.VALID k) false)

/-- MEM_PT_WRITE (R284, R285). -/
def execMemPtWrite (pt : Fin 16) (reg : Fin 3) (value : Word) (s : State) : Host.Outcome State Fault Refusal :=
  s.act (fun t => t.atReg (R.MEM_PT_BASE pt) (fun u => u.ptWrite pt reg value))

end Sys2Proof.Machine
end

