-- ==== Sys2Proof/Machine/Harvest.lean ====
section
/-!
DEFINITION. Harvest and release (ch. 15, R399 to R405; ch. 12, R308, R309; ch. 17, R441), and the meanings of
HARV_RANGE, HARV_STREAM, HARV_STREAM_WAIT_END, HARVEST_COMPLETE, ACQ_RELEASE and P2P_READ_TIMEOUT.
-/
namespace Sys2Proof.Machine

/-- The target names a stream or the log of the context's current or last streaming acquisition (R309, R400). -/
def State.isTarget (s : State) (n t : Nat) : Bool :=
  (s.ctx n).streaming && (t == 16 || (s.ctx n).inputs.contains t)

/-- Lines or entries written to a target: W, or entries of the log. -/
def State.written (s : State) (n t : Nat) : Nat :=
  if t = 16 then s.reg64 (R.TRG_AC_LOG_COUNT_LO n) else s.lineCount n

/-- Offset of the release count of a target (R308). -/
def heldOff (n t : Nat) : Nat := if t = 16 then R.ACQ_AC_TH_LO n else R.ACQ_AC_SH_LO n t

/-- Release count H of a target. -/
def State.released (s : State) (n t : Nat) : Nat := s.reg64 (heldOff n t)

/-- Harvest cursor G of a target (R401). -/
def State.cursor (s : State) (n t : Nat) : Nat := SMap.get zero (s.ctx n).cursors t

def State.setCursor (s : State) (n t g : Nat) : State :=
  s.setCtx n { s.ctx n with cursors := SMap.set zero (s.ctx n).cursors t g }

/-- H of a target becomes x; everything released gives up an idle context's partitions (R308, R311). -/
def State.setReleased (s : State) (n t x : Nat) : State := (s.setReg64 (heldOff n t) x).releaseParts n

/-- H of a target rises to x and G follows (R402, R309). -/
def State.releaseTo (s : State) (n t x : Nat) : State :=
  (s.setCursor n t (max (s.cursor n t) x)).setReleased n t x

/-- BAD_DESCRIPTOR of ACQ_RELEASE, but for the check of unreleased lines (R309). -/
def State.releaseBad (s : State) (d : Desc) : Bool :=
  !(d.reservedClear 2 [(2, 0x8000001F), (3, 0xFFFFFFFF)]) || Nat.blt 3 d.context
    || s.fld (F.ACQ_AC_STAT.OWNER d.context) != s.ringOwner d.ring
    || (d.f 2 31 1 == 0 && !(s.isTarget d.context (d.f 2 0 5)))

/-- ACQ_RELEASE acts (R309, R402): every check is made, and the counts advance. -/
def State.releaseNow (s : State) (d : Desc) : State :=
  let n := d.context
  let t := d.f 2 0 5
  let all := d.f 2 31 1 == 1
  let c := s.ctx n
  if s.releaseBad d then s.finish d .badDescriptor []
  else if all then
    let l := if c.streaming then c.inputs ++ [16] else []
    (s.each l (fun u t => u.releaseTo n t (u.written n t))).finish d .ok []
  else if Nat.blt (s.written n t - s.released n t) (d.n 3) then s.finish d .badDescriptor []
  else (s.releaseTo n t (s.released n t + d.n 3)).finish d .ok []

/-- Harvests of the targets that an ACQ_RELEASE names, started before it (R402). -/
def State.releaseAfter (s : State) (d : Desc) : List Nat :=
  (s.hif.harvests.filter (fun h => h.kind == .stream && h.ctx == d.context
    && (d.f 2 31 1 == 1 || h.target == d.f 2 0 5))).map (·.seq)

/-- ACQ_RELEASE starts: it acts at once, or after the harvests before it (R402). -/
def State.releaseStart (s : State) (d : Desc) : State :=
  let l := s.releaseAfter d
  if l.isEmpty || s.releaseBad d then s.releaseNow d
  else { s with hif := { s.hif with releases := s.hif.releases ++ [(d.seq, d.context, l)] } }

def execAcqRelease (ring : Fin 64) (s : State) : Host.Outcome State Fault Refusal :=
  s.act (fun t => t.withStart ring 0x04 (fun d u => u.releaseStart d))

/-- The releases that wait for no harvest any more act, oldest first (R402). -/
def State.tryReleases (s : State) : State :=
  let live := fun (q : Nat) => s.hif.harvests.any (fun h => h.seq == q)
  let due := s.hif.releases.filter (fun e => !(e.2.2.any live))
  let s1 := { s with hif := { s.hif with releases := s.hif.releases.filter (fun e => e.2.2.any live) } }
  due.foldl (fun t e => match t.descOf e.1 with
    | some d => t.releaseNow d
    | none => t) s1

/-- A harvest joins the running ones, after every harvest that claimed before it. -/
def State.addHarvest (s : State) (h : Harvest) : State :=
  { s with hif := { s.hif with harvests := s.hif.harvests ++ [h] } }

/-- A harvest runs no longer. -/
def State.dropHarvest (s : State) (q : Nat) : State :=
  { s with
    hif := { s.hif with harvests := s.hif.harvests.filter (fun (h : Harvest) => h.seq != q) }
    mem := { s.mem with reads := s.mem.reads.filter (fun r => r.who != .harvest q) } }

/-- The region of a HARV_RANGE descriptor: base and length, relative to the partition (Table 15.8). -/
def State.regionLen (s : State) (d : Desc) : Nat :=
  if d.f 4 0 31 = 0 then s.ptLen (d.f 2 0 4) - d.f 3 0 31 else d.f 4 0 31

/-- BAD_DESCRIPTOR of HARV_RANGE that does not concern the partition (R399); `dw7` are the bits that dword 7 may hold
(HARV_PAIR, R467). A region of given length (RLEN is not 0) bounds START and COUNT whatever the partition is. -/
def rangeBad (d : Desc) (dw7 : Word) : Bool :=
  let len := d.f 4 0 31
  !(d.reservedClear 2 [(2, 0xF), (3, 0x7FFFFFFF), (4, 0x7FFFFFFF), (5, 0x7FFFFFFF), (6, 0x7FFFFFFF), (7, dw7),
    (8, 0xFFFFFFFF), (9, 0xFFFFFFFF)]) || d.context != 15 || d.f 6 0 31 == 0 || dw64 d.dw 8 % 64 != 0
    || (len != 0 && (Nat.ble len (d.f 5 0 31) || Nat.blt len (d.f 6 0 31)))

/-- BAD_DESCRIPTOR of HARV_RANGE against its partition (R399). -/
def State.regionBad (s : State) (d : Desc) : Bool :=
  let len := s.regionLen d
  Nat.blt (s.ptLen (d.f 2 0 4)) (d.f 3 0 31 + len) || Nat.ble len (d.f 5 0 31) || Nat.blt len (d.f 6 0 31)

/-- Line of capture memory that unit i of a harvest reads, and the offset and length of its bytes in it (R399, R401,
R252). -/
def Harvest.unit (h : Harvest) (i : Nat) : Nat × Nat × Nat :=
  if h.kind == .stream && h.target == 16 then
    let q := (h.first + i) % (2 * h.len)
    (h.base + q / 2, 16 * (q % 2), 16)
  else (h.base + (h.first + i) % h.len, 0, 32)

/-- First line and length of the stream or log that a target of context n names (R252, R401). -/
def State.targetSpan (s : State) (n t : Nat) : Nat × Nat :=
  let c := s.ctx n
  if t = 16 then (s.ptBase c.logPart, s.ptLen c.logPart) else (s.ptBase (c.inPart t), s.rawLen c)

/-- The units of a harvest, each with its line and bytes. -/
def Harvest.units (h : Harvest) : List (Nat × Nat × Nat) := (List.range h.count).map h.unit

/-- The reads of a harvest start: those of lines whose groups have an entry in the write buffer wait at PORT4 (R360). -/
def State.harvReads (s : State) (h : Harvest) : State :=
  s.requestLines 4 (.harvest h.seq) (((h.units).map (·.1)).eraseDups)

/-- HARV_RANGE starts (R399). -/
def State.harvRange (s : State) (d : Desc) : State :=
  let k := d.f 2 0 4
  if rangeBad d 0 || (s.ptValid k && s.regionBad d) then s.finish d .badDescriptor []
  else if !(s.ptValid k) || s.ptType k == 6 || s.ptOwner k != s.ringOwner d.ring then s.finish d .partitionFault []
  else
    let h : Harvest := ⟨d.seq, d.ring, .range, 0, k, 0, d.f 5 0 31, d.f 6 0 31, false, false, dw64 d.dw 8, s.ptBase k + d.f 3 0 31,
      s.regionLen d⟩
    (s.addHarvest h).harvReads h

def execHarvRange (ring : Fin 64) (s : State) : Host.Outcome State Fault Refusal :=
  s.act (fun t => t.withStart ring 0x20 (fun d u => u.harvRange d))

/-- BAD_DESCRIPTOR of HARV_STREAM (R400). -/
def State.streamHarvBad (s : State) (d : Desc) : Bool :=
  let n := d.context
  !(d.reservedClear 2 [(2, 0x11F), (3, 0xFFFFFFFF), (8, 0xFFFFFFFF), (9, 0xFFFFFFFF)]) || Nat.blt 3 n
    || d.n 3 == 0 || dw64 d.dw 8 % 64 != 0 || !(s.isTarget n (d.f 2 0 5))
    || s.fld (F.ACQ_AC_STAT.OWNER n) != s.ringOwner d.ring

/-- A claim of `cnt` lines or entries from the cursor (R401). -/
def State.claim (s : State) (h : Harvest) (cnt : Nat) (trunc : Bool) : State :=
  let g := s.cursor h.ctx h.target
  let h1 : Harvest := { h with first := g, count := cnt, waits := false, truncated := trunc }
  (((s.dropHarvest h.seq).addHarvest h1).setCursor h.ctx h.target (g + cnt)).harvReads h1

/-- The acquisition whose lines a harvest reads has ended. -/
def State.harvEnded (s : State) (h : Harvest) : Bool :=
  (s.ctx h.ctx).phase != .armed || (s.ctx h.ctx).arms != h.arm

/-- What is left past the cursor of the harvest's acquisition. -/
def State.remains (s : State) (h : Harvest) : Nat :=
  if (s.ctx h.ctx).arms = h.arm then s.written h.ctx h.target - s.cursor h.ctx h.target else 0

/-- A harvest that waits claims its lines, or what remains of an ended acquisition (R401). -/
def State.tryClaim (s : State) (h : Harvest) : State :=
  if (s.ctx h.ctx).arms = h.arm && Nat.ble h.count (s.remains h) then s.claim h h.count false
  else if s.harvEnded h then s.claim h (s.remains h) true
  else s

/-- HARV_STREAM starts (R400, R401). -/
def State.harvStream (s : State) (d : Desc) : State :=
  let n := d.context
  let h : Harvest := ⟨d.seq, d.ring, .stream, n, d.f 2 0 5, (s.ctx n).arms, 0, d.n 3, true, false, dw64 d.dw 8,
    (s.targetSpan n (d.f 2 0 5)).1, (s.targetSpan n (d.f 2 0 5)).2⟩
  if s.streamHarvBad d then s.finish d .badDescriptor []
  else if d.f 2 8 1 = 1 then s.claim h (min h.count (s.remains h)) false
  else ((s.addHarvest h).tryClaim h).showHeld d.ring

def execHarvStream (ring : Fin 64) (s : State) : Host.Outcome State Fault Refusal :=
  s.act (fun t => t.withStart ring 0x21 (fun d u => u.harvStream d))

/-- In each core cycle the harvests that wait claim what has been written or remains, in the order of their starts (R401). -/
def State.claimsDue (s : State) : State :=
  (s.hif.harvests.filter (·.waits)).foldl (fun t h => (t.tryClaim h).showHeld h.ring) s

/-- HARV_STREAM_WAIT_END: the waiting harvest of a ring finds what it waits for (R401). -/
def State.harvWaitEnd (s : State) (r : Nat) : State :=
  match s.hif.harvests.find? (fun h => h.ring == r && h.waits) with
  | some h => (s.tryClaim h).showHeld r
  | none => s

def execHarvStreamWaitEnd (ring : Fin 64) (s : State) : Host.Outcome State Fault Refusal :=
  s.act (fun t => t.harvWaitEnd ring)

/-- Bytes that a harvest writes. -/
def Harvest.bytes (h : Harvest) : Nat := h.count * (if h.kind == .stream && h.target == 16 then 16 else 32)

/-- The dwords that a harvest writes (R374, R399). -/
def State.harvData (s : State) (h : Harvest) : List Word :=
  bytesWords ((h.units).flatMap (fun u => ((natBytes (s.readLine u.1) 32).drop u.2.1).take u.2.2))

/-- Poison lines that a harvest delivers (R403). -/
def State.harvPoison (s : State) (h : Harvest) : Nat :=
  ((((h.units).map (·.1)).eraseDups).filter (fun l => s.poisoned l)).length

/-- Claims of one target complete in their order, across all rings (R402). -/
def State.harvFirst (s : State) (h : Harvest) : Bool :=
  h.kind != .stream || ((s.hif.harvests.find? (fun e => e.kind == .stream && e.ctx == h.ctx && e.target == h.target
    && !e.waits)).map (·.seq)) == some h.seq

/-- H of the target advances by what a harvest of its present acquisition carried (R402). -/
def State.harvRelease (s : State) (h : Harvest) : State :=
  if h.kind == .stream && (s.ctx h.ctx).arms == h.arm
  then s.setReleased h.ctx h.target (s.released h.ctx h.target + h.count) else s

/-- The completion of a harvest whose data has been written (R402, R403). -/
def State.harvFinish (s : State) (h : Harvest) (d : Desc) (poison : Nat) : State :=
  let tail := if h.kind == .stream then [lo32 h.first, hi32 h.first] else []
  ((((s.dropHarvest h.seq).finish d (if h.truncated then .truncated else .ok)
    ([BitVec.ofNat 32 h.count, BitVec.ofNat 32 poison] ++ tail)).harvRelease h).tryReleases).showHeld h.ring

/-- One line of the partner is written beside its own line (R467); the last pair completes the descriptor. -/
def State.pairStep (s : State) : State :=
  match s.hif.harvests.find? (fun h => h.kind == .pair), s.pair.lines with
  | some h, (x, bad) :: rest =>
    match s.descOf h.seq with
    | some d =>
      let k := SMap.get zero s.pair.pairs h.seq
      let l := (h.unit k).1
      let own := bytesWords (natBytes (s.readLine l) 32)
      let his := bytesWords (natBytes (if bad then poisonLine else x) 32)
      let p := SMap.get zero s.pair.poison h.seq + (if s.poisoned l then 1 else 0) + (if bad then 1 else 0)
      let s1 := (s.postData (s.ringOwner h.ring) (h.haddr + 64 * k) (own ++ his))
      let s2 := { s1 with pair := { s1.pair with
        lines := rest, pairs := SMap.set zero s1.pair.pairs h.seq (k + 1), poison := SMap.set zero s1.pair.poison h.seq p } }
      if k + 1 < h.count then s2
      else (s2.dropHarvest h.seq).finish d .ok [BitVec.ofNat 32 h.count, BitVec.ofNat 32 p]
    | none => s
  | _, _ => s

/-- The partner's lines that have arrived are written while the stacks are active, Bus Master Enable is 1 and no read of
the own lines waits (R360). -/
def State.pairDrain (s : State) : Nat → State
  | 0 => s
  | n + 1 =>
    match s.hif.harvests.find? (fun h => h.kind == .pair) with
    | some h => if s.memActive && s.busMasterOn (s.ringOwner h.ring) && !(s.readsWait (· == .harvest h.seq))
      then s.pairStep.pairDrain n else s
    | none => s

/-- HARVEST_COMPLETE (R402, R403): the harvest that runs for a ring has been written; it waits while the stacks are
not active, the owner's Bus Master Enable is 0 or a read of it waits (R360, R372, R379); what it wrote into peer windows has
been read back (R441). A HARV_PAIR writes what has arrived (R467). -/
def State.harvComplete (s0 : State) (r : Nat) : State :=
  let s := s0.pairDrain s0.pair.lines.length
  match s.hif.harvests.find? (fun h => h.ring == r && !h.waits && h.kind != .pair) with
  | some h =>
    match s.descOf h.seq with
    | some d =>
      if s.memActive && s.busMasterOn (s.ringOwner r) && s.harvFirst h && !(s.readsWait (· == .harvest h.seq)) then
        ((if h.count = 0 then s else (s.postData (s.ringOwner r) h.haddr (s.harvData h)).flushReads (s.ringOwner r) h.haddr
          h.bytes).harvFinish h d (s.harvPoison h))
      else s
    | none => s
  | none => s

def execHarvestComplete (ring : Fin 64) (s : State) : Host.Outcome State Fault Refusal :=
  s.act (fun t => t.harvComplete ring)

/-- An ended harvest gives its claim back where no later claim of its target stands (R404). -/
def State.unclaim (s : State) (h : Harvest) : State :=
  if h.kind == .stream && !h.waits && (s.ctx h.ctx).arms == h.arm && s.cursor h.ctx h.target == h.first + h.count
  then s.setCursor h.ctx h.target h.first else s

/-- A harvest ends with ABORTED after it has written `n` bytes; its release count stays (R404, R441). -/
def State.harvAbort (s : State) (h : Harvest) (d : Desc) (n : Nat) : State :=
  ((((s.unclaim h).dropHarvest h.seq).finish d .aborted [BitVec.ofNat 32 (n / 32)]).tryReleases).showHeld h.ring

/-- The dwords that the pan harvest of a fetch number writes: header and cells (R342). -/
def State.panHarvData (s : State) (q : Nat) : List Word :=
  match s.gangWhere (fun g => g.harvests.any (fun e => e.1 == q)) with
  | some (f, g) =>
    match g.harvests.find? (fun e => e.1 == q) with
    | some (_, b, _) => (g.buf b).header f g.code b ++ (g.buf b).cellList
    | none => []
  | none => []

/-- A pan harvest ends with ABORTED after it has written `n` dwords: its buffer stays CLOSED and uncleared (R342,
R404). -/
def State.panHarvAbort (s : State) (d : Desc) (n : Nat) : State :=
  match s.gangWhere (fun g => g.harvests.any (fun e => e.1 == d.seq)) with
  | some (f, g) =>
    let s1 := if n = 0 then s else s.postData (s.ringOwner d.ring) (dw64 d.dw 4) ((s.panHarvData d.seq).take n)
    (s1.setGang f (some { g with harvests := g.harvests.filter (fun e => e.1 != d.seq) })).finish d .aborted
      [BitVec.ofNat 32 (n / 8)]
  | none => s

/-- P2P_READ_TIMEOUT (R441): the flushing read of a ring's harvest that touches a peer window has not completed. -/
def State.peerTimeout (s : State) (r : Nat) : State :=
  match s.hif.harvests.find? (fun h => h.ring == r && !h.waits && h.kind != .pair) with
  | some h =>
    match s.descOf h.seq with
    | some d =>
      if s.touchesPeer h.haddr h.bytes then
        ((if s.busMasterOn (s.ringOwner r) then (s.postData (s.ringOwner r) h.haddr (s.harvData h)).flushReads
          (s.ringOwner r) h.haddr h.bytes else s).harvAbort h d h.bytes)
      else s
    | none => s
  | none =>
    match s.running r 0x33 with
    | some d =>
      let n := (s.panHarvData d.seq).length
      if s.touchesPeer (dw64 d.dw 4) (4 * n) then s.panHarvAbort d n else s
    | none => s

def execP2pReadTimeout (ring : Fin 64) (s : State) : Host.Outcome State Fault Refusal :=
  s.act (fun t => t.peerTimeout ring)

end Sys2Proof.Machine
end

