-- ==== Sys2Proof/Machine/Calibration.lean ====
section
/-!
DEFINITION. Trim, the neighbour and shadow estimators, convergence and foreground calibration (ch. 06): the meanings of
CAL_TRIM_WRITE, NEIGHBOUR_INTERVAL_END, SHADOW_INTERVAL_END, CAL_SETTLED, CAL_FOREGROUND, FG_TRIM_SEARCH_DONE and
FG_RELEASE.
-/
namespace Sys2Proof.Machine

/-- CAL_EST_CTL at reset (Table 6.8). -/
def estReset : Nat → Word := fun _ => 0x2314

/-- An interval of the neighbour estimator of input n begins with a frame: it takes the CAL_EST_CTL then in force (R168). -/
def State.nbBegin (s : State) (n frame : Nat) : State :=
  { s with cal := { s.cal with
    nbStart := SMap.set zero s.cal.nbStart n frame
    nbCtl := SMap.set estReset s.cal.nbCtl n (s.reg R.CAL_EST_CTL)
    moved := s.cal.moved.filter (fun l => bankInput s.inp.route (l / 12) != n) } }

/-- An interval of the shadow estimator of bank b begins with a frame (R170). -/
def State.shBegin (s : State) (b frame : Nat) : State :=
  { s with cal := { s.cal with
    shStart := SMap.set zero s.cal.shStart b frame
    shCtl := SMap.set estReset s.cal.shCtl b (s.reg R.CAL_EST_CTL) } }

/-- The first frame after the present core cycle. -/
def State.nextFrame (s : State) : Nat := if s.frozen then s.frameNow false else s.frameNow true + 1

/-- Convergence starts (R173): CAL_SETTLED clears, the counts start again, and new intervals begin with a frame. -/
def State.convergenceStart (s : State) (frame : Nat) : State :=
  let s1 := ({ s with cal := { s.cal with gaugeEsts := [], nbEnds := [] } }).setFlag F.INP_MODE_STAT.CAL_SETTLED false
  (s1.each (List.range 4) (fun t n => t.nbBegin n frame)).each (List.range 8) (fun t b => t.shBegin b frame)

/-- Offset of a TRIM register: 0 to 103 slices, 104 to 107 gauges, 108 to 111 reference buffers (Tables 6.2, 6.3). -/
def trimOff (u : Nat) : Nat := if u < 104 then R.CAL_TRIM_P u else if u < 108 then R.CAL_TRIM_G (u - 104) else R.CAL_TRIM_REF (u - 108)

/-- The fields of a TRIM register: lowest bit and width. -/
def trimFields (u : Nat) : List (Nat × Nat) :=
  if u < 104 then [(24, 4), (20, 2), (18, 2), (16, 2), (14, 2), (12, 2), (10, 2), (4, 4), (0, 2)]
  else if u < 108 then [(16, 4), (0, 1), (2, 1), (4, 1), (6, 1), (8, 1), (10, 1), (12, 1), (14, 1)]
  else [(0, 16)]

/-- The fields that a trim search selects: comparator and capacitor units (R177). -/
def searchFields (u : Nat) : List (Nat × Nat) :=
  if u < 104 then [(20, 2), (18, 2), (16, 2), (14, 2), (12, 2), (10, 2), (0, 2)]
  else [(0, 1), (2, 1), (4, 1), (6, 1), (8, 1), (10, 1), (12, 1), (14, 1)]

/-- A TRIM register with the fields of a list taken from a written value; COMP_SEL ignores a 3 (Table 6.2). -/
def trimMerge (u : Nat) (fields : List (Nat × Nat)) (old v : Word) : Word :=
  fields.foldl (fun a f =>
    if u < 104 && f.1 == 0 && getBits v 0 2 == 3 then a else putBits a f.1 f.2 (getBits v f.1 f.2)) old

/-- The number of fields in which two values of a TRIM register differ. -/
def trimDiff (u : Nat) (a b : Word) : Nat :=
  ((trimFields u).filter (fun f => getBits a f.1 f.2 != getBits b f.1 f.2)).length

/-- TRIM_CHANGED: some TRIM register differs from its OTP value (R157). -/
def State.showTrim (s : State) : State :=
  s.setFlag F.CAL_STAT.TRIM_CHANGED ((List.range 112).any (fun u => s.reg (trimOff u) != regReset (trimOff u)))

/-- A TRIM register takes a value (R157). -/
def State.trimSet (s : State) (u : Nat) (v : Word) : State := (s.setReg (trimOff u) v).showTrim

/-- CAL_TRIM_WRITE: a host write, which is discarded while a context is armed (RWL); a change of a field restarts
convergence (R157). -/
def State.trimWrite (s : State) (u : Nat) (v : Word) : State :=
  let x := trimMerge u (trimFields u) (s.reg (trimOff u)) v
  if s.anyArmed || s.reg (trimOff u) == x then s else (s.trimSet u x).convergenceStart s.nextFrame

def execCalTrimWrite (unit : Fin 112) (value : Word) (s : State) : Host.Outcome State Fault Refusal :=
  s.act (fun t => t.atReg (trimOff unit) (fun u => u.trimWrite unit value))

/-- The bank and bank-local position of each position of an input in frame order (R40). -/
def State.inputPositions (s : State) (n : Nat) : List (Nat × Nat) :=
  let banks := inputBanks s.inp.route n
  let b0 := banks.head?.getD 0
  let k := banks.length
  (List.range (12 * k)).map (fun i => framePosition i k b0)

/-- What the neighbour estimator accumulates over an interval (R168): how many products and their sum for y[i]^2, for
y[i] y[i+2], and for the pairs (j, j+1) of the input's positions in frame order. -/
structure NbStats where
  n0 : Nat
  s0 : Nat
  n2 : Nat
  s2 : Int
  pairs : List (Nat × Int)
deriving DecidableEq, Repr

/-- The product of two samples that are both taken in. -/
def bothOf (e : Option Int × Option Int) : Option Int :=
  match e with
  | (some a, some b) => some (a * b)
  | _ => none

/-- A count and a sum. -/
def tally (l : List Int) : Nat × Int := (l.length, sumInt l)

/-- The sums over the samples of whole frames of `len` samples, those left out being none (R168). -/
def nbSums (len : Nat) (ys : List (Option Int)) : NbStats :=
  let sq := tally ((ys.filterMap id).map (fun y => y * y))
  let s2 := tally ((ys.zip (ys.drop 2)).filterMap bothOf)
  let c := (List.range ys.length).zip (ys.zip (ys.drop 1))
  ⟨sq.1, sq.2.toNat, s2.1, s2.2, (List.range len).map (fun j =>
    tally ((c.filter (fun e => e.1 % len == j)).filterMap (fun e => bothOf e.2)))⟩

/-- First and last frame of the running interval of input n: 2^EST_EXP frames, the exponent from 16 to 22 (Table 6.8). -/
def estExp (ctl : Word) : Nat := max 16 (min 22 (getBits ctl 0 5))

def State.nbFirst (s : State) (n : Nat) : Nat := SMap.get zero s.cal.nbStart n
def State.nbLast (s : State) (n : Nat) : Nat := s.nbFirst n + 2 ^ estExp (SMap.get estReset s.cal.nbCtl n) - 1

/-- A corrected output in position j of bank b in a frame of an interval from f1 to f2 is left out of the estimators: it is
a saturated or invalid word, lies in a degraded window, is interpolated, or its bank has changed epoch (R168, log entry
82). -/
def State.leftOut (s : State) (b j frame f1 f2 : Nat) (y : Int) : Bool :=
  y == 32767 || y == -32767 || y == -32768 || s.posMarked b j frame frame true || s.epochIn b f1 f2

/-- The corrected outputs of the interval of input n that are taken in, in order (R168). -/
def State.nbWords (s : State) (n : Nat) (words : List (BitVec 16)) : List (Option Int) :=
  let ps := s.inputPositions n
  let l := words.take (2 ^ estExp (SMap.get estReset s.cal.nbCtl n) * ps.length)
  ((List.range l.length).zip l).map (fun e =>
    let p := ps.getD (e.1 % ps.length) (0, 0)
    let y := e.2.toInt
    if s.leftOut p.1 p.2 (s.nbFirst n + e.1 / ps.length) (s.nbFirst n) (s.nbLast n) y then none else some y)

/-- What the interval of input n accumulates. -/
def State.nbStats (s : State) (n : Nat) (words : List (BitVec 16)) : NbStats :=
  nbSums (s.inputPositions n).length (s.nbWords n words)

/-- Runs of positions along the chain of pairs with data: each run as (position, r) with r = 0 at its start (R168). -/
def chainRuns : List (Nat × Option Rat) → Rat → List (Nat × Rat) → List (List (Nat × Rat))
  | [], _, cur => [cur.reverse]
  | (i, some d) :: l, r, cur => chainRuns l (r + d) ((i, r) :: cur)
  | (i, none) :: l, r, cur => ((i, r) :: cur).reverse :: chainRuns l 0 []

/-- A run with its mean removed: the residual skews in samples. -/
def centred (l : List (Nat × Rat)) : List (Nat × Rat) :=
  let m := (l.map (·.2)).foldl (· + ·) 0 / (l.length : Rat)
  l.map (fun e => (e.1, e.2 - m))

/-- A mean, where there is data. -/
def meanOf (e : Nat × Int) : Option Rat := if e.1 = 0 then none else some ((e.2 : Rat) / (e.1 : Rat))

/-- The residual skews of R168 by position in frame order: the chain starts after the first break of the cycle; a run
of one position has no pair with data and gives none (log entry 7). -/
def skewResiduals (m : NbStats) : List (Nat × Rat) :=
  let c := m.pairs.map meanOf
  let valid := c.filterMap id
  let meanC := valid.foldl (· + ·) 0 / (valid.length : Rat)
  let s0 : Rat := (m.s0 : Rat) / (m.n0 : Rat)
  let s2 : Rat := (m.s2 : Rat) / (m.n2 : Rat)
  let slope := (s2 - s0) / 2
  let deltas := (List.range c.length).zip (c.map (fun x => x.map (fun v => (v - meanC) / slope)))
  let cyc := match deltas.findIdx? (fun e => e.2.isNone) with
    | some k => deltas.drop (k + 1) ++ deltas.take (k + 1)
    | none => deltas.dropLast ++ (deltas.drop (deltas.length - 1)).map (fun e => (e.1, none))
  ((chainRuns cyc 0 []).filter (fun l => Nat.blt 1 l.length)).flatMap centred

/-- An interval is starved (R169). -/
def nbStarved (m : NbStats) : Bool :=
  let s0 : Rat := (m.s0 : Rat) / (m.n0 : Rat)
  let s2 : Rat := (m.s2 : Rat) / (m.n2 : Rat)
  m.n0 == 0 || m.n2 == 0 || decide (s0 < 65536) || decide (s0 - s2 < s0 / 64)

/-- The SKEW targets of a neighbour interval (R168). -/
def State.nbTargets (s : State) (n frame : Nat) (m : NbStats) : State :=
  let ps := s.inputPositions n
  let nleak := getBits (SMap.get estReset s.cal.nbCtl n) 12 3
  (skewResiduals m).foldl (fun t e =>
    let (b, j) := ps.getD e.1 (0, 0)
    let k := t.pos b j
    if k = 15 || s.cal.moved.contains (12 * b + j) then t
    else
      let p := 13 * b + k
      t.applyEstimate p frame 3
        [(2, t.corrApplied t.inp.route p 2 frame + roundRat (e.2 * t.samplePeriod * 16 / 2 ^ nleak))]) s

/-- A starved interval of input n (R169). -/
def State.nbStarve (s : State) (n : Nat) : State :=
  let k := SMap.get zero s.cal.starved n + 1
  let s1 := { (s.bump (R.CAL_STARVED n)) with cal := { s.cal with starved := SMap.set zero s.cal.starved n k } }
  if k = 64 then s1.raisePF 114 n else s1

/-- A neighbour interval of input n ends with its last frame (R168, R169, R171): `words` are the corrected outputs of the
input from its first frame on. -/
def State.nbEnd (s : State) (n : Nat) (words : List (BitVec 16)) : State :=
  if s.frozen || !(sampledIn s.inp.route n) || natBit (s.fld F.CAL_STAT.FG_ACTIVE) n || !(s.inCycle (s.nbLast n)) then s
  else
    let m := s.nbStats n words
    let s1 := if nbStarved m then s.nbStarve n
      else
        let t := s.nbTargets n (s.nbLast n) m
        { t with cal := { t.cal with starved := SMap.set zero t.cal.starved n 0 } }
    ({ s1 with cal := { s1.cal with
      nbEnds := SMap.set zero s1.cal.nbEnds n (SMap.get zero s1.cal.nbEnds n + 1) } }).nbBegin n (s.nbLast n + 1)

def execNeighbourIntervalEnd (input : Fin 4) (words : List (BitVec 16)) (s : State) : Host.Outcome State Fault Refusal :=
  s.act (fun t => t.nbEnd input words)

/-- What the shadow estimator accumulates over an interval (R170), in 16-bit codes: strobes, and the sums of d z1, z1^2,
d z2 and z2^2. -/
structure ShStats where
  n : Nat
  dz1 : Rat
  z1z1 : Rat
  dz2 : Rat
  z2z2 : Rat
deriving DecidableEq, Repr

/-- First and last frame of the running shadow interval of bank b. -/
def State.shFirst (s : State) (b : Nat) : Nat := SMap.get zero s.cal.shStart b
def State.shLast (s : State) (b : Nat) : Nat := s.shFirst b + 2 ^ estExp (SMap.get estReset s.cal.shCtl b) - 1

/-- The shadow estimator runs in bank b in some frame from f1 to f2. -/
def State.shadowIn (s : State) (b f1 f2 : Nat) : Bool :=
  (s.bank b).calSpans.any (fun e => Nat.ble (max e.1 f1) f2 && (match e.2 with
    | some x => Nat.blt (max e.1 f1) x
    | none => true))

/-- u of the stream's sample of index i with raw code c (R160); none where the code is invalid or its position is
interpolated (R161). -/
def State.streamU (s : State) (n : Nat) (i : Int) (c : Int) : Option Int :=
  let f := s.frameOf i
  let p := (s.inputPositions n).getD (i % ((s.perCycle / 2 : Nat) : Int)).toNat (0, 0)
  match s.sliceIn p.1 p.2 f with
  | some q => if s.strobedAt i then
      some (corrU (s.corrApplied (s.modeAt f) q 0 f) (s.corrApplied (s.modeAt f) q 1 f) (selected c)) else none
  | none => none

/-- The output of R160 for the raw code of slice q in a frame with the neighbours of the stream. -/
def State.outputOf (s : State) (q frame : Nat) (c : Int) (us : List (Option Int)) : Int :=
  let m := s.modeAt frame
  let a := fun f => s.corrApplied m q f frame
  corrOutput c (corrU (a 0) (a 1) c) (corrTaps (a 2) (a 3) s.samplePeriod) us

/-- A kernel of Table 6.5 applied to u around a sample, in 16-bit codes. -/
def kernelAt (k : List Rat) (u0 : Int) (us : List (Option Int)) : Rat :=
  (List.zipWith (fun (a : Rat) (u : Option Int) => a * (u.getD u0 : Int)) k us).foldl (· + ·) 0 / 16

/-- One strobe of the spare of bank b in a frame: (d, z1, z2), none where it is left out (R170). -/
def State.shStrobe (s : State) (b frame : Nat) (x : ShStrobe) : Option (Int × Rat × Rat) :=
  let j := (s.bank b).target
  let n := bankInput s.inp.route b
  let i : Int := s.positionIdx b j frame
  let us := (List.range 8).map (fun (k : Nat) => if k = 4 then none else s.streamU n (i + k - 4) (x.codes.getD k 0x800).toInt)
  let c := selected (x.codes.getD 4 0x800).toInt
  match s.sliceIn b j frame, s.streamU n i c with
  | some q, some u0 =>
    let yx := s.outputOf q frame c us
    let ys := s.outputOf (13 * b + s.spare b) frame (selected x.spare.toInt) us
    if !(s.shadowIn b frame frame) || s.leftOut b j frame (s.shFirst b) (s.shLast b) yx
      || s.leftOut b j frame (s.shFirst b) (s.shLast b) ys then none
    else some (ys - yx, kernelAt kernelD u0 us, kernelAt kernelH u0 us)
  | _, _ => none

/-- What the shadow interval of bank b accumulates: strobe k lies in its frame k. -/
def State.shStats (s : State) (b : Nat) (l : List ShStrobe) : ShStats :=
  let x := ((List.range l.length).zip (l.take (2 ^ estExp (SMap.get estReset s.cal.shCtl b)))).filterMap
    (fun e => s.shStrobe b (s.shFirst b + e.1) e.2)
  let sum := fun (f : Int × Rat × Rat → Rat) => (x.map f).foldl (· + ·) 0
  ⟨x.length, sum (fun e => e.1 * e.2.1), sum (fun e => e.2.1 * e.2.1), sum (fun e => e.1 * e.2.2),
    sum (fun e => e.2.2 * e.2.2)⟩

/-- The estimate of a shadow interval for the spare of bank b, or its count as starved (R170). -/
def State.shEstimate (s : State) (b frame : Nat) (m : ShStats) : State :=
  let p := 13 * b + s.spare b
  let r := s.inp.route
  let t := s.samplePeriod
  if m.z1z1 ≤ 0 then s.bump (R.CAL_BANK_SHSTARVED b)
  else
    let skew := s.corrApplied r p 2 frame + roundRat (m.dz1 / m.z1z1 * t * 16)
    let bw := s.corrApplied r p 3 frame - roundRat (m.dz2 / m.z2z2 * (t * t) / 4)
    s.applyEstimate p frame 4 (if m.z2z2 < 256 * m.n then [(2, skew)] else [(2, skew), (3, bw)])

/-- A shadow interval of bank b ends with its last frame (R170): where the estimator has run in it, it forms its estimate. -/
def State.shEnd (s : State) (b : Nat) (l : List ShStrobe) : State :=
  if s.frozen || !(s.inCycle (s.shLast b)) then s
  else
    let s1 := if s.hasSpare b && s.shadowIn b (s.shFirst b) (s.shLast b)
      then s.shEstimate b (s.shLast b) (s.shStats b l) else s
    s1.shBegin b (s.shLast b + 1)

def execShadowIntervalEnd (bank : Fin 8) (strobes : List ShStrobe) (s : State) : Host.Outcome State Fault Refusal :=
  s.act (fun t => t.shEnd bank strobes)

/-- Both conditions of R173 hold. -/
def State.converged (s : State) : Bool :=
  (List.range 8).all (fun b => (List.range 12).all (fun j =>
    s.pos b j == 15 || Nat.ble 8 (SMap.get zero s.cal.gaugeEsts (13 * b + s.pos b j))))
  && (List.range 4).all (fun n => !(sampledIn s.inp.route n) || Nat.ble 64 (SMap.get zero s.cal.nbEnds n))

/-- CAL_SETTLED sets (R173). -/
def State.calSettled (s : State) : State :=
  if s.converged && !(s.flag F.INP_MODE_STAT.CAL_SETTLED) then
    (s.setFlag F.INP_MODE_STAT.CAL_SETTLED true).raisePF 113 (s.fld F.INP_MODE_STAT.ACTIVE_MODE)
  else s

def execCalSettled (s : State) : Host.Outcome State Fault Refusal := s.act State.calSettled

/-- The inputs of a mask. -/
def inputsOf (mask : Nat) : List Nat := bitsSet mask 4

/-- The descriptor's fields are in order (R176). -/
def State.fgValid (s : State) (d : Desc) : Bool :=
  d.context == 15 && d.reservedClear 2 [(2, 0x10F)] && d.f 2 0 4 != 0
    && (inputsOf (d.f 2 0 4)).all (sampledIn s.inp.route) && s.ringOwner d.ring == 0

/-- A condition of BUSY holds (R176, R334). -/
def State.fgBusy (s : State) (inputs : Nat) : Bool :=
  (inputsOf inputs).any (fun n => s.captured n || s.inputHeld n || natBit (s.fld F.CAL_STAT.FG_ACTIVE) n)
    || s.flag F.INP_MODE_STAT.CHANGING || s.flag F.CLK_STAT.RATE_CHANGING || s.flag F.CLK_STAT.BYPASS

/-- The bits of a mask set or cleared in a field. -/
def State.maskFld (s : State) (f : Fld) (mask : Nat) (b : Bool) : State :=
  (bitsSet mask f.width).foldl (fun t i => t.setFlag (f.bit i) b) s

/-- The injector path of the inputs of a mask connects or disconnects (R53, R57). -/
def State.inject (s : State) (mask : Nat) (b : Bool) : State :=
  let s1 := s.maskFld F.INP_STAT.INJ mask b
  (s1.waveFor (s1.fld F.INP_STAT.INJ != 0)).monRefresh

/-- CAL_FOREGROUND (R176, R177). -/
def State.fgStart (s : State) (d : Desc) : State :=
  if !(s.fgValid d) then s.finish d .badDescriptor []
  else if s.fgBusy (d.f 2 0 4) then s.finish d .busy []
  else
    let m := d.f 2 0 4
    let s1 := { s with cal := { s.cal with fg := s.cal.fg ++ [FgRun.mk d.seq d.ring m (d.f 2 8 1 == 1) 0] } }
    ((s1.maskFld F.CAL_STAT.FG_ACTIVE m true).inject m true).showBanks

def execCalForeground (ring : Fin 64) (s : State) : Host.Outcome State Fault Refusal :=
  s.act (fun t => t.withStart ring 0x61 (fun d u => u.fgStart d))

/-- The foreground calibration that runs for a ring. -/
def State.fgOf (s : State) (r : Nat) : Option FgRun := s.cal.fg.find? (fun x => x.ring == r)

/-- The converters of the inputs of a mask: slices and gauges. -/
def State.fgUnit (s : State) (mask u : Nat) : Bool :=
  if u < 104 then natBit mask (bankInput s.inp.route (u / 13))
  else Nat.blt u 108 && (List.range 2).any (fun h => natBit mask (bankInput s.inp.route (2 * (u - 104) + h)))

/-- The search's selections for one converter, retired or not; they start no convergence (R173, R177). -/
def State.searchSet (s : State) (mask : Nat) (e : Nat × Word) : State :=
  if s.fgUnit mask e.1 then s.trimSet e.1 (trimMerge e.1 (searchFields e.1) (s.reg (trimOff e.1)) e.2) else s

/-- The trim search of a request ends (R177). -/
def State.searchDone (s : State) (r : Nat) (trims : List (Nat × Word)) : State :=
  match s.fgOf r with
  | some x =>
    if x.search then
      let s1 := trims.foldl (fun t e => t.searchSet x.inputs e) s
      let n := ((List.range 112).map (fun u => trimDiff u (s.reg (trimOff u)) (s1.reg (trimOff u)))).foldl (· + ·) 0
      { s1 with cal := { s1.cal with fg := s1.cal.fg.map (fun y =>
        if y.seq = x.seq then { y with search := false, changed := n } else y) } }
    else s
  | none => s

def execFgTrimSearchDone (ring : Fin 64) (trims : List (Nat × Word)) (s : State) : Host.Outcome State Fault Refusal :=
  s.act (fun t => t.searchDone ring trims)

/-- A ladder measurement replaces a slice's GAIN and OFFSET, or a gauge's set (R177). -/
def State.ladderSet (s : State) (mask : Nat) (l : Ladder) : State :=
  if !(s.fgUnit mask l.unit) || (Nat.blt l.unit 104 && s.retired l.unit) then s
  else if l.unit < 104 then
    let (off, gain) := ladderFit sliceStep (l.sums.map (· * 256))
    let m := s.inp.route
    ((s.setCorr m l.unit 0 (roundRat (131072 * gain))).setCorr m l.unit 1 (roundRat off)).setFld (F.CORR_3.SRC m l.unit) 6
  else s.gaugeFit (l.unit - 104) l.sums

/-- A foreground calibration is over: the inputs are released (R177, R178), and the neighbour estimator, paused for them,
begins a new interval (Table 6.7, log entry 82). -/
def State.fgOver (s : State) (x : FgRun) : State :=
  let s1 := { s with cal := { s.cal with fg := s.cal.fg.filter (fun y => y.seq != x.seq) } }
  (((s1.maskFld F.CAL_STAT.FG_ACTIVE x.inputs false).inject x.inputs false).showBanks).each (inputsOf x.inputs)
    (fun t n => t.nbBegin n t.nextFrame)

/-- Its descriptor completes with a status. -/
def State.fgFinish (s : State) (x : FgRun) (st : Status) (payload : List Word) : State :=
  match s.descOf x.seq with
  | some d => s.finish d st payload
  | none => s

/-- FG_RELEASE (R177, R179). -/
def State.fgRelease (s : State) (r : Nat) (ladders : List Ladder) : State :=
  match s.fgOf r with
  | some x =>
    if x.search then s
    else
      let s1 := (ladders.foldl (fun t l => t.ladderSet x.inputs l) s).fgOver x
      (s1.fgFinish x .ok (BitVec.ofNat 32 x.inputs :: BitVec.ofNat 32 x.changed :: eventTime s1.now)).raisePF 112
        (x.inputs + 2 ^ 8 * satNat 255 x.changed)
  | none => s

def execFgRelease (ring : Fin 64) (ladders : List Ladder) (s : State) : Host.Outcome State Fault Refusal :=
  s.act (fun t => t.fgRelease ring ladders)

/-- Every foreground calibration ends because SAMPLE stops (R178). -/
def State.fgStop (s : State) : State :=
  s.cal.fg.foldl (fun t x => (t.fgOver x).fgFinish x .clockLost []) s

end Sys2Proof.Machine
end

