-- ==== Sys2Proof/Machine/Streaming.lean ====
section
/-!
DEFINITION. Streams and the sluice (ch. 12) and the line packer of every capture stream (R282, R289, R291, R307): lines,
fill and pressure, step changes, phase resets, gaps, and SECOND records.
-/
namespace Sys2Proof.Machine

/-- Lines of each stream partition of context n. -/
def State.streamLen (s : State) (n : Nat) : Nat := s.rawLen (s.ctx n)

/-- The highest fill of context n's streams in lines (R310). -/
def State.maxFill (s : State) (n : Nat) : Nat :=
  ((s.ctx n).inputs.map (fun m => s.lineCount n - s.reg64 (R.ACQ_AC_SH_LO n m))).foldl max 0

/-- Buffer pressure and the pressure of a context (R310, R320). -/
def State.bufPressure (s : State) : Nat := 256 * s.occupancy / 65536
def State.pressure (s : State) (n : Nat) : Nat :=
  if (s.ctx n).streaming then max (256 * s.maxFill n / s.streamLen n) s.bufPressure else s.bufPressure

/-- A gap is open. -/
def State.gapOpen (s : State) (n : Nat) : Bool := s.flag (F.ACQ_AC_SLU_STAT.GAP_OPEN n)

/-- The slot that holds index i: its number and its f (R289). Labels between a closed segment and the next slot's f
belong to the slot before (R291). -/
def Ctx.slotOf (c : Ctx) (i : Nat) : Option (Nat × Nat) :=
  let all := c.segs.map (fun g => (g.num, g.f)) ++ [(c.opened, c.f)]
  match (all.filter (fun e => Nat.ble e.2 i)).getLast?, all.head? with
  | some e, _ => some e
  | none, some (k + 1, _) => some (k, 0)
  | _, _ => none

/-- The first slot boundary of context n above index i. -/
def Ctx.slotEnd (c : Ctx) (i : Nat) : Option Nat :=
  ((c.segs.map (·.f) ++ [c.f]).filter (fun f => Nat.blt i f)).head?

/-- A sluice record of type `ty` goes to the log of context n where its acquisition writes such records (R318, R320). -/
def State.sluLog (s : State) (n idx ty new old : Nat) : State :=
  let c := s.ctx n
  if c.streaming then s.pushLog n (sluiceRecord n idx ty new old (s.lineCount n)) true
  else if s.logEn n then s.pushLog n (sluiceRecord n idx ty new old (((c.slotOf idx).map (·.1)).getD c.opened)) true
  else s

/-- A phase reset that comes while a gap is open is recorded at once where there is room (R315). -/
def State.phaseRecord (s : State) (n p : Nat) : State :=
  if s.logFree n < 2 then s else s.sluLog n p 3 (s.step n) (s.step n)

/-- A gap of context n opens at the first index not written (R316); the phase resets that the packer has not reached are
recorded after it. -/
def State.openGap (s : State) (n idx : Nat) : State :=
  let c := s.ctx n
  let s1 := s.pushLog n (sluiceRecord n idx 1 (s.step n) (s.step n) (s.lineCount n)) true
  let s2 := ((s1.setFlag (F.ACQ_AC_SLU_STAT.GAP_OPEN n) true).setFlag (F.ACQ_AC_SLU_STAT.GAP_SEEN n) true).bump
    (R.ACQ_AC_GAPS n)
  let s3 := (s2.setCtx n { s2.ctx n with gapStart := idx, lowTicks := 0, phases := [] }).raise 166 n (s2.routeCtx n)
  s3.each c.phases (fun t p => t.phaseRecord n p)

/-- The next line would find a stream full (R316). -/
def State.streamFull (s : State) (n : Nat) : Bool :=
  (s.ctx n).streaming && Nat.ble (s.streamLen n) (s.maxFill n)

/-- First index or label of the next line. -/
def Ctx.nextIdx (c : Ctx) : Nat := if c.rawEn then c.next else c.dnext

/-- STREAM_GAP_OPEN (R316): the next line finds a stream full. -/
def State.gapAtFull (s : State) (n : Nat) : State :=
  if s.armed n && !(s.gapOpen n) && s.streamFull n then s.openGap n (s.ctx n).nextIdx else s

def execStreamGapOpen (ctx : Fin 4) (s : State) : Host.Outcome State Fault Refusal := s.act (fun t => t.gapAtFull ctx)

/-- A packed raw line is degraded: the context keeps it for the status of its segments (R300). -/
def State.noteDegraded (s : State) (n m i : Nat) : State :=
  let c := s.ctx n
  if s.capDegraded m i (i + 20) then s.setCtx n { c with degr := c.degr ++ [⟨i, 1, 21, s.switchOnly m i (i + 20)⟩] } else s

/-- Tally bits of the raw line from index i0 of input m (Table 11.1). -/
def State.tally (s : State) (n m i0 : Nat) : Nat :=
  let c := s.ctx n
  let holds := fun (i : Nat) => Nat.ble i0 i && Nat.ble i (i0 + 20)
  (if s.capDegraded m i0 (i0 + 20) then 8 else 0) + (if c.streaming && c.rateBit then 4 else 0)
    + (if c.segs.any (fun g => holds g.t) then 2 else 0) + (if c.segs.any (fun g => holds g.first) then 1 else 0)

/-- The words of a raw line, as every consumer receives them (R23); SAMPLE's last strobe ends them. -/
def State.rawWords (s : State) (m i0 : Nat) (wins : List (List (BitVec 16))) : List Int × State :=
  let w := s.tapWords m i0 (wins.headD []) (wins.getD 1 [])
  let r := s.hearAll m i0 ((if s.frozen then w.take (s.time.lastIdx + 1 - i0) else w).map (BitVec.ofInt 16))
  (r.1.map (fun x => x.toInt), r.2)

/-- One raw line of every input of a segmented context goes to its slot (R289). -/
def State.packRaw (s : State) (n : Nat) (data : List (List (List (BitVec 16)))) : State :=
  let c := s.ctx n
  let i0 := c.next
  let put := fun (t : State) (e : Nat × List (List (BitVec 16))) =>
    match c.slotOf i0 with
    | some (k, f) =>
      if Nat.blt k (t.slots n) then
        let w := t.rawWords e.1 i0 e.2
        (w.2.writeLine 0 (t.ptBase (c.inPart e.1) + t.rawLineOf n k f i0)
          (rawLine w.1 (t.tally n e.1 i0))).noteDegraded n e.1 i0
      else t
    | none => t
  let s1 := (c.inputs.zip data).foldl put s
  s1.setCtx n { s1.ctx n with next := i0 + 21 }

/-- W counts a line. -/
def State.countLine (s : State) (n : Nat) : State := s.setReg64 (R.ACQ_AC_SW_LO n) (s.lineCount n + 1)

/-- One raw line of every stream of a streaming context (R307). -/
def State.streamRaw (s : State) (n : Nat) (data : List (List (List (BitVec 16)))) : State :=
  let c := s.ctx n
  let i0 := c.next
  let s1 := (c.inputs.zip data).foldl (fun (t : State) e =>
    let w := t.rawWords e.1 i0 e.2
    w.2.writeLine 0 (t.ptBase (c.inPart e.1) + t.lineCount n % t.streamLen n) (rawLine w.1 (t.tally n e.1 i0))) s
  (s1.setCtx n { s1.ctx n with next := i0 + 21, rateBit := false }).countLine n

/-- Outputs of the next decimated line: labels stop before a slot boundary, a step change, a phase reset and a new setting
of the path, and at the end of the acquisition or of SAMPLE (R207, R291, R314, R315, R321). -/
def State.decCount (s : State) (n : Nat) : Nat :=
  let c := s.ctx n
  let r := 2 ^ s.decExp c (s.step n)
  let b := s.reach n
  let ok := fun (lab : Nat) =>
    (match c.slotEnd c.dnext with
      | some f => c.streaming || Nat.blt lab f
      | none => true)
    && (match c.stepReq with
      | q :: _ => Nat.blt lab q.pos
      | [] => true)
    && (match c.phases with
      | p :: _ => Nat.blt (lab + b) p
      | [] => true)
    && (match c.ending with
      | some (_, e, _) => Nat.ble lab e
      | none => true)
    && (!s.frozen || Nat.ble (lab + b) s.time.lastIdx)
    && (match s.decPath c with
      | some (k, ins) => s.pathAt k (ins.headD 0) lab == s.pathAt k (ins.headD 0) c.dnext
      | none => true)
  ((List.range (s.decPer c)).filter (fun q => ok (c.dnext + q * r))).length

/-- `cnt` outputs of one input's path from a label on, from the windows of words that they cover, as every consumer
receives them (R23). -/
def State.decOuts (s : State) (k : PathKind) (m rexp lab : Nat) (wins : List (List (BitVec 16))) : Nat → List Nat × State
  | 0 => ([], s)
  | cnt + 1 =>
    let w := s.hearFrom m ((lab : Int) + ((s.pathAt k m lab).coverage k rexp).1) (wins.headD [])
    let r := w.2.decOuts k m rexp (lab + 2 ^ rexp) wins.tail cnt
    (s.decOutput k m rexp lab (w.1.map (fun x => x.toInt)) :: r.1, r.2)

/-- The indices of the raw lines on which the words lie that contribute to the output of a label (R198). -/
def State.outSpan (s : State) (k : PathKind) (m rexp lab : Nat) : Int × Int :=
  let e := s.contributors k m rexp lab
  (e.1 / 21 * 21, e.2 / 21 * 21 + 20)

/-- Some of the `cnt` outputs of a decimated line from a label is degraded (R198). -/
def State.decDegraded (s : State) (k : PathKind) (m rexp lab cnt : Nat) : Bool :=
  (List.range cnt).any (fun q => let e := s.outSpan k m rexp (lab + q * 2 ^ rexp); s.capDegraded m e.1 e.2)

/-- The switch-over of R84 is the only cause for every degraded output of the line (R300). -/
def State.decSwitchOnly (s : State) (k : PathKind) (m rexp lab cnt : Nat) : Bool :=
  (List.range cnt).all (fun q => let e := s.outSpan k m rexp (lab + q * 2 ^ rexp); s.switchOnly m e.1 e.2)

/-- A packed decimated line is degraded: the context keeps it for the status of its segments (R300). -/
def State.noteDecDegraded (s : State) (n : Nat) (k : PathKind) (m rexp lab cnt : Nat) : State :=
  let c := s.ctx n
  if s.decDegraded k m rexp lab cnt then
    s.setCtx n { c with degr := c.degr ++ [⟨lab, 2 ^ rexp, cnt, s.decSwitchOnly k m rexp lab cnt⟩] } else s

/-- One decimated line of a segmented context (R291). -/
def State.packDec (s : State) (n : Nat) (data : List (List (List (BitVec 16)))) : State :=
  let c := s.ctx n
  match s.decPath c, c.slotOf c.dnext with
  | some (k, ins), some (slot, _) =>
    let m := ins.headD 0
    let cnt := s.decCount n
    let rexp := s.decExp c (s.step n)
    let l : DLine := ⟨c.dnext, 2 ^ rexp, cnt, slot * s.slotDsl n + c.dpos % s.decSlotLen n slot, c.dlast⟩
    let tail := lineTail cnt (s.step n) ((s.pathAt k m c.dnext).code k) (s.decDegraded k m rexp c.dnext cnt) c.rateBit
      (c.segs.any (fun g => s.lineCovers c l g.t)) (c.segs.any (fun g => l.starts g))
    let o := s.decOuts k m rexp c.dnext (data.headD []) cnt
    let s1 := if cnt != 0 && Nat.blt slot (s.slots n) then
        (o.2.writeLine 0 (s.ptBase c.decPart + l.line) (decLine k o.1 tail)).noteDecDegraded n k m rexp c.dnext cnt else s
    let nxt := c.dnext + cnt * 2 ^ rexp
    let newSlot := (c.slotOf nxt).map (·.1) != some slot
    let c1 : Ctx := { s1.ctx n with
      dnext := nxt, dlast := if cnt = 0 then c.dlast else nxt - 2 ^ rexp + 1, dpos := if newSlot then 0 else c.dpos + (if cnt = 0 then 0 else 1)
      dlines := if cnt = 0 then c.dlines else l :: c.dlines.filter (fun x => x.line != l.line)
      rateBit := c.rateBit && cnt == 0 }
    s1.setCtx n c1
  | _, _ => s

/-- One decimated line of every stream of a streaming context (R307). -/
def State.streamDec (s : State) (n : Nat) (data : List (List (List (BitVec 16)))) : State :=
  let c := s.ctx n
  match s.decPath c with
  | some (k, ins) =>
    let cnt := s.decCount n
    let rexp := s.decExp c (s.step n)
    if cnt = 0 then s
    else
      let s1 := (ins.zip data).foldl (fun (t : State) e =>
        let o := t.decOuts k e.1 rexp c.dnext e.2 cnt
        o.2.writeLine 0 (t.ptBase (c.inPart e.1) + t.lineCount n % t.streamLen n)
          (decLine k o.1
            (lineTail cnt (t.step n) ((t.pathAt k e.1 c.dnext).code k) (t.decDegraded k e.1 rexp c.dnext cnt) c.rateBit false false))) s
      (s1.setCtx n { s1.ctx n with dnext := c.dnext + cnt * 2 ^ rexp, rateBit := false }).countLine n
  | none => s

/-- The packer reaches the P0 of the oldest phase reset: the current line closes, and the first output on the new grid opens
a new one; without log room a gap opens instead (R315). -/
def State.takePhase (s : State) (n : Nat) : State :=
  let c := s.ctx n
  match c.phases with
  | p :: rest =>
    if Nat.blt (c.dnext + s.reach n) p then s
    else if c.streaming && Nat.blt (s.logFree n) 2 then (s.setCtx n { c with phases := rest }).openGap n p
    else (s.sluLog n p 3 (s.step n) (s.step n)).setCtx n { s.ctx n with phases := rest, dnext := p, rateBit := true }
  | [] => s

/-- A requested step change on the grid that a phase reset at P0 brings (R206): it keeps its index up to P0. -/
def State.regridStep (s : State) (c : Ctx) (step p0 : Nat) (q : StepReq) : StepReq :=
  if q.pos ≤ p0 then q else { q with pos := gridFrom p0 (2 ^ s.decExp c (step + 1)) (max p0 q.base) }

/-- A decimator phase reset at P0 reaches the packer of context n (R315, R320). -/
def State.phaseCtx (s : State) (n p0 : Nat) : State :=
  let c := s.ctx n
  if s.armed n && c.decEn then
    let s1 := s.setCtx n { c with stepReq := c.stepReq.map (s.regridStep c (s.step n) p0) }
    if s.gapOpen n then s1.phaseRecord n p0
    else (s1.setCtx n { s1.ctx n with phases := c.phases ++ [p0] }).takePhase n
  else s

/-- Every armed context with a decimated stream (R315). -/
def State.streamPhase (s : State) (p0 : Nat) : State := s.each (List.range 4) (fun t n => t.phaseCtx n p0)

/-- A line packed for a streaming context: a full stream opens a gap, an open gap writes nothing (R307, R316). -/
def State.streamLine (s : State) (n : Nat) (data : List (List (List (BitVec 16)))) : State :=
  if s.gapOpen n then s
  else if s.streamFull n then s.gapAtFull n
  else if (s.ctx n).rawEn then s.streamRaw n data
  else (s.streamDec n data).takePhase n

/-- The acquisition of context n writes no line past its end (R301, R321). -/
def State.packAllowed (s : State) (n : Nat) (dec : Bool) : Bool :=
  let c := s.ctx n
  s.armed n && (if dec then c.decEn else c.rawEn) && (match c.ending with
    | some (_, e, _) => Nat.ble (if dec then c.dnext else c.next) e
    | none => true)

/-- The line packer completes a line (R282, R289, R291, R307). -/
def State.packLine (s : State) (n : Nat) (dec : Bool) (data : List (List (List (BitVec 16)))) : State :=
  if !(s.packAllowed n dec) then s
  else if (s.ctx n).streaming then (s.streamLine n data).tryEnd n
  else if dec then ((s.packDec n data).takePhase n).tryEnd n
  else (s.packRaw n data).tryEnd n

/-- LINE_PACKED (R289). -/
def execLinePacked (ctx : Fin 4) (dec : Bool) (data : List (List (List (BitVec 16)))) (s : State) :
    Host.Outcome State Fault Refusal :=
  s.act (fun t => t.packLine ctx dec data)

/-- Pressure p lies at or below LO, which acts as min(LO, HI - 1) (R313). -/
def State.sluLow (s : State) (n p : Nat) : Bool :=
  Nat.ble p (s.fld (F.ACQ_AC_SLU_THR.LO n)) && Nat.blt p (s.fld (F.ACQ_AC_SLU_THR.HI n))

/-- Two indices of a segmented context lie in one slot: no slot begins above the first, up to the second (R289). -/
def Ctx.sameSlot (c : Ctx) (a i : Nat) : Bool :=
  (c.segs.map (·.f) ++ [c.f]).all (fun f => Nat.ble f a || Nat.blt i f)

/-- The grid index at which a step change requested from index `base` on acts (R206). -/
def State.stepGrid (s : State) (n step base : Nat) : Nat := gridFrom s.p0 (2 ^ s.decExp (s.ctx n) step) base

/-- The sluice may step up (R312, R320): no such request waits, and a segmented acquisition has had no change in the slot. -/
def State.mayStepUp (s : State) (n : Nat) : Bool :=
  let c := s.ctx n
  c.decEn && s.flag (F.ACQ_AC_SLU_CTL.EN n) && (if c.streaming then c.stepReq.isEmpty else
    !(c.stepReq.any (·.up)) && (match c.lastStep with
      | some a => !(c.sameSlot a (s.stepGrid n (s.step n + 1) s.time.idx))
      | none => true))

/-- The sluice may step down: no request of its kind waits (R312, R320). -/
def State.mayStepDown (s : State) (n : Nat) : Bool :=
  let c := s.ctx n
  c.decEn && s.flag (F.ACQ_AC_SLU_CTL.EN n) && !c.stepDown
    && (if c.streaming then c.stepReq.isEmpty else c.stepReq.all (·.up))

/-- Entries of log room that a step change needs; none in a segmented acquisition (Table 12.3, R320). -/
def State.stepRoom (s : State) (n : Nat) : Bool := !(s.ctx n).streaming || Nat.ble 16 (s.logFree n)

/-- The lowest step: in a segmented acquisition the step at arm (R320). -/
def State.stepLow (s : State) (n : Nat) : Nat := (s.stepBounds n (s.ctx n)).1

/-- A step up is requested at this core cycle (R206, R314, R320). -/
def State.askUp (s : State) (n : Nat) : State :=
  let c := s.ctx n
  let i := s.stepGrid n (s.step n + 1) s.time.idx
  s.setCtx n { c with stepReq := ⟨true, s.time.idx, i⟩ :: c.stepReq, lowTicks := 0, lastStep := some i }

/-- A step down is requested at this core cycle: in a segmented acquisition it acts when the next slot becomes current, which
it awaits where that slot's first index is not yet known (R206, R314, R320). -/
def State.askDown (s : State) (n : Nat) : State :=
  let c := s.ctx n
  let top := s.step n + if c.stepReq.isEmpty then 0 else 1
  if c.streaming then
    s.setCtx n { c with stepReq := [⟨false, s.time.idx, s.stepGrid n top s.time.idx⟩], lowTicks := 0 }
  else match c.slotEnd s.time.idx with
    | some f => s.setCtx n { c with stepReq := c.stepReq ++ [⟨false, f, s.stepGrid n top f⟩], lowTicks := 0 }
    | none => s.setCtx n { c with stepDown := true, lowTicks := 0 }

/-- The gap of context n may close (R316). -/
def State.gapMayClose (s : State) (n : Nat) : Bool := Nat.ble (2 * s.maxFill n) (s.streamLen n) && Nat.ble 16 (s.logFree n)

/-- The first index or label after a gap that closes at this core cycle (R316). -/
def State.resumeAt (s : State) (n : Nat) : Nat :=
  let c := s.ctx n
  if c.rawEn then firstLine s.time.idx else gridFrom s.p0 (2 ^ s.decExp c (s.step n)) s.time.idx

/-- Rows 2 to 5 of Table 12.2 at pressure p. -/
def State.sluDecide (s : State) (n p : Nat) (rising : Bool) : State :=
  let c := s.ctx n
  let hi := s.fld (F.ACQ_AC_SLU_THR.HI n)
  let st := s.step n
  let top := (s.stepBounds n c).2
  let low := c.lowTicks + 1
  let mark := s.setFlag (F.ACQ_AC_SLU_STAT.AT_MAX n) false
  if Nat.ble hi p && rising && Nat.blt st top && s.stepRoom n && s.mayStepUp n then mark.askUp n
  else if s.sluLow n p && Nat.ble 16 low && Nat.blt (s.stepLow n) st && s.stepRoom n && s.mayStepDown n then mark.askDown n
  else
    let s1 := s.setCtx n { c with lowTicks := if s.sluLow n p then low else 0 }
    if Nat.ble hi p && rising && st == top then
      let s2 := s1.setFlag (F.ACQ_AC_SLU_STAT.AT_MAX n) true
      if c.maxSaid then s2
      else (s2.setCtx n { s2.ctx n with maxSaid := true }).raise 168 n (s2.routeCtx n)
    else s1.setFlag (F.ACQ_AC_SLU_STAT.AT_MAX n) false

/-- A sluice tick of context n (R313, R320). -/
def State.sluTick (s : State) (n : Nat) : State :=
  let c := s.ctx n
  if !(s.armed n) || c.ending.isSome || s.frozen || !(c.streaming || c.decEn) then s
  else
    let fill := if c.streaming then s.maxFill n else 0
    let rising := Nat.blt c.prevFill fill || Nat.blt c.prevOcc s.occupancy
    let p := s.pressure n
    let s1 := s.setCtx n { c with
      prevFill := fill, prevOcc := s.occupancy
      maxSaid := c.maxSaid && Nat.ble (s.fld (F.ACQ_AC_SLU_THR.HI n)) p }
    if s1.gapOpen n then
      let s2 := s1.setFlag (F.ACQ_AC_SLU_STAT.AT_MAX n) false
      if s2.gapMayClose n then s2.gapClose n (s2.resumeAt n) else s2
    else if c.streaming || s.flag (F.ACQ_AC_SLU_CTL.EN n) then s1.sluDecide n p rising else s1

/-- SLUICE_TICK (R313). -/
def execSluiceTick (ctx : Fin 4) (s : State) : Host.Outcome State Fault Refusal := s.act (fun t => t.sluTick ctx)

/-- The requested step change has reached its grid index: the line before it is closed (R314). -/
def State.stepReady (s : State) (n i : Nat) : Bool :=
  if s.gapOpen n then decide (i ≤ s.time.idx) else decide (i ≤ (s.ctx n).dnext)

/-- The oldest requested step change takes effect (R206, R314, R320). -/
def State.stepChange (s : State) (n : Nat) : State :=
  let c := s.ctx n
  match c.stepReq with
  | q :: rest =>
    let i := q.pos
    if !(s.armed n) || !(s.stepReady n i) then s
    else
      let old := s.step n
      let new := if q.up then old + 1 else old - 1
      let s1 := (s.sluLog n i 0 new old).setFld (F.ACQ_AC_SLU_STAT.STEP n) new
      let s2 := (s1.bump (R.ACQ_AC_SLU_CHANGES n)).setCtx n
        { s1.ctx n with stepReq := rest, rateBit := true, lowTicks := 0, lastStep := some i }
      let s3 := match s2.decPath c with
        | some (.cic, ins) => s2.each ins (fun t m => t.restart false i .cic m)
        | _ => s2
      (s3.raise 165 (n + 16 * old + 256 * new) (s3.routeCtx n)).demand
  | [] => s

/-- SLUICE_STEP_CHANGE (R314). -/
def execSluiceStepChange (ctx : Fin 4) (s : State) : Host.Outcome State Fault Refusal := s.act (fun t => t.stepChange ctx)

/-- The first strobe of this core cycle whose tide time has passed a whole second, with that second (R318). -/
def State.secondStrobe (s : State) : Option (Nat × Nat) :=
  let i := s.time.idx
  let sec := s.tideOf (i + s.perCycle - 1) / 2 ^ 40
  if 0 < i && s.tideOf (i - 1) < sec * 2 ^ 40 then
    ((List.range s.perCycle).find? (fun j => Nat.ble (sec * 2 ^ 40) (s.tideOf (i + j)))).map (fun j => (i + j, sec))
  else none

/-- SECOND_RECORD (R317, R319): a SECOND record needs 64 free entries. -/
def State.secondRecord (s : State) (n : Nat) : State :=
  if !(s.armed n) || !(s.ctx n).streaming || !(s.flag (F.ACQ_AC_SLU_CTL.SEC_REC n)) || s.frozen
    || Nat.blt (s.logFree n) 64 then s
  else match s.secondStrobe with
    | some (i, sec) => s.pushLog n (sluiceRecord n i 4 (s.step n) (s.step n) sec) true
    | none => s

def execSecondRecord (ctx : Fin 4) (s : State) : Host.Outcome State Fault Refusal := s.act (fun t => t.secondRecord ctx)

/-- A write to SLU_CTL or SLU_THR of context n (r = 0, 1): discarded while the context is armed. -/
def State.sluWrite (s : State) (n r : Nat) (v : Word) : State :=
  if s.armed n then s.setFlag (F.ACQ_AC_SLU_STAT.WR_DISCARD n) true
  else s.plainWrite (if r = 0 then R.ACQ_AC_SLU_CTL n else R.ACQ_AC_SLU_THR n) v

end Sys2Proof.Machine
end

