-- ==== Sys2Proof/Machine/Sequencer.lean ====
section
/-!
DEFINITION. Trigger sequencing (ch. 09): the sequencer's table, classification and holdoff, what a completion does to the
log, the outputs, the reactive lines and the broadcasts, output pulses, and the trigger skew calibration.
-/
namespace Sys2Proof.Machine

/-- What a sequencer does at one index: the context after it, timeouts and resets, the stages completed (from 1), and for
a completion the firings of the final stage's mask. -/
structure SeqStep where
  ctx : Ctx
  timeouts : Nat := 0
  resets : Nat := 0
  stages : List Nat := []
  comp : Option Nat := none
deriving DecidableEq, Repr

/-- Table 9.1 at index j with the firings of a mask; `used` are those consumed at j (R238, R239). The first argument
bounds the stages that one index can complete. -/
def State.seqRun (s : State) (n j fired : Nat) : Nat → Ctx → Nat → SeqStep
  | 0, c, _ => { ctx := c }
  | m + 1, c, used =>
    let k := c.stage
    let win := k != 0 && s.flag (F.TRG_AC_STG_CTL.WIN_EN n k)
    let sc := 2 ^ s.fld (F.TRG_AC_STG_CTL.WSCALE n k)
    if win && Nat.blt (s.fld (F.TRG_AC_STG_DMAX.V n k) * sc) (j - c.iPrev) then
      let r := s.seqRun n j fired m { c with stage := 0, count := 0 } used
      { r with timeouts := r.timeouts + 1 }
    else
      let considers := if k = 0 then (match c.lastComp with
          | some l => Nat.blt l j
          | none => true)
        else Nat.blt c.iPrev j || (j == c.iPrev && s.flag (F.TRG_AC_STG_CTL.SAME_SAMPLE n k))
      let cons := if considers then fired &&& (fired ^^^ (fired &&& used)) else 0
      let adv := cons &&& s.advMask n k
      if cons &&& s.rstMask n k != 0 then
        { ctx := { c with stage := 0, count := 0 }, resets := if k = 0 then 0 else 1 }
      else if win && Nat.blt (j - c.iPrev) (s.fld (F.TRG_AC_STG_DMIN.V n k) * sc) || adv = 0 then { ctx := c }
      else if c.count + 1 < max 1 (s.fld (F.TRG_AC_STG_CTL.COUNT n k)) then { ctx := { c with count := c.count + 1 } }
      else if k < s.fld (F.TRG_AC_SEQ.NSTAGES n) then
        let r := s.seqRun n j fired m { c with stage := k + 1, count := 0, iPrev := j } (used ||| adv)
        { r with stages := (k + 1) :: r.stages }
      else
        { ctx := { c with stage := 0, count := 0, lastComp := some j }, stages := [k + 1]
          comp := some (fired &&& s.advMask n k) }

/-- A completion: context, index of the firing, trigger sample index, fraction, detector mask and symbol bit (R240). -/
structure Completion where
  ctx : Nat
  idx : Nat
  t : Nat
  frac : Nat
  mask : Nat
  sym : Bool
deriving DecidableEq, Repr

/-- The completion of a mask of firings at index j: its instant is that of the lowest-numbered detector, and of the
symbol trigger where no detector is in the mask (R240, R246). -/
def State.completionOf (s : State) (n j fired : Nat) : Completion :=
  let here := s.trg.fires.filter (fun f => f.idx == j)
  let d := ((bitsSet fired 17).head?).getD 16
  match here.find? (fun f => f.det == d) with
  | some f => ⟨n, j, f.tIdx, f.frac, fired % 2 ^ 16, natBit fired 16⟩
  | none => ⟨n, j, j, 0, fired % 2 ^ 16, natBit fired 16⟩

/-- Kinds of Table 9.2, by their codes in the log (Table 9.6a). -/
inductive Kind where
  | accepted | overlap | held
deriving DecidableEq, Repr

def Kind.code : Kind → Nat
  | .accepted => 0 | .overlap => 1 | .held => 2

/-- The completion lies in the last segment or its rearm dead time (R297). -/
def State.inDead (s : State) (n t : Nat) : Bool :=
  match (s.ctx n).lastSeg with
  | some g => Nat.ble t (g.last + 3 * s.perCycle)
  | none => false

/-- The dead time is extended: the index queue is full (R298). -/
def State.deadExtended (s : State) (n : Nat) : Bool :=
  (s.ctx n).lastSeg.isSome && Nat.ble 4096 s.acq.queue.length

/-- Origin of the time holdoff (R243, R244): i_acc, and while compatibility is in force the end of its segment plus 1. -/
def State.holdOrigin (s : State) (c : Ctx) : Option Nat :=
  if s.compat then (match c.accEnd with
    | some e => some (e + 1)
    | none => c.acc) else c.acc

/-- The time holdoff holds at index i. -/
def State.timeHeld (s : State) (n i : Nat) : Bool :=
  match s.holdOrigin (s.ctx n) with
  | some o => natBit (s.fld (F.TRG_AC_SEQ.HMODE n)) 0 && decide ((i : Int) - (o : Int) <
      ((s.fld (F.TRG_AC_HOLD.V n) * 2 ^ s.fld (F.TRG_AC_SEQ.HSCALE n) : Nat) : Int))
  | none => false

/-- The event holdoff holds at index i; under compatibility it counts only completions past the segment (R244). -/
def State.eventHeld (s : State) (n i : Nat) : Bool :=
  let c := s.ctx n
  natBit (s.fld (F.TRG_AC_SEQ.HMODE n)) 1 && c.acc.isSome && c.evLeft != 0
    && (!s.compat || (match c.accEnd with
      | some e => Nat.blt e i
      | none => true))

/-- The kind of a completion of context n at trigger sample index t (R242). -/
def State.kindOf (s : State) (n t : Nat) : Kind :=
  let c := s.ctx n
  if !c.streaming && (s.inDead n t || s.deadExtended n || s.noMoreSegs n) then .overlap
  else if s.timeHeld n t || s.eventHeld n t then .held else .accepted

/-- SEGMENT of a log entry: the number of the last segment opened (Table 9.6a). -/
def State.lastSegNo (s : State) (n : Nat) : Nat :=
  let c := s.ctx n
  if c.streaming || c.opened = 0 then 0x3FFFFFF else c.opened - 1

/-- The log entry of a completion (Table 9.6a). -/
def Completion.entry (x : Completion) (k : Kind) (segment : Nat) : List Word :=
  [lo32 x.t, hi32 x.t, BitVec.ofNat 32 (x.frac % 1024 * 2 ^ 22 + k.code * 2 ^ 20 + (if x.sym then 2 ^ 18 else 0)
    + x.ctx * 2 ^ 16 + x.mask), BitVec.ofNat 32 segment]

/-- A completion is logged (R252, R317): a streaming context needs 256 free entries. -/
def State.logCompletion (s : State) (x : Completion) (k : Kind) : State :=
  let n := x.ctx
  if !(s.logEn n) || !((s.ctx n).parts.contains (s.ctx n).logPart) || (k == .held && !(s.flag (F.TRG_AC_SEQ.LOG_HELD n))) then s
  else if (s.ctx n).streaming && Nat.blt (s.logFree n) 256 then
    let s1 := (s.bump (R.TRG_AC_LOG_LOST n)).setFlag (F.ACQ_AC_SLU_STAT.RESERVE n) true
    let c := s1.ctx n
    if c.once.contains 169 then s1
    else (s1.setCtx n { c with once := 169 :: c.once }).raise 169 n (s1.routeCtx n)
  else s.pushLog n (x.entry k (s.lastSegNo n)) false

/-- Femtoseconds as units of 2^-40 s. -/
def fsTime (x : Rat) : Int := (x * (2 ^ 40 : Nat) / (10 ^ 15 : Nat)).floor

/-- The core period in femtoseconds. -/
def State.corePeriod (s : State) : Rat := s.samplePeriod * (s.perCycle : Nat)

/-- Tide time of an output edge, in 2^-40 s (R249, R459). -/
def State.edgeTime (s : State) (t frac : Nat) : Nat :=
  let lat : Nat := (if s.joined then 112 else 64) * 1000000
  let d : Rat := s.samplePeriod * (frac : Nat) / (1024 : Nat) + s.corePeriod * (57 + s.dT + s.dP : Nat) + (lat : Nat)
  (((s.tideOf t : Int) + fsTime d) % (2 ^ 80 : Nat)).toNat

/-- The control register of CT0 to CT7 or STAR_OUT (8) as it acts in this core cycle (Table 17.10). -/
def State.outCtl (s : State) (out : Nat) : Word := SMap.get (fun _ => 0x800#32) s.peer.outs out

/-- Source code and output delay (8 ps steps) of an output: 0 to 3 XO, 4 to 11 CT, 12 STAR_OUT (Tables 9.4, 17.10). -/
def State.outSrc (s : State) (line : Nat) : Nat :=
  if line < 4 then s.fld (F.TRG_XO_CTL.SRC line) else getBits (s.outCtl (line - 4)) 0 5

def State.outDelay (s : State) (line : Nat) : Nat := if line < 4 then 0 else getBits (s.outCtl (line - 4)) 16 16

/-- WIDTH of an output in ns; 0 acts as 1. -/
def State.outWidth (s : State) (line : Nat) : Nat :=
  max 1 (if line < 4 then s.fld (F.TRG_XO_CTL.WIDTH line) else getBits (s.outCtl (line - 4)) 8 8)

/-- INV of an output: active low at the ball (Tables 9.4 and 17.10). -/
def State.outInv (s : State) (line : Nat) : Bool :=
  if line < 4 then s.flag (F.TRG_XO_CTL.INV line) else getBits (s.outCtl (line - 4)) 7 1 == 1

/-- The source of an output of ch. 17 is not inactive (Table 17.1, R427). -/
def State.outDriven (s : State) (out : Nat) : Bool :=
  let c := s.outSrc out
  c != 0 && Nat.blt c 24 && !(Nat.blt out 12 && c == 9 + out)

/-- A pulse is in progress on an output. -/
def State.pulsing (s : State) (line : Nat) : Bool := s.trg.pulses.any (fun p => p.line == line && p.phase == .active)

/-- The level of an output at the ball: high while a pulse is active, a passed-through line is high or the static level is 1
(SRC 23, log entry 97), inverted with INV (R249, R425, R427). -/
def State.outHigh (s : State) (line : Nat) : Bool :=
  (s.pulsing line || (Nat.ble 4 line && (natBit s.peer.passLevel line
    || (s.outSrc line == 23 && getBits (s.outCtl (line - 4)) 6 1 == 1)))) != s.outInv line

/-- CTm_OE is high while a source is selected, and while a pulse in progress completes (R425). -/
def State.ctOe (s : State) (m : Nat) : Bool := s.outDriven (m + 4) || s.pulsing (m + 4)

/-- A pulse falls due on a line. -/
def State.pulseDue (s : State) (line time : Nat) : State :=
  { s with trg := { s.trg with pulses := s.trg.pulses ++ [{ line := line, start := time, stop := 0, phase := .due, ripe := s.elapsedAt time }] } }

/-- The outputs whose source takes a completion of context n; on a follower codes 5 to 8 act as 1 to 4 (R459). -/
def State.takes (s : State) (line n : Nat) (accepted : Bool) : Bool :=
  let c := s.outSrc line
  (c == n + 1 && accepted) || (c == n + 5 && (accepted || !s.isFollower))

/-- A completion drives the trigger outputs (R249, R425). -/
def State.drive (s : State) (n t frac : Nat) (accepted : Bool) : State :=
  s.each ((List.range 13).filter (fun l => s.takes l n accepted)) (fun u l =>
    u.pulseDue l (u.edgeTime t frac + (fsTime ((u.outDelay l * 8000 : Nat) : Rat)).toNat))

/-- The EVENT of a reactive line as it acts (Table 9.5, R459). -/
def State.reactEvent (s : State) (r : Nat) : Nat :=
  let e := s.fld (F.TRG_REACT_CTL.EVENT r)
  if 6 ≤ e || s.isFollower then 0 else e

/-- A reactive event of line r, caused at index j (R251): merged where the line already has one of the same core cycle. -/
def State.react (s : State) (r j : Nat) : State :=
  let cyc := (s.cycleOf j).toNat
  if s.trg.reacts.any (fun x => x.line == r && x.cycle == cyc) then
    s.raiseOnce (F.TRG_REACT_STAT.MERGED.bit r) 135 r routePF
  else
    let start := s.tideOf ((s.time.idx : Int) + ((cyc : Int) - (s.time.cycle : Int)) * (s.perCycle : Int)).toNat
    let due := (start : Int) + fsTime (s.corePeriod * (57 + s.dT + s.dP : Nat) + (120000000 : Nat))
    { s with trg := { s.trg with reacts := s.trg.reacts ++ [⟨r, (due % (2 ^ 80 : Nat)).toNat, cyc, j, s.elapsedAt (due % (2 ^ 80 : Nat)).toNat⟩] } }

/-- The reactive lines of context n that take what index j did: stages completed, a completion, an ACCEPTED one. -/
def State.reactAll (s : State) (n j : Nat) (stages : List Nat) (comp accepted : Bool) : State :=
  s.each ((List.range 4).filter (fun r => s.flag (F.TRG_REACT_CTL.EN r) && s.fld (F.TRG_REACT_CTL.CONTEXT r) == n
    && (match s.reactEvent r with
      | 0 => accepted
      | 1 => comp
      | e => stages.contains (e - 1)))) (fun t r => t.react r j)

/-- A TRIG frame is queued for a completion (R437). -/
def State.broadcast (s : State) (x : Completion) (k : Kind) : State :=
  let n := x.ctx
  if !(natBit (s.fld F.PEER_BCAST_CTL.EN) n) || (k != .accepted && !(natBit (s.fld F.PEER_BCAST_CTL.ALL) n)) then s
  else if s.fld F.PEER_STAT.STATE != 2 || Nat.ble 16 s.peer.txq.length then s.bump R.PEER_BTX_LOST
  else { s with peer := { s.peer with
    txq := s.peer.txq ++ [⟨s.tideOf x.t, x.frac, k.code, n, s.lastSegNo n⟩] } }

/-- An ACCEPTED trigger of context n opens its segment and forms passes (R290, R329). -/
def State.acceptTrigger (s : State) (n t frac mask : Nat) : State :=
  if (s.ctx n).streaming then s.panAccept n t 0x3FFFFFF
  else
    let k := (s.ctx n).opened
    (s.openSegment n t frac mask).panAccept n t k

/-- The holdoff after a completion (R242, R243). -/
def State.noteHoldoff (s : State) (n t : Nat) (k : Kind) : State :=
  let c := s.ctx n
  match k with
  | .accepted => s.setCtx n { c with
      acc := some t, evLeft := s.fld (F.TRG_AC_HOLDN.HOLDN n)
      accEnd := if c.streaming then none else c.lastSeg.map (·.last) }
  | .held => if s.eventHeld n t then s.setCtx n { c with evLeft := c.evLeft - 1 } else s
  | .overlap => s

/-- An extension of the dead time turned a completion into an OVERLAP (R298). -/
def State.noteExtended (s : State) (n t : Nat) : State :=
  if (s.ctx n).streaming || s.inDead n t || s.noMoreSegs n || !(s.deadExtended n) then s
  else
    let s1 := s.bump (R.ACQ_AC_DEADEXT n)
    let c := s1.ctx n
    if c.once.contains 164 then s1 else (s1.setCtx n { c with once := 164 :: c.once }).raise 164 n (s1.routeCtx n)

/-- A completion gets its kind and its effects (R242 to R254, R437, R461). -/
def State.complete2 (s : State) (x : Completion) (stages : List Nat) : State :=
  let n := x.ctx
  let k := s.kindOf n x.t
  let s1 := s.bump (R.TRG_AC_COMPL n)
  let s2 := match k with
    | .accepted => s1.acceptTrigger n x.t x.frac x.mask
    | .overlap => (s1.bump (R.TRG_AC_OVERLAP n)).noteExtended n x.t
    | .held => s1.bump (R.TRG_AC_HELD n)
  let s3 := (((s2.noteHoldoff n x.t k).logCompletion x k).drive n x.t x.frac (k == .accepted)).broadcast x k
  let s4 := s3.reactAll n x.idx stages true (k == .accepted)
  if (s4.isLeader || s4.pair.handover.isSome) && k == .accepted then
    let first := x.idx / s4.perCycle * s4.perCycle
    s4.tell (.decision first n ((x.t : Int) - (first : Int)) x.frac x.mask x.sym)
  else s4

/-- HOLDING and STAGE after index j (Table 9.7). -/
def State.showSeq (s : State) (n j : Nat) : State :=
  (s.setFlag (F.TRG_AC_STAT.HOLDING n) (s.timeHeld n j || s.eventHeld n j)).setFld (F.TRG_AC_STAT.STAGE n) (s.ctx n).stage

/-- The module decides index j (R456, R469): it is no follower; about a handover the old leader decides the indices below H,
and the new leader those from H on, once it holds the old leader's last state. -/
def State.decides (s : State) (j : Nat) : Bool :=
  match s.pair.handover with
  | some (_, h) => Nat.blt j h
  | none => !s.isFollower && !s.pair.handWait

/-- The decision cycle of index j in context n (R236, R238, R241). A follower's sequencers do not run (R456). -/
def State.decideAt (s : State) (n j : Nat) : State :=
  let c := s.ctx n
  if !(s.armed n) || !c.trigEn || !(s.decides j) || Nat.blt j c.seqNext then s
  else
    let fired := bitsOf ((s.trg.fires.filter (fun f => f.idx == j)).map (·.det))
    let r := s.seqRun n j fired 8 c 0
    let s1 := ((s.setCtx n { r.ctx with seqNext := j + 1 }).bumpBy (R.TRG_AC_TIMEOUTS n) r.timeouts).bumpBy
      (R.TRG_AC_RESETS n) r.resets
    let s2 := match r.comp with
      | some f => s1.complete2 (s1.completionOf n j f) r.stages
      | none => s1.reactAll n j r.stages false false
    s2.showSeq n j

/-- SEQUENCER_DECISION (R238 to R243). -/
def execSequencerDecision (ctx : Fin 4) (idx : BitVec 64) (s : State) : Host.Outcome State Fault Refusal :=
  s.act (fun t => t.decideAt ctx idx.toNat)

/-- Nanoseconds as units of 2^-40 s, rounded. -/
def nsTime (n : Nat) : Nat := roundDivNat (n * 2 ^ 40) 1000000000

/-- A pulse due on a line is merged (R250, R426). -/
def State.pulseMerged (s : State) (line : Nat) : State :=
  if line < 4 then s.raiseOnce (F.TRG_XO_STAT.MERGED.bit line) 134 line routePF
  else s.setFlag (F.PEER_OUT_STAT.MERGED.bit (line - 4)) true

/-- The oldest pulse due on a line reaches the ball (R249, R250): it begins, or is merged into the one before, or falls
away while SAMPLE is stopped or once its output is inactive (R425, R427, log entry 97). -/
def State.pulseRise (s : State) (line : Nat) : State :=
  match s.trg.pulses.find? (fun p => p.line == line && p.phase == .due && s.passed p.ripe 0) with
  | none => s
  | some p =>
    let rest := s.trg.pulses.erase p
    let s1 := { s with trg := { s.trg with pulses := rest } }
    if s.frozen || (Nat.ble 4 line && !(s.outDriven line)) then s1
    else if rest.any (fun q => q.line == line && q.phase != .due && Nat.blt p.start (q.stop + nsTime 2)) then
      s1.pulseMerged line
    else
      { s1 with trg := { s1.trg with
        pulses := rest.filter (fun q => q.line != line || q.phase == .due)
          ++ [Pulse.mk line p.start (p.start + nsTime (s.outWidth line)) .active (!(s.outInv line)) p.ripe] } }

/-- TRIGGER_OUTPUT_PULSE (R249, R250, R426). -/
def execTriggerOutputPulse (line : Fin 13) (s : State) : Host.Outcome State Fault Refusal := s.act (fun t => t.pulseRise line)

/-- The pulse in progress on a line ends once its WIDTH has passed (R250). -/
def State.pulseEnd (s : State) (line : Nat) : State :=
  { s with trg := { s.trg with pulses := s.trg.pulses.map (fun p =>
    if p.line == line && p.phase == .active && s.passed p.ripe ((p.stop - p.start) * 2 ^ 24) then { p with phase := .ended }
    else p) } }

def execTriggerPulseEnd (line : Fin 13) (s : State) : Host.Outcome State Fault Refusal := s.act (fun t => t.pulseEnd line)

/-- Offset of a sequencer register of context n: 0 SEQ, 1 HOLD, 2 HOLDN, 3 + 5 j + i register i of stage j + 1. -/
def seqReg (n r : Nat) : Nat :=
  if r < 3 then R.TRG_AC_SEQ n + 4 * r else R.TRG_AC_STG_ADV n ((r - 3) / 5) + 4 * ((r - 3) % 5)

/-- A write to a sequencer register (R245). -/
def State.seqWrite (s : State) (n r : Nat) (v : Word) : State :=
  if s.armed n then (s.setFlag (F.TRG_AC_STAT.WR_DISCARD n) true).raisePF 136 n
  else (s.plainWrite (seqReg n r) v).showDets

/-- TRG_SEQ_REG_WRITE (R245). -/
def execTrgSeqRegWrite (ctx : Fin 4) (reg : Fin 23) (value : Word) (s : State) : Host.Outcome State Fault Refusal :=
  s.act (fun t => t.atReg (seqReg ctx reg) (fun u => u.seqWrite ctx reg value))

/-- TRIG_SKEWCAL (R255). -/
def State.skewStart (s : State) (d : Desc) : State :=
  let m := d.f 2 0 4
  if d.context != 15 || !(d.reservedClear 2 [(2, 0xF), (3, 0xFFFF)]) || m == 0
      || !((inputsOf m).all (sampledIn s.inp.route)) || s.ringOwner d.ring != 0 then s.finish d .badDescriptor []
  else if s.fgBusy m then s.finish d .busy []
  else ({ s with trg := { s.trg with
    skew := s.trg.skew ++ [SkewRun.mk d.seq d.ring m (max 1 (d.f 3 0 16))] } }).inject m true

def execTrigSkewcal (ring : Fin 64) (s : State) : Host.Outcome State Fault Refusal :=
  s.act (fun t => t.withStart ring 0x62 (fun d u => u.skewStart d))

/-- The upward crossings of code 0 under a hysteresis of `h` codes in words, oldest first: index after each in the list,
and the words before and after it (R216, R256). `armed`: a word below -h has been seen since the last one. -/
def upCrossing (h : Rat) (prev : Int) : Nat → Bool → List Int → Option (Nat × Int × Int)
  | _, _, [] => none
  | j, armed, x :: l =>
    if x = -32768 then upCrossing h x (j + 1) false l
    else if armed && decide (0 ≤ x) then some (j, prev, x)
    else upCrossing h x (j + 1) (armed || decide ((x : Rat) < -h)) l

/-- The hysteresis of R256, A / 20, in 16-bit codes. -/
def State.skewHyst (s : State) : Rat :=
  stepAmpl (match s.inp.wave with
    | some w => (w.inForce s.time.cycle).ctl
    | none => s.reg R.INP_CALSTEP_CTL) / 20

/-- TRG_LAUNCH_DLYn in 1/1024 sample (R256). -/
def State.launchDelay (s : State) (n : Nat) : Rat :=
  (s.sfld (F.TRG_LAUNCH_DLY.V n) : Int) * 1000 / 16 * 1024 / s.samplePeriod

/-- The measured value of one step of input n in 1/1024 sample, counted from the first strobe of the core cycle at whose
boundary the step rose (R246, R256): none where the words cross nowhere. -/
def State.skewValue (s : State) (n : Nat) (words : List Int) : Option Rat :=
  (upCrossing s.skewHyst 0 0 false words).map (fun e =>
    let t := crossTrigger e.1 0 e.2.1 e.2.2
    ((1024 * t.1 + t.2 : Nat) : Rat) + s.launchDelay n)

/-- The words of the steps of input n, as every consumer receives them (R23). -/
def State.hearSteps (s : State) (n : Nat) : List SkewStep → List (List Int) × State
  | [] => ([], s)
  | x :: l =>
    let a := s.hearAll n x.first.toNat x.words
    let b := a.2.hearSteps n l
    (a.1.map (fun w => w.toInt) :: b.1, b.2)

/-- The values of the steps of input n, and the state that has heard their words. A step without a crossing, for which the
spec gives no value, counts as a free value (log entry 88). -/
def State.skewValues (s : State) (n : Nat) (steps : List SkewStep) : List Rat × State :=
  let a := s.hearSteps n steps
  a.1.foldl (fun (r : List Rat × State) w =>
    match r.2.skewValue n w with
    | some v => (r.1 ++ [v], r.2)
    | none =>
      let d := r.2.draw 32
      (r.1 ++ [((d.1.toInt : Int) : Rat)], d.2)) ([], a.2)

/-- The mean of a list of values, rounded (R257). -/
def skewMean (l : List Rat) : Int := if l.isEmpty then 0 else roundRat (l.foldl (· + ·) 0 / (l.length : Nat))

/-- The square root of a number, rounded half up. -/
def roundSqrtRat (x : Rat) : Nat := roundSqrtQuot x.num.toNat x.den

/-- The rms about the mean, in 1/1024 sample, saturating at 255 (R257). -/
def rmsOf (l : List Rat) : Nat :=
  let n : Rat := (l.length : Nat)
  let m := l.foldl (· + ·) 0 / n
  if l.isEmpty then 0 else satNat 255 (roundSqrtRat (l.foldl (fun a x => a + (x - m) * (x - m)) 0 / n))

/-- The values of every named input, at most `count` steps each, and the state that has heard their words. -/
def State.skewAll (s : State) (mask count : Nat) (steps : List (List SkewStep)) : List (List Rat) × State :=
  (List.range 4).foldl (fun (a : List (List Rat) × State) n =>
    if natBit mask n then
      let r := a.2.skewValues n ((steps.getD n []).take count)
      (a.1 ++ [r.1], r.2)
    else (a.1 ++ [[]], a.2)) ([], s)

/-- The trigger skew calibration of a ring ends (R256, R257). -/
def State.skewDone (s : State) (r : Nat) (steps : List (List SkewStep)) : State :=
  match s.trg.skew.find? (fun x => x.ring == r) with
  | none => s
  | some x =>
    let (vals, s0) := s.skewAll x.inputs x.steps steps
    let s1 := ({ s0 with trg := { s0.trg with skew := s0.trg.skew.filter (fun y => y.seq != x.seq) } }).inject x.inputs false
    let rms := (List.range 4).foldl (fun a n => a + rmsOf (vals.getD n []) * 2 ^ (8 * n)) 0
    let pay := vals.map (fun l => BitVec.ofNat 32 (pattern 32 (skewMean l))) ++ [BitVec.ofNat 32 rms, BitVec.ofNat 32 x.steps]
    (s1.finishSeq x.seq .ok pay).raisePF 133 x.inputs

def execSkewcalDone (ring : Fin 64) (steps : List (List SkewStep)) (s : State) :
    Host.Outcome State Fault Refusal :=
  s.act (fun t => t.skewDone ring steps)

end Sys2Proof.Machine
end

