-- ==== Sys2Proof/Machine/Symbol.lean ====
section
/-!
DEFINITION. The symbol trigger (ch. 10): APPLY, clock recovery with its lock and its trips, symbol decisions, pattern
matches, and level windows.
-/
namespace Sys2Proof.Machine

/-- Fields of a list of applied words: those of State.sw. -/
def symPart (w : List Word) (i lo n : Nat) : Nat := getBits (dwAt w i) lo n
def symPam4 (w : List Word) : Bool := symPart w 0 24 1 == 1
def symLen (w : List Word) : Nat := max 1 (min 256 (symPart w 5 0 9))
def symThr (w : List Word) (k : Nat) : Int := signed 16 (symPart w (2 + k) 0 16)

/-- PHASE in 1/64 UI, and LBW as it acts (Table 10.3). -/
def symPhase (w : List Word) : Int := signed 6 (symPart w 0 8 6)
def symLbw (w : List Word) : Nat := max 6 (min 14 (symPart w 0 0 4))

/-- An armed context uses the symbol trigger (R275). -/
def State.symUsed (s : State) : Bool := (List.range 4).any (fun n => s.armed n && s.seqNames n 16)

/-- The staged words (R276). -/
def State.symStaged (s : State) : List Word :=
  [s.reg R.SYM_CTL, s.reg R.SYM_UI] ++ (List.range 3).map (fun k => s.reg (R.SYM_THR k)) ++ [s.reg R.SYM_PAT_CTL]
    ++ (List.range 32).map (fun w => s.reg (R.SYM_PAT w))

/-- STAGED of R276: some staged word differs from the applied one. Table 10.6 has no bit for it (log entry 90). -/
def State.symDiffers (s : State) : Bool := (List.range 38).any (fun i => dwAt s.symStaged i != s.sw i)

/-- The words that act on a symbol with its centre at a position in 2^-40 sample (R276). -/
def State.symWords (s : State) (centre : Int) : List Word :=
  match s.trg.symOld with
  | some (i, w) => if centre < (i : Int) * 2 ^ 40 then w else s.trg.sym
  | none => s.trg.sym

def State.symClear (s : State) : State := { s with trg := { s.trg with symHist := [] } }

def State.setSymLoop (s : State) (l : Option SymLoop) : State := { s with trg := { s.trg with symLoop := l } }

/-- The first tap-point index of the symbol trigger's input after the present core cycle (Table 1.8). -/
def State.symNext (s : State) : Nat := s.tapNext s.symInput

/-- A lock attempt starts at an index, with SYM_UI and at a phase that the spec leaves open (R263, log entry 89), where the
symbol trigger is active, its input sampled and SAMPLE runs (R261). -/
def State.symStart (s : State) (i : Nat) : State :=
  if s.symActive && !s.symIdle && !s.frozen then
    let (p, s1) := s.draw 32
    let ui : Int := ((s.sw 1).toNat : Int) * 2 ^ 18
    s1.setSymLoop (some { centre := (i : Int) * 2 ^ 40 + ui * (p.toNat : Int) / 2 ^ 32, ui := ui })
  else s.setSymLoop none

def State.symTry (s : State) : State := s.symStart s.symNext

/-- The applied configuration is judged again (R277): one that has become invalid runs as disabled, and E139 is raised. -/
def State.symJudge (s : State) (always : Bool) : State :=
  let was := s.flag F.SYM_STAT.CFG_ERR
  let s1 := s.showSym
  let r := s1.symReason
  let s2 := if s1.symActive then s1 else (s1.setFlag F.SYM_STAT.LOCKED false).setSymLoop none
  if r != 0 && (always || !was) then s2.raisePF 139 r else s2

/-- What of an APPLY starts a new lock attempt: EN, INPUT, CODE, UI (R276). -/
def symKey (l : List Word) : Word × Word := (dwAt l 0 &&& 0xB1000000#32, dwAt l 1)

/-- Every staged word moves into force, for the words from index i on (R276). -/
def State.symTake (s : State) (i : Nat) (relock : Bool) : State :=
  let old := match s.trg.symOld with
    | some e => e.2
    | none => s.trg.sym
  ({ s with trg := { s.trg with
    sym := s.symStaged, symOld := if relock then none else some (i, old) } }).setReg64 R.SYM_APPLY_IDX_LO i

/-- SYM_APPLY (R276, R277). -/
def State.symApply (s : State) : State :=
  let relock := symKey s.symStaged != symKey s.trg.sym
  if relock && s.symUsed then (s.setFlag F.SYM_STAT.APPLY_DISCARD true).raisePF 140 0
  else
    let i := s.tapNext (getBits (s.reg R.SYM_CTL) 28 2)
    let s1 := s.symTake i relock
    let s2 := if relock then (s1.symClear.setFlag F.SYM_STAT.LOCKED false).symStart i
      else if !s.symActive && s1.symActive then s1.symStart i else s1
    s2.symJudge true

def execSymApply (s : State) : Host.Outcome State Fault Refusal := s.act (fun t => t.atReg R.SYM_APPLY State.symApply)

/-- The recovered unit interval: the mean over the last symbols (Table 10.5). -/
def uiMean (l : List SymRec) : Nat := roundDivNat ((l.map (·.ui)).foldl (· + ·) 0) l.length

/-- A unit interval lies inside the pull-in range: the symbol rate within 5,000 ppm of the nominal one (R262). -/
def State.symPullIn (s : State) (ui : Nat) : Bool :=
  decide (200 * ((ui : Int) - ((s.sw 1).toNat : Int)).natAbs ≤ ui)

/-- The timing errors among symbols: how many there are, and the sum of their squares in 2^-32 UI^2. -/
def errCount (l : List SymRec) : Nat := (l.filterMap (·.err)).length
def errSquares (l : List SymRec) : Nat := (l.filterMap (fun x => x.err.map (fun e => e.natAbs * e.natAbs))).foldl (· + ·) 0

/-- The conditions of a lock over 4,096 symbols (R263): rms timing error at most 0.08 UI, at least 1/16 of the transitions
drive the phase detector, the recovered unit interval inside the pull-in range. -/
def State.symMayLock (s : State) (l : SymLoop) : Bool :=
  Nat.ble 4096 l.recs.length && Nat.ble (10000 * errSquares l.recs) (64 * 2 ^ 32 * errCount l.recs)
    && Nat.ble 4096 (16 * errCount l.recs) && s.symPullIn (uiMean l.recs)

/-- The trips of a locked loop as E138 names them (R264, Table 10.7): rms timing error above 0.20 UI over 1,024 symbols, 256
symbols without a transition that drives the phase detector, the unit interval outside the pull-in range. -/
def State.symTrips (s : State) (l : SymLoop) : Nat :=
  let w := l.recs.take 1024
  bitsOf ((if Nat.ble 1024 l.recs.length && Nat.blt (4 * 2 ^ 32 * errCount w) (100 * errSquares w) then [0] else [])
    ++ (if Nat.ble 256 l.recs.length && errCount (l.recs.take 256) == 0 then [1] else [])
    ++ (if Nat.ble 4096 l.recs.length && !(s.symPullIn (uiMean l.recs)) then [2] else []))

/-- The offset of SYM_UI_MEAS from SYM_UI in 0.01 ppm (Table 10.7). -/
def State.symOffset (s : State) (ui : Nat) : Int :=
  let d := (ui : Int) - ((s.sw 1).toNat : Int)
  clampInt (-(2 ^ 31 : Nat)) ((2 ^ 31 : Nat) - 1) (roundRat ((d * 100000000 : Int) / ((s.sw 1).toNat : Rat)))

/-- Clock recovery locks: the history restarts and a level window begins (R263, R267, R270). -/
def State.symLocked (s : State) (l : SymLoop) : State :=
  let ui := uiMean l.recs
  let s1 := ((s.symClear.setSymLoop (some { l with count := 0, levels := [(0, 0), (0, 0), (0, 0), (0, 0)] })).setReg
    R.SYM_UI_MEAS (BitVec.ofNat 32 ui)).setFlag F.SYM_STAT.LOCKED true
  s1.raisePF 137 (pattern 32 (s.symOffset ui))

/-- SYM_LOCK (R263): the attempt that runs meets the conditions. -/
def State.symLock (s : State) : State :=
  match s.trg.symLoop with
  | some l => if !(s.flag F.SYM_STAT.LOCKED) && s.symMayLock l then s.symLocked l else s
  | none => s

def execSymLock (s : State) : Host.Outcome State Fault Refusal := s.act State.symLock

/-- A locked loop trips for causes (bits of the E138 qualifier): it stops until the next attempt (R263, R264). -/
def State.symLost (s : State) (causes : Nat) : State :=
  if s.flag F.SYM_STAT.LOCKED then
    ((((s.setFlag F.SYM_STAT.LOCKED false).setFlag F.SYM_STAT.LOST_SEEN true).bump R.SYM_UNLOCKS).raisePF 138 causes).setSymLoop
      none
  else s

/-- SYM_UNLOCK (R264). -/
def State.symUnlock (s : State) : State :=
  match s.trg.symLoop with
  | some l => if s.symTrips l != 0 then s.symLost (s.symTrips l) else s
  | none => s

def execSymUnlock (s : State) : Host.Outcome State Fault Refusal := s.act State.symUnlock

/-- SAMPLE stops or a mode change starts: lock is lost and an attempt ends (R264). -/
def State.symStop (s : State) : State := (s.symLost 8).setSymLoop none

/-- SAMPLE starts or a mode change has left the input sampled: the configuration is judged again and an attempt starts
(R263, R277). -/
def State.symRestart (s : State) : State :=
  let s1 := s.symJudge false
  if s1.flag F.SYM_STAT.LOCKED then s1 else s1.symTry

/-- SYM_LOCK_RETRY (R263). -/
def State.symRetry (s : State) : State := if s.flag F.SYM_STAT.LOCKED then s else s.symTry

def execSymLockRetry (s : State) : Host.Outcome State Fault Refusal := s.act State.symRetry

/-- Level and value of a decision word (R265). -/
def symLevel (w : List Word) (y : Int) : Nat :=
  if symPam4 w then (if symThr w 1 ≤ y then (if symThr w 2 ≤ y then 3 else 2) else if symThr w 0 ≤ y then 1 else 0)
  else if symThr w 1 ≤ y then 1 else 0

def symValue (w : List Word) (y : Int) : Nat :=
  let l := symLevel w y
  if symPam4 w && symPart w 0 23 1 == 1 then l ^^^ (l / 2) else l

/-- Nibble of pattern symbol q (Table 10.2). -/
def symNibble (w : List Word) (q : Nat) : Nat := symPart w (6 + q / 8) (4 * (q % 8)) 4

/-- The newest symbols match the pattern (R270). -/
def symMatches (w : List Word) (hist : List Nat) : Bool :=
  let n := symLen w
  Nat.ble n hist.length && (List.range n).all (fun q =>
    let x := symNibble w q
    let care := x / 4 &&& (if symPam4 w then 3 else 1)
    (hist.getD (n - 1 - q) 0 ^^^ (x % 4)) &&& care == 0)

/-- A match at a symbol boundary: reported, or merged into the firing of its core cycle (R273, R274). -/
def State.symFire (s : State) (i frac : Nat) : State :=
  let cyc := (s.cycleOf i).toNat
  if s.trg.symCycle == some cyc then (s.bump R.SYM_MERGED).setFlag F.SYM_STAT.MERGED_SEEN true
  else
    let s1 := (s.bump R.SYM_MATCH_COUNT).setReg64 R.SYM_LAST_IDX_LO i
    let f := if s1.symLate then [] else [Firing.mk 16 i i frac]
    { s1 with trg := { s1.trg with symCycle := some cyc, fires := s1.trg.fires ++ f } }

/-- A match whose symbol begins at a position in 2^-40 sample: the last strobe at or before it, and the fraction (R271). -/
def State.symFireAt (s : State) (pos : Int) : State :=
  s.symFire (pos / 2 ^ 40).toNat (pos % 2 ^ 40 * 1024 / 2 ^ 40).toNat

/-- The tap-point word of input n with an index, on record (R23, R259); -32768 where there is none. -/
def State.wordAt (s : State) (n : Nat) (i : Int) : Int :=
  if i < 0 then -32768 else ((s.heard n i.toNat).map (fun w => w.toInt)).getD (-32768)

/-- The word at a position in 2^-40 sample, by the filter of R190 at the nearest 1/256 sample; none where it draws on an
invalid word (R265, R268). -/
def State.wordBetween (s : State) (n : Nat) (pos : Int) : Option Int :=
  let q := roundDivNat ((pos % 2 ^ 40).toNat * 256) (2 ^ 40)
  let j := pos / 2 ^ 40 + (if q = 0 then 0 else 1)
  let l := (List.range 8).map (fun (k : Nat) => s.wordAt n (j + 3 - (k : Int)))
  if l.any (fun v => v == -32768) then none else some (fracOutput (fracRom ((256 - q) % 256)) l)

/-- The decision instant of the next symbol (R265), and the boundary at its start (R271). -/
def SymLoop.decision (l : SymLoop) (w : List Word) : Int := l.centre + l.ui * symPhase w / 64
def SymLoop.boundary (l : SymLoop) : Int := l.centre - l.ui / 2

/-- The timing error of the transition between decision words a and b, in 1/65536 UI: v is the word halfway between the two
symbols. Only one whose middle-threshold decisions differ drives the phase detector (R262, log entry 89). -/
def timingError (t a b v : Int) : Option Int :=
  if decide (t ≤ a) = decide (t ≤ b) then none else some (roundDiv (65536 * (t - v) * (if a < b then 1 else -1)) (b - a).natAbs)

/-- The loop after a symbol: its filter steers the unit interval and the phase (R262). -/
def SymLoop.advance (l : SymLoop) (w : List Word) (y err : Option Int) : SymLoop :=
  let g := Config.symGains (symLbw w)
  let e := err.getD 0
  { l with
    centre := l.centre + l.ui + g.1 * e * l.ui / 2 ^ 48, ui := l.ui + g.2 * e * l.ui / 2 ^ 48, prev := y
    recs := (⟨err, (l.ui / 2 ^ 18).toNat⟩ :: l.recs).take 4096, tried := l.tried + 1 }

/-- A decision word counts for its level (R267). -/
def addLevel (l : List (Nat × Int)) (k : Nat) (y : Int) : List (Nat × Int) := l.modify k (fun e => (e.1 + 1, e.2 + y))

/-- A symbol of a locked loop is counted, valued and matched (R265 to R271). -/
def State.symDecide (s : State) (l : SymLoop) (w : List Word) : Option Int → State
  | none => s.symClear.setSymLoop (some { l with count := l.count + 1 })
  | some y =>
    let s1 := s.setSymLoop (some { l with count := l.count + 1, levels := addLevel l.levels (symLevel w y) y })
    let h := (symValue w y :: s.trg.symHist).take 256
    let s2 := { s1 with trg := { s1.trg with symHist := h } }
    if symMatches w h then s2.symFireAt l.boundary else s2

/-- The words before an APPLY no longer act: the history restarts (R270, R276). -/
def State.symTurn (s : State) (centre : Int) : State :=
  match s.trg.symOld with
  | some (i, _) => if centre < (i : Int) * 2 ^ 40 then s else ({ s with trg := { s.trg with symOld := none } }).symClear
  | none => s

/-- The next symbol is decided, and the loop goes on to the one after it (R262, R265). -/
def State.symbol (s0 : State) (l : SymLoop) : State :=
  let w := s0.symWords l.centre
  let s := s0.symTurn l.centre
  let n := s.symInput
  let y := s.wordBetween n (l.decision w)
  let err := match l.prev, y, s.wordBetween n l.boundary with
    | some a, some b, some v => timingError (symThr w 1) a b v
    | _, _, _ => none
  let s1 := if s.flag F.SYM_STAT.LOCKED then s.symDecide l w y else s
  let l1 := (s1.trg.symLoop.getD l).advance w y err
  let s2 := s1.setSymLoop (some l1)
  if Nat.ble 4096 l1.recs.length then s2.setReg R.SYM_UI_MEAS (BitVec.ofNat 32 (uiMean l1.recs)) else s2

/-- The midpoint of the means of two levels, none where a level had no symbol (R266). -/
def midpoint (a b : Nat × Int) : Option Int :=
  if a.1 = 0 || b.1 = 0 then none
  else some (roundRat (((a.2 : Rat) / (a.1 : Nat) + (b.2 : Rat) / (b.1 : Nat)) / 2))

/-- The applied words after a window with AUTO=1 (R266). -/
def autoThresholds (w : List Word) (lv : Nat → Nat × Int) : List Word :=
  let thr := if symPam4 w then [(0, midpoint (lv 0) (lv 1)), (1, midpoint (lv 1) (lv 2)), (2, midpoint (lv 2) (lv 3))]
    else [(1, midpoint (lv 0) (lv 1))]
  thr.foldl (fun (l : List Word) e =>
    match e.2 with
    | some x => l.set (2 + e.1) (BitVec.ofNat 32 (pattern 16 x))
    | none => l) w

/-- MEAN of a level (R267). -/
def levelMean (e : Nat × Int) : Nat := if e.1 = 0 then 0x8000 else pattern 16 (roundRat ((e.2 : Rat) / (e.1 : Nat)))

/-- A window of 65,536 symbols ends (R266, R267). -/
def State.symWindow (s : State) (l : SymLoop) : State :=
  let lv := fun (k : Nat) => l.levels.getD k (0, 0)
  let q := s.fld (F.SYM_LVL.SEQ 0) + 1
  let s1 := s.each (List.range 4) (fun t k =>
    (t.setFld (F.SYM_LVL.SEQ k) q).setFld (F.SYM_LVL.MEAN k) (levelMean (lv k)))
  let s2 := s1.setSymLoop (some { l with count := 0, levels := [(0, 0), (0, 0), (0, 0), (0, 0)] })
  if s2.symF 0 22 1 == 1 then { s2 with trg := { s2.trg with sym := autoThresholds s2.trg.sym lv } } else s2

/-- SYM_LEVEL_WINDOW_END (R267): the window of a locked loop is full. -/
def State.symWindowEnd (s : State) : State :=
  match s.trg.symLoop with
  | some l => if s.flag F.SYM_STAT.LOCKED && Nat.ble 65536 l.count then s.symWindow l else s
  | none => s

def execSymLevelWindowEnd (s : State) : Host.Outcome State Fault Refusal := s.act State.symWindowEnd

/-- The search goes on at another point of the pull-in range, which the spec leaves open (R263, log entry 89). -/
def State.symSearch (s : State) (l : SymLoop) : State :=
  if l.tried < 4096 then s
  else
    let (x, s1) := s.draw 32
    s1.setSymLoop (some { l with
      ui := ((s.sw 1).toNat : Int) * 2 ^ 18 * (200 * 2 ^ 32) / (199 * 2 ^ 32 + 2 * (x.toNat : Int)), prev := none, recs := []
      tried := 0 })

/-- What is due before the next symbol: a lock or a further point of the search; a trip; the end of a level window. -/
def State.symDue (s : State) : State :=
  if s.flag F.SYM_STAT.LOCKED then s.symUnlock.symWindowEnd
  else
    let s1 := s.symLock
    match s1.trg.symLoop with
    | some l => if s1.flag F.SYM_STAT.LOCKED then s1 else s1.symSearch l
    | none => s1

/-- Symbols are decided as far as the words reach, up to index `last`. -/
def State.symRun : Nat → Nat → State → State
  | 0, _, s => s
  | k + 1, last, s =>
    let s1 := s.symDue
    match s1.trg.symLoop with
    | some l =>
      if max (l.decision (s1.symWords l.centre)) l.boundary / 2 ^ 40 + 4 ≤ (last : Int) then State.symRun k last (s1.symbol l)
      else s1
    | none => s1

/-- Words from an index on do not continue those on record: the symbols between them are not decided, and the history
restarts (R268). -/
def State.symSkip (s : State) (first : Nat) : State :=
  match s.trg.symLoop with
  | some l =>
    let i := (l.centre - l.ui) / 2 ^ 40 - 4
    if i < (first : Int) && (s.heard s.symInput i.toNat).isNone then
      let d := ((first : Int) + 5) * 2 ^ 40 + l.ui - l.centre
      let k := if d ≤ 0 ∨ l.ui ≤ 0 then 0 else (d + l.ui - 1) / l.ui
      s.symClear.setSymLoop (some { l with centre := l.centre + k * l.ui, prev := none })
    else s
  | none => s

/-- Tap-point words of the symbol trigger's input arrive (R259, R265 to R274). -/
def State.symWordsIn (s : State) (first : Nat) (words : List (BitVec 16)) : State :=
  if s.frozen || s.symIdle then s
  else
    let s1 := (s.hearAll s.symInput first words).2.symSkip first
    State.symRun (words.length + 1) (first + words.length - 1) s1

/-- SYM_MATCH (R270, R274). -/
def execSymMatch (first : BitVec 64) (words : List (BitVec 16)) (s : State) : Host.Outcome State Fault Refusal :=
  s.act (fun t => t.symWordsIn first.toNat words)

end Sys2Proof.Machine
end

