-- ==== Sys2Proof/Machine/Twin.lean ====
section
/-!
DEFINITION. Twin mode (ch. 18): joining and leaving, remote detectors and decisions, twin arms and stops, twin skew
calibration, merged harvest and handover, and the messages of the pair link that carry them.
-/
namespace Sys2Proof.Machine

def pairUp (s : State) : Bool := s.flag F.PAIR_STAT.LINK_UP

/-- The descriptor of a fetch number, if it is outstanding, completes. -/
def State.finishOpt (s : State) (q : Option Nat) (st : Status) (payload : List Word) : State :=
  match q with
  | some n => s.finishSeq n st payload
  | none => s

/-- The twin's form is the interleave form. -/
def State.twinForm (s : State) : Bool := s.flag F.PAIR_STAT.FORM

/-- PAIR_LAT shows D_P and D_L (Table 18.7). -/
def State.showLat (s : State) : State := (s.setFld F.PAIR_LAT.DP s.dP).setFld F.PAIR_LAT.DL s.dL

/-- Detectors of the applied configuration that run in the follower (R455). -/
def State.remoteDets (s : State) : List Nat := (List.range 16).filter (fun k => (s.applied k).en && (s.applied k).remote)

/-- What the module's join compares (R452). -/
def State.joinReq (s : State) (leader form : Bool) : JoinReq :=
  { leader := leader, interleave := form, rate := s.reg R.CLK_RATE, frac := s.reg R.CLK_RATE_FRAC, mode := s.inp.route
    idx := s.time.idx, tide := s.tideOf s.time.idx, seedA := s.reg (R.CLK_SYN_SEED 0), seedB := s.reg (R.CLK_SYN_SEED 1) }

/-- Row 5 of Table 18.4 fails on the leader. -/
def State.joinBad (s : State) (own : JoinRun) (p : JoinReq) : Bool :=
  own.interleave != p.interleave || p.rate != s.reg R.CLK_RATE || p.frac != s.reg R.CLK_RATE_FRAC
    || p.mode != s.inp.route || (own.interleave && s.inp.route != 0) || s.flag F.PAIR_STAT.UNALIGNED
    || s.tideOf p.idx != p.tide || (!own.interleave && Nat.blt 4 s.remoteDets.length)

/-- The join index (R453). -/
def State.joinIndex (s : State) : Nat := 1024 * ceilDiv (s.coreNo + 4 * s.dL) 1024 * s.perCycle

/-- A waiting join ends with a status. -/
def State.joinEnd (s : State) (st : Status) : State :=
  match s.pair.join with
  | some j => ({ s with pair := { s.pair with join := none, partner := none, joinAt := none } }).finishSeq j.seq st []
  | none => s

/-- Both joins are present: equal roles fail on both modules, and the leader checks the rest (R452, R453). The servo
rate in force goes with the join index, so that tide times stay equal (R457). -/
def State.joinBoth (s : State) : State :=
  match s.pair.join, s.pair.partner with
  | some own, some p =>
    if own.leader == p.leader then s.joinEnd .badDescriptor
    else if !own.leader then s
    else if s.joinBad own p then (s.tell (.control (.joined false 0))).joinEnd .badDescriptor
    else
      let j := s.joinIndex
      let s1 := { s with pair := { s.pair with joinAt := some j } }
      (s1.tell (.control (.joined true j))).tell (.time (j / s.perCycle - s.dL) (.rate (s.sfld F.TIME_RATE_ADJ.V)))
  | _, _ => s

/-- A context is armed or holds a pending arm (log entry 13). -/
def State.anyBusy (s : State) : Bool := (List.range 4).any (fun n => (s.ctx n).phase != .idle)

/-- Row 3 of Table 18.4. -/
def State.joinBusy (s : State) : Bool :=
  s.anyBusy || !s.cal.fg.isEmpty || !s.trg.skew.isEmpty || s.pair.cal.isSome || s.flag F.INP_MODE_STAT.CHANGING
    || s.flag F.CLK_STAT.RATE_CHANGING

/-- TWIN_JOIN (R451, R452). -/
def State.twinJoin (s : State) (d : Desc) : State :=
  if d.context != 15 || !(d.reservedClear 2 [(2, 0x11), (3, 0xFFFF)]) || s.joined then s.finish d .badDescriptor []
  else if s.compat then s.finish d .notSupportedCompat []
  else if s.joinBusy then s.finish d .busy []
  else if !(pairUp s) then s.finish d .pairLost []
  else
    let leader := d.f 2 0 1 == 1
    let form := d.f 2 4 1 == 1
    (({ s with pair := { s.pair with join := some ⟨d.seq, leader, form, d.f 3 0 16, s.time.elapsed⟩ } }).tell
      (.control (.join (s.joinReq leader form)))).joinBoth

/-- A block acts on descriptors in the order in which they reach it (R389): a TWIN_JOIN behind one that waits is not
started. -/
def execTwinJoin (ring : Fin 64) (s : State) : Host.Outcome State Fault Refusal :=
  s.act (fun t => if t.pair.join.isSome then t else t.withStart ring 0x70 (fun d u => u.twinJoin d))

/-- TWIN_JOIN_TIMEOUT (R451, R452): the partner's request has not arrived within TIMEOUT; 0 acts as 1,000 ms. -/
def State.joinTimeout (s : State) : State :=
  match s.pair.join with
  | some j =>
    if s.pair.partner.isNone && s.since j.start (1000 * (if j.timeout = 0 then 1000 else j.timeout))
    then (s.tell (.control .leave)).joinEnd .pairLost else s
  | none => s

def execTwinJoinTimeout (s : State) : Host.Outcome State Fault Refusal := s.act State.joinTimeout

/-- Registers of detector k set to eight words. -/
def State.setDetRegs (s : State) (k : Nat) (w : List Word) : State := s.setRegs (R.TRG_TD_CFG k) (w.take 8)

/-- A follower's detectors start without a configuration (R455, R456). -/
def State.clearDets (s : State) : State :=
  (s.each (List.range 16) (fun t k => (t.setDetRegs k ({} : DetSt).cfg).newDet k {})).showDets

/-- A sequencer that does not run: its counters read 0 (R456). -/
def State.idleSeqs (s : State) : State := s.each (List.range 4) (fun t n =>
  ((([R.TRG_AC_COMPL n, R.TRG_AC_OVERLAP n, R.TRG_AC_HELD n, R.TRG_AC_TIMEOUTS n, R.TRG_AC_RESETS n]).foldl
    (fun u off => u.setReg off 0) t).setFld (F.TRG_AC_STAT.STAGE n) 0).setFlag (F.TRG_AC_STAT.HOLDING n) false)

/-- On a follower the servo rests (R456). -/
def State.servoRest (s : State) : State :=
  let s1 := { s with time := { s.time with servoF := 0, stepped := false, goodEdges := 0, rejects := 0 } }
  ((s1.setFlag F.TIME_STAT.PPS_LOCKED false).setFlag F.TIME_STAT.PPS_MISSING false).setFlag F.TIME_STAT.PPS_WAIT false

/-- The symbol trigger is judged again under the present role (R261). -/
def State.symRole (s : State) : State :=
  if s.isFollower then (s.setFlag F.SYM_STAT.LOCKED false).symRestart else s.symRestart

/-- The follower's settings of the interleave form go to the leader (R466). -/
def State.tellTwin (s : State) : State :=
  s.tell (.control (.twinState (s.sfld F.PAIR_TWIN_PHASE.V) (s.fld F.PAIR_TWIN_GAIN.V) (s.fld F.PAIR_TWIN_OFF.V)))

/-- LFSRs of SYN_A and SYN_B are to take the leader's seeds at the next reference edge (R454). -/
def State.reseed (s : State) (a b : Word) : State :=
  { s with pair := { s.pair with seeds := some (a, b), reseed := [0, 1] } }

/-- The join is complete: E267 (R453). -/
def State.joinDone (s : State) : State :=
  (s.joinEnd .ok).raisePF 267 ((if s.isLeader then 1 else 0) + (if s.twinForm then 2 else 0))

/-- What the roles bring on the leader and on the follower (R455, R456, R458). -/
def State.roleEffect (s : State) : State :=
  let s1 := (s.showLat).tell (.config (.delay s.ownDT))
  if s1.isLeader then
    (if s1.twinForm then s1 else s1.remoteDets.foldl (fun t k => t.tell (.config (.detector k (t.applied k).cfg))) s1).showDets
  else
    let s2 := s1.clearDets.idleSeqs.servoRest
    if s2.twinForm then s2.tellTwin else s2

/-- PHASE_OK shows whether the follower's strobe offset lies on its target; while it does not, samples are degraded, and with
it a join of the interleave form completes (R453, R464). -/
def State.phaseTo (s : State) (ok : Bool) : State :=
  let s1 := s.setFlag F.PAIR_STAT.PHASE_OK ok
  let open1 := s1.inp.spans.any (fun x => decide (x.cause = .phase ∧ x.stop = none))
  if ok then
    let s2 := s1.degOff .phase (s1.frameNow false)
    if s2.pair.join.isSome then s2.joinDone else s2
  else if open1 then s1 else s1.degOn .phase (s1.frameNow false)

/-- The target of the follower's strobe offset in 1/16 fs: half a sample and PAIR_TWIN_PHASE, which acts over ±800,000 (R463,
R464). -/
def State.twinTarget (s : State) : Rat := 8 * s.samplePeriod + (clampInt (-800000) 800000 (s.sfld F.PAIR_TWIN_PHASE.V) : Int)

/-- The strobe offset lies within 10 fs of its target (R464). -/
def State.onTarget (s : State) : Bool :=
  let d := (s.pair.offset : Rat) - s.twinTarget
  decide (d ≤ 160) && decide (-160 ≤ d)

/-- The follower of the interleave form judges its strobe offset (R464). -/
def State.judgePhase (s : State) : State :=
  if s.isFollower && s.twinForm && s.onTarget != s.flag F.PAIR_STAT.PHASE_OK
  then (s.tell (.control (.phaseOk s.onTarget))).phaseTo s.onTarget else s

/-- TWIN_JOIN_EFFECT (R453, R454): at the join index both modules take their roles. -/
def State.joinEffect (s : State) : State :=
  match s.pair.join, s.pair.partner, s.pair.joinAt with
  | some own, some p, some j =>
    if s.time.idx < j then s
    else
      let s1 := (s.setFld F.PAIR_STAT.ROLE (if own.leader then 1 else 2)).setFlag F.PAIR_STAT.FORM own.interleave
      let s2 := if own.leader then s1.reseed (s1.reg (R.CLK_SYN_SEED 0)) (s1.reg (R.CLK_SYN_SEED 1))
        else s1.reseed p.seedA p.seedB
      let s3 := (s2.roleEffect).symRole
      let s4 := { s3 with pair := { s3.pair with joinAt := none, partner := none } }
      if own.interleave then (s4.phaseTo false).judgePhase else s4.joinDone
  | _, _, _ => s

def execTwinJoinEffect (s : State) : Host.Outcome State Fault Refusal := s.act State.joinEffect

/-- TWIN_PHASE_OK (R464): the follower's strobe offset is measured. -/
def State.phaseMeasured (s : State) (offset : Int) : State :=
  if s.isFollower && s.twinForm then ({ s with pair := { s.pair with offset := offset } }).judgePhase else s

def execTwinPhaseOk (offset : Int) (s : State) : Host.Outcome State Fault Refusal :=
  s.act (fun t => t.phaseMeasured offset)

/-- GAIN and OFF of the follower's gain step have new values, which act at once or on the ramp of R163 (R464, R466). -/
def State.twinRetarget (s : State) (ramp : Bool) (old : Int × Int) : State :=
  let f := s.frameNow false
  { s with pair := { s.pair with targets :=
    ⟨f, ramp, old.1, old.2, (s.fld F.PAIR_TWIN_GAIN.V : Nat), s.sfld F.PAIR_TWIN_OFF.V⟩ :: s.pair.targets } }

/-- A write to PAIR_TWIN_PHASE, _GAIN or _OFF takes effect at once (R464). -/
def State.twinWrite (s : State) (off : Nat) (v : Word) : State :=
  let s1 := (s.plainWrite off v).twinRetarget false (s.twinAt (s.frameNow false))
  if s1.isFollower && s1.twinForm then s1.judgePhase.tellTwin else s1

/-- Leaving twin mode (step 2 of R468): contexts that still wait end TRUNCATED, descriptors of the twin that still run
end with PAIR_LOST. -/
def State.twinEnds (s : State) : State :=
  let s1 := s.each (List.range 4) (fun t n => if (t.ctx n).phase == .pending then t.armCancel n .truncated else t)
  let s2 := match s1.pair.cal with
    | some c => (({ s1 with pair := { s1.pair with cal := none } }).inject c.own false).finishOpt c.seq .pairLost []
    | none => s1
  let s3 := match s2.pair.handover with
    | some (q, _) => ({ s2 with pair := { s2.pair with handover := none } }).finishSeq q .pairLost []
    | none => s2
  (s3.hif.harvests.filter (fun h => h.kind == .pair)).foldl (fun t h =>
    (t.dropHarvest h.seq).finishSeq h.seq .pairLost [BitVec.ofNat 32 (SMap.get zero t.pair.pairs h.seq)]) s3

/-- A follower's detectors take EN=0 and keep the received configuration (R468). -/
def State.stopDets (s : State) : State :=
  s.each (List.range 16) (fun t k =>
    let d := t.applied k
    ((t.setFld (F.TRG_TD_CFG.EN k) 0).newDet k { d with cfg := d.cfg.modify 0 (fun w => putBits w 31 1 0) }))

/-- The module leaves twin mode (step 2 of R468). -/
def State.twinLeave (s : State) : State :=
  let was := s.isFollower
  let s1 := s.twinEnds
  let s2 := if was then s1.stopDets else s1
  let s3 := (((s2.setFld F.PAIR_STAT.ROLE 0).setFlag F.PAIR_STAT.FORM false).setFlag F.PAIR_STAT.PHASE_OK false).degOff .phase
    (s2.frameNow false)
  let s4 := { s3 with pair := { s3.pair with
    partnerDT := 0, seeds := none, reseed := [], offset := 0, theirs := [], stops := [], split := none, ready := none
    partnerReady := none, trackN := 0, track := {}, pairs := [], poison := [], lines := [], wanted := [], handIn := none
    handFrom := none, handWait := false } }
  let s5 := if was && s4.flag F.TIME_CTL.PPS_EN then s4.ppsOn else s4
  (s5.showLat.showDets).symRole

/-- The completion of an arm waits for Bus Master Enable (R379). -/
def State.armUnwritten (s : State) : Bool := s.hif.waiting.any (·.ext)

/-- The module's part of a split is done once every arm completion has been written; both modules then leave in one core
cycle, the later of the two that found them ready and 4 D_L on (R468, log entry 98). -/
def State.trySplit (s : State) : State :=
  match s.pair.split with
  | none => s
  | some own =>
    let s1 := if s.pair.ready.isSome || s.anyBusy || s.armUnwritten then s
      else ({ s with pair := { s.pair with ready := some s.coreNo } }).tell (.control (.splitReady s.coreNo))
    match s1.pair.ready, s1.pair.partnerReady with
    | some a, some b =>
      if Nat.ble (max a b + 4 * s1.dL) s1.coreNo then (s1.twinLeave.raisePF 268 0).finishOpt own .ok [] else s1
    | _, _ => s1

/-- A split starts (R468): running twin arms stop as by an ACQ_STOP with IMMEDIATE=0, waiting ones end TRUNCATED. -/
def State.splitStart (s : State) (own : Option Nat) : State :=
  let s1 := s.each (List.range 4) (fun t n =>
    match (t.ctx n).phase with
    | .pending => t.armCancel n .truncated
    | .armed => if own.isSome then t.stopRequest n 2 else t
    | .idle => t)
  ({ s1 with pair := { s1.pair with split := some own } }).trySplit

/-- TWIN_SPLIT (R468). -/
def State.twinSplit (s : State) (d : Desc) : State :=
  if d.context != 15 || !(d.reservedClear 2 []) || !s.joined then s.finish d .badDescriptor []
  else (s.tell (.control .split)).splitStart (some d.seq)

def execTwinSplit (ring : Fin 64) (s : State) : Host.Outcome State Fault Refusal :=
  s.act (fun t => if t.pair.split == none then t.withStart ring 0x71 (fun d u => u.twinSplit d) else t)

/-- The link is lost while joined (R470). -/
def State.twinLost (s : State) : State :=
  if s.joined then
    let s1 := s.each (List.range 4) (fun t n => t.stopCtx n 6)
    let s2 := (s1.joinEnd .pairLost).finishOpt (s1.pair.split.getD none) .pairLost []
    s2.twinLeave
  else ({ s with pair := { s.pair with partner := none } }).joinEnd .pairLost

/-- TWIN_SKEWCAL starts (R466). -/
def State.twinCalStart (s : State) (d : Desc) : State :=
  let m := d.f 2 0 8
  let n := max 1 (d.f 3 0 16)
  let c : TwinCal := { seq := some d.seq, own := m % 16, other := m / 16, steps := n }
  if d.context != 15 || !(d.reservedClear 2 [(2, 0xFF), (3, 0xFFFF)]) || !s.isLeader
      || (!s.twinForm && (m == 0 || !((inputsOf (m % 16)).all (sampledIn s.inp.route))
        || !((inputsOf (m / 16)).all (sampledIn s.inp.route)))) then s.finish d .badDescriptor []
  else if s.twinForm then
    ({ s with pair := { s.pair with cal := some { c with own := 0, other := 0 } } }).tell (.control (.skewRun 0 n))
  else if s.fgBusy c.own then s.finish d .busy []
  else (({ s with pair := { s.pair with cal := some c } }).inject c.own true).tell (.control (.skewRun c.other n))

def execTwinSkewcal (ring : Fin 64) (s : State) : Host.Outcome State Fault Refusal :=
  s.act (fun t => if t.pair.cal.isSome then t else t.withStart ring 0x72 (fun d u => u.twinCalStart d))

/-- The leader's half-sample value at i + 1/2 from a window that starts at index `first` - 6 (R466); position p stands
for i. None where a word is invalid. -/
def halfWord (w : List Int) (p : Nat) : Option Int :=
  let l := (List.range 8).map (fun k => w.getD (p + 4 - k) (-32768))
  if l.any (fun x => x == -32768) then none else some (fracOutput (fracRom 128) l)

/-- 60 times the first derivative at the middle of seven values (Table 6.5). -/
def slope60 (l : List Int) : Int :=
  let x := fun (i : Nat) => l.getD i 0
  9 * x 1 + 45 * x 4 + x 6 - x 0 - 45 * x 2 - 9 * x 5

/-- One follower word enters the sums (R466). -/
def TwinSums.add (a : TwinSums) (yf : Int) (leader : List Int) (i : Nat) : TwinSums :=
  let l := (List.range 7).map (fun k => halfWord leader (i + 3 + k))
  if yf = -32768 || l.any (·.isNone) then a
  else
    let v := l.map (fun x => x.getD 0)
    let y := v.getD 3 0
    let z := slope60 v
    let d := yf - y
    ⟨a.n + 1, a.d + d, a.y + y, a.dy + d * y, a.yy + y * y, a.dz + d * z, a.zz + z * z⟩

/-- A block of 64 follower words with the leader's words from 6 before its first index on enters the sums. -/
def TwinSums.block (a : TwinSums) (words leader : List (BitVec 16)) : TwinSums :=
  let w := leader.map (fun x => x.toInt)
  (List.range 64).foldl (fun t i => t.add ((words.getD i 0x8000).toInt) w i) a

/-- Variance of the leader's words times n^2. -/
def TwinSums.var (a : TwinSums) : Int := (a.n : Int) * a.yy - a.y * a.y

/-- The signal condition: at least 25 mV rms (R466). -/
def TwinSums.signal (a : TwinSums) : Bool :=
  a.n != 0 && decide ((16384 * 16384 : Int) * ((a.n * a.n : Nat) : Int) ≤ 25 * a.var)

/-- The new PHASE, GAIN and OFF of the follower with an estimate applied in 1 / `weight` of it (R466). -/
def State.twinEstimate (s : State) (a : TwinSums) (weight : Nat) : Int × Nat × Nat :=
  let (ph, gain, off) := s.pair.twin
  let w : Rat := 1 / (weight : Nat)
  let delta : Rat := if a.zz = 0 then 0 else 60 * (a.dz : Rat) / (a.zz : Rat)
  let g : Rat := if a.var ≤ 0 then 1 else 1 + (((a.n : Int) * a.dy - a.d * a.y : Int) : Rat) / (a.var : Rat)
  let o : Rat := if a.n = 0 then 0 else (a.d : Rat) / (a.n : Nat)
  let gain' : Rat := if g ≤ 0 then (gain : Nat) else (gain : Nat) + ((gain : Nat) / g - (gain : Nat)) * w
  (ph - roundRat (delta * s.samplePeriod * 16 * w), (clampInt 0 0x3FFFF (roundRat gain')).toNat,
   pattern 16 (clampInt (-32768) 32767 (signed 16 off + roundRat (16 * o * w))))

/-- The leader writes an estimate to the follower: that of a calibration acts at once, one of the tracking on the ramp
(R466). -/
def State.twinApply (s : State) (x : Int × Nat × Nat) (ramp : Bool) : State :=
  ({ s with pair := { s.pair with twin := x } }).tell (.control (.twinSet x.1 x.2.1 x.2.2 ramp))

/-- A TWIN_SKEWCAL of the input form ends once both modules have measured (R466). -/
def State.skewBoth (s : State) : State :=
  match s.pair.cal with
  | some c =>
    match c.mine, (if c.other = 0 then some [0, 0, 0, 0] else c.partner) with
    | some a, some b =>
      let put := fun (t : State) (n : Nat) (m : Nat) (l : List Int) (base : Nat) =>
        if natBit m n then t.setReg (R.PAIR_SKEW (base + n)) (BitVec.ofNat 32 (pattern 32 (l.getD n 0))) else t
      let s1 := s.each (List.range 4) (fun t n => put (put t n c.own a 0) n c.other b 4)
      ({ s1 with pair := { s1.pair with cal := none } }).finishOpt c.seq .ok [BitVec.ofNat 32 c.steps]
    | _, _ => s
  | none => s

/-- A follower of the interleave form sends blocks of its IN0 words, as every consumer receives them (R23, R466). -/
def State.sendBlocks (s : State) : List (Nat × List (BitVec 16)) → State
  | [] => s
  | b :: l =>
    let a := s.hearAll 0 b.1 b.2
    (a.2.tell (.samples b.1 (a.1.map (fun w => w.toInt)))).sendBlocks l

/-- TWIN_SKEWCAL_DONE (R466): this module's share has been measured. On a leader of the interleave form every block has
arrived; a follower of that form sends its blocks. -/
def State.twinCalDone (s : State) (steps : List (List SkewStep))
    (blocks : List (Nat × List (BitVec 16))) : State :=
  match s.pair.cal with
  | none => s
  | some c =>
    let off := { s with pair := { s.pair with cal := none } }
    if s.twinForm then
      match c.seq with
      | some _ =>
        if c.blocks < c.steps then s
        else
          let x := s.twinEstimate c.sums 1
          (off.twinApply x false).finishOpt c.seq .ok [BitVec.ofNat 32 c.blocks,
            BitVec.ofNat 32 (pattern 32 (x.1 - s.pair.twin.1)), BitVec.ofNat 32 x.2.1, BitVec.ofNat 32 x.2.2]
      | none => off.sendBlocks (blocks.take c.steps)
    else
      let (vals, s0) := s.skewAll c.own c.steps steps
      let means := vals.map skewMean
      match c.seq with
      | some _ => (({ s0 with pair := { s0.pair with cal := some { c with mine := some means } } }).inject c.own false).skewBoth
      | none => (({ s0 with pair := { s0.pair with cal := none } }).inject c.own false).tell (.control (.skewDone means))

def execTwinSkewcalDone (steps : List (List SkewStep)) (blocks : List (Nat × List (BitVec 16)))
    (s : State) : Host.Outcome State Fault Refusal :=
  s.act (fun t => t.twinCalDone steps blocks)

/-- 64 follower words enter a running calibration, or the background estimate, with the leader's (R466). -/
def State.samplesIn (s : State) (words leader : List (BitVec 16)) : State :=
  match s.pair.cal with
    | some c => { s with pair := { s.pair with
        cal := some { c with blocks := c.blocks + 1, sums := c.sums.block words leader } } }
    | none =>
      if !(s.flag F.PAIR_CTL.TRACK) then s
      else
        let a := s.pair.track.block words leader
        if s.pair.trackN + 1 < 4096 then
          { s with pair := { s.pair with trackN := s.pair.trackN + 1, track := a } }
        else
          let s1 := { s with pair := { s.pair with trackN := 0, track := {} } }
          if a.signal then s1.twinApply (s1.twinEstimate a 8) true else s1.bump R.PAIR_STARVED

/-- SAMPLES_MSG_RX (R466): follower words from index `first` on, with the leader's own IN0 words from 6 indices before it, as
every consumer receives them (R23). -/
def State.samplesRx (s : State) (first : Nat) (words leader : List (BitVec 16)) : State :=
  if !(s.isLeader && s.twinForm) then s
  else
    let a := s.hearFrom 0 ((first : Int) - 6) leader
    a.2.samplesIn words a.1

def execSamplesMsgRx (first : BitVec 64) (words leader : List (BitVec 16)) (s : State) :
    Host.Outcome State Fault Refusal :=
  s.act (fun t => t.samplesRx first.toNat words leader)

/-- HARV_PAIR starts: own checks, then the follower is asked for its lines (R467). -/
def State.harvPair (s : State) (d : Desc) : State :=
  let k := d.f 2 0 4
  if rangeBad d 0xF || !s.isLeader || (s.ptValid k && s.regionBad d) then s.finish d .badDescriptor []
  else if !(s.ptValid k) || s.ptType k == 6 || s.ptOwner k != s.ringOwner d.ring then s.finish d .partitionFault []
  else
    let h : Harvest := ⟨d.seq, d.ring, .pair, 0, k, 0, d.f 5 0 31, d.f 6 0 31, false, false, dw64 d.dw 8, s.ptBase k + d.f 3 0 31,
      s.regionLen d⟩
    ((s.addHarvest h).harvReads h).tell (.control (.linesFor (d.f 7 0 4) (d.f 3 0 31) (s.regionLen d) (d.f 5 0 31) (d.f 6 0 31)))

def execHarvPair (ring : Fin 64) (s : State) : Host.Outcome State Fault Refusal :=
  s.act (fun t => t.withStart ring 0x73 (fun d u => u.harvPair d))

/-- The follower sends the lines asked for (R467). -/
def State.sendLines (s : State) (part base len start count : Nat) : State :=
  s.each (List.range count) (fun t k =>
    let l := t.ptBase part + base + (start + k) % len
    t.tell (.line (t.readLine l) (t.poisoned l)))

/-- A request for lines may be served: the stacks are active, and no line of it lies in a group with an entry in the write
buffer (R360, R467). -/
def State.mayServe (s : State) (part base len start count : Nat) : Bool :=
  s.memActive && !((List.range count).any (fun k => s.hasEntry (s.ptBase part + base + (start + k) % len)))

/-- The requests for lines are served in their order. -/
def State.serveAll : List (Nat × Nat × Nat × Nat × Nat) → State → State
  | [], s => s
  | (p, b, l, a, c) :: rest, s =>
    if s.mayServe p b l a c then State.serveAll rest (({ s with pair := { s.pair with wanted := rest } }).sendLines p b l a c)
    else s

/-- Requests for lines that wait are served as soon as they may be. -/
def State.serveLines (s : State) : State := State.serveAll s.pair.wanted s

/-- A request for lines reaches the follower: its partition is checked (R467). -/
def State.linesFor (s : State) (part base len start count : Nat) : State :=
  if !(s.ptValid part) || s.ptType part == 6 || s.ptOwner part != 0 || Nat.blt (s.ptLen part) (base + len) then
    s.tell (.control .linesRefused)
  else ({ s with pair := { s.pair with wanted := s.pair.wanted ++ [(part, base, len, start, count)] } }).serveLines

/-- The HARV_PAIR that the next message concerns: lines that have arrived belong to those before it. -/
def State.pairTarget (s : State) (waiting : Nat) : List Harvest → Option Harvest
  | [] => none
  | h :: l =>
    let left := h.count - SMap.get zero s.pair.pairs h.seq
    if left ≤ waiting then s.pairTarget (waiting - left) l else some h

/-- The follower refuses its partition (R467). -/
def State.linesRefused (s : State) : State :=
  match s.pairTarget s.pair.lines.length (s.hif.harvests.filter (fun h => h.kind == .pair)) with
  | some h => (s.dropHarvest h.seq).finishSeq h.seq .partitionFault []
  | none => s

/-- LINE_MSG_RX (R467). -/
def State.lineRx (s : State) (line : Nat) (poison : Bool) : State :=
  if s.hif.harvests.any (fun h => h.kind == .pair) then
    let s1 := { s with pair := { s.pair with lines := s.pair.lines ++ [(line % 2 ^ 256, poison)] } }
    s1.pairDrain s1.pair.lines.length
  else s

def execLineMsgRx (line : Nat) (poison : Bool) (s : State) : Host.Outcome State Fault Refusal :=
  s.act (fun t => t.lineRx line poison)

/-- DECISION_MSG_RX (R459, R461): the follower acts on the leader's ACCEPTED completion, and after a handover the new leader on
the old one's last ones (R469). -/
def State.decisionRx (s : State) (n first : Nat) (off : Int) (frac mask : Nat) : State :=
  let t := ((first : Int) + off).toNat
  if (s.isFollower || s.pair.handWait) && s.armed n then
    ((s.acceptTrigger n t frac mask).drive n t frac true).reactAll n first [] true true
  else s

def execDecisionMsgRx (ctx : Fin 4) (first : BitVec 64) (off : Int) (frac : BitVec 10) (mask : BitVec 16) (_sym : Bool)
    (s : State) : Host.Outcome State Fault Refusal :=
  s.act (fun t => t.decisionRx ctx first.toNat off frac.toNat mask.toNat)

/-- FIRING_MSG_RX (R455): a remote detector's firing reaches the leader's sequencers. -/
def State.firingRx (s : State) (k i : Nat) (before : Bool) (frac : Nat) : State :=
  if !s.twinForm && ((s.isLeader && (s.applied k).remote) || (s.isFollower && s.firesHere i)) then
    let s1 := (s.bump (R.TRG_TD_COUNT k)).setReg64 (R.TRG_TD_LAST_IDX_LO k) i
    { s1 with trg := { s1.trg with fires := s1.trg.fires ++ [⟨k, i, if before then i - 1 else i, frac⟩] } }
  else s

def execFiringMsgRx (det : Fin 16) (idx : BitVec 64) (before : Bool) (frac : BitVec 10) (s : State) :
    Host.Outcome State Fault Refusal :=
  s.act (fun t => t.firingRx det idx.toNat before frac.toNat)

/-- TIME_MSG_RX (R457): the change arose in a core cycle of the leader and acts D_L cycles on. -/
def State.timeRx (s : State) (cycle : Nat) (m : TimeMsg) : State :=
  if s.isFollower || s.pair.join.isSome then
    ({ s with time := { s.time with due := s.time.due ++ [(cycle + s.dL, m)] } }).applyDue
  else s

def execTimeMsgRx (cycle : Nat) (m : TimeMsg) (s : State) : Host.Outcome State Fault Refusal :=
  s.act (fun t => t.timeRx cycle m)

/-- A remote configuration as it runs in the follower (R455): SRC 4 to 7 and PAT_C name its own inputs. -/
def localised (w : List Word) : List Word :=
  if getBits (dwAt w 0) 24 4 = 7 then
    (w.set 5 (putBits (dwAt w 5) 0 12 (getBits (dwAt w 7) 0 12))).set 7 (putBits (dwAt w 7) 0 12 0)
  else w.set 0 (putBits (dwAt w 0) 16 5 (getBits (dwAt w 0) 16 5 - 4))

/-- A configuration after roles swap: SRC 0 to 3 and 4 to 7, and the input codes of PAT_A and PAT_C, exchange (R469). -/
def swapped (w : List Word) : List Word :=
  let src := getBits (dwAt w 0) 16 5
  if getBits (dwAt w 0) 24 4 = 7 then
    (w.set 5 (putBits (dwAt w 5) 0 12 (getBits (dwAt w 7) 0 12))).set 7 (putBits (dwAt w 7) 0 12 (getBits (dwAt w 5) 0 12))
  else w.set 0 (putBits (dwAt w 0) 16 5 (if src < 4 then src + 4 else if src < 8 then src - 4 else src))

/-- The old leader's last state of context n's twin arm reaches the new leader: holdoff and segment numbering go on (R469). -/
def State.takeCtx (s : State) (a : HandCtx) : State :=
  s.setCtx a.ctx { s.ctx a.ctx with opened := a.segment, acc := a.origin, accEnd := a.originEnd, evLeft := a.evLeft }

/-- A sequencer of the new leader starts at index h in stage 1 with its counts cleared (R469). -/
def State.handStart (s : State) (h n : Nat) : State :=
  s.setCtx n { s.ctx n with stage := 0, count := 0, lastComp := none, seqNext := h }

/-- A remote detector's configuration reaches the follower (R455, R456). -/
def State.detectorRx (s : State) (k : Nat) (w : List Word) : State :=
  ((((s.setDetRegs k w).newDet k { cfg := localised w }).setReg64 (R.TRG_TD_APPLY_IDX_LO k) (s.applyIdx { cfg := localised w }))).showDets

/-- CONFIG_MSG_RX (R455, R458, R469). -/
def State.configRx (s : State) : ConfigMsg → State
  | .detector k w => if s.isFollower && !s.twinForm then s.detectorRx (k % 16) w else s
  | .delay d => if s.joined || s.pair.join.isSome then ({ s with pair := { s.pair with partnerDT := d } }).showDets else s
  | .handover h dets seqs => if s.isFollower then { s with pair := { s.pair with handIn := some ⟨h, dets, seqs⟩ } } else s
  | .handArms arms =>
    if s.pair.handWait then
      arms.foldl State.takeCtx { s with pair := { s.pair with handWait := false } }
    else s

def execConfigMsgRx (m : ConfigMsg) (s : State) : Host.Outcome State Fault Refusal := s.act (fun t => t.configRx m)

/-- The partner's waiting arm of context n has ended; this module's keeps waiting (R460). -/
def State.withdrawn (s : State) (n : Nat) : State :=
  let s1 := { s with pair := { s.pair with theirs := s.pair.theirs.filter (fun (a : ArmSummary) => a.ctx != n) } }
  match (s1.ctx n).phase with
  | .pending => s1.setCtx n { s1.ctx n with req := (s1.ctx n).req.map (fun r => { r with go := none }) }
  | .armed => s1.stopFor n 7
  | .idle => s1

/-- ARM_MSG_RX (R460, R462). -/
def State.armRx (s : State) : ArmMsg → State
  | .summary a =>
    if s.joined then ({ s with pair := { s.pair with
      theirs := s.pair.theirs.filter (fun (b : ArmSummary) => b.ctx != a.ctx) ++ [a] } }).twinCompare a.ctx
    else s
  | .go n x => if s.isFollower && s.twinWaits n then s.twinGo n x else s
  | .unequal n => if s.isFollower then s.twinUnequal n else s
  | .withdraw n => if s.joined then s.withdrawn n else s
  | .stop n cause => if s.joined then s.stopFor n cause else s

def execArmMsgRx (m : ArmMsg) (s : State) : Host.Outcome State Fault Refusal := s.act (fun t => t.armRx m)

/-- The follower runs its share of a TWIN_SKEWCAL (R466). -/
def State.skewRunRx (s : State) (inputs n : Nat) : State :=
  let c : TwinCal := { seq := none, own := inputs % 16, other := 0, steps := n }
  if !s.isFollower then s
  else if s.twinForm then ({ s with pair := { s.pair with cal := some c } }).tellTwin
  else if s.fgBusy c.own then s.tell (.control .skewBusy)
  else ({ s with pair := { s.pair with cal := some c } }).inject c.own true

/-- The follower refuses BUSY: the calibration ends (R466). -/
def State.skewBusyRx (s : State) : State :=
  match s.pair.cal with
  | some c => (({ s with pair := { s.pair with cal := none } }).inject c.own false).finishOpt c.seq .busy []
  | none => s

/-- The leader's estimate reaches the follower (R466). -/
def State.twinSetRx (s : State) (phase : Int) (gain off : Nat) (ramp : Bool) : State :=
  if s.isFollower && s.twinForm then
    ((((s.setReg R.PAIR_TWIN_PHASE (BitVec.ofNat 32 (pattern 32 phase))).setFld F.PAIR_TWIN_GAIN.V gain).setFld
      F.PAIR_TWIN_OFF.V off).twinRetarget ramp (s.twinAt (s.frameNow false))).judgePhase
  else s

/-- CONTROL_MSG_RX (R446, R452, R453, R464, R466 to R468). -/
def State.controlRx (s : State) : ControlMsg → State
  | .join j => if s.joined then s else ({ s with pair := { s.pair with partner := some j } }).joinBoth
  | .joined ok i =>
    match s.pair.join with
    | some own => if own.leader then s
      else if ok then { s with pair := { s.pair with joinAt := some i } } else s.joinEnd .badDescriptor
    | none => s
  | .phaseOk ok => if s.isLeader && s.twinForm then s.phaseTo ok else s
  | .split => if s.joined && s.pair.split == none then s.splitStart none else s
  | .splitReady c => if s.joined then ({ s with pair := { s.pair with partnerReady := some c } }).trySplit else s
  | .leave => { s with pair := { s.pair with partner := none } }
  | .laneFailed k => s.raisePF 265 k
  | .skewRun m n => s.skewRunRx m n
  | .skewBusy => s.skewBusyRx
  | .skewDone l =>
    match s.pair.cal with
    | some c => ({ s with pair := { s.pair with cal := some { c with partner := some l } } }).skewBoth
    | none => s
  | .twinState p g o => if s.isLeader || s.pair.join.isSome then { s with pair := { s.pair with twin := (p, g, o) } } else s
  | .twinSet p g o ramp => s.twinSetRx p g o ramp
  | .linesFor k b l a c => if s.isFollower then s.linesFor k b l a c else s
  | .linesRefused => s.linesRefused

def execControlMsgRx (m : ControlMsg) (s : State) : Host.Outcome State Fault Refusal := s.act (fun t => t.controlRx m)

/-- A detector would be remote once roles swap (R469). -/
def DetSt.swapRemote (d : DetSt) : Bool :=
  d.en && (if d.type = 7 then (List.range 4).any (fun n => d.code n != 0) else Nat.blt d.src 4)

/-- What a handover carries of context n's twin arm (R469). -/
def State.handCtx (s : State) (n : Nat) : HandCtx :=
  let c := s.ctx n
  { ctx := n, segment := c.opened, origin := c.acc, originEnd := c.accEnd, evLeft := c.evLeft
    bounds := (c.segs.getLast?).map (fun g => (g.first, g.last)) }

/-- TWIN_HANDOVER (R469). -/
def State.twinHandover (s : State) (d : Desc) : State :=
  if d.context != 15 || !(d.reservedClear 2 []) || !s.isLeader || s.twinForm then s.finish d .badDescriptor []
  else if Nat.blt 4 ((List.range 16).filter (fun k => (s.applied k).swapRemote)).length then s.finish d .busy []
  else
    let h := (s.coreNo + 512) * s.perCycle
    let dets := (List.range 16).map (fun k => swapped (s.applied k).cfg)
    let seqs := (List.range 4).map (fun n => (List.range 23).map (fun i => s.reg (seqReg n i)))
    ({ s with pair := { s.pair with handover := some (d.seq, h) } }).tell (.config (.handover h dets seqs))

def execTwinHandover (ring : Fin 64) (s : State) : Host.Outcome State Fault Refusal :=
  s.act (fun t => if t.pair.handover.isSome then t else t.withStart ring 0x74 (fun d u => u.twinHandover d))

/-- The old leader becomes the follower: detectors on its own inputs go on as remote ones, the others end at H (R469). -/
def State.handAway (s : State) (h : Nat) : State :=
  let s1 := s.setFld F.PAIR_STAT.ROLE 2
  let s2 := s1.each (List.range 16) (fun t k =>
    let d := t.applied k
    let u := t.setDetRegs k (swapped d.cfg)
    if d.swapRemote then u else u.detFrom k h {})
  ((((s2.servoRest).showLat).showDets).symRole).raisePF 269 0

/-- The old leader has sent its last decision for an index below H: the new leader gets the state of the twin arms, and the
descriptor completes (R469). -/
def State.handDone (s : State) (q : Nat) : State :=
  let arms := ((List.range 4).filter s.armed).map s.handCtx
  (({ s with pair := { s.pair with handover := none } }.idleSeqs).tell (.config (.handArms arms))).finishSeq q .ok []

/-- The core cycle after the one in which the decision of index h - 1 reaches the acquisition sequencer (R458). -/
def State.handEnd (s : State) (h : Nat) : Nat := h / s.perCycle + 67 + s.dT + s.dP

/-- The follower becomes the leader and loads what it has received (R469). -/
def State.handTake (s : State) (x : HandState) : State :=
  let s1 := s.setFld F.PAIR_STAT.ROLE 1
  let s2 := s1.each (List.range 16) (fun t k =>
    let w := x.dets.getD k []
    let d := t.applied k
    let u := t.setDetRegs k w
    if d.en then u.newDet k { d with cfg := w } else u.detFrom k x.h { cfg := w })
  let s3 := s2.each (List.range 4) (fun t n => t.each (List.range 23) (fun u i =>
    u.setReg (seqReg n i) (dwAt (x.seqs.getD n []) i)))
  let s4 := s3.each (List.range 4) (fun t n => if t.armed n then t.handStart x.h n else t)
  let s5 := { s4 with pair := { s4.pair with handIn := none, handFrom := some x.h, handWait := true } }
  let s6 := if s5.flag F.TIME_CTL.PPS_EN then s5.ppsOn else s5
  (((s6.showLat).showDets).symRole).raisePF 269 1

/-- TWIN_HANDOVER_EFFECT (R469): at H the roles swap; the old leader is done once its last decision is sent. -/
def State.handoverEffect (s : State) : State :=
  match s.pair.handover, s.pair.handIn with
  | some (q, h), _ =>
    if s.isLeader then (if Nat.ble h s.time.idx then s.handAway h else s)
    else if Nat.ble (s.handEnd h) s.coreNo then s.handDone q else s
  | none, some x => if s.isFollower && Nat.ble x.h s.time.idx then s.handTake x else s
  | none, none => s

def execTwinHandoverEffect (s : State) : Host.Outcome State Fault Refusal := s.act State.handoverEffect

end Sys2Proof.Machine
end

