-- ==== Sys2Proof/Machine/PairLink.lean ====
section
/-!
DEFINITION. The pair link (ch. 18, R443 to R449): presence, training, blocks with their lane checks, and loss.
-/
namespace Sys2Proof.Machine

/-- The module's own conditions of training hold (R447). -/
def State.pairReady (s : State) : Bool :=
  s.flag F.PAIR_CTL.EN && s.flag F.PAIR_STAT.PRESENT && !(s.flag F.CLK_STAT.BYPASS)

/-- TRAINING shows whether the link trains: it is down, its conditions hold, and no loss is less than 1 ms old (R447,
R449). -/
def State.pairTrain (s : State) : State :=
  let on := s.pairReady && !(s.flag F.PAIR_STAT.LINK_UP) && s.pair.restAt.isNone
  let s1 := if on && !(s.flag F.PAIR_STAT.TRAINING) then { s with pair := { s.pair with trainAt := s.time.elapsed } } else s
  s1.setFlag F.PAIR_STAT.TRAINING on

/-- A trained link is lost for a cause, bit 0 to 3 of the E266 qualifier (R449). -/
def State.linkLost (s : State) (cause : Nat) : State :=
  if s.flag F.PAIR_STAT.LINK_UP then
    let s1 := ((s.setFlag F.PAIR_STAT.LINK_UP false).setFlag F.PAIR_STAT.LOST_SEEN true).bump R.PAIR_LOSSES
    let s2 := (s1.raisePF 266 (2 ^ cause)).fault 0x0109 0
    ({ s2 with pair := { s2.pair with restAt := some s2.time.elapsed } }).twinLost.pairTrain
  else s.pairTrain

/-- PAIR_PRESENT_CHANGE (R449). -/
def State.presentChange (s : State) (level : Bool) : State :=
  let s1 := (s.setFlag F.PAIR_STAT.PRESENT level).raisePF 270 (if level then 1 else 0)
  if s.flag F.PAIR_STAT.PRESENT == level then s
  else if level then s1.pairTrain else s1.linkLost 2

def execPairPresentChange (level : Bool) (s : State) : Host.Outcome State Fault Refusal :=
  s.act (fun t => t.presentChange level)

/-- A write to PAIR_CTL (R447). -/
def State.pairCtlWrite (s : State) (v : Word) : State := (s.plainWrite R.PAIR_CTL v).pairTrain

def execPairCtlWrite (value : Word) (s : State) : Host.Outcome State Fault Refusal := s.act (fun t => t.pairCtlWrite value)

/-- The two modules' core cycles are aligned (R448): their boundaries differ by at most a quarter of a core period, and their
numbers agree. -/
def State.alignedWith (s : State) (cycle : Nat) (skew : Int) : Bool :=
  cycle == s.coreNo && decide (4 * ((skew.natAbs : Nat) : Rat) ≤ s.corePeriod)

/-- Training ends (R446, R447, R448): every lane is good again, and the partner's identity and alignment are known. -/
def State.linkTrained (s : State) (id cycle : Nat) (skew : Int) : State :=
  if s.flag F.PAIR_STAT.TRAINING then
    let s1 := (s.setFlag F.PAIR_STAT.LINK_UP true).setFlag F.PAIR_STAT.TRAINING false
    let s2 := ((s1.setFlag F.PAIR_STAT.SPARE_USED false).setFld F.PAIR_STAT.FAILED 15).setFlag F.PAIR_STAT.UNALIGNED
      (!(s.alignedWith cycle skew))
    let s3 := (s2.setReg64 R.PAIR_PARTNER_ID_LO id).showLat
    ({ s3 with pair := { s3.pair with errs := [], blockAt := s3.time.elapsed } }).raisePF 264 (8 * 2 ^ 8)
  else s

def execPairLinkTrained (partner : BitVec 64) (cycle : Nat) (skew : Int) (s : State) : Host.Outcome State Fault Refusal :=
  s.act (fun t => t.linkTrained partner.toNat cycle skew)

/-- PAIR_TRAIN_TIMEOUT (R447): training has not ended within 2 ms, and restarts. -/
def State.trainTimeout (s : State) : State :=
  if s.flag F.PAIR_STAT.TRAINING && s.since s.pair.trainAt 2000 then
    ({ s with pair := { s.pair with trainAt := s.time.elapsed } }).bump R.PAIR_TRAIN_FAILS
  else s

def execPairTrainTimeout (s : State) : Host.Outcome State Fault Refusal := s.act State.trainTimeout

/-- PAIR_SILENCE_TIMEOUT (R449): no block with a valid CRC on any lane for 1 µs. -/
def State.silence (s : State) : State :=
  if s.flag F.PAIR_STAT.LINK_UP && s.since s.pair.blockAt 1 then s.linkLost 3 else s

def execPairSilenceTimeout (s : State) : Host.Outcome State Fault Refusal := s.act State.silence

/-- PAIR_RETRAIN_TIMER (R449): a millisecond after a loss the link may train again. -/
def State.mayRetrain (s : State) : State :=
  match s.pair.restAt with
  | some t => if s.since t 1000 then ({ s with pair := { s.pair with restAt := none } }).pairTrain else s
  | none => s

def execPairRetrainTimer (s : State) : Host.Outcome State Fault Refusal := s.act State.mayRetrain

/-- CRC-8 of the low `n` bits of a lane's block, from the highest bit down (Table 18.1). -/
def crc8 (x : BitVec 128) : Nat → BitVec 8 → BitVec 8
  | 0, c => c
  | n + 1, c => crc8 x n (if x.getLsbD n ^^ c.getLsbD 7 then (c <<< 1) ^^^ 0x07#8 else c <<< 1)

/-- The CRC of a data lane's block is correct (R445). -/
def laneGood (x : BitVec 128) : Bool := crc8 x 120 0 == x.extractLsb' 120 8

/-- Errors of lane k within the last millisecond. -/
def State.laneErrors (s : State) (k : Nat) : Nat :=
  (s.pair.errs.filter (fun e => e.1 == k && decide (s.time.elapsed < e.2 + millisecond))).length

/-- Lane k counts an error; at ERR_THR within 1 ms it is failed (R446). -/
def State.laneError (s : State) (k : Nat) : State :=
  let s1 := s.bump (R.PAIR_LANE_ERR k)
  let live := s1.pair.errs.filter (fun e => decide (s.time.elapsed < e.2 + millisecond))
  let s2 := { s1 with pair := { s1.pair with errs := (k, s.time.elapsed) :: live } }
  if s2.flag F.PAIR_STAT.SPARE_USED || Nat.blt (s2.laneErrors k) (max 1 (s2.fld F.PAIR_CTL.ERR_THR)) then s2
  else
    let s3 := (s2.setFlag F.PAIR_STAT.SPARE_USED true).setFld F.PAIR_STAT.FAILED k
    (((s3.raisePF 265 (k + 16)).fault 0x000B k).tell (.control (.laneFailed k)))

/-- A block with a valid CRC on some lane has been received (R449). -/
def State.blockHeard (s : State) (bad : List Nat) : State :=
  if bad.length = 8 then s else { s with pair := { s.pair with blockAt := s.time.elapsed } }

/-- A block is received (R445, R446): nine lanes of 128 bits. -/
def State.blockRx (s0 : State) (lanes : List (BitVec 128)) : State :=
  if !(s0.flag F.PAIR_STAT.LINK_UP) then s0
  else
    let bad := (List.range 8).filter (fun k => !(laneGood (lanes.getD k 0)))
    let s := s0.blockHeard bad
    let failed := if s.flag F.PAIR_STAT.SPARE_USED then some (s.fld F.PAIR_STAT.FAILED) else none
    let others := bad.filter (fun k => some k != failed)
    if (if failed.isSome then Nat.blt 0 others.length else Nat.blt 1 bad.length) then s.linkLost 1
    else match bad with
      | k :: _ => s.laneError k
      | [] =>
        let x := (List.range 8).foldl (fun a k => a ^^^ lanes.getD k 0) (0 : BitVec 128)
        if x != lanes.getD 8 0 then s.laneError 8 else s

def execPairBlockRx (lanes : List (BitVec 128)) (s : State) : Host.Outcome State Fault Refusal :=
  s.act (fun t => t.blockRx lanes)

end Sys2Proof.Machine
end

