-- ==== Sys2Proof/Machine/Loops.lean ====
section
/-!
DEFINITION. The four synthesiser loops and the ramp generator of SYN_S (ch. 03): the loop filter, the band search, lock
attempts, ramps, and the meanings of LOCK_RETRY_TIMER, STANDBY_TRACKED, TRACKING_LOST, RAMP_SEGMENT_END, REF_EDGE_MISSING,
REF_ABSENT and REF_RETURN. Loops are numbered 0 SYN_A, 1 SYN_B, 2 SYN_M, 3 SYN_S.
-/
namespace Sys2Proof.Machine

def noLoop : Nat → LoopSt := fun _ => {}
def State.loop (s : State) (l : Nat) : LoopSt := SMap.get noLoop s.clk.loops l
def State.setLoop (s : State) (l : Nat) (x : LoopSt) : State :=
  { s with clk := { s.clk with loops := SMap.set noLoop s.clk.loops l x } }

def State.locked (s : State) (l : Nat) : Bool := s.flag (F.CLK_SYN_STAT.LOCKED l)
def State.searching (s : State) (l : Nat) : Bool := s.flag (F.CLK_SYN_STAT.SEARCHING l)

/-- The active and the standby loop (R59). -/
def State.activeLoop (s : State) : Nat := s.fld F.CLK_STAT.ACTIVE
def State.standbyLoop (s : State) : Nat := 1 - s.fld F.CLK_STAT.ACTIVE

/-- A 48-bit two's-complement value (R61). -/
def s48 (x : Int) : Int := signed 48 (pattern 48 x)

/-- The settings of a loop's filter and lock criteria: KP, KI, KL, LOCK_PH, UNLOCK_PH; the largest change of the DCO
control per reference cycle, in Q24.24, while the loop feeds an island (R74); whether it re-acquires phase after holdover
(R96). -/
structure LoopCtl where
  kp : Nat
  ki : Nat
  kl : Nat
  lockPh : Nat
  unlockPh : Nat
  slew : Option Int
  reacq : Bool

/-- A loop's output reaches a logic island (Table 3.16). -/
def State.feeding (s : State) (l : Nat) : Bool :=
  match l with
  | 2 => s.clk.mem == .synM
  | 3 => s.clk.stimOn
  | _ => (s.activeLoop == l && !s.flag F.CLK_STAT.BYPASS) || (l == 1 && s.clk.mem == .backup)

/-- The slew limit of R74 as a change of the DCO control in 2^-24 fine LSBs per reference cycle of 10 ns: 10 MHz per us,
20 MHz for SYN_S, where 65,536 fine codes span four band spacings (R64). -/
def slewOf : Nat → Int
  | 2 => 1099511627
  | 3 => 879609302
  | _ => 549755813

def State.loopCtl (s : State) (l : Nat) : LoopCtl :=
  ⟨s.fld (F.CLK_SYN_LOOP.KP l), s.fld (F.CLK_SYN_LOOP.KI l), s.fld (F.CLK_SYN_LOOP.KL l), s.fld (F.CLK_SYN_LOCK.LOCK_PH l),
    s.fld (F.CLK_SYN_LOCK.UNLOCK_PH l), if s.feeding l then some (slewOf l) else none,
    s.flag (F.CLK_SYN_STAT.HOLDOVER l)⟩

/-- The fraction bits of the DCO control (R61). -/
def loopFrac (y : Int) : Int := ashr y 16 % 256

/-- One step of the sigma-delta modulator on the fine code's LSB (R63, log entry 73): its input in 1/256 LSB, its output in
whole LSBs and its errors after it. CLK_SYNs_DITHER: bit 0 SD_EN, bit 2 ORDER. -/
def sigmaDelta (dither : Word) (e1 e2 input : Int) : Int × Int × Int :=
  if getBits dither 0 1 = 0 then (0, 0, 0)
  else
    let v := if getBits dither 2 1 = 0 then input + e1 else input + 2 * e1 - e2
    (v / 256, v % 256, e1)

/-- The fine code of a DCO control (R61). -/
def fineCode (y : Int) : Int := clampInt 0 65535 (0x8000 + ashr y 24)

/-- The DCO control in force after a filter output `y`: within the slew limit where there is one (R74). -/
def slewed (slew : Option Int) (old y : Int) : Int :=
  match slew with
  | some m => old + clampInt (-m) m (y - old)
  | none => y

/-- One reference cycle of a loop with phase error `e` and the LFSR's bit (R61, R62, R63, R68, R69, R74, R96). -/
def loopStep (c : LoopCtl) (x : LoopSt) (e : Int) (bit : Bool) : LoopSt :=
  let kp := if x.fast then c.kp - 2 else c.kp
  let ki := if x.fast then c.ki - 4 else c.ki
  let acc := s48 (x.acc + ashr (e * 2 ^ 24) ki)
  let u := s48 (acc + ashr (e * 2 ^ 24) kp)
  let y := if c.kl = 0 then u else s48 (x.y + ashr (u - x.y) c.kl)
  let good := if e.natAbs ≤ c.lockPh then min 1024 (x.good + 1) else 0
  let bad := if c.reacq then 0 else if 4 ≤ x.bad then x.bad else if c.unlockPh < e.natAbs then x.bad + 1 else 0
  let ctl := slewed c.slew x.ctl y
  let (out, e1, e2) := sigmaDelta x.dither x.e1 x.e2 (loopFrac ctl + (if bit && getBits x.dither 1 1 = 1 then 1 else 0))
  { x with acc := acc, y := y, ctl := ctl, e1 := e1, e2 := e2, code := (clampInt 0 65535 (fineCode ctl + out)).toNat
           good := good, bad := bad, fast := x.fast && !(good == 1024 && x.fit.isSome) }

/-- The fine code of the DCO (R61). -/
def LoopSt.fine (x : LoopSt) : Nat := (fineCode x.ctl).toNat

/-- A band fits (R64). -/
def LoopSt.fits (x : LoopSt) : Bool := Nat.ble 0x1999 x.fine && Nat.ble x.fine 0xE666

def noWord : Nat → Word := fun _ => 0

/-- The LFSR start value of a lock attempt (R63, R454). -/
def State.seedOf (s : State) (l : Nat) : Word :=
  match s.pair.seeds with
  | some (a, b) => lfsrSeed (if l = 0 then a else if l = 1 then b else s.reg (R.CLK_SYN_SEED l))
  | none => lfsrSeed (s.reg (R.CLK_SYN_SEED l))

/-- A loop runs over reference cycles with the given phase errors; nothing moves while the reference is absent (R95). At the
first one after a join it takes the leader's seed (R454). -/
def State.loopRun (s : State) (l : Nat) (errs : List Int) : State :=
  if s.clk.refLost || errs.isEmpty then s
  else
    let r := errs.foldl (fun p e => (loopStep (s.loopCtl l) p.1 e (p.2.getLsbD 0), lfsrStep p.2))
      (s.loop l, if s.pair.reseed.contains l then s.seedOf l else SMap.get noWord s.clk.lfsr l)
    let s0 := s.setLoop l r.1
    let s1 := { s0 with pair := { s0.pair with reseed := s0.pair.reseed.filter (· != l) } }
    let s2 := { s1 with clk := { s1.clk with lfsr := SMap.set noWord s1.clk.lfsr l r.2 } }
    let s3 := s2.setReg (R.CLK_SYN_PHERR l) (BitVec.ofNat 32 (pattern 16 (errs.getLastD 0)))
    if s3.locked l then s3 else s3.setFlag (F.CLK_SYN_STAT.PH_OK l) (r.1.good == 1024 && r.1.fit.isSome)

/-- The frequency counter's last reading (R68): an offset in ppm. -/
def State.freqRead (s : State) (l : Nat) (ppm : Option Int) : State :=
  match ppm with
  | some x => s.setReg (R.CLK_SYN_FREQ l) (BitVec.ofNat 32 (pattern 16 (clampInt (-32767) 32767 x)))
  | none => s

/-- FCW of a loop's target, in units of 2^-32 (R59, R91). -/
def State.targetFcw (s : State) (l : Nat) : Nat :=
  match l with
  | 2 => 64 * 2 ^ 32
  | 3 => s.clk.sfcw
  | _ => s.clk.fcwInt * 2 ^ 32 + s.clk.fcwFrac

/-- The band table entry of a target (R65). F_MIN in 100 MHz and W in 50 MHz per loop. -/
def bandEntry (l fcw : Nat) : Nat :=
  let fmin := match l with | 2 => 60 | 3 => 120 | _ => 78
  let w := match l with | 2 => 2 | 3 => 5 | _ => 4
  min 15 (2 * (fcw - fmin * 2 ^ 32) / (w * 2 ^ 32))

/-- The bands a lock attempt tries, in order (R66). -/
def trialBands (valid : Bool) (k : Nat) : List Nat :=
  (if valid then [k, k + 1, k - 1, k + 2, k - 2].zipIdx.filterMap (fun e =>
    let bad := Nat.blt 63 e.1 || (e.2 == 2 && Nat.blt k 1) || (e.2 == 4 && Nat.blt k 2)
    if bad then none else some e.1) else []) ++ List.range 64

/-- A lock attempt starts (R62, R63, R66). -/
def State.startLock (s : State) (l : Nat) : State :=
  let e := bandEntry l (s.targetFcw l)
  let x := s.loop l
  let s1 := s.setLoop l { x with
    good := 0, bad := 0, near := 0, e1 := 0, e2 := 0, fast := true, fit := none, entry := e, retry := false, dither := s.reg (R.CLK_SYN_DITHER l)
    trials := trialBands (s.flag (F.CLK_BAND.VALID l e)) (s.fld (F.CLK_BAND.BAND l e)) }
  let s2 := { s1 with clk := { s1.clk with lfsr := SMap.set noWord s1.clk.lfsr l (s1.seedOf l) } }
  let s3 := (s2.setFlag (F.CLK_SYN_STAT.LOCKED l) false).setFlag (F.CLK_SYN_STAT.TRACKED l) false
  ((s3.setFlag (F.CLK_SYN_STAT.PH_OK l) false).setFlag (F.CLK_SYN_STAT.FREQ_OK l) false).setFlag
    (F.CLK_SYN_STAT.SEARCHING l) true

/-- STBY_READY: the standby loop is locked and tracked (R72). -/
def State.showStandby (s : State) : State :=
  let b := s.standbyLoop
  s.setFlag F.CLK_STAT.STBY_READY (s.locked b && s.flag (F.CLK_SYN_STAT.TRACKED b) && !(s.flag F.CLK_STAT.BYPASS))

/-- A band trial ends: the band fits, and the phase criterion is counted from then on, or the next band is tried, or the
attempt fails (R66). -/
def State.trialEnd (s : State) (l : Nat) (errs : List Int) : State :=
  let s1 := s.loopRun l errs
  let x := s1.loop l
  match x.trials with
  | [] => s
  | b :: r =>
    if x.fits then s1.setLoop l { x with trials := [], fit := some b, good := 0 }
    else if r.isEmpty then
      ((((s1.setLoop l { x with trials := [], retry := true, failed := true }).setFlag (F.CLK_SYN_STAT.SEARCHING l) false).setFlag
        (F.CLK_SYN_STAT.PH_OK l) false).setFlag (F.CLK_SYN_STAT.LOCK_FAIL l) true).raisePF 75 l
    else s1.setLoop l { x with trials := r, good := 0 }

/-- Both sample loops have failed in a rate change: it no longer counts as running (R79). -/
def State.rateFailed (s : State) : State :=
  if s.flag F.CLK_STAT.RATE_CHANGING && (s.loop 0).failed && (s.loop 1).failed then s.setFlag F.CLK_STAT.RATE_CHANGING false
  else s

def execBandTrialEnd (loop : Fin 4) (errs : List Int) (s : State) : Host.Outcome State Fault Refusal :=
  s.act (fun t => if t.searching loop && !t.clk.refLost then (t.trialEnd loop errs).rateFailed else t)

def execLockRetryTimer (loop : Fin 4) (s : State) : Host.Outcome State Fault Refusal :=
  s.act (fun t => if (t.loop loop).retry && !t.clk.refLost then t.startLock loop else t)

/-- One reference cycle of the A-B comparison (R72): the difference, in 50 fs, joins the standby loop's integrator (log
entry 74), and TRACKED sets at the 1,024th cycle within 0.5 ps and clears beyond 1.0 ps. -/
def trackStep (ki : Nat) (p : LoopSt × Bool) (d : Int) : LoopSt × Bool :=
  let near := if d.natAbs ≤ 10 then min 1024 (p.1.near + 1) else 0
  ({ p.1 with acc := s48 (p.1.acc + ashr (d * 2 ^ 24) ki), near := near },
    if 20 < d.natAbs then false else if near = 1024 then true else p.2)

/-- The standby loop is compared with the active one over reference cycles (R72). -/
def State.trackRun (s : State) (diffs : List Int) : State :=
  let b := s.standbyLoop
  if s.locked b && !s.flag F.CLK_STAT.BYPASS && !s.clk.refLost then
    let r := diffs.foldl (trackStep (s.loopCtl b).ki) (s.loop b, s.flag (F.CLK_SYN_STAT.TRACKED b))
    ((s.setLoop b r.1).setFlag (F.CLK_SYN_STAT.TRACKED b) r.2).showStandby
  else s

/-- STANDBY_TRACKED (R72). -/
def execStandbyTracked (diffs : List Int) (s : State) : Host.Outcome State Fault Refusal := s.act (fun t => t.trackRun diffs)

/-- TRACKING_LOST (R72). -/
def execTrackingLost (diffs : List Int) (s : State) : Host.Outcome State Fault Refusal := s.act (fun t => t.trackRun diffs)

/-- The fit range of the band in which SYN_S locked, in FCW units (R64, R93): the fine code spans four band spacings of
62.5 MHz, so one code is 163,840 units. -/
def State.fitRange (s : State) : Int × Int :=
  let c : Int := (s.clk.lockFcw : Int) - (s.clk.lockFine : Int) * 163840
  (c + 0x1999 * 163840, c + 0xE666 * 163840)

/-- The largest FCW change per reference cycle: 20 MHz per us (R93). -/
def slopeLimit : Int := 8589934

/-- A ramp profile entry (Table 3.16a): START, CONTINUE, SLOPE, DURATION, NEXT, LAST. -/
def State.rampDw (s : State) (k i : Nat) : Word := s.reg (R.RAMP_TBL_0 k + 4 * i)
def State.rampStartFcw (s : State) (k : Nat) : Nat :=
  getBits (s.rampDw k 1) 0 8 * 2 ^ 32 + (s.rampDw k 0).toNat
def State.rampContinue (s : State) (k : Nat) : Bool := getBits (s.rampDw k 1) 8 1 == 1
def State.rampLast (s : State) (k : Nat) : Bool := getBits (s.rampDw k 1) 9 1 == 1
def State.rampNext (s : State) (k : Nat) : Nat := getBits (s.rampDw k 1) 16 6
def State.rampSlope (s : State) (k : Nat) : Int := signed 32 (s.rampDw k 2).toNat
def State.rampDuration (s : State) (k : Nat) : Nat := max 1 (getBits (s.rampDw k 3) 0 24)

/-- The commanded FCW `n` reference cycles after a ramp segment began at `base`, and whether a clamp has acted (R93). -/
def State.rampAt (s : State) (k base n : Nat) : Nat × Bool :=
  let (lo, hi) := s.fitRange
  let slope := clampInt (-slopeLimit) slopeLimit (s.rampSlope k)
  let b : Int := base
  let goal : Int := if s.rampContinue k then b else s.rampStartFcw k
  let d := goal - b
  let t0 := ceilDiv d.natAbs slopeLimit.toNat
  let c1 := if n < t0 then b + (if d < 0 then - slopeLimit else slopeLimit) * (n : Int) else goal
  let c2 := clampInt lo hi c1
  let c3 := c2 + slope * ((n - t0 : Nat) : Int)
  let c4 := clampInt lo hi c3
  (c4.toNat, slope != s.rampSlope k || c1 != c2 || c3 != c4)

/-- The commanded FCW of SYN_S `n` reference cycles into the running ramp segment; the present one where no ramp runs. -/
def State.fcwAt (s : State) (n : Nat) : Nat :=
  match s.clk.ramp with
  | some r => (s.rampAt r.seg r.base (min n (s.rampDuration r.seg))).1
  | none => s.clk.fcwNow

/-- Whether a clamp has acted in the first `n` reference cycles of the running ramp segment. -/
def State.clampedAt (s : State) (n : Nat) : Bool :=
  match s.clk.ramp with
  | some r => (s.rampAt r.seg r.base (min n (s.rampDuration r.seg))).2
  | none => false

/-- SLOPE_CLAMPED sets where a clamp has acted (R93). -/
def State.showClamp (s : State) (b : Bool) : State := if b then s.setFlag (F.CLK_SYN_STAT.SLOPE_CLAMPED 3) true else s

/-- Reference cycles of 10 ns since the running ramp segment began. -/
def State.rampCycles (s : State) : Nat :=
  match s.clk.ramp with
  | some r => (s.time.elapsed - r.since) / 184467440737
  | none => 0

/-- The first reference cycle of the running ramp segment that begins at or after the present instant. -/
def State.rampEdge (s : State) : Nat :=
  match s.clk.ramp with
  | some r => ceilDiv (s.time.elapsed - r.since) 184467440737
  | none => 0

/-- The ramp generator starts or restarts at a profile segment, at the next reference cycle (R92, R492). -/
def State.rampGo (s : State) (k : Nat) : State :=
  let n := s.rampEdge
  let c := s.fcwAt n
  let at0 := match s.clk.ramp with | some r => r.since + n * 184467440737 | none => s.time.elapsed
  ({ s with clk := { s.clk with fcwNow := c, ramp := some ⟨k, c, at0⟩ } }).showClamp (s.clampedAt n)

/-- The frequency of the DAC at the present instant, as FCW (R59, R92). -/
def State.dacFcw (s : State) : Nat := s.fcwAt s.rampCycles

/-- DAC samples of the present core cycle, in 2^-96 of a sample. -/
def State.dacRun (s : State) : Nat := s.cycleLen * s.dacFcw * 100000000

/-- `n` DAC periods in 2^-64 s. -/
def State.dacTime (s : State) (n : Nat) : Nat := n * 2 ^ 96 / (s.dacFcw * 100000000)

/-- The target period of a loop's output in 10^-18 s (R70, R75): DCO over DIV, DCO over 8 for SYN_M, the DAC period of SYN_S,
during a ramp the commanded one. -/
def State.targetPeriod (s : State) (l : Nat) : Rat :=
  let fcw := if l = 3 then (if s.clk.ramp.isSome then s.fcwAt s.rampCycles else s.clk.fcwNow) else s.targetFcw l
  let div := match l with | 2 => 8 | 3 => 1 | _ => divOf s.clk.div
  (div * 10 ^ 10 * 2 ^ 32 : Nat) / (fcw : Nat)

/-- The period monitor trips: outside 0.985 to 1.015 times the target period (R70). -/
def State.periodTrips (s : State) (l p : Nat) : Bool :=
  decide (1000 * (p : Rat) < 985 * s.targetPeriod l) || decide (1015 * s.targetPeriod l < 1000 * (p : Rat))

/-- RAMP_SEGMENT_END: the segment's DURATION has elapsed (R92). -/
def State.rampSegEnd (s : State) : State :=
  match s.clk.ramp with
  | none => s
  | some r =>
    let (c, clamped) := s.rampAt r.seg r.base (s.rampDuration r.seg)
    let s1 := s.showClamp clamped
    if s.rampLast r.seg then
      ({ s1 with clk := { s1.clk with fcwNow := c, ramp := none } }).raisePF 78 r.seg
    else { s1 with clk := { s1.clk with fcwNow := c, ramp := some ⟨s.rampNext r.seg, c, r.since + s.rampDuration r.seg * 184467440737⟩ } }

/-- The running ramp segment ends within the present core cycle (R92). -/
def State.rampDue (s : State) : Bool :=
  match s.clk.ramp with
  | some r => s.passed r.since (s.rampDuration r.seg * 184467440737)
  | none => false

def execRampSegmentEnd (s : State) : Host.Outcome State Fault Refusal :=
  s.act (fun t => if t.rampDue then t.rampSegEnd else t)

/-- REF_EDGE_MISSING: no edge for 20 ns; all four loops freeze (R95). -/
def State.refMissing (s : State) : State :=
  (({ s with clk := { s.clk with refLost := true } }).each (List.range 4)
    (fun t l => t.setFlag (F.CLK_SYN_STAT.HOLDOVER l) true)).setFlag F.CLK_STAT.HOLDOVER true

def execRefEdgeMissing (s : State) : Host.Outcome State Fault Refusal := s.act State.refMissing

/-- REF_ABSENT: no edge for 100 ns. The frequency counters read 0x8000, MGMT and PEER run on the oscillator, and the peer
bus is silent (R95, R429). -/
def State.refAbsent (s : State) : State :=
  let s1 := s.refMissing.setFlag F.CLK_STAT.REF_ABSENT true
  let s2 := s1.each (List.range 4) (fun t l => t.setReg (R.CLK_SYN_FREQ l) 0x8000)
  let s3 := { (s2.setFlag F.PEER_STAT.SILENT true) with clk := { s2.clk with refAt := some s.time.elapsed } }
  (s3.raisePF 76 0).fault 0x0006 0

def execRefAbsent (s : State) : Host.Outcome State Fault Refusal :=
  s.act (fun t => if t.flag F.CLK_STAT.REF_ABSENT then t else t.refAbsent)

/-- The reference has been absent for more than 1 s (Table 22.2). -/
def State.refLong (s : State) : State :=
  match s.clk.refAt with
  | some t => if t + 2 ^ 64 < s.time.elapsed then ({ s with clk := { s.clk with refAt := none } }).fault 0x0111 0 else s
  | none => s

/-- REF_RETURN: the loops move again and re-acquire phase (R96). -/
def State.refReturn (s : State) : State :=
  let s1 := s.refLong
  let s2 := { s1 with clk := { s1.clk with refLost := false, refAt := none } }
  let s3 := (s2.setFlag F.CLK_STAT.REF_ABSENT false).setFlag F.PEER_STAT.SILENT false
  s3.each (List.range 4) (fun t l => t.setLoop l { t.loop l with good := 0, bad := 0 })

def execRefReturn (s : State) : Host.Outcome State Fault Refusal :=
  s.act (fun t => if t.clk.refLost then t.refReturn else t)

/-- A loop whose reference has returned reaches PH_OK (R96). -/
def State.holdoverEnd (s : State) (l : Nat) (errs : List Int) : State :=
  let s1 := s.loopRun l errs
  if (s1.loop l).good = 1024 then
    let s2 := (s1.setLoop l { s1.loop l with bad := 0 }).setFlag (F.CLK_SYN_STAT.HOLDOVER l) false
    if (List.range 4).any (fun k => s2.flag (F.CLK_SYN_STAT.HOLDOVER k)) then s2
    else (s2.setFlag F.CLK_STAT.HOLDOVER false).raisePF 77 0
  else s1

end Sys2Proof.Machine
end

