-- ==== Sys2Proof/Machine/Stimulus.lean ====
section
/-!
DEFINITION. Stimulus playback on SO0 and SO1 (ch. 19): loading, the sequence table, the sequencer with its latches and
decisions, under-runs, the ends of a sequence, and the meanings of STIM_LOAD, STIM_LOAD_COMPLETE, STIM_SEQ_LOAD,
STIM_START, STIM_READY, STIM_FIRST_SAMPLE, STIM_DECISION_SAMPLE, STIM_SEGMENT_BOUNDARY, STIM_STOP, STIM_JUMP, STIM_GO,
STIM_UNDERRUN_START, STIM_UNDERRUN_END, STIM_POISON_LINE and STIM_SATURATION.
-/
namespace Sys2Proof.Machine

/-- STATE of the sequencer (Table 19.9): 0 IDLE, 1 LOADING, 2 READY, 3 PLAYING. -/
def State.stimState (s : State) : Nat := s.fld F.STM_STAT.STATE

/-- The function an OWNER field names: 9 to 15 act as 0 (Tables 19.8, 20.8). -/
def actsOwner (x : Nat) : Nat := if 8 < x then 0 else x

/-- A stimulus descriptor of the wrong function or context (R475). -/
def State.stimForeign (s : State) (d : Desc) : Bool :=
  s.ringOwner d.ring != actsOwner (s.fld F.STM_CTL.OWNER) || d.context != 15

/-- Such a descriptor, or one with a bit outside its fields. -/
def State.stimBad (s : State) (d : Desc) (masks : List (Nat × Word)) : Bool :=
  s.stimForeign d || !(d.reservedClear 2 masks)

/-- The host address of a descriptor, dwords 8 and 9, must be a multiple of 64. -/
def Desc.haddrBad (d : Desc) : Bool := d.f 8 0 6 != 0

/-- A partition that a playback descriptor of type `ty` may name (R286). -/
def State.partBad (s : State) (d : Desc) (k ty : Nat) : Bool :=
  !(s.ptValid k) || s.ptType k != ty || s.ptOwner k != s.ringOwner d.ring

def loadMasks : List (Nat × Word) := [(2, 0xF), (3, 0x7FFFFFFF), (4, 0x7FFFFFFF), (8, 0xFFFFFFFF), (9, 0xFFFFFFFF)]

/-- A load descriptor of either kind is accepted, or completes with a status (R476, R510). `busy` is the partition of the
running sequence or run. -/
def State.loadStart (s : State) (d : Desc) (bad : Bool) (ty : Nat) (busy : Option Nat) : State :=
  let k := d.f 2 0 4
  if bad || d.f 4 0 31 = 0 || d.haddrBad || Nat.blt (s.ptLen k) (d.f 3 0 31 + d.f 4 0 31) then s.finish d .badDescriptor []
  else if s.partBad d k ty then s.finish d .partitionFault []
  else if busy == some k then (s.raise 229 k (s.routeRing d.ring)).finish d .refusedPlaying []
  else s

/-- The lines of a load enter the write buffer as bulk writes (R353, R476). -/
def State.loadWrites (s : State) (d : Desc) (data : List Word) : State :=
  let base := 32 * (s.ptBase (d.f 2 0 4) + d.f 3 0 31)
  let ws := (List.range (d.f 4 0 31)).map (fun i =>
    { addr := base + 32 * i, bytes := wordsBytes ((data.drop (8 * i)).take 8), port := 5 : BulkWrite })
  ({ s with mem := { s.mem with bulk := s.mem.bulk ++ ws } }).admitBulk (s.mem.bulk.length + ws.length)

/-- A load ends: its lines are written and it completes with their number. -/
def State.loadDone (s : State) (r op : Nat) (data : List Word) : State :=
  match s.running r op with
  | some d =>
    if data.length = 8 * d.f 4 0 31 then (s.loadWrites d data).finish d .ok [BitVec.ofNat 32 (d.f 4 0 31)] else s
  | none => s

/-- A load of an opcode is writing a partition. -/
def State.loading (s : State) (op k : Nat) : Bool :=
  s.hif.descs.any (fun d => d.started && d.opcode == op && d.f 2 0 4 == k)

def execStimLoad (ring : Fin 64) (s : State) : Host.Outcome State Fault Refusal :=
  s.act (fun t => t.withStart ring 0x40 (fun d u => u.loadStart d (u.stimBad d loadMasks) 4 (u.stm.run.map (·.part))))

def execStimLoadComplete (ring : Fin 64) (data : List Word) (s : State) : Host.Outcome State Fault Refusal :=
  s.act (fun t => t.loadDone ring 0x40 data)

/-- Fields of a sequence table entry (Table 19.3), from its four dwords. -/
structure SeqEntry where
  head : Bool
  line : Nat
  len : Nat
  rseg : Nat
  ramp : Bool
  ren : Bool
  rline : Nat
  ctrl : Nat
  count : Nat
  rtarget : Nat
  target : Nat

def seqEntry (w0 w1 w2 w3 : Word) : SeqEntry :=
  { head := getBits w0 31 1 == 1, line := getBits w0 0 31, len := w1.toNat, rseg := getBits w2 24 6
    ramp := getBits w2 23 1 == 1, ren := getBits w2 22 1 == 1, rline := getBits w2 20 2, ctrl := getBits w2 16 4
    count := getBits w2 0 16, rtarget := getBits w3 16 10, target := getBits w3 0 10 }

/-- Entry e of the sequence table. -/
def State.seqEntry (s : State) (e : Nat) : SeqEntry :=
  Sys2Proof.Machine.seqEntry (s.reg (R.STM_SEQ e 0)) (s.reg (R.STM_SEQ e 1)) (s.reg (R.STM_SEQ e 2)) (s.reg (R.STM_SEQ e 3))

def listEntry (w : List Word) (e : Nat) : SeqEntry :=
  seqEntry (dwAt w (4 * e)) (dwAt w (4 * e + 1)) (dwAt w (4 * e + 2)) (dwAt w (4 * e + 3))

/-- Entry e of a table of n entries fails a check of R479. -/
def entryBad (w : List Word) (n e : Nat) : Bool :=
  let x := listEntry w e
  let rsvd := (dwAt w (4 * e + 2) &&& 0xC0000000#32) != 0 || (dwAt w (4 * e + 3) &&& 0xFC00FC00#32) != 0
  rsvd || x.len % 64 != 0 || Nat.blt x.len 512 || Nat.blt 6 x.ctrl || (x.ctrl == 5 && x.count % 4 == 3)
    || ((x.ctrl == 1 || x.ctrl == 2 || x.ctrl == 3) && Nat.ble n x.target) || (x.ctrl == 2 && Nat.blt e x.target)
    || (x.ren && (Nat.ble n x.rtarget || !(listEntry w x.rtarget).head))
    || (x.ctrl == 5 && (!x.head || Nat.blt 8192 x.len || x.ren))

/-- The table of n entries fails a check of R479. RSEG has six bits, so it never exceeds 63. -/
def tableBad (w : List Word) (n : Nat) : Bool :=
  (List.range n).any (entryBad w n) || Nat.blt 8 ((List.range n).filter (fun e => (listEntry w e).head)).length

/-- STIM_SEQ_LOAD (R479): `w` are the words the host memory holds at HADDR. -/
def State.seqLoad (s : State) (d : Desc) (w : List Word) : State :=
  let n := d.f 2 0 11
  if s.stimForeign d then s.finish d .badDescriptor []
  else if s.stimState != 0 then (s.raise 229 0x100 (s.routeRing d.ring)).finish d .refusedPlaying []
  else if s.stimBad d [(2, 0x7FF), (8, 0xFFFFFFFF), (9, 0xFFFFFFFF)] || d.haddrBad || n = 0 || Nat.blt 1024 n
      || tableBad w n then s.finish d .badDescriptor []
  else ((s.setRegs (R.STM_SEQ 0 0) (w.take (4 * n))).setFld F.STM_SEQ_LEN.V n).finish d .ok [BitVec.ofNat 32 n]

def execStimSeqLoad (ring : Fin 64) (table : List Word) (s : State) : Host.Outcome State Fault Refusal :=
  s.act (fun t => t.withStart ring 0x41 (fun d u => u.seqLoad d table))

/-- Bytes per frame (Table 19.2). -/
def stimFrame (dual : Bool) : Nat := if dual then 4 else 2

/-- An entry breaks the alignment of R474 or lies outside a partition of `len` lines. -/
def SeqEntry.outside (x : SeqEntry) (dual : Bool) (len : Nat) : Bool :=
  x.line % (if dual then 8 else 4) != 0 || Nat.blt len (x.line + ceilDiv (x.len * stimFrame dual) 32)

/-- STEP as it acts: 0 is one source frame per DAC sample, values below 2^42 act as 2^42 (R490). -/
def actingStep (x : Nat) : Nat := if x = 0 then 2 ^ 48 else max x (2 ^ 42)

/-- The status with which a STIM_START fails, if any (R480). -/
def State.stimStatus (s : State) (d : Desc) : Option Status :=
  let k := d.f 2 0 4
  let n := s.fld F.STM_SEQ_LEN.V
  let dual := d.f 2 4 1 == 1
  if s.stimBad d [(2, 0x03FF331F), (3, 0xFFFFFFFF), (4, 0xFFFF)] || n = 0 || Nat.ble n (d.f 2 16 10) then some .badDescriptor
  else if s.partBad d k 4 || (List.range n).any (fun e => (s.seqEntry e).outside dual (s.ptLen k)) then some .partitionFault
  else if s.stimState != 0 || s.loading 0x40 k || !(s.locked 3) then some .busy
  else none

/-- STIM_START (R480): the sequence enters LOADING. -/
def State.stimStart (s : State) (d : Desc) : State :=
  match s.stimStatus d with
  | some st => s.finish d st []
  | none =>
    let k := d.f 2 0 4
    let step := d.n 3 + 2 ^ 32 * d.f 4 0 16
    let acting := if step = 0 then 0 else max step (2 ^ 42)
    let r : StimRun := { seq := d.seq, ring := d.ring, part := k, start := d.f 2 8 2, line := d.f 2 12 2
                         next := some (.entry (d.f 2 16 10)) }
    let s1 := { s with stm := { s.stm with run := some r } }
    let s2 := (s1.setFld F.STM_STAT.STATE 1).setFlag F.STM_STAT.DUAL (d.f 2 4 1 == 1)
    let s3 := (s2.setRegs R.STM_UNDERRUNS [0, 0, 0, 0]).setReg64 R.STM_RATE_LO acting
    s3.setFlag (F.MEM_PT_CFG.IN_USE k) true

def execStimStart (ring : Fin 64) (s : State) : Host.Outcome State Fault Refusal :=
  s.act (fun t => t.withStart ring 0x42 (fun d u => u.stimStart d))

def State.stimDual (s : State) : Bool := s.flag F.STM_STAT.DUAL

def State.setRun (s : State) (r : StimRun) : State := { s with stm := { s.stm with run := some r } }

/-- The lines that `n` frames of entry e take. -/
def State.entryLines (s : State) (r : StimRun) (e n : Nat) : List Nat :=
  (List.range (ceilDiv (n * stimFrame s.stimDual) 32)).map (· + (s.ptBase r.part + (s.seqEntry e).line))

/-- The poison lines among the frames that the head store takes (R481, R497). -/
def State.headPoison (s : State) (r : StimRun) : List Nat :=
  ((List.range (s.fld F.STM_SEQ_LEN.V)).filter (fun e => (s.seqEntry e).head)).flatMap (fun e =>
    (s.entryLines r e (min (s.seqEntry e).len 8192)).filter s.poisoned)

/-- The head store and the prefetch FIFO are filled (R481). -/
def State.stimFilled (s : State) : State :=
  match s.stm.run with
  | some r => if s.stimState == 1 && s.memActive then
      (s.setRun { r with headBad := s.headPoison r, relAt := s.time.elapsed }).setFld F.STM_STAT.STATE 2 else s
  | none => s

/-- STIM_READY (R481). -/
def execStimReady (s : State) : Host.Outcome State Fault Refusal := s.act State.stimFilled

/-- Source frames per DAC sample, in 2^-48 (R490). -/
def State.stimStep (s : State) : Nat := actingStep (s.reg64 R.STM_RATE_LO % 2 ^ 48)

/-- Boundary of the segment that plays: the first sample whose source position reaches the next segment (R484, R490). -/
def State.boundary (s : State) (r : StimRun) : Nat := ceilDiv (r.frames * 2 ^ 48) s.stimStep

/-- A sequence plays, and no cause has ended it (R498). -/
def State.plays (s : State) (r : StimRun) : Bool := s.stimState == 3 && r.ending.isNone

/-- A sequence plays its sample k: no cause ends it before (R498). -/
def State.reaches (s : State) (r : StimRun) (k : Nat) : Bool :=
  s.stimState == 3 && (match r.ending with | some e => Nat.blt k e.count | none => true)

/-- A pass of entry e begins at sample count k (R483, R492). -/
def State.passBegin (s : State) (r : StimRun) (e k : Nat) : State :=
  let x := s.seqEntry e
  let s1 := s.setRun { r with
    first := r.frames, frames := r.frames + x.len, next := none, acting := none, seen := []
    prev := if r.frames = 0 then none else some (s.fld F.STM_ENTRY.V, r.first) }
  let s2 := (s1.setFld F.STM_ENTRY.V e).setReg64 R.STM_SCOUNT_LO k
  if x.ramp then s2.rampGo x.rseg else s2

/-- The first sample count of the STIM cycle of sample k (R484). -/
def StimRun.cycleStart (r : StimRun) (k : Nat) : Nat := k - (k + r.phase) % 16

/-- The last sample of the STIM cycle of sample k, counted: samples played up to its end (Table 19.7). -/
def StimRun.cycleEnd (r : StimRun) (k : Nat) : Nat := k + 16 - (k + r.phase) % 16

/-- The sample count that a command names lies in the pass that plays. -/
def State.countAt (s : State) (r : StimRun) (k : Nat) : Nat := min (max k (s.reg64 R.STM_SCOUNT_LO)) (s.boundary r - 1)

/-- A core cycle of playback passes: STM_SCOUNT counts its samples, up to the next decision or boundary, whose own command
takes it on (R483, R484). -/
def State.countStim (s : State) : State :=
  match s.stm.run with
  | some r =>
    if s.plays r then
      let acc := r.acc + (s.dacRun : Int)
      let stop := if r.next.isNone then s.boundary r - 384 else s.boundary r - 1
      (s.setRun { r with acc := acc }).setReg64 R.STM_SCOUNT_LO
        (max (s.reg64 R.STM_SCOUNT_LO) (min (acc / (2 ^ 96 : Nat)).toNat stop))
    else s
  | none => s

/-- The outputs played: SO0, and SO1 in a dual sequence. -/
def State.stimOuts (s : State) : List Nat := if s.stimDual then [0, 1] else [0]

/-- The running under-run ends at sample count k (R496). -/
def State.underrunOver (s : State) (r : StimRun) (k : Nat) : State :=
  match r.under with
  | none => s
  | some k0 =>
    let held := k - k0
    let s1 := (s.setRun { r with under := none }).setFlag F.STM_STAT.UNDERRUN false
    let s2 := ((s1.setFlag F.STM_STAT.UNDERRUN_SEEN true).bump R.STM_UNDERRUNS).bumpSat F.STM_HELD.V held
    s2.each s.stimOuts (fun t o => t.raise 226 (o + 2 ^ 8 * satNat (2 ^ 24 - 1) (held / 64)) (t.routeRing r.ring))

/-- A descriptor by its fetch number, where there is one, completes with ABORTED. -/
def State.abortDesc (s : State) (q : Option Nat) : State :=
  match q.bind s.descOf with
  | some d => s.finish d .aborted []
  | none => s

/-- The last entry played (R500); open where none has. -/
def State.lastEntry (s : State) (r : StimRun) : Word × State :=
  if r.frames = 0 then
    let (v, t) := s.draw 10
    (v.zeroExtend 32, t)
  else (s.reg R.STM_ENTRY, s)

/-- The sequence ends with sample count k (R498, R500, Table 19.7). -/
def State.stimEnd (s : State) (r : StimRun) (code k : Nat) : State :=
  let s1 := ((s.underrunOver r k).abortDesc (r.acting.map (·.1))).abortDesc (r.jump.map (·.1))
  let st := if code = Status.ok.code && r.tainted then Status.degraded.code else code
  let (last, s2) := s1.lastEntry r
  let pay := [lo32 k, hi32 k, s2.reg R.STM_HELD, s2.reg R.STM_POISON, s2.reg R.STM_REACT_TAKEN, last]
  let s3 := ({ s2 with stm := { s2.stm with run := none } }).setReg64 R.STM_SCOUNT_LO k
  let s4 := ((s3.setFld F.STM_STAT.STATE 0).setFld F.STM_STAT.LOOP_DEPTH 0).setFld F.STM_STAT.CALL_DEPTH 0
  let s5 := ((s4.setFlag F.STM_STAT.DUAL false).setFlag (F.MEM_PT_CFG.IN_USE r.part) false).raise 225 st (s.routeRing r.ring)
  match s5.descOf r.seq with
  | some d => (s5.completeCode d st pay).flushRefused d.ring 8
  | none => s5

/-- A cause of the row `rank` of Table 19.7 falls in the STIM cycle of sample k and ends the sequence with a count: of two
causes of one STIM cycle the lower row decides, of two cycles the earlier one. -/
def StimRun.cause (r : StimRun) (rank code count k : Nat) : StimRun :=
  let c := (k + r.phase) / 16
  match r.ending with
  | some e => if c < e.cycle || (c = e.cycle && e.rank < rank) then { r with ending := some ⟨c, rank, code, count⟩ } else r
  | none => { r with ending := some ⟨c, rank, code, count⟩ }

/-- A sequence that a cause has ended ends once the core cycle of the cause has passed (R498). -/
def State.stimOver (s : State) : State :=
  match s.stm.run with
  | some r => (match r.ending with
    | some e => s.stimEnd r e.code e.count
    | none => s)
  | none => s

/-- An immediate end at sample k: at once before the first sample, at the end of the STIM cycle of sample k after it (R499,
Table 19.7). -/
def State.stimHalt (s : State) (r : StimRun) (rank code k : Nat) : State :=
  if s.stimState = 3 then s.setRun (r.cause rank code (r.cycleEnd (s.countAt r k)) (s.countAt r k)) else s.stimEnd r code 0

/-- The instant from which a release of kind `start` times the first sample: 500 ns after READY, 320 ns and DELAY after the
sampling edge, 384 DAC samples after a presentation (Table 19.5). -/
def State.firstDue (s : State) (start relAt : Nat) : Bool :=
  match start with
  | 0 => s.passed relAt (nanos 500)
  | 1 => s.passed relAt (nanos (320 + 10 * s.fld F.TIME_SYNC_CTL.DELAY))
  | _ => s.passed relAt (s.dacTime 384)

/-- STIM_FIRST_SAMPLE (R482, R483, R501): sample 0 falls `ofs` into the present core cycle. -/
def State.firstSample (s : State) (ofs phase : Nat) : State :=
  match s.stm.run with
  | none => s
  | some r =>
    match r.next with
    | some (.entry e) =>
      if s.stimState == 2 && (r.start == 0 || r.released) && s.firstDue r.start r.relAt then
        let s1 := (s.setFld F.STM_STAT.STATE 3).setTime R.STM_START_TIME_0 (s.instant ofs)
        let tag := match s.descOf r.seq with | some d => d.tag.toNat | none => 0
        let acc : Int := -((min ofs (s.cycleLen / 2 ^ 24) * 2 ^ 24 * s.dacFcw * 100000000 : Nat) : Int)
        (s1.passBegin { r with phase := if r.start = 1 then phase else 0, acc := acc } e 0).raise 224 tag (s.routeRing r.ring)
      else s
    | _ => s

def execStimFirstSample (ofs : Nat) (phase : Fin 16) (s : State) : Host.Outcome State Fault Refusal :=
  s.act (fun t => t.firstSample ofs phase)

/-- The loops that stay where control goes to entry n by a jump or a GOTO (R487). -/
def State.keptLoops (s : State) (l : List (Nat × Option Nat)) (n : Nat) : List (Nat × Option Nat) :=
  l.filter (fun e => Nat.ble (s.seqEntry e.1).target n && Nat.ble n e.1)

/-- What Table 19.4 does after entry e: the outcome with the loop stack and the call stack it leaves. -/
def State.stimCtrl (s : State) (r : StimRun) (e : Nat) : StimNext × List (Nat × Option Nat) × List (Nat × Nat) :=
  let x := s.seqEntry e
  let bad := Status.badDescriptor.code
  match x.ctrl with
  | 0 => (.entry (e + 1), r.loops, r.calls)
  | 1 => (.entry x.target, s.keptLoops r.loops x.target, r.calls)
  | 2 =>
    let fresh := if x.count = 1 then (StimNext.entry (e + 1), r.loops, r.calls)
      else if 4 ≤ r.loops.length then (.finish bad, r.loops, r.calls)
      else (.entry x.target, (e, if x.count = 0 then none else some (x.count - 1)) :: r.loops, r.calls)
    (match r.loops with
    | (o, left) :: l =>
      if o = e then
        match left with
        | none => (.entry x.target, r.loops, r.calls)
        | some n => if 1 < n then (.entry x.target, (e, some (n - 1)) :: l, r.calls) else (.entry (e + 1), l, r.calls)
      else fresh
    | [] => fresh)
  | 3 => if 2 ≤ r.calls.length then (.finish bad, r.loops, r.calls)
    else (.entry x.target, r.loops, (e + 1, r.loops.length) :: r.calls)
  | 4 => match r.calls with
    | (back, depth) :: c => (.entry back, r.loops.drop (r.loops.length - depth), c)
    | [] => (.finish bad, r.loops, [])
  | _ => (.finish Status.ok.code, r.loops, r.calls)

/-- A transfer to an entry beyond the table ends the sequence as END does (R478). -/
def State.inTable (s : State) : StimNext → StimNext
  | .entry e => if s.fld F.STM_SEQ_LEN.V ≤ e then .finish Status.ok.code else .entry e
  | x => x

/-- A latch has been presented before the decision sample. -/
def latched (d : Int) (p : Option Nat) : Bool :=
  match p with
  | some x => decide ((x : Int) < d)
  | none => false

def noLatch : Nat → Option Nat := fun _ => none

/-- The latch of a WAIT entry's condition (Table 19.4). -/
def StimRun.waitLatch (r : StimRun) (x : SeqEntry) : Option Nat :=
  match x.count % 4 with
  | 0 => SMap.get noLatch r.react x.rline
  | 1 => r.sync
  | _ => r.go

/-- Every latch presented before d clears (R485). -/
def StimRun.clearLatches (r : StimRun) (d : Int) : StimRun :=
  let keep := fun p => if latched d p then none else p
  { r with
    sync := keep r.sync, go := keep r.go
    react := (List.range 4).foldl (fun m l => SMap.set noLatch m l (keep (SMap.get noLatch r.react l))) r.react }

/-- Reactive latches presented before d, without the one used (R485). -/
def StimRun.drops (r : StimRun) (d : Int) (used : Option Nat) : Nat :=
  ((List.range 4).filter (fun l => latched d (SMap.get noLatch r.react l) && used != some l)).length

/-- The outcome that Table 19.6 selects at decision sample d: with it the run, the reactive line used and whether that
line's jump is taken. -/
def State.stimOutcome (s : State) (r : StimRun) (e : Nat) (d : Int) : StimRun × Option Nat × Bool :=
  let x := s.seqEntry e
  let jump := r.jump.filter (fun j => latched d (some j.2.2))
  if latched d r.stop then ({ r with next := some (.finish Status.ok.code) }, none, false)
  else match jump with
  | some (q, t, _) =>
    ({ r with next := some (.entry t), jump := none, acting := some (q, t), calls := [], loops := s.keptLoops r.loops t },
      none, false)
  | none =>
    if x.ren && latched d (SMap.get noLatch r.react x.rline) then
      ({ r with next := some (.entry x.rtarget), calls := [], loops := s.keptLoops r.loops x.rtarget }, some x.rline, true)
    else if x.ctrl = 5 then
      if latched d (r.waitLatch x) then
        ({ r with next := some (s.inTable (.entry (e + 1))) }, if x.count % 4 = 0 then some x.rline else none, false)
      else ({ r with next := some (.entry e) }, none, false)
    else
      let (n, l, c) := s.stimCtrl r e
      ({ r with next := some (s.inTable n), loops := l, calls := c }, none, false)

/-- STIM_DECISION_SAMPLE (R485, R486). -/
def State.stimDecide (s : State) : State :=
  match s.stm.run with
  | none => s
  | some r =>
    if !(s.reaches r (s.boundary r - 384)) || r.next.isSome then s
    else
      let d : Int := (s.boundary r : Int) - 384
      let (r1, used, taken) := s.stimOutcome r (s.fld F.STM_ENTRY.V) d
      let s1 := (s.setRun (r1.clearLatches d)).bumpBy R.STM_REACT_DROP (r.drops d used)
      let s2 := (s1.setFld F.STM_STAT.LOOP_DEPTH r1.loops.length).setFld F.STM_STAT.CALL_DEPTH r1.calls.length
      let s3 := s2.setReg64 R.STM_SCOUNT_LO d.toNat
      if taken then (s3.bump R.STM_REACT_TAKEN).raise 227 (used.getD 0) (s.routeRing r.ring) else s3

def execStimDecisionSample (s : State) : Host.Outcome State Fault Refusal := s.act State.stimDecide

/-- The STIM_JUMP that acts at boundary b completes (R488). -/
def State.jumpDone (s : State) (r : StimRun) (b time : Nat) : State :=
  match r.acting with
  | some (q, t) => match s.descOf q with
    | some d => s.finish d .ok (BitVec.ofNat 32 t :: lo32 b :: hi32 b :: eventTime time)
    | none => s
  | none => s

/-- STIM_SEGMENT_BOUNDARY (R484, R486, R488): the boundary falls `ofs` into the present core cycle. -/
def State.stimBoundary (s : State) (ofs : Nat) : State :=
  match s.stm.run with
  | none => s
  | some r =>
    if !(s.reaches r (s.boundary r)) then s
    else match r.next with
      | none => s
      | some (.finish code) =>
        s.setRun (r.cause (if code = Status.ok.code then 1 else 3) code (s.boundary r) (s.boundary r - 1))
      | some (.entry e) => (s.jumpDone r (s.boundary r) (s.instant ofs)).passBegin r e (s.boundary r)

def execStimSegmentBoundary (ofs : Nat) (s : State) : Host.Outcome State Fault Refusal :=
  s.act (fun t => t.stimBoundary ofs)

/-- The presentation sample of a request that reaches the sequencer with sample k (R484): before sample 0 it counts as
presented before every decision, and one that comes after a decision is not presented before it. -/
def State.presented (s : State) (r : StimRun) (k : Nat) : Nat :=
  if s.stimState = 3 then
    let p := r.cycleStart (s.countAt r k)
    if r.next.isSome then max p (s.boundary r - 384) else p
  else 0

/-- STIM_STOP (R499), arriving with sample k. -/
def State.stimStop (s : State) (d : Desc) (k : Nat) : State :=
  if s.stimBad d [(2, 1)] then s.finish d .badDescriptor []
  else match s.stm.run with
  | none => s.finish d .ok [0]
  | some r =>
    let s1 :=
      if s.stimState != 3 || d.f 2 0 1 = 1 then s.stimHalt r 4 Status.truncated.code k
      else s.setRun { r with stop := some (r.stop.getD (s.presented r k)) }
    s1.finish d .ok [1]

def execStimStop (ring : Fin 64) (sample : BitVec 64) (s : State) : Host.Outcome State Fault Refusal :=
  s.act (fun t => t.withStart ring 0x43 (fun d u => u.stimStop d sample.toNat))

/-- STIM_JUMP (R488), arriving with sample k. -/
def State.stimJump (s : State) (d : Desc) (k : Nat) : State :=
  let t := d.f 2 0 10
  if s.stimBad d [(2, 0x3FF)] || Nat.ble (s.fld F.STM_SEQ_LEN.V) t || !(s.seqEntry t).head || Nat.blt s.stimState 2 then
    s.finish d .badDescriptor []
  else match s.stm.run with
  | none => s.finish d .badDescriptor []
  | some r => (s.abortDesc (r.jump.map (·.1))).setRun { r with jump := some (d.seq, t, s.presented r k) }

def execStimJump (ring : Fin 64) (sample : BitVec 64) (s : State) : Host.Outcome State Fault Refusal :=
  s.act (fun t => t.withStart ring 0x44 (fun d u => u.stimJump d sample.toNat))

/-- A release of kind `start`, timed from an instant of elapsed time (Table 19.5), reaches the sequencer: it is missed in
LOADING, releases in READY, and is left for its latch otherwise. -/
def State.stimRelease (s : State) (r : StimRun) (start t : Nat) : State × Bool :=
  if r.start != start || r.released then (s, false)
  else if s.stimState == 1 then (s.setFlag F.STM_STAT.MISSED_RELEASE true, true)
  else if s.stimState == 2 then (s.setRun { r with released := true, relAt := t }, true)
  else (s, false)

/-- STIM_GO (R482, R489), arriving with sample k. -/
def State.stimGo (s : State) (d : Desc) (k : Nat) : State :=
  if s.stimBad d [] then s.finish d .badDescriptor []
  else match s.stm.run with
  | none => s.finish d .ok [0]
  | some r =>
    let (s1, taken) := s.stimRelease r 3 s.time.elapsed
    let s2 := if taken || s.stimState == 1 then s1 else s1.setRun { r with go := some (r.go.getD (s.presented r k)) }
    s2.finish d .ok [if s.stimState == 1 then 0 else 1]

def execStimGo (ring : Fin 64) (sample : BitVec 64) (s : State) : Host.Outcome State Fault Refusal :=
  s.act (fun t => t.withStart ring 0x45 (fun d u => u.stimGo d sample.toNat))

/-- The SYNC release reaches the sequencer with sample k, from a sampling edge at an instant of elapsed time (R482, R485). -/
def State.stimSync (s : State) (k edge : Nat) : State :=
  match s.stm.run with
  | none => s
  | some r =>
    let (s1, taken) := s.stimRelease r 1 edge
    if taken || s.stimState == 1 then s1 else s1.setRun { r with sync := some (r.sync.getD (s.presented r k)) }

/-- The entry that plays would use a latch of reactive line l (R485). -/
def State.usesLine (s : State) (l : Nat) : Bool :=
  let x := s.seqEntry (s.fld F.STM_ENTRY.V)
  x.rline == l && (x.ren || (x.ctrl == 5 && x.count % 4 == 0))

/-- An event of reactive line l reaches the sequencer (R482, R485): presented at or after the decision sample of the
segment that plays, it waits for the next, with E228. -/
def State.stimReact (s : State) (l k : Nat) : State :=
  match s.stm.run with
  | none => s
  | some r =>
    let (s1, taken) := if r.line = l then s.stimRelease r 2 s.time.elapsed else (s, false)
    if taken || s.stimState == 1 then s1
    else
      let q := s.presented r k
      let old := SMap.get noLatch r.react l
      let s2 := s1.setRun { r with react := SMap.set noLatch r.react l (some (old.getD q)) }
      if s.plays r && old.isNone && s.usesLine l && !(latched ((s.boundary r : Int) - 384) (some q)) then
        s2.raise 228 l (s.routeRing r.ring)
      else s2

/-- The entry and the place in its segment of source frame j of the stream, among the pass that plays, the one before it and
the one decided to follow: none outside the stream (R490). -/
def State.frameAt (s : State) (r : StimRun) (j : Int) : Option (Nat × Nat) :=
  if (r.frames : Int) ≤ j then
    match r.next with
    | some (.entry e) => some (e, (j - r.frames).toNat)
    | _ => none
  else if (r.first : Int) ≤ j then some (s.fld F.STM_ENTRY.V, (j - r.first).toNat)
  else match r.prev with
    | some (e, f) => if (f : Int) ≤ j then some (e, (j - f).toNat) else none
    | none => none

/-- Frame i of entry e is in the head store (R481). -/
def State.inHead (s : State) (e i : Nat) : Bool := (s.seqEntry e).head && Nat.blt i 8192

/-- The source frame of sample k, and its place after it in 2^-48 (R490). -/
def State.sourceFrame (s : State) (k : Nat) : Nat := k * s.stimStep / 2 ^ 48
def State.sourcePhase (s : State) (k : Nat) : Nat := k * s.stimStep % 2 ^ 48

/-- The source frames that sample k takes: its own with one frame per sample, the 8 around its position otherwise (R490). -/
def State.frames (s : State) (k : Nat) : List Int :=
  let j : Int := s.sourceFrame k
  if s.stimStep = 2 ^ 48 then [j] else (List.range 8).map (fun i => j + (i : Int) - 3)

/-- A frame that sample k takes must come from the prefetch FIFO, not from the head store (R481, R495). -/
def State.needsFifo (s : State) (r : StimRun) (k : Nat) : Bool :=
  (s.frames k).any (fun j => match s.frameAt r j with
    | some (e, i) => !(s.inHead e i)
    | none => false)

/-- The prefetchers keep every frame and vector present before it falls due: the stacks are active, the real-time write
demand is within budget and no memory clock change runs (R495). -/
def State.fetchKept (s : State) : Bool := s.memActive && s.clk.memNext.isNone && !(s.flag F.MEM_STAT.OVER_BUDGET)

/-- STIM_UNDERRUN_START (R495, R496): the frame of sample k is missing when it falls due. -/
def State.underrunStart (s : State) (k : Nat) : State :=
  match s.stm.run with
  | some r => if s.plays r && r.under.isNone && !s.fetchKept && s.countAt r k == k && s.needsFifo r k then
      (s.setRun { r with under := some k, tainted := true }).setFlag F.STM_STAT.UNDERRUN true else s
  | none => s

def execStimUnderrunStart (k : BitVec 64) (s : State) : Host.Outcome State Fault Refusal :=
  s.act (fun t => t.underrunStart k.toNat)

/-- STIM_UNDERRUN_END (R496): playback resumes with the STIM cycle of sample k, whose frames the FIFO or the head store
holds; reads wait while the stacks are not active. -/
def State.underrunEnd (s : State) (k : Nat) : State :=
  match s.stm.run with
  | some r => if s.plays r && s.countAt r k == k && r.cycleStart k == k && Nat.blt (r.under.getD k) k
        && (s.memActive || (List.range 16).all (fun i => !(s.needsFifo r (k + i)))) then s.underrunOver r k else s
  | none => s

def execStimUnderrunEnd (k : BitVec 64) (s : State) : Host.Outcome State Fault Refusal :=
  s.act (fun t => t.underrunEnd k.toNat)

/-- The line of capture memory with frame i of entry e (Table 19.2). -/
def State.frameLine (s : State) (r : StimRun) (e i : Nat) : Nat :=
  s.ptBase r.part + (s.seqEntry e).line + i * stimFrame s.stimDual / 32

/-- Frame i of entry e plays as a poison line's (R481, R497). -/
def State.framePoison (s : State) (r : StimRun) (e i : Nat) : Bool :=
  if s.inHead e i then r.headBad.contains (s.frameLine r e i) else s.poisoned (s.frameLine r e i)

/-- STIM_POISON_LINE (R497): a poison line of the pass that plays, counted once in a pass. -/
def State.stimPoison (s : State) (l : Nat) : State :=
  match s.stm.run with
  | some r =>
    let e := s.fld F.STM_ENTRY.V
    let i := (l - s.frameLine r e 0) * (32 / stimFrame s.stimDual)
    if s.plays r && r.under.isNone && Nat.ble (s.frameLine r e 0) l && Nat.blt i (s.seqEntry e).len && s.framePoison r e i
        && !(r.seen.contains l) then
      ((s.setRun { r with tainted := true, seen := l :: r.seen }).bumpSat F.STM_POISON.V 1).raise 230 l (s.routeRing r.ring)
    else s
  | none => s

def execStimPoisonLine (line : Nat) (s : State) : Host.Outcome State Fault Refusal := s.act (fun t => t.stimPoison line)

/-- The idle code of an output: -8192 acts as -8191 (R472, Table 19.2). -/
def State.soIdle (s : State) (o : Nat) : Int := max (-8191) (s.sfld (F.STM_SO_IDLE.CODE o))

/-- An output's code before saturation, from the resampler's x (R491). -/
def State.soRaw (s : State) (o : Nat) (x : Int) : Int :=
  roundShr (x * (s.fld (F.STM_SO_GAIN.GAIN o) : Nat)) 15 + s.sfld (F.STM_SO_OFF.OFF o)

def State.soCode (s : State) (o : Nat) (x : Int) : Int := clampInt (-8191) 8191 (s.soRaw o x)

/-- The SOo word of frame i of entry e (Table 19.2). -/
def State.soWord (s : State) (r : StimRun) (e i o : Nat) : Nat :=
  bytesNat (s.memBytes (32 * (s.ptBase r.part + (s.seqEntry e).line) + i * stimFrame s.stimDual + 2 * o) 2)

/-- The code with which source frame j enters the resampler: the idle code on a poison line; none outside the stream (R490,
R497). -/
def State.frameCode (s : State) (r : StimRun) (o : Nat) (j : Int) : Option Int :=
  (s.frameAt r j).map (fun f =>
    if s.framePoison r f.1 f.2 then s.soIdle o else max (-8191) (signed 14 (s.soWord r f.1 f.2 o / 4)))

/-- The resampler's value for sample k on output o (R490): the source frame's code with one frame per sample, else the
interpolation of the 8 frames around its position, whose coefficients the spec does not give as numbers (log entry 99). -/
def State.resampled (s : State) (r : StimRun) (o k : Nat) : Int :=
  if s.stimStep = 2 ^ 48 then (s.frameCode r o (s.sourceFrame k)).getD 0
  else Config.resample ((s.frames k).map (s.frameCode r o)) (s.sourcePhase k)

/-- Sample k of the pass that plays is its frame's word and not an idle code: no under-run, and with one frame per sample no
poison line (R472, R473, R496, R497). -/
def State.sounds (s : State) (r : StimRun) (o k : Nat) : Bool :=
  s.plays r && r.under.isNone && (o == 0 || s.stimDual)
    && (s.stimStep != 2 ^ 48 || (match s.frameAt r (s.sourceFrame k) with
      | some (e, i) => !(s.framePoison r e i)
      | none => false))

/-- The code that output o holds at sample count k of the pass that plays (R472, R490, R491). -/
def State.soOut (s : State) (o k : Nat) : Int :=
  match s.stm.run with
  | some r => if s.sounds r o k then s.soCode o (s.resampled r o k) else s.soIdle o
  | none => s.soIdle o

/-- The level of marker m at the same sample, after inversion (R472, R473, R490, R493, R497). -/
def State.mkOut (s : State) (m k : Nat) : Bool :=
  let play := match s.stm.run with
    | some r =>
      if s.plays r && r.under.isNone && (Nat.blt m 2 || s.stimDual) then
        match s.frameAt r (s.sourceFrame k) with
        | some (e, i) => !(s.framePoison r e i) && getBits (BitVec.ofNat 32 (s.soWord r e i (m / 2))) (m % 2) 1 == 1
        | none => false
      else false
    | none => false
  play != s.flag (F.STM_MK_CTL.INV m)

/-- Delay of SOo and of MKm from the reference instant to the ball, in DAC periods (R493). -/
def State.soDelay (s : State) (o : Nat) : Rat := (s.fld (F.STM_SO_DLY.COARSE o) : Nat) + (s.fld (F.STM_SO_DLY.FINE o) : Nat) / 256
def State.mkDelay (s : State) (m : Nat) : Rat := (s.fld (F.STM_MK_CTL.COARSE m) : Nat) + (s.fld (F.STM_MK_CTL.FINE m) : Nat) / 64

/-- Instants after sample 0, in seconds, at which sample k reaches SOo's and MKm's ball at a constant DAC rate (R483, R493). -/
def State.soInstant (s : State) (o k : Nat) : Rat := ((k : Nat) + s.soDelay o) * 2 ^ 32 / ((s.dacFcw : Nat) * 100000000)
def State.mkInstant (s : State) (m k : Nat) : Rat := ((k : Nat) + s.mkDelay m) * 2 ^ 32 / ((s.dacFcw : Nat) * 100000000)

/-- The flag SATo. -/
def satFld (o : Nat) : Fld := if o = 0 then F.STM_STAT.SAT0 else F.STM_STAT.SAT1

/-- STIM_SATURATION (R491): sample k of output o saturates. -/
def State.stimSat (s : State) (o k : Nat) : State :=
  match s.stm.run with
  | some r =>
    if s.countAt r k == k && s.sounds r o k && s.soCode o (s.resampled r o k) != s.soRaw o (s.resampled r o k) then
      s.raiseOnce (satFld o) 231 o (s.routeRing r.ring)
    else s
  | none => s

def execStimSaturation (out : Fin 2) (k : BitVec 64) (s : State) : Host.Outcome State Fault Refusal :=
  s.act (fun t => t.stimSat out k.toNat)

end Sys2Proof.Machine
end

