-- ==== Sys2Proof/Machine/Pattern.lean ====
section
/-!
DEFINITION. Pattern pins and timing sets (ch. 20): loading, runs, vector boundaries with their timing-set switches and
edges, under-runs, the ends of a run, and the meanings of PAT_LOAD, PAT_LOAD_COMPLETE, PAT_TSET_LOAD, PAT_START,
PAT_READY, PAT_FIRST_PERIOD, PAT_VECTOR_BOUNDARY, PAT_STOP, PAT_GO, PAT_UNDERRUN_START, PAT_UNDERRUN_END, PAT_POISON_LINE,
and of REACTIVE_EVENT_PRESENT and X8R_RECENTRE, which both players share.
-/
namespace Sys2Proof.Machine

/-- State of the run (Table 20.9a): 0 IDLE, 1 LOADING, 2 READY, 3 PLAYING. -/
def State.patState (s : State) : Nat := s.fld F.PAT_STAT2.STATE

/-- A pattern descriptor of the wrong function or context (R510). -/
def State.patForeign (s : State) (d : Desc) : Bool :=
  s.ringOwner d.ring != actsOwner (s.fld F.PAT_CTL.OWNER) || d.context != 15

/-- Such a descriptor, or one with a bit outside its fields. -/
def State.patBad (s : State) (d : Desc) (masks : List (Nat × Word)) : Bool := s.patForeign d || !(d.reservedClear 2 masks)

def execPatLoad (ring : Fin 64) (s : State) : Host.Outcome State Fault Refusal :=
  s.act (fun t => t.withStart ring 0x50 (fun d u => u.loadStart d (u.patBad d loadMasks) 5 (u.pat.run.map (·.part))))

def execPatLoadComplete (ring : Fin 64) (data : List Word) (s : State) : Host.Outcome State Fault Refusal :=
  s.act (fun t => t.loadDone ring 0x50 data)

/-- A pin word of a timing set (Table 20.3). -/
def pinFmt (w : Word) : Nat := getBits w 28 2
def pinE0 (w : Word) : Nat := getBits w 0 7
def pinE1 (w : Word) : Nat := getBits w 8 7
def pinE2 (w : Word) : Nat := getBits w 16 7

/-- The edges of a pin word are in the order of Table 20.4. -/
def pinOrdered (w : Word) : Bool :=
  match pinFmt w with
  | 0 => true
  | 3 => Nat.blt (pinE0 w) (pinE1 w) && Nat.blt (pinE1 w) (pinE2 w)
  | _ => Nat.blt (pinE1 w) (pinE2 w)

/-- The 64 words of a timing set fail a check of R511. -/
def tsetBad (w : List Word) : Bool :=
  (dwAt w 0 &&& 0xFC000000#32) != 0 || getBits (dwAt w 0) 0 26 == 0
    || (List.range 31).any (fun i => dwAt w (i + 1) != 0)
    || (List.range 32).any (fun p => (dwAt w (32 + p) &&& 0xCF808080#32) != 0 || !(pinOrdered (dwAt w (32 + p))))

/-- PAT_TSET_LOAD (R511): `w` are the words that the host memory holds at HADDR, 64 per set named. -/
def State.tsetLoad (s : State) (d : Desc) (w : List Word) : State :=
  let sets := bitsSet (d.f 2 0 16) 16
  let part := fun (i : Nat) => (List.range 64).map (fun j => dwAt w (64 * i + j))
  if s.patForeign d then s.finish d .badDescriptor []
  else if s.patState != 0 then (s.raise 229 0x200 (s.routeRing d.ring)).finish d .refusedPlaying []
  else if !(d.reservedClear 2 [(2, 0xFFFF), (8, 0xFFFFFFFF), (9, 0xFFFFFFFF)]) || d.haddrBad || sets.isEmpty
      || (List.range sets.length).any (fun i => tsetBad (part i)) then s.finish d .badDescriptor []
  else
    let s1 := sets.zipIdx.foldl (fun t e => t.setRegs (R.PAT_TS e.1 0) (part e.2)) s
    (s1.setReg R.PAT_TSVALID (s1.reg R.PAT_TSVALID ||| BitVec.ofNat 32 (d.f 2 0 16))).finish d .ok
      [BitVec.ofNat 32 (d.f 2 0 16)]

def execPatTsetLoad (ring : Fin 64) (sets : List Word) (s : State) : Host.Outcome State Fault Refusal :=
  s.act (fun t => t.withStart ring 0x51 (fun d u => u.tsetLoad d sets))

/-- The status with which a PAT_START fails, if any (R512). -/
def State.patStatus (s : State) (d : Desc) : Option Status :=
  let k := d.f 2 0 4
  if s.patBad d [(2, 0x370F), (3, 0x7FFFFFFF), (4, 0xFFFFFFFF), (5, 0xFFFF), (6, 0xFFFFFFFF), (7, 0xFFFFFFFF)]
      || d.n 4 = 0 || Nat.blt 4 (d.f 2 8 3) || !(s.flag ⟨R.PAT_TSVALID, 0, 1⟩) then some .badDescriptor
  else if s.partBad d k 5 || Nat.blt (s.ptLen k) (d.f 3 0 31 + ceilDiv (d.n 4) 2) then some .partitionFault
  else if s.patState != 0 || s.loading 0x50 k || !(s.locked 3) then some .busy
  else none

def State.setPat (s : State) (r : PatRun) : State := { s with pat := { s.pat with run := some r } }

/-- PAT_START (R512, R518): the run enters LOADING. -/
def State.patStart (s : State) (d : Desc) : State :=
  match s.patStatus d with
  | some st => s.finish d st []
  | none =>
    let r : PatRun := { seq := d.seq, ring := d.ring, part := d.f 2 0 4, first := d.f 3 0 31, count := d.n 4
                        loops := d.f 5 0 16, start := d.f 2 8 3, line := d.f 2 12 2, scount := dw64 d.dw 6 }
    let s1 := (s.setPat r).setFld F.PAT_STAT2.STATE 1
    let s2 := ((s1.setReg R.PAT_HELD 0).setReg R.PAT_POISON 0).setReg R.PAT_TSREFUSED 0
    ((s2.setReg R.PAT_UNDERRUNS 0).setReg64 R.PAT_VCOUNT_LO 0).setFlag (F.MEM_PT_CFG.IN_USE r.part) true

def execPatStart (ring : Fin 64) (s : State) : Host.Outcome State Fault Refusal :=
  s.act (fun t => t.withStart ring 0x52 (fun d u => u.patStart d))

/-- PAT_READY (R512): the prefetch FIFO is filled. -/
def State.patFilled (s : State) : State :=
  match s.pat.run with
  | some r => if s.patState == 1 && s.memActive then
      (s.setPat { r with relAt := s.time.elapsed }).setFld F.PAT_STAT2.STATE 2 else s
  | none => s

def execPatReady (s : State) : Host.Outcome State Fault Refusal := s.act State.patFilled

/-- Dwords of vector i of a run (R502). -/
def State.vector (s : State) (r : PatRun) (i : Nat) : List Word :=
  bytesWords (s.readBytes (32 * (s.ptBase r.part + r.first) + 16 * i) 16)

/-- The line that holds vector i is poison (R517). -/
def State.vectorPoison (s : State) (r : PatRun) (i : Nat) : Bool :=
  s.poisoned (s.ptBase r.part + r.first + i / 2)

/-- Periods of vector i (Table 20.2). -/
def State.periods (s : State) (r : PatRun) (i : Nat) : Nat := getBits (dwAt (s.vector r i) 2) 16 16 + 1

/-- Drive code of pin p (Table 20.1). -/
def driveCode (v : List Word) (p : Nat) : Nat := getBits (dwAt v (p / 16)) (2 * (p % 16)) 2

/-- PERIOD of timing set t, in 1/1,024 DAC period. -/
def State.tsPeriod (s : State) (t : Nat) : Nat := getBits (s.reg (R.PAT_TS t 0)) 0 26

/-- A timing set may take effect at a DAC rate given as FCW (R509): it is loaded and its period is 0.8 ns or more. -/
def State.tsGood (s : State) (t fcw : Nat) : Bool :=
  natBit (s.reg R.PAT_TSVALID).toNat t && Nat.ble (8192 * fcw) (s.tsPeriod t * 2 ^ 32 * 100)

/-- The edges that a pin schedules for a drive code, in units of T_V / 128, each with the level it leaves, none where it
turns the driver off (Table 20.4, R506). -/
def pinSteps (w : Word) (code : Nat) : List (Nat × Option Bool) :=
  let b := code == 1
  match code with
  | 3 => []
  | 2 => [(pinE1 w, none)]
  | _ =>
    match pinFmt w with
    | 0 => [(pinE1 w, some b)]
    | 1 => if b then [(pinE1 w, some true), (pinE2 w, some false)] else [(pinE1 w, some false)]
    | 2 => if b then [(pinE1 w, some true)] else [(pinE1 w, some false), (pinE2 w, some true)]
    | _ => [(pinE0 w, some (!b)), (pinE1 w, some b), (pinE2 w, some (!b))]

def pinEdges (w : Word) (code : Nat) : List Nat := (pinSteps w code).map (·.1)

/-- Two edges `x` apart, in 1/131,072 DAC period, lie less than 200 ps apart at a DAC rate given as FCW (R508). -/
def narrowGap (fcw x : Nat) : Bool := Nat.blt (x * 2 ^ 32 * 10000) (200 * 131072 * fcw)

/-- Narrow pairs of a list of ascending instants. -/
def narrowPairs (fcw : Nat) : List Nat → Nat
  | a :: b :: l => (if narrowGap fcw (b - a) then 1 else 0) + narrowPairs fcw (b :: l)
  | _ => 0

/-- Narrow pairs of one pin over n periods of a vector that began at `base` with period t_v = 128 `period` and the edges
`part` of one more, and its last edge. -/
def pinNarrow (fcw base period n : Nat) (last : Option Nat) (edges part : List Nat) : Nat × Option Nat :=
  let whole := match edges.reverse with
    | [] => (0, last)
    | e :: _ =>
      if n = 0 then (0, last)
      else
        let at0 := edges.map (fun x => base + x * period)
        let lead := match last with | some x => narrowPairs fcw (x :: at0) | none => narrowPairs fcw at0
        let again := narrowPairs fcw ((base + e * period) :: edges.map (fun x => base + 128 * period + x * period))
        (lead + (n - 1) * again, some (base + 128 * period * (n - 1) + e * period))
  let rest := whole.2.toList ++ part.map (fun x => base + 128 * period * n + x * period)
  (whole.1 + narrowPairs fcw rest, rest.getLast?)

/-- The outcome of n periods of the present vector and `rem` of another, in 1/131,072 DAC period, on every pin: narrow pairs,
last edges, drivers and levels. -/
def State.patPlay (s : State) (r : PatRun) (n rem fcw : Nat) : State × PatRun :=
  let t := s.fld F.PAT_STAT.TS
  let period := s.tsPeriod t
  let r1 := { r with base := r.base + 128 * period * n + rem }
  if r.quiet then (s, r1)
  else
    let v := s.vector r r.vec
    let pins := (List.range 32).map (fun p =>
      let w := s.reg (R.PAT_TS t (32 + p))
      let all := pinSteps w (driveCode v p)
      let part := all.filter (fun e => Nat.blt (e.1 * period) rem)
      (p, (if n = 0 then part else all ++ part).getLast?,
        pinNarrow fcw r.base period n (SMap.get noLatch r.last p) (all.map (·.1)) (part.map (·.1))))
    let narrow : Nat := pins.foldl (fun a x => a + x.2.2.1) 0
    let last := pins.foldl (fun m x => SMap.set noLatch m x.1 x.2.2.2) r.last
    let on := pins.foldl (fun a x => match x.2.1 with | some e => putBit a x.1 e.2.isSome | none => a) s.pat.on
    let high := pins.foldl (fun a x => match x.2.1 with | some (_, some b) => putBit a x.1 b | _ => a) s.pat.high
    let s1 := { s with pat := { s.pat with on := on, high := high } }
    (if 0 < narrow then (s1.setFlag F.PAT_STAT.NARROW true).bumpBy R.PAT_NARROW narrow else s1, { r1 with last := last })

/-- The pins take the idle codes, K acting as Z (R516). -/
def State.patIdle (s : State) : State :=
  let v := [s.reg R.PAT_IDLE_LO, s.reg R.PAT_IDLE_HI]
  let ps := List.range 32
  { s with pat := { s.pat with
    on := bitsOf (ps.filter (fun p => Nat.blt (driveCode v p) 2))
    high := bitsOf (ps.filter (fun p => driveCode v p == 1)) } }

/-- The under-run of a run ends (R517). -/
def State.patUnderOver (s : State) (r : PatRun) : State :=
  if s.flag F.PAT_STAT.UNDERRUN then
    (((s.setFlag F.PAT_STAT.UNDERRUN false).setFlag F.PAT_STAT.UNDERRUN_SEEN true).bump R.PAT_UNDERRUNS).raise 234 r.held
      (s.routeRing r.ring)
  else s

/-- The run ends with a status code (R518, Table 20.7). While STIM has no clock the pins keep their state (R94). -/
def State.patEnd (s : State) (r : PatRun) (code : Nat) : State :=
  let st := if code = Status.ok.code && r.tainted then Status.degraded.code else code
  let s1 := s.patUnderOver r
  let pay := [s1.reg R.PAT_VCOUNT_LO, s1.reg R.PAT_VCOUNT_HI, s1.reg R.PAT_HELD, s1.reg R.PAT_POISON,
    s1.reg R.PAT_TSREFUSED, BitVec.ofNat 32 r.pass]
  let s2 := ({ s1 with pat := { s1.pat with run := none } }).setFld F.PAT_STAT2.STATE 0
  let s3 := if s2.clk.stimOn then s2.patIdle else s2
  let s4 := (s3.setFlag (F.MEM_PT_CFG.IN_USE r.part) false).raise 233 st (s.routeRing r.ring)
  match s4.descOf r.seq with
  | some d => (s4.completeCode d st pay).flushRefused d.ring 8
  | none => s4

/-- The poison line counted last, where vector i lies in it too and follows at once (R517). -/
def PatRun.notedAt (r : PatRun) (i : Nat) : Option Nat := if i % 2 = 1 && r.vec + 1 = i then r.noted else none

/-- REPEAT of a poison line's vector is open (log entry 99). -/
def State.vectorReps (s : State) (r : PatRun) (i : Nat) : Nat × State :=
  if s.vectorPoison r i then
    let (v, t) := s.draw 16
    (v.toNat + 1, t)
  else (s.periods r i, s)

/-- Vector i becomes the one that plays: its timing set takes effect or is refused (R503, R509, R517). -/
def State.vectorBegin (s : State) (r : PatRun) (i fcw : Nat) : State :=
  let v := s.vector r i
  let (n, s0) := s.vectorReps r i
  let r0 := { r with vec := i, reps := n, noted := r.notedAt i }
  if s.flag F.PAT_STAT.UNDERRUN then s0.setPat { r0 with quiet := true, missed := true }
  else if s.vectorPoison r i then s0.setPat { r0 with quiet := true, missed := false }
  else
    let odd := (dwAt v 2 &&& 0xFFF0#32) != 0 || dwAt v 3 != 0
    let s1 := s0.setPat { r0 with quiet := false, missed := false, rsvd := r.rsvd || odd }
    let s2 := if odd && !r.rsvd then s1.setFlag F.PAT_STAT.RSVD_SEEN true else s1
    let t := getBits (dwAt v 2) 0 4
    if s2.tsGood t fcw then s2.setFld F.PAT_STAT.TS t
    else (s2.bump R.PAT_TSREFUSED).raise 235 t (s.routeRing r.ring)

/-- The running sequence plays its sample k in the present core cycle (R513, Table 20.6). -/
def State.stimCrosses (s : State) (k : Nat) : Bool :=
  match s.stm.run with
  | some r =>
    let x : Int := ((k * 2 ^ 96 : Nat) : Int)
    s.stimState == 3 && decide (r.acc ≤ x) && decide (x < r.acc + s.dacRun) && s.reaches r k
      && (match r.next with | some (.finish _) => Nat.blt k (s.boundary r) | _ => true)
  | none => false

/-- The release of a run has arrived, and its first period is due (Table 20.6). -/
def State.patDue (s : State) (r : PatRun) : Bool :=
  if r.start = 4 then r.released || s.stimCrosses r.scount
  else (r.start == 0 || r.released) && s.firstDue r.start r.relAt

/-- Where in the present core cycle the first period begins: with START=4 at the reference instant of sample SCOUNT, else
`ofs` units of 2^-40 s into it. -/
def State.patOfs (s : State) (r : PatRun) (ofs : Nat) : Nat :=
  match s.stm.run with
  | some q =>
    if r.start = 4 && s.stimCrosses r.scount then
      (((r.scount * 2 ^ 96 : Nat) : Int) - q.acc).toNat / (s.dacFcw * 100000000 * 2 ^ 24)
    else min ofs (s.cycleLen / 2 ^ 24)
  | none => min ofs (s.cycleLen / 2 ^ 24)

/-- Position of the first period in its STIM cycle (Tables 19.5 and 20.6). -/
def State.patPhase (s : State) (r : PatRun) (phase : Nat) : Nat :=
  match r.start with
  | 1 => phase
  | 4 => (r.scount + ((s.stm.run.map (·.phase)).getD 0)) % 16
  | _ => 0

/-- PAT_FIRST_PERIOD (R513, R515). -/
def State.firstPeriod (s : State) (ofs phase : Nat) : State :=
  match s.pat.run with
  | none => s
  | some r =>
    if s.patState == 2 && s.patDue r then
      let x := s.patOfs r ofs
      let s1 := ((s.setFld F.PAT_STAT2.STATE 3).setFld F.PAT_STAT.TS 0).setTime R.PAT_START_TIME_0 (s.instant x)
      let tag := match s.descOf r.seq with | some d => d.tag.toNat | none => 0
      let acc : Int := -((x * 2 ^ 24 * s.dacFcw * 100000000 : Nat) : Int)
      (s1.vectorBegin { r with acc := acc, phase := s.patPhase r phase } 0 s.dacFcw).raise 232 tag (s.routeRing r.ring)
    else s

def execPatFirstPeriod (ofs : Nat) (phase : Fin 16) (s : State) : Host.Outcome State Fault Refusal :=
  s.act (fun t => t.firstPeriod ofs phase)

/-- The periods since the run started, of which n belong to the vector that plays. -/
def State.showPeriods (s : State) (r : PatRun) (n : Nat) : State :=
  s.setReg64 R.PAT_VCOUNT_LO (max (s.reg64 R.PAT_VCOUNT_LO) (r.done + n))

/-- Length of the vector that plays, and a period of it, in 1/131,072 DAC period. -/
def State.periodLen (s : State) : Nat := 128 * s.tsPeriod (s.fld F.PAT_STAT.TS)
def State.vectorLen (s : State) (r : PatRun) : Nat := r.reps * s.periodLen

/-- A cause of the row `rank` of Table 20.7 falls at position `at0` of the run, in 1/131,072 DAC period, and ends it at
`count`. -/
def PatRun.cause (r : PatRun) (rank code count at0 : Nat) : PatRun :=
  let c := (at0 / 131072 + r.phase) / 16
  match r.ending with
  | some e => if c < e.cycle || (c = e.cycle && e.rank < rank) then { r with ending := some ⟨c, rank, code, count⟩ } else r
  | none => { r with ending := some ⟨c, rank, code, count⟩ }

/-- The vector that plays ends after n periods and `rem` of another: its edges, its periods, and those held (R517). -/
def State.vectorDone (s : State) (r : PatRun) (n rem fcw : Nat) : State × PatRun :=
  let (s1, r1) := s.patPlay r n rem fcw
  let h := if r.missed then n + (if rem = 0 then 0 else 1) else 0
  ((s1.showPeriods r n).bumpSat F.PAT_HELD.V h, { r1 with
    done := r.done + n, held := satNat 0xFFFFFFFF (r.held + h)
    acc := r.acc - ((n * s.tsPeriod (s.fld F.PAT_STAT.TS) * 2 ^ 86 : Nat) : Int) })

/-- The under-run ends at a vector boundary once the FIFO has caught up (R517). -/
def State.patResume (s : State) (r : PatRun) : State × PatRun :=
  if r.caught then (s.patUnderOver r, { r with caught := false, held := 0 }) else (s, r)

/-- PAT_VECTOR_BOUNDARY (R509, R512, R514): all periods of the present vector have been played. -/
def State.vectorBoundary (s : State) : State :=
  match s.pat.run with
  | none => s
  | some r =>
    if s.patState != 3 || (match r.ending with | some e => Nat.ble e.count (r.base + s.vectorLen r) | none => false) then s
    else
      let fcw := s.dacFcw
      let (s1, r1) := s.vectorDone r r.reps 0 fcw
      let wrap := r1.vec + 1 == r1.count
      let r2 := if wrap then { r1 with pass := r1.pass + 1 } else r1
      if wrap && r2.pass == r2.loops && r2.loops != 0 then s1.setPat (r2.cause 1 Status.ok.code r2.base (r2.base - 1))
      else if r2.stop then s1.setPat (r2.cause 2 Status.ok.code r2.base (r2.base - 1))
      else
        let (s2, r3) := s1.patResume r2
        s2.vectorBegin r3 (if wrap then 0 else r3.vec + 1) fcw

def execPatVectorBoundary (s : State) : Host.Outcome State Fault Refusal := s.act State.vectorBoundary

/-- The run ends at a position within the vector that plays. -/
def State.patCut (s : State) (r : PatRun) (code count : Nat) : State :=
  let x := count - r.base
  let (s1, r1) := s.vectorDone r (x / s.periodLen) (x % s.periodLen) s.dacFcw
  (s1.setPat r1).patEnd r1 code

/-- A run that a cause has ended ends once the core cycle of the cause has passed (R518). -/
def State.patOver (s : State) : State :=
  match s.pat.run with
  | some r => (match r.ending with
    | some e => s.patCut r e.code e.count
    | none => s)
  | none => s

/-- The position in the run, in 1/131,072 DAC period, `x` DAC periods after the vector that plays began, and not before the
present core cycle. -/
def State.patAt (s : State) (r : PatRun) (x : Nat) : Nat :=
  r.base + min (s.vectorLen r) (131072 * max x (r.acc / (2 ^ 96 : Nat)).toNat)

/-- A run is stopped `x` DAC periods after the vector that plays began: it ends at the next STIM cycle boundary (R514), before
its first period at once. -/
def State.patHalt (s : State) (r : PatRun) (rank code x : Nat) : State :=
  if s.patState = 3 then
    let p := s.patAt r x
    s.setPat (r.cause rank code ((16 * ((p / 131072 + r.phase) / 16 + 1) - r.phase) * 131072) p)
  else s.patEnd r code

/-- A core cycle of a run passes: PAT_VCOUNT counts the periods played, and a run with START=4 that waits is released, or its
release is missed, as the sequence reaches its sample (R513). -/
def State.countPat (s : State) : State :=
  match s.pat.run with
  | some r =>
    if s.patState = 3 && r.ending.isNone then
      let acc := r.acc + (s.dacRun : Int)
      (s.setPat { r with acc := acc }).showPeriods r
        (min r.reps ((acc / (2 ^ 86 : Nat)).toNat / max 1 (s.tsPeriod (s.fld F.PAT_STAT.TS))))
    else if r.start = 4 && s.stimCrosses r.scount then
      (if s.patState = 1 then s.setFlag F.PAT_STAT.MISSED_RELEASE true else s.setPat { r with released := true })
    else s
  | none => s

/-- A core cycle of the players passes (R483, R498, R513, R518). -/
def State.countPlay (s : State) : State := s.countPat.countStim.stimOver.patOver

/-- PAT_STOP (R514), `x` DAC periods after the vector that plays began. -/
def State.patStop (s : State) (d : Desc) (x : Nat) : State :=
  if s.patBad d [(2, 1)] then s.finish d .badDescriptor []
  else match s.pat.run with
  | none => s.finish d .ok [0]
  | some r =>
    let s1 := if d.f 2 0 1 = 1 then s.patHalt r 3 Status.truncated.code x
      else if s.patState != 3 then s.patEnd r Status.ok.code
      else s.setPat { r with stop := true }
    s1.finish d .ok [1]

def execPatStop (ring : Fin 64) (pos : Nat) (s : State) : Host.Outcome State Fault Refusal :=
  s.act (fun t => t.withStart ring 0x53 (fun d u => u.patStop d pos))

/-- A release of kind `start`, timed from an instant of elapsed time (Table 20.6), reaches the PAT block; whether it released
the run. -/
def State.patRelease (s : State) (r : PatRun) (start t : Nat) : State × Bool :=
  if r.start != start || r.released then (s, false)
  else if s.patState == 1 then (s.setFlag F.PAT_STAT.MISSED_RELEASE true, false)
  else if s.patState == 2 then (s.setPat { r with released := true, relAt := t }, true)
  else (s, false)

/-- PAT_GO (R514). -/
def State.patGo (s : State) (d : Desc) : State :=
  if s.patBad d [] then s.finish d .badDescriptor []
  else match s.pat.run with
  | none => s.finish d .ok [0]
  | some r =>
    let (s1, ok) := s.patRelease r 3 s.time.elapsed
    s1.finish d .ok [if ok then 1 else 0]

def execPatGo (ring : Fin 64) (s : State) : Host.Outcome State Fault Refusal :=
  s.act (fun t => t.withStart ring 0x54 (fun d u => u.patGo d))

/-- The SYNC release reaches the PAT block, from a sampling edge at an instant of elapsed time. -/
def State.patSync (s : State) (edge : Nat) : State :=
  match s.pat.run with
  | some r => (s.patRelease r 1 edge).1
  | none => s

/-- An event of reactive line l reaches the PAT block. -/
def State.patReact (s : State) (l : Nat) : State :=
  match s.pat.run with
  | some r => if r.line = l then (s.patRelease r 2 s.time.elapsed).1 else s
  | none => s

/-- PAT_UNDERRUN_START (R495, R517): the vector that falls due next is missing. -/
def State.patUnderStart (s : State) : State :=
  match s.pat.run with
  | some r => if s.patState == 3 && r.ending.isNone && !(s.flag F.PAT_STAT.UNDERRUN) && !s.fetchKept then
      (s.setPat { r with tainted := true, held := 0 }).setFlag F.PAT_STAT.UNDERRUN true else s
  | none => s

def execPatUnderrunStart (s : State) : Host.Outcome State Fault Refusal := s.act State.patUnderStart

/-- PAT_UNDERRUN_END (R517): the FIFO has caught up, and the vector that falls due next plays; reads wait while the stacks are
not active. -/
def State.patUnderEnd (s : State) : State :=
  match s.pat.run with
  | some r => if s.flag F.PAT_STAT.UNDERRUN && s.memActive then s.setPat { r with caught := true } else s
  | none => s

def execPatUnderrunEnd (s : State) : Host.Outcome State Fault Refusal := s.act State.patUnderEnd

/-- PAT_POISON_LINE (R517): the line of the vector that plays as a poison line's, counted once. -/
def State.patPoison (s : State) (l : Nat) : State :=
  match s.pat.run with
  | some r =>
    if s.patState == 3 && r.quiet && !r.missed && l == s.ptBase r.part + r.first + r.vec / 2 && r.noted != some l then
      ((s.setPat { r with tainted := true, noted := some l }).bumpSat F.PAT_POISON.V 1).raise 236 l (s.routeRing r.ring)
    else s
  | none => s

def execPatPoisonLine (line : Nat) (s : State) : Host.Outcome State Fault Refusal := s.act (fun t => t.patPoison line)

/-- Delay of the pins from a scheduled instant to the ball, in DAC periods (R515). -/
def State.pinDelay (s : State) : Rat := (s.fld F.PAT_DLY.COARSE : Nat) + (s.fld F.PAT_DLY.FINE : Nat) / 64

/-- Instant at the ball of an edge scheduled at a position in 1/131,072 DAC period, in seconds from the start of the first
period at a constant DAC rate (R505, R507, R515). -/
def State.pinInstant (s : State) (p : Nat) : Rat := ((p : Nat) / 131072 + s.pinDelay) * 2 ^ 32 / ((s.dacFcw : Nat) * 100000000)

/-- REACTIVE_EVENT_PRESENT (R251): the oldest event due on a line reaches the players; with sample k.
So does one presented while X8R has slipped (log entry 83). -/
def State.reactPresent (s : State) (l k : Nat) : State :=
  match s.trg.reacts.find? (fun x => x.line == l && s.passed x.ripe 0) with
  | some x => (({ s with trg := { s.trg with reacts := s.trg.reacts.erase x } }).stimReact l k).patReact l
  | none => s

def execReactiveEventPresent (line : Fin 4) (sample : BitVec 64) (s : State) : Host.Outcome State Fault Refusal :=
  s.act (fun t => t.reactPresent line sample.toNat)

/-- X8R_RECENTRE (Table 1.6): the stimulus sequencer has stopped. -/
def execX8rRecentre (s : State) : Host.Outcome State Fault Refusal :=
  s.act (fun t => if t.stimState == 0 then { t with inp := { t.inp with x8rSlipped := false } } else t)

end Sys2Proof.Machine
end

