-- ==== Sys2Proof/Machine/Peers.lean ====
section
/-!
DEFINITION. Chassis peers (ch. 17): trigger line edges with their stamps and pass-through, software pulses, and the peer
bus with its frames, states, partner table and broadcasts.
-/
namespace Sys2Proof.Machine

/-- Output line k (4 to 12) passes digital line `s` through, which is not its own (Table 17.1, R427). -/
def State.passes (s : State) (out line : Nat) : Bool := s.outSrc out == 9 + line && s.outDriven out

/-- An edge of a pass-through output at a tide time. -/
def State.putEdge (s : State) (out : Nat) (rising : Bool) (t : Nat) : State :=
  { s with peer := { s.peer with
    edges := ⟨out, rising != s.outInv out, t % 2 ^ 80⟩ :: s.peer.edges, passLevel := putBit s.peer.passLevel out rising } }

/-- An output reproduces an edge of its line (R425, R426). -/
def State.passEdge (s : State) (out : Nat) (rising : Bool) (tball : Nat) : State :=
  s.putEdge out rising (tball + (fsTime ((25000000 + s.outDelay out * 8000 : Nat) : Rat)).toNat)

/-- An active pass-through output returns to inactive at once: SAMPLE stops, or its source is given up (R427). -/
def State.passIdle (s : State) (out : Nat) : State :=
  if natBit s.peer.passLevel out then s.putEdge out false s.now else s

/-- An edge at a digital line, `ago` steps of 8 ps before now (R212, R214, R425, R428). -/
def State.triggerEdge (s : State) (line : Nat) (rising : Bool) (ago : Nat) : State :=
  let (s1, kept) := s.lineEdge line rising ago
  if kept then
    let tball := (((s.now : Int) + fsTime (-((ago * 8000 : Nat) : Rat))) % (2 ^ 80 : Nat)).toNat
    let s2 := if rising then s1.setTime (R.PEER_STAMP_0 line) tball else s1
    s2.each ((List.range 13).filter (fun o => Nat.ble 4 o && s2.passes o line)) (fun t o => t.passEdge o rising tball)
  else s1

/-- TRIGGER_LINE_EDGE (R212, R428). -/
def execTriggerLineEdge (line : Fin 13) (rising : Bool) (ago : Nat) (s : State) : Host.Outcome State Fault Refusal :=
  s.act (fun t => t.triggerEdge line rising ago)

/-- Offset of the control register of output `out`: 0 to 7 CT, 8 STAR_OUT. -/
def outReg (out : Nat) : Nat := if out < 8 then R.PEER_CTO_CTL out else R.PEER_STAR_CTL

/-- Tide time of the first core-cycle boundary at least 100 ns from now (Table 17.1). -/
def State.softEdge (s : State) : Nat :=
  s.tideOf (s.time.idx + s.perCycle * ((100000000 : Rat) / s.corePeriod).ceil.toNat)

/-- In each core cycle the control registers of the outputs act as they were last written (Table 17.10). A pass-through that
is given up leaves its line inactive. -/
def State.applyOuts (s : State) : State :=
  s.each (List.range 9) (fun t m =>
    let v := t.reg (outReg m)
    if t.outCtl m = v then t
    else
      let t1 := if t.outSrc (m + 4) = getBits v 0 5 then t else t.passIdle (m + 4)
      { t1 with peer := { t1.peer with outs := SMap.set (fun _ => 0x800#32) t1.peer.outs m v } })

/-- A write to an output's control register; PULSE=1 sends one software pulse where the SRC written is 22 (R425). -/
def State.outWrite (s : State) (out : Nat) (v : Word) : State :=
  let s1 := s.plainWrite (outReg out) v
  if getBits v 5 1 = 1 && getBits (s1.reg (outReg out)) 0 5 == 22 then s1.pulseDue (out + 4) s1.softEdge else s1

/-- PEER_SOFT_PULSE (R425). -/
def execPeerSoftPulse (out : Fin 9) (value : Word) (s : State) : Host.Outcome State Fault Refusal :=
  s.act (fun t => t.outWrite out (value ||| 0x20#32))

/-- The module's identity (R433). -/
def State.peerId (s : State) : Nat := s.reg64 R.PEER_ID_LO

def State.peerState (s : State) : Nat := s.fld F.PEER_STAT.STATE

def State.setPeerState (s : State) (x : Nat) : State := s.setFld F.PEER_STAT.STATE x

/-- Fields of a partner entry (Table 17.6). -/
def State.entryValid (s : State) (e : Nat) : Bool := getBits (s.reg (R.PARTNER e 0)) 31 1 == 1
def State.entrySeat (s : State) (e : Nat) : Nat := getBits (s.reg (R.PARTNER e 0)) 24 6
def State.entryId (s : State) (e : Nat) : Nat := s.reg64 (R.PARTNER e 1)

/-- PARTNERS counts the valid entries. -/
def State.showPartners (s : State) : State :=
  s.setFld F.PEER_STAT.PARTNERS ((List.range 64).filter s.entryValid).length

/-- The lowest seat that no valid entry holds. -/
def State.freeSeat (s : State) : Option Nat :=
  (List.range 64).find? (fun k => (List.range 64).all (fun e => !(s.entryValid e) || s.entrySeat e != k))

/-- The module takes the lowest free seat; its roll periods start with the LFSR at its seed (R433, R434). -/
def State.takeSeat (s : State) : State :=
  match s.freeSeat with
  | some k =>
    let s1 := (s.setFld F.PEER_STAT.SEAT k).setPeerState 2
    { s1 with peer := { s1.peer with lfsr := lfsrSeed (s1.reg R.PEER_ID_LO), seatAt := s1.time.elapsed, rolls := 0 } }
  | none => s.setPeerState 3

/-- The module enters LISTEN (Table 17.3). -/
def State.startListen (s : State) : State :=
  ({ s with peer := { s.peer with listenAt := s.time.elapsed } }).setPeerState 1

/-- OFF: the partner table is cleared (Table 17.3). -/
def State.peerOff (s : State) : State :=
  let s1 := s.each (List.range 64) (fun t e => t.setRegs (R.PARTNER e 0) [0, 0, 0, 0])
  (({ s1 with peer := { s1.peer with rollAt := [], noRoom := [], leaving := false } }).setPeerState 0).showPartners

/-- From OFF the module listens where EN is 1. -/
def State.peerListen (s : State) : State :=
  if s.flag F.PEER_CTL.EN && s.peerState == 0 then s.startListen else s

/-- A write to PEER_CTL (R433): EN=0 leaves the bus, a SEATED module after its LEAVE frame. -/
def State.peerCtlWrite (s : State) (v : Word) : State :=
  let s1 := s.plainWrite R.PEER_CTL v
  if s1.flag F.PEER_CTL.EN then s1.peerListen
  else if s1.peerState == 2 then { s1 with peer := { s1.peer with leaving := true } }
  else s1.peerOff

def execPeerCtlWrite (value : Word) (s : State) : Host.Outcome State Fault Refusal :=
  s.act (fun t => t.peerCtlWrite value)

/-- PEER_LISTEN_END (R433): 8 ms after the entry into LISTEN. -/
def State.listenEnd (s : State) : State :=
  if s.peerState == 1 && s.since s.peer.listenAt 8000 then s.takeSeat else s

def execPeerListenEnd (s : State) : Host.Outcome State Fault Refusal := s.act State.listenEnd

/-- The bus may be used: REF100_IN is present (R429). -/
def State.busLive (s : State) : Bool := !(s.flag F.CLK_STAT.REF_ABSENT)

/-- The bus has been idle for `gap` and the own seat's bit times of 10 ns: it is idle two bit times after the last
transition (R431). -/
def State.busFree (s : State) (gap : Nat) : Bool :=
  Nat.ble s.peer.busEnd s.time.elapsed
    && Nat.ble ((2 + gap + s.fld F.PEER_STAT.SEAT) * 2 ^ 64) ((s.time.elapsed - s.peer.busEnd) * 100000000)

/-- Transitions are seen on the bus for another `ns` ns. -/
def State.busBusy (s : State) (ns : Nat) : State :=
  { s with peer := { s.peer with busEnd := s.time.elapsed + ns * 2 ^ 64 / 1000000000 } }

/-- Offset of the ROLL frame in its roll period, in µs (R434). -/
def State.rollOffset (s : State) : Nat := s.peer.lfsr.toNat % 900

/-- The ROLL frame that is sent next has been due for `us` µs: its roll period is counted from the taking of the seat
(R434). -/
def State.rollDue (s : State) (us : Nat) : Bool := s.since s.peer.seatAt (1000 * s.peer.rolls + s.rollOffset + us)

/-- The bytes of a frame (Table 17.2) with 16 bytes of payload. -/
def frameBytes (type seat seq : Nat) (payload : List Byte) : List Byte :=
  let body := natBytes (type + seat * 2 ^ 4 + seq * 2 ^ 10) 2 ++ payload
  [0x55#8, 0x55#8, 0xD5#8] ++ body ++ wordBytes (crc32c body)

/-- A frame of 200 bits is sent; SEQ counts (R430, Table 17.2). -/
def State.sendFrame (s0 : State) (type : Nat) (payload : List Byte) : State :=
  let s := s0.busBusy 2000
  { s with peer := { s.peer with
    sent := frameBytes type (s.fld F.PEER_STAT.SEAT) s.peer.seq payload :: s.peer.sent, seq := (s.peer.seq + 1) % 64 } }

/-- STATE of a ROLL frame (Table 17.4). -/
def State.rollState (s : State) : Nat :=
  bitsOf ((List.range 9).filter (fun m => s.outDriven (m + 4))) + (if s.flag F.TIME_STAT.PPS_LOCKED then 2 ^ 9 else 0)
    + (if s.isLeader then 2 ^ 10 else 0) + (if s.isFollower then 2 ^ 11 else 0) + (if s.compat then 2 ^ 12 else 0)

/-- ROLL and LEAVE payload (Table 17.4). -/
def State.rollPayload (s : State) (state : Nat) : List Byte :=
  natBytes s.peerId 8 ++ natBytes 0x0096 2 ++ natBytes state 2 ++ natBytes 0 4

/-- ROLL_FRAME_SEND (R431, R434): one frame in each roll period, from its offset on; a frame that has waited 500 µs takes the
gap of a TRIG frame. -/
def State.rollSend (s : State) : State :=
  if s.peerState == 2 && s.busLive && !s.peer.leaving && s.rollDue 0 && s.busFree (if s.rollDue 500 then 4 else 72) then
    let s1 := s.sendFrame 0 (s.rollPayload s.rollState)
    { s1 with peer := { s1.peer with lfsr := lfsrStep s1.peer.lfsr, rolls := s1.peer.rolls + 1 } }
  else s

def execRollFrameSend (s : State) : Host.Outcome State Fault Refusal := s.act State.rollSend

/-- TRIG payload (Table 17.5). -/
def TrigFrame.payload (x : TrigFrame) : List Byte :=
  natBytes x.tide 10 ++ natBytes (x.frac % 1024 + x.kind * 2 ^ 10 + x.ctx * 2 ^ 12) 2 ++ natBytes (x.segment % 2 ^ 26) 4

/-- TRIG_FRAME_SEND (R431, R438); a ROLL frame that has waited 500 µs goes first (R434). -/
def State.trigSend (s : State) : State :=
  match s.peer.txq with
  | x :: r =>
    if s.peerState == 2 && s.busLive && !s.peer.leaving && !(s.rollDue 500) && s.busFree 4 then
      ({ s with peer := { s.peer with txq := r } }).sendFrame 1 x.payload
    else s
  | [] => s

def execTrigFrameSend (s : State) : Host.Outcome State Fault Refusal := s.act State.trigSend

/-- LEAVE_FRAME_SEND (R433): the one LEAVE frame, and then OFF. -/
def State.leaveSend (s : State) : State :=
  if s.peer.leaving && s.busLive && s.busFree 72 then ((s.sendFrame 2 (s.rollPayload 0)).peerOff).peerListen else s

def execLeaveFrameSend (s : State) : Host.Outcome State Fault Refusal := s.act State.leaveSend

/-- A partner entry is invalidated (R436): an identity may be reported again, and a seat may have become free. -/
def State.freeEntry (s : State) (e : Nat) : State :=
  let s1 := ((s.setReg (R.PARTNER e 0) (putBits (s.reg (R.PARTNER e 0)) 31 1 0)).showPartners).raisePF 257 e
  let s2 := { s1 with peer := { s1.peer with noRoom := [] } }
  if s2.peerState == 3 then s2.takeSeat else s2

/-- PARTNER_AGE_OUT (R436): the age of an entry has reached 8 ms. -/
def State.ageOut (s : State) (e : Nat) : State :=
  if s.entryValid e && s.since (SMap.get zero s.peer.rollAt e) 8000 then s.freeEntry e else s

/-- Every entry whose age has reached 8 ms is invalidated (R436). -/
def State.ageAll (s : State) : State := s.each (s.peer.rollAt.map (·.1)) State.ageOut

def execPartnerAgeOut (entry : Fin 64) (s : State) : Host.Outcome State Fault Refusal := s.act (fun t => t.ageOut entry)

/-- The valid entry of an identity. -/
def State.entryOf (s : State) (id : Nat) : Option Nat :=
  (List.range 64).find? (fun e => s.entryValid e && s.entryId e == id)

/-- An entry takes what a ROLL frame carries (Table 17.6). -/
def State.setEntry (s : State) (e seat seq id caps state : Nat) (dup : Bool) : State :=
  let dw0 := BitVec.ofNat 32 (2 ^ 31 + (if dup then 2 ^ 30 else 0) + seat * 2 ^ 24 + seq * 2 ^ 16 + state)
  let s1 := s.setRegs (R.PARTNER e 0) [dw0, lo32 id, hi32 id, BitVec.ofNat 32 (caps * 2 ^ 16)]
  ({ s1 with peer := { s1.peer with rollAt := SMap.set zero s1.peer.rollAt e s1.time.elapsed } }).showPartners

/-- The partner table takes a ROLL frame (R436). -/
def State.tableRoll (s : State) (seat seq id caps state : Nat) : State :=
  match s.entryOf id with
  | some e =>
    let clash := s.entrySeat e != seat
    let s1 := s.setEntry e seat seq id caps state (clash || getBits (s.reg (R.PARTNER e 0)) 30 1 == 1)
    if clash then s1.raisePF 259 e else s1
  | none =>
    match (List.range 64).find? (fun e => !(s.entryValid e)) with
    | some e => (s.setEntry e seat seq id caps state false).raisePF 256 e
    | none =>
      if s.peer.noRoom.contains id then s
      else ({ s with peer := { s.peer with noRoom := id :: s.peer.noRoom } }).raisePF 258 (id % 2 ^ 32)

/-- In NO_SEAT a seat that has become free is taken (Table 17.3). -/
def State.seatFree (s : State) : State := if s.peerState == 3 && s.freeSeat.isSome then s.takeSeat else s

/-- An accepted ROLL frame (R435, R436). -/
def State.rollRx (s : State) (seat seq id caps state : Nat) : State :=
  if s.peerState == 2 && id == s.peerId then (s.setFlag F.PEER_STAT.DUP_ID true).raisePF 259 0x3F
  else
    let s1 := if s.peerState == 2 && seat == s.fld F.PEER_STAT.SEAT && Nat.blt id s.peerId
      then (s.bump R.PEER_SEATCHG).startListen else s
    (s1.tableRoll seat seq id caps state).seatFree

/-- The valid entry whose partner holds a seat. -/
def State.entryAt (s : State) (seat : Nat) : Option Nat :=
  (List.range 64).find? (fun e => s.entryValid e && s.entrySeat e == seat)

/-- A receive-ring entry (Table 17.7) for a TRIG payload. -/
def State.brxEntry (s : State) (e : Option Nat) (p : List Byte) : List Word :=
  let tide := bytesNat (p.take 10)
  let w := bytesNat ((p.drop 10).take 2)
  let id := e.elim 0 s.entryId
  [BitVec.ofNat 32 (w % 1024 * 2 ^ 16 + w / 2 ^ 10 % 4 * 2 ^ 12 + w / 2 ^ 12 % 4 * 2 ^ 8 + e.getD 0x3F), lo32 id, hi32 id,
   lo32 tide, hi32 tide, BitVec.ofNat 32 (tide / 2 ^ 64), BitVec.ofNat 32 (bytesNat ((p.drop 12).take 4) % 2 ^ 26),
   lo32 s.now]

/-- SEQ of a partner's entry follows its last accepted frame (Table 17.6). -/
def State.noteSeq (s : State) (e : Option Nat) (seq : Nat) : State :=
  match e with
  | some k => s.setReg (R.PARTNER k 0) (putBits (s.reg (R.PARTNER k 0)) 16 6 seq)
  | none => s

/-- An accepted TRIG frame (R439). -/
def State.trigRx (s : State) (seat seq : Nat) (p : List Byte) : State :=
  let e := s.entryAt seat
  let s1 := s.noteSeq e seq
  let w := s1.reg R.PEER_BRX_WPTR
  if !(s1.flag F.PEER_CTL.RX_EN) then s1
  else if w - s1.reg R.PEER_BRX_RPTR = 64#32 then s1.bump R.PEER_BRX_LOST
  else ((s1.setRegs (R.BRX (w.toNat % 64) 0) (s1.brxEntry e p)).bump R.PEER_BRX_WPTR).raisePF 261 (e.getD 0x3F)

/-- A frame is rejected (R430). -/
def State.frameReject (s : State) : State :=
  let s1 := s.bump R.PEER_REJECT
  s1.raiseOnce F.PEER_STAT.REJECT_SEEN 260 (s1.fld F.PEER_REJECT.V % 2 ^ 16) routePF

/-- A frame's delimiter, TYPE and CRC are correct (R430). -/
def frameGood (b : List Byte) : Bool :=
  let body := (b.drop 3).take 18
  b.length == 25 && b.getD 2 0 == 0xD5#8 && Nat.blt (bytesNat (body.take 1) % 16) 3
    && b.drop 21 == wordBytes (crc32c body)

/-- A frame has been received, its last bit just now: it is accepted or rejected (R429, R430, R435, R436, R439). -/
def State.frameRx (s0 : State) (b : List Byte) : State :=
  let s := (s0.busBusy 0).ageAll
  if s.peerState == 0 || !(s.flag F.PEER_CTL.EN) || !s.busLive then s
  else if !(frameGood b) then s.frameReject
  else
    let h := bytesNat ((b.drop 3).take 2)
    let p := (b.drop 5).take 16
    let id := bytesNat (p.take 8)
    match h % 16 with
    | 0 => s.rollRx (h / 16 % 64) (h / 1024) id (bytesNat ((p.drop 8).take 2)) (bytesNat ((p.drop 10).take 2))
    | 1 => s.trigRx (h / 16 % 64) (h / 1024) p
    | _ =>
      match s.entryOf id with
      | some e => s.freeEntry e
      | none => s

/-- ROLL_FRAME_RX (R436). -/
def execRollFrameRx (frame : List Byte) (s : State) : Host.Outcome State Fault Refusal := s.act (fun t => t.frameRx frame)

/-- TRIG_FRAME_RX (R439). -/
def execTrigFrameRx (frame : List Byte) (s : State) : Host.Outcome State Fault Refusal := s.act (fun t => t.frameRx frame)

/-- LEAVE_FRAME_RX (R436). -/
def execLeaveFrameRx (frame : List Byte) (s : State) : Host.Outcome State Fault Refusal := s.act (fun t => t.frameRx frame)

/-- PEER_FRAME_REJECT (R430). -/
def execPeerFrameReject (frame : List Byte) (s : State) : Host.Outcome State Fault Refusal :=
  s.act (fun t => t.frameRx frame)

/-- A harvest descriptor runs (R442). -/
def State.harvestRuns (s : State) : Bool :=
  !s.hif.harvests.isEmpty || (List.range 8).any (fun f => match s.gang f with
    | some g => !g.harvests.isEmpty
    | none => false)

/-- A write to a peer window register (R442). -/
def State.peerWindowWrite (s : State) (off : Nat) (v : Word) : State := if s.harvestRuns then s else s.plainWrite off v

/-- A write to PEER_BRX_RPTR: a value beyond WPTR is discarded (Table 17.11). -/
def State.rptrWrite (s : State) (v : Word) : State :=
  if (v - s.reg R.PEER_BRX_RPTR).toNat ≤ (s.reg R.PEER_BRX_WPTR - s.reg R.PEER_BRX_RPTR).toNat
  then s.setReg R.PEER_BRX_RPTR v else s

/-- AGE of a partner entry (Table 17.6), in µs. -/
def State.entryAge (s : State) (e : Nat) : Nat :=
  satNat 0xFFFF ((s.time.elapsed - SMap.get zero s.peer.rollAt e) * 1000000 / 2 ^ 64)

/-- SAMPLE stops: pass-through outputs return to inactive (R427). -/
def State.passStop (s : State) : State := s.each ((List.range 9).map (· + 4)) State.passIdle

end Sys2Proof.Machine
end

