-- ==== Sys2Proof/Machine/Sample.lean ====
section
/-!
DEFINITION. What SAMPLE stopping, restarting and changing mode does to every block (R45, R57, R105, R120), the sync point
(ch. 04), fixed-crossing slips (R21), and the meanings of INP_MODE_WRITE, MODE_CHANGE_COMPLETE,
SYNC_POINT, CROSSING_SLIP and X2_RECENTRE.
-/
namespace Sys2Proof.Machine

/-- SAMPLE stops: ramps, checks, fades, foreground calibrations and symbol lock end, passes are cut, pass-through outputs
go inactive (R57, R105, R137, R165, R178, R189, R264, R333, R427). -/
def State.sampleStop (s : State) : State :=
  if s.frozen then s
  else (((s.stopSample.endRamps.stopChecks.endFades s.stopSample.time.frames).fgStop).symStop.cutPans.passStop).monRefresh

/-- The intake routing, the bandwidth and the correction sets of the new mode take effect at the core cycle that is
beginning; `i` is the index of its first strobe (Table 2.5). Each mode's sets have their own home. -/
def State.route (s : State) (i : Nat) : State :=
  let s1 := { s.endRamps with inp := { s.inp with route := s.fld F.INP_MODE.MODE, routed := true } }
  (({ s1 with time := { s1.time with idx := i } }).moveEdges (s.time.idx + s.tapAhead) i s.perCycle s1.perCycle).decRestart i

/-- The increment of the rate in force (R101). -/
def State.setInc (s : State) : State := s.setReg64 R.TIME_INC_LO (tideInc s.clk.div s.clk.fcwInt s.clk.fcwFrac)

/-- A gap measured at a change of CORE clock source, in 2^-64 s (R102). -/
def State.addGap (s : State) (gap : Nat) : State :=
  { s with time := { s.time with tide := (s.time.tide + gap) % 2 ^ 104 } }

/-- What begins again once a mode is in force: convergence, the symbol trigger, monitor windows (R55, R173, R263). Queued
swap requests act at the next frame boundary (R189). -/
def State.modeSettled (s : State) (frame : Nat) : State := (s.convergenceStart frame).symRestart.monRestart

/-- SAMPLE starts: its first index (R105), one epoch in every bank together with a mode change that waits (R45), and every
path, detector and sweep again (R128, R135, R217, R585). -/
def State.sampleStart (s : State) : State :=
  if !s.frozen then s
  else
    let s1 := s.setInc.startSample
    let i := s1.time.idx
    let s2 := if s1.flag F.INP_MODE_STAT.CHANGING && !s1.inp.routed then s1.route i else s1.decRestart i
    let s2 := if s.time.strobed then s2.openAllEpochs else s2.openFirstEpochs
    let s3 := (s2.restartSweeps (s2.frameNow false)).resumeFallback.restartDets
    if s3.flag F.INP_MODE_STAT.CHANGING then s3 else s3.modeSettled (s3.frameNow false)

/-- A write to INP_MODE is discarded: a context is armed, no such mode, a mode change runs, or a foreground calibration
(R9, R44, R45, R178, Table 2.3). -/
def State.modeLocked (s : State) (m : Nat) : Bool :=
  s.anyArmed || m == 3 || s.flag F.INP_MODE_STAT.CHANGING || s.fld F.CAL_STAT.FG_ACTIVE != 0

/-- A write to INP_MODE (R44, R45, Table 2.5). -/
def State.inpModeWrite (s : State) (v : Word) : State :=
  let m := getBits v 0 2
  if s.modeLocked m || m = s.fld F.INP_MODE.MODE then s
  else
    let s1 := (s.setFld F.INP_MODE.MODE m).setFlag F.INP_MODE_STAT.CHANGING true
    let s2 := { s1 with inp := { s1.inp with routed := false } }
    ((s2.endFades (s2.frameNow true + 1)).symStop.cutPans).monRefresh

def execInpModeWrite (value : Word) (s : State) : Host.Outcome State Fault Refusal := s.act (fun t => t.inpModeWrite value)

/-- MODE_CHANGE_COMPLETE: 10 us after the routing switch with SAMPLE running (Table 2.5, R173). -/
def State.modeComplete (s : State) : State :=
  if s.flag F.INP_MODE_STAT.CHANGING && s.inp.routed && !s.frozen then
    let m := s.fld F.INP_MODE.MODE
    let s1 := (s.setFlag F.INP_MODE_STAT.CHANGING false).setFld F.INP_MODE_STAT.ACTIVE_MODE m
    let s2 := s1.raisePF 105 m
    (s2.restartSweeps (s2.frameNow true + 1)).modeSettled (s2.frameNow true + 1)
  else s

def execModeChangeComplete (s : State) : Host.Outcome State Fault Refusal := s.act State.modeComplete

/-- What the equaliser and the decimators hold by index, counted from an index `d` higher; words on record fall, as their
labels come again (R105). -/
def DecSt.rebase (x : DecSt) (d : Nat) : DecSt :=
  { x with
    delays := x.delays.map (fun (e : Nat × List DelayStep) => (e.1, e.2.map (fun y => { y with start := y.start - d })))
    paths := x.paths.map (fun (e : Nat × List PathStep) => (e.1, e.2.map (fun y => { y with start := y.start - d })))
    restarts := x.restarts.map (fun (e : Nat × List Restart) =>
      (e.1, e.2.map (fun y => { y with start := y.start - d, valid := y.valid - d })))
    words := [] }

/-- ZERO_IDX: the first strobe of this core cycle takes index 0 (R105, Table 4.2). The words before it keep their labels
down to the tap point, which counts from 0 as that strobe's word reaches it; edges of digital lines keep their instants
(R213). -/
def State.zeroIdx (s : State) : State :=
  let d := s.time.idx
  { s with
    time := { s.time with idx := 0, past := s.time.past.map (fun e => { e with idx := e.idx - (d : Int) }) }
    dec := s.dec.rebase d
    trg := { s.trg with zeros := s.trg.zeros ++ [(s.time.cycle + 43 + s.dT, d)], fires := [] } }

/-- An edge accepted in the present core cycle is discarded: the servo keeps r, and PPS_LOCKED, PPS_MISSING, SLEW_CLAMPED,
STEPPED and DELTA_SAT are as before it (R119). -/
def State.undoEdge (s : State) : State :=
  match s.time.undo with
  | some u =>
    if u.cycle = s.time.cycle then
      u.regs.foldl (fun t e => t.setReg e.1 e.2)
        ({ s with time := { s.time with servoF := u.servoF, goodEdges := u.goodEdges, due := u.due } }.setReg R.TIME_STAT
          ((s.reg R.TIME_STAT &&& 0xFFFFFF1A#32) ||| (u.stat &&& 0xE5#32)))
    else s
  | none => s

/-- LOAD_TIME (R119, Table 4.2). -/
def State.loadTime (s : State) : State :=
  let t := s.regWide R.TIME_SYNC_LOAD_0 3 % 2 ^ 80
  let sec := t / 2 ^ 40 + 1
  let s1 := s.undoEdge
  ({ s1 with time := { s1.time with
    tide := t * 2 ^ 24, expected := sec * 2 ^ 40 % 2 ^ 80, rejects := 0
    oldGrid := some ⟨s.time.cycle, s.now, s.time.expected, s.time.stepped⟩ } }).setPpsSec sec

/-- ALIGN_CLK: SAMPLE stops and starts again by the gap method (R120). -/
def State.alignClk (s : State) (gap : Nat) : State := (s.sampleStop.addGap gap).sampleStart

/-- The actions that a SYNC's bits select, in the bit order of Table 4.5; bit 0 is the phase reset. -/
def State.syncSelected (s : State) : Nat := 1 + getBits (s.reg R.TIME_SYNC_CTL) 1 4 * 2

/-- Why a SYNC is ignored: bits 0 to 2, the causes of E085 (R118, R21). -/
def State.syncCause (s : State) (x : SyncWait) : Nat :=
  bitsOf ((if s.flag F.CLK_STAT.REF_ABSENT then [0] else [])
    ++ (if s.flag F.CLK_STAT.RATE_CHANGING || s.flag F.CLK_STAT.BYPASS then [1] else [])
    ++ (if s.time.x6sSlipped || x.slipped then [2] else []))

/-- Selected actions that an armed context or a twin skips (R118). -/
def State.syncSkipped (s : State) : Nat := if s.anyArmed || s.joined then s.syncSelected &&& 0xE else 0

/-- Clock alignment, index zeroing and time load, those of the actions that are done (R117). -/
def State.syncClock (s : State) (done gap : Nat) : State := if natBit done 3 then s.alignClk gap else s
def State.syncIdx (s : State) (done : Nat) : State := if natBit done 1 then s.zeroIdx else s
def State.syncLoad (s : State) (done : Nat) : State := if natBit done 2 then s.loadTime else s

/-- The phase reset, at the index that the present core cycle then has (R117). -/
def State.syncPhase (s : State) : State := (s.phaseReset s.time.idx).streamPhase s.time.idx

/-- The reset of the players (R117). -/
def State.syncPlayers (s : State) (done p start : Nat) : State :=
  if natBit done 4 then (s.stimSync p start).patSync start else s

/-- A hardware SYNC with ONE_SHOT clears EN (R116). -/
def State.syncOnce (s : State) (soft : Bool) : State :=
  if !soft && s.flag F.TIME_SYNC_CTL.ONE_SHOT then s.setFlag F.TIME_SYNC_CTL.EN false else s

/-- The actions of a SYNC in the order of Table 4.5. -/
def State.syncActions (s : State) (soft : Bool) (done gap p start : Nat) : State :=
  (((((s.syncClock done gap).syncIdx done).syncLoad done).syncPhase).syncPlayers done p start).syncOnce soft

/-- SYNC_PARTIAL: a SYNC has skipped actions (Table 4.6). -/
def State.syncPartial (s : State) (b : Bool) : State := if b then s.setFlag F.TIME_STAT.SYNC_PARTIAL true else s

/-- The oldest sampled SYNC has reached its sync point: 40 ns and DELAY after the edge that sampled it (R116). -/
def State.syncDue (s : State) : Bool :=
  match s.time.syncs with
  | x :: _ => s.passed x.start (nanos (40 + 10 * s.fld F.TIME_SYNC_CTL.DELAY))
  | [] => false

/-- The sync point of the oldest sampled SYNC (R116, R117, R118): `gap` is measured at a clock alignment, `p` is the
presentation sample at the players. One from SYNC_IN acts only where EN is still 1. -/
def State.syncPoint (s : State) (gap p : Nat) : State :=
  match s.time.syncs with
  | [] => s
  | x :: rest =>
    let s0 := { s with time := { s.time with syncs := rest } }
    if !x.soft && !(s.flag F.TIME_SYNC_CTL.EN) then s0
    else if s.syncCause x != 0 then (s0.bump R.TIME_SYNC_IGNORED).raisePF 85 (s.syncCause x)
    else
      let done := s.syncSelected - s.syncSkipped
      (((s0.syncActions x.soft done gap p x.start).syncPartial (s.syncSkipped != 0)).bump R.TIME_SYNC_COUNT).raisePF 84
        (done + 2 ^ 8 * s.syncSkipped)

def execSyncPoint (gap : Nat) (p : BitVec 64) (s : State) : Host.Outcome State Fault Refusal :=
  s.act (fun t => if t.syncDue then t.syncPoint gap p.toNat else t)

/-- A fixed crossing slips (R21, Table 1.6). -/
def State.slip (s : State) (x : Nat) : State :=
  let s1 := (s.setFlag ⟨R.GLB_XSTAT, x, 1⟩ true).raisePF 12 x
  if x < 8 then (({ s1 with inp := { s1.inp with x1Slipped := putBit s1.inp.x1Slipped x true } }).degOn (.crossing x)
    (s.frameNow false)).fault 0x0108 x
  else match x with
    | 8 => if s1.inp.x2Slipped then s1.fault 0x000E 0
      else (({ s1 with inp := { s1.inp with x2Slipped := true } }).each (List.range 4)
        (fun t g => if s.fallback g then t else t.fallbackStart g false)).fault 0x000E 0
    | 9 => { s1 with time := { s1.time with x6sSlipped := true } }
    | 10 => s1.linkLost 0
    | _ => { s1 with inp := { s1.inp with x8rSlipped := true } }

def execCrossingSlip (crossing : Fin 12) (s : State) : Host.Outcome State Fault Refusal := s.act (fun t => t.slip crossing)

/-- X2_RECENTRE: 64 core cycles after the slip (Table 1.6). -/
def execX2Recentre (s : State) : Host.Outcome State Fault Refusal :=
  s.act (fun t => if t.inp.x2Slipped then
      ({ t with inp := { t.inp with x2Slipped := false } }).each (List.range 4) State.fallbackEnd
    else t)

end Sys2Proof.Machine
end

