-- ==== Sys2Proof/Machine/Clocks.lean ====
section
/-!
DEFINITION. The clock loops at work on the islands (ch. 03): lock, trips, switch-over, bypass, the memory clock, rate
changes, SYN_S, and the meanings of LOOP_LOCKED, LOOP_TRIP, SWITCH_DEGRADED_END, CLK_SWAP, CLK_RATE_GO,
MEM_CLOCK_CHANGE_DONE, MEM_AUTO_RETURN, CLK_MEM_RETURN and CLK_SRATE_GO, HOLDOVER_END.
-/
namespace Sys2Proof.Machine

/-- The slice rate in kHz (E079). A rate that is no whole number of kHz is rounded to the nearest: the model's choice, the
spec names no rounding (log entry 76). -/
def State.sliceKhz (s : State) : Nat :=
  roundDivNat ((s.clk.fcwInt * 2 ^ 32 + s.clk.fcwFrac) * 100000) (2 ^ 32 * divOf s.clk.div)

/-- SAMPLE and CORE start on loop l, which becomes active (Table 3.10, Table 3.13, R79). -/
def State.restartOn (s : State) (l gap : Nat) : State :=
  let s0 := s.setLoop l { s.loop l with near := 0 }
  let s1 := (s0.setFld F.CLK_STAT.ACTIVE l).setFlag F.CLK_STAT.BYPASS false
  let s2 := ((s1.setFlag F.CLK_STAT.RATE_CHANGING false).setFlag (F.CLK_SYN_STAT.TRACKED l) false).addGap gap
  let s3 := (s2.sampleStart.showStandby).pairTrain
  let s4 := { s3 with clk := { s3.clk with rateDue := false, tripped := false } }
  if s.clk.rateDue then s4.raisePF 79 s.sliceKhz
  else if s.clk.tripped then s4.raisePF 70 l else s4

/-- Start-up has passed step 3: SAMPLE and CORE have been started (Table 21.2). -/
def State.sampleFree (s : State) : Bool := Nat.blt 3 (s.fld F.CFG_STAT.STEP)

/-- In bypass the first locked sample loop takes SAMPLE and CORE (R79, R86). -/
def State.tryRestart (s : State) (gap : Nat) : State :=
  if s.flag F.CLK_STAT.BYPASS && s.sampleFree then
    if s.locked s.activeLoop then s.restartOn s.activeLoop gap
    else if s.locked s.standbyLoop then s.restartOn s.standbyLoop gap else s
  else s

/-- The stacks have been trained at boot (Table 21.2). -/
def State.memTrained (s : State) : Bool := Nat.blt 4 (s.fld F.CFG_STAT.STEP)

def State.setMemClock (s : State) (c : MemClock) (next : Option MemClock) : State :=
  { s with clk := { s.clk with mem := c, memNext := next } }

/-- The memory islands run on the bypass clock and the stacks refresh themselves, for the loss of a loop (R90, R372). -/
def State.memFaulted (s : State) (loop : Nat) : State :=
  let s1 := ((s.setMemClock .bypass none).setFlag F.CLK_STAT.MEM_BACKUP false)
  let s2 := if s1.flag F.MEM_STAT.SR then s1.raisePF 201 1 else s1.enterSelfRefresh 1
  (s2.setFlag F.MEM_STAT.SR_FAULT true).fault 0x0104 loop

/-- A clock for the memory islands is back: the fault self-refresh ends on it (R90). -/
def State.memRecover (s : State) : State :=
  if s.clk.mem != .bypass then s
  else
    let out := fun (t : State) => if t.flag F.MEM_STAT.SR_FAULT then t.leaveSelfRefresh else t
    if s.locked 2 then out ((s.setMemClock .synM none).raisePF 72 0)
    else if s.locked 1 && !s.flag F.CLK_STAT.RATE_CHANGING then
      out (((s.setMemClock .backup none).setFlag F.CLK_STAT.MEM_BACKUP true).raisePF 71 0)
    else s

/-- SYN_M or SYN_B has lost lock: what the memory islands then run on (R88, R90). A loss of SYN_B while the islands run
on its clock, or move to it, puts the stacks into self-refresh even where a return to SYN_M is under way. -/
def State.memCheck (s : State) : State :=
  let backup := s.locked 1 && !s.flag F.CLK_STAT.RATE_CHANGING
  if !s.memTrained || s.clk.mem == .bypass then s
  else if s.clk.mem == .backup || s.clk.memNext == some .backup then
    if !s.locked 1 then (s.memFaulted 1).memRecover
    else if s.clk.memNext == some .synM && !s.locked 2 then s.setMemClock .backup none
    else s
  else if s.locked 2 then s
  else if backup then (s.setMemClock s.clk.mem (some .backup)).fault 0x0005 2
  else (s.memFaulted 2).memRecover

/-- The lost-lock or the locked event of a loop, where it has one (Table 3.18). -/
def State.loopEvent (s : State) (l base q : Nat) : State :=
  match l with
  | 0 => s.raisePF base q
  | 1 => s.raisePF (base + 2) q
  | 3 => s.raisePF (base + 9) q
  | _ => s

/-- SYN_S is locked: STIM has its clock, and with no run the pins take their idle codes (R91, R94, R516). -/
def State.stimClock (s : State) : State :=
  let s1 := { s with clk := { s.clk with
    stimOn := true, lockFcw := s.clk.sfcw, lockFine := (s.loop 3).fine, fcwNow := s.clk.sfcw } }
  if s1.pat.run.isNone then s1.patIdle else s1

/-- A loop's LOCKED sets (R67, R68, R99). -/
def State.lockedNow (s : State) (l band : Nat) : State :=
  let x := s.loop l
  let s1 := (((s.setFlag (F.CLK_SYN_STAT.LOCKED l) true).setFlag (F.CLK_SYN_STAT.PH_OK l) true).setFlag
    (F.CLK_SYN_STAT.FREQ_OK l) true).setFlag (F.CLK_SYN_STAT.SEARCHING l) false
  let s2 := (s1.setFld (F.CLK_SYN_STAT.BAND l) band).setFld (F.CLK_SYN_STAT.ENTRY l) x.entry
  (s2.setLoop l { x with fit := none, failed := false, bad := 0 }).loopEvent l 65 (band + 2 ^ 8 * x.entry)

/-- A loop that searches is locked once PH_OK and FREQ_OK both stand, in the band that fits (R64, R68, R73): its islands
take it up. -/
def State.lockCheck (s : State) (l gap : Nat) : State :=
  match (s.loop l).fit with
  | none => s
  | some band =>
    if !s.searching l || !s.flag (F.CLK_SYN_STAT.PH_OK l) || !s.flag (F.CLK_SYN_STAT.FREQ_OK l) then s
    else
      let s1 := s.lockedNow l band
      let s2 := if s1.flag (F.CLK_SYN_STAT.HOLDOVER l) then s1.holdoverEnd l [] else s1
      match l with
      | 3 => s2.stimClock
      | 2 => s2.memRecover
      | 1 => (s2.tryRestart gap).memRecover
      | _ => (s2.tryRestart gap).memRecover

/-- LOOP_LOCKED (R68, R73): reference cycles and a counter window of a loop that searches. -/
def State.loopLock (s : State) (l : Nat) (errs : List Int) (ppm : Int) (gap : Nat) : State :=
  (((s.loopRun l errs).freqRead l (some ppm)).setFlag (F.CLK_SYN_STAT.FREQ_OK l) (Nat.ble ppm.natAbs 200)).lockCheck l gap

def execLoopLocked (loop : Fin 4) (errs : List Int) (ppm : Int) (gap : Nat) (s : State) : Host.Outcome State Fault Refusal :=
  s.act (fun t => if t.searching loop && !t.clk.refLost then t.loopLock loop errs ppm gap else t)

/-- HOLDOVER_END: a loop whose reference has returned reaches PH_OK; a lock attempt that it pauses in may end with it (R68,
R96). -/
def execHoldoverEnd (loop : Fin 4) (errs : List Int) (s : State) : Host.Outcome State Fault Refusal :=
  s.act (fun t => if t.flag (F.CLK_SYN_STAT.HOLDOVER loop) && !t.clk.refLost then (t.holdoverEnd loop errs).lockCheck loop 0
    else t)

/-- The causes for which a locked loop trips, as bits 1 to 3 of the event's qualifier (R69, R70): period monitor, phase,
frequency. -/
def State.tripCause (s : State) (l : Nat) (x : Trip) : Nat :=
  (match x.period with | some p => if s.periodTrips l p then 2 else 0 | none => 0) + (if Nat.ble 4 (s.loop l).bad then 4 else 0)
    + (match x.ppm with | some v => if Nat.blt 200 v.natAbs then 8 else 0 | none => 0)

/-- A locked loop trips: LOST, its event, and a new lock attempt (R69). -/
def State.tripLoop (s : State) (l cause : Nat) : State :=
  (((s.setFlag (F.CLK_SYN_STAT.LOST l) true).startLock l).loopEvent l 64 cause).showStandby

/-- The exchange of the roles of SYN_A and SYN_B (Table 3.12). -/
def State.exchange (s : State) (cause : Nat) : State :=
  let b := s.standbyLoop
  let s0 := s.setLoop b { s.loop b with near := 0 }
  let s1 := ((s0.setFld F.CLK_STAT.ACTIVE b).setFlag (F.CLK_SYN_STAT.TRACKED b) false).setFlag F.CLK_STAT.STBY_READY false
  ((s1.setFlag F.CLK_STAT.SWITCH_SEEN true).bump R.CLK_SWITCH_COUNT).raisePF 68 (b + cause)

/-- Segments that close with CLOCK_LOST (R99). -/
def State.lostSegs (s : State) : Nat :=
  ((List.range 4).map (fun n => ((s.ctx n).segs.filter (fun g => g.forced == some 8)).length)).foldl (· + ·) 0

/-- Bypass entry (R86, R87, Table 3.13): SAMPLE stops, CORE runs on the bypass clock, every context ends with CLOCK_LOST.
E069 comes before the loss of the link that the change of CORE brings, and counts the segments that close with CLOCK_LOST
after it (R99). That change is the slip of X7 of R449 and sets no PAIR_SLIP (log entries 25 and 77). -/
def State.bypassEntry (s : State) (gap : Nat) : State :=
  let s1 := s.sampleStop.addGap gap
  let s2 := (s1.setFlag F.CLK_STAT.BYPASS true).setFlag F.CLK_STAT.LOST_SEEN true
  let s3 := (s2.setFlag F.INP_MODE_STAT.CAL_SETTLED false).setFlag F.CLK_STAT.STBY_READY false
  let s4 := { s3 with clk := { s3.clk with tripped := true } }
  let s5 := s4.monRefresh.each (List.range 4) (fun t c => t.stopCtx c 5)
  ((s5.raisePF 69 (s5.linkLost 0).lostSegs).linkLost 0).fault 0x0103 s.activeLoop

/-- The sequence and the run end because STIM stops: sample k is the last, `x` DAC periods after the pattern vector
that plays began (R94, Tables 19.7, 20.7). SYN_S relocks at the frequency of CLK_SRATE in force, not at the one a ramp had reached: the
model's choice, R94 names none (log entry 75). -/
def State.stimLost (s : State) (k x : Nat) : State :=
  let s0 := s.showClamp (s.clampedAt s.rampCycles)
  let s1 := { s0 with clk := { s0.clk with stimOn := false, ramp := none, fcwNow := s.clk.sfcw } }
  let s2 := match s1.stm.run with
    | some r =>
      let n := if s1.stimState = 3 then s0.countAt r k + 1 else 0
      ({ s1 with stm := { s1.stm with run := some (r.cause 6 Status.clockLost.code n (n - 1)) } }).stimOver
    | none => s1
  match s2.pat.run with
  | some r =>
    if s2.patState = 3 then (s2.setPat (r.cause 5 Status.clockLost.code (s0.patAt r x) (s0.patAt r x - 1))).patOver
    else s2.patEnd r Status.clockLost.code
  | none => s2

/-- The active loop has tripped for a cause; `both`: the standby loop tripped in the same reference cycle. -/
def State.activeTrip (s : State) (cause : Nat) (both ready : Bool) (gap : Nat) : State :=
  if ready && !both then
    let s1 := s.exchange cause
    (s1.degOn .switchOver (s.frameNow false)).fault 0x0003 s.activeLoop
  else (s.bypassEntry gap).tryRestart 0

/-- LOOP_TRIP (R69): `x` holds what tripped loop l, `other` what tripped the other sample loop in the same reference
cycle. -/
def State.loopTrip (s : State) (l : Nat) (x : Trip) (other : Option Trip) (gap k n : Nat) : State :=
  let s1 := (s.loopRun l x.errs).freqRead l x.ppm
  let cause := s1.tripCause l x
  if cause = 0 then s1
  else
    let ready := s1.flag F.CLK_STAT.STBY_READY
    let active := s1.activeLoop
    let s2 := s1.tripLoop l cause
    if l = 3 then s2.stimLost k n
    else if l = 2 then s2.memCheck
    else
      let o := 1 - l
      let (s3, both) := match other with
        | some y =>
          let t := (s2.loopRun o y.errs).freqRead o y.ppm
          let c := t.tripCause o y
          if t.locked o && c != 0 then (t.tripLoop o c, true) else (t, false)
        | none => (s2, false)
      let s4 := if s3.flag F.CLK_STAT.BYPASS then s3
        else if l = active || both then s3.activeTrip cause both ready gap else s3.fault 0x0004 l
      s4.memCheck

def execLoopTrip (loop : Fin 4) (trip : Trip) (other : Option Trip) (gap samples periods : Nat) (s : State) :
    Host.Outcome State Fault Refusal :=
  s.act (fun t => if t.locked loop && !t.clk.refLost then t.loopTrip loop trip other gap samples periods else t)

/-- SWITCH_DEGRADED_END (R84). -/
def execSwitchDegradedEnd (s : State) : Host.Outcome State Fault Refusal :=
  s.act (fun t => t.degOff .switchOver (t.frameNow false))

/-- The memory islands begin to return to SYN_M (R89). -/
def State.memReturn (s : State) : State :=
  if s.clk.mem == .backup && s.clk.memNext.isNone && s.locked 2 then s.setMemClock .backup (some .synM) else s

/-- A write to CLK_CTL (R85, R89, Table 3.17). -/
def State.clkCtlWrite (s : State) (v : Word) : State :=
  let s1 := s.setFlag F.CLK_CTL.MEM_AUTO (getBits v 8 1 == 1)
  let s2 := if getBits v 0 1 = 1 && !s1.anyArmed && s1.flag F.CLK_STAT.STBY_READY then s1.exchange 0 else s1
  if getBits v 1 1 = 1 then s2.memReturn else s2

def execClkSwap (value : Word) (s : State) : Host.Outcome State Fault Refusal := s.act (fun t => t.clkCtlWrite value)

def execClkMemReturn (value : Word) (s : State) : Host.Outcome State Fault Refusal := s.act (fun t => t.clkCtlWrite value)

/-- MEM_AUTO_RETURN: SYN_M has stayed locked for 10 ms (R89). -/
def execMemAutoReturn (s : State) : Host.Outcome State Fault Refusal :=
  s.act (fun t => if t.flag F.CLK_CTL.MEM_AUTO then t.memReturn else t)

/-- MEM_CLOCK_CHANGE_DONE (R88, R89, Table 3.14). -/
def State.memChanged (s : State) : State :=
  match s.clk.memNext with
  | some .synM => ((s.setMemClock .synM none).setFlag F.CLK_STAT.MEM_BACKUP false).raisePF 72 0
  | some .backup => ((s.setMemClock .backup none).setFlag F.CLK_STAT.MEM_BACKUP true).raisePF 71 0
  | _ => s

def execMemClockChangeDone (s : State) : Host.Outcome State Fault Refusal := s.act State.memChanged

/-- The rate of CLK_RATE and CLK_RATE_FRAC is illegal (R77). -/
def rateBad (div fcw : Nat) : Bool :=
  let n := divOf div
  Nat.blt 3 div || Nat.blt fcw (78 * 2 ^ 32) || Nat.blt (110 * 2 ^ 32) fcw
    || Nat.blt (10 * fcw) (100 * n * 2 ^ 32) || Nat.blt (275 * n * 2 ^ 32) (10 * fcw)

/-- The FCW of CLK_RATE and CLK_RATE_FRAC. -/
def State.rateFcw (s : State) : Nat := s.fld F.CLK_RATE.FCW_INT * 2 ^ 32 + (s.reg R.CLK_RATE_FRAC).toNat

/-- A change to the rate of CLK_RATE and CLK_RATE_FRAC starts (R78, Table 3.10). -/
def State.rateStart (s : State) (gap : Nat) : State :=
  let s1 := s.sampleStop.addGap gap
  let s2 := { s1 with clk := { s1.clk with
    div := s.fld F.CLK_RATE.DIV, fcwInt := s.fld F.CLK_RATE.FCW_INT, fcwFrac := (s.reg R.CLK_RATE_FRAC).toNat
    rateDue := true } }
  let s3 := ((s2.setFlag F.CLK_STAT.RATE_CHANGING true).setFlag F.CLK_STAT.BYPASS true).setFlag
    F.INP_MODE_STAT.CAL_SETTLED false
  let s4 := s3.each [0, 1] (fun t l => (t.setLoop l { t.loop l with failed := false }).startLock l)
  (((s4.setFlag F.CLK_STAT.STBY_READY false).monRefresh).linkLost 0).memCheck

/-- A write to CLK_RATE_GO (R77). -/
def State.rateGo (s : State) (v : Word) (gap : Nat) : State :=
  if getBits v 0 1 = 0 || s.anyArmed || s.flag F.CLK_STAT.RATE_CHANGING || s.flag F.INP_MODE_STAT.CHANGING || s.joined
      || s.fld F.CAL_STAT.FG_ACTIVE != 0 then s
  else
    if rateBad (s.fld F.CLK_RATE.DIV) s.rateFcw || s.flag F.CLK_STAT.REF_ABSENT || s.flag F.CLK_STAT.MEM_BACKUP then
      s.setFlag F.CLK_STAT.RATE_REJECT true
    else s.rateStart gap

def execClkRateGo (value : Word) (gap : Nat) (s : State) : Host.Outcome State Fault Refusal :=
  s.act (fun t => t.rateGo value gap)

/-- An FCW is illegal for SYN_S (R91). -/
def srateBad (fcw : Nat) : Bool := Nat.blt fcw (120 * 2 ^ 32) || Nat.blt (160 * 2 ^ 32) fcw

/-- The FCW of CLK_SRATE and CLK_SRATE_FRAC. -/
def State.srateFcw (s : State) : Nat := s.fld F.CLK_SRATE.FCW_INT * 2 ^ 32 + (s.reg R.CLK_SRATE_FRAC).toNat

/-- SYN_S starts to lock at a new rate; STIM has no clock until it has locked (R91). -/
def State.srateStart (s : State) (fcw : Nat) : State :=
  ({ s with clk := { s.clk with sfcw := fcw, fcwNow := fcw, ramp := none, stimOn := false } }).startLock 3

/-- A write to CLK_SRATE_GO (R91). -/
def State.srateGo (s : State) (v : Word) : State :=
  if getBits v 0 1 = 0 || s.stimState != 0 then s
  else if srateBad s.srateFcw || s.flag F.CLK_STAT.REF_ABSENT then s.setFlag F.CLK_STAT.RATE_REJECT true
  else s.srateStart s.srateFcw

def execClkSrateGo (value : Word) (s : State) : Host.Outcome State Fault Refusal := s.act (fun t => t.srateGo value)

end Sys2Proof.Machine
end

