-- ==== Sys2Proof/Machine/Configuration.lean ====
section
/-!
DEFINITION. Configuration (ch. 21): the flash, the Salsal image and its sections, storing, pushing and reading images, the
management controller's firmware, and the meanings of CFG_COMMIT, COMMIT_WRITE_DONE, CFG_PUSH, PUSH_WRITE_DONE, CFG_READ,
FW_UPDATE, FW_UPDATE_WRITE_DONE, FW_SELECT, FIRMWARE_START and WATCHDOG_EXPIRE.
-/
namespace Sys2Proof.Machine

/-- An erased flash byte. -/
def flashByte : Nat → Byte := fun _ => 0xFF

/-- `n` flash bytes from an address. -/
def State.flashBytes (s : State) (a n : Nat) : List Byte := SMap.getList flashByte s.cfg.flash a n

/-- The flash with a region of `n` bytes erased and bytes programmed from its start. -/
def State.program (s : State) (a n : Nat) (b : List Byte) : State :=
  let kept := s.cfg.flash.filter (fun e => Nat.blt e.1 a || Nat.ble (a + n) e.1)
  { s with cfg := { s.cfg with flash := SMap.setList flashByte kept a b } }

/-- Dword i of a list of bytes (R8). -/
def byteDw (b : List Byte) (i : Nat) : Word := BitVec.ofNat 32 (bytesNat ((b.drop (4 * i)).take 4))

/-- Start of a slot, of a bank, and the bytes of each (Table 21.4). -/
def slotBase (k : Nat) : Nat := 0x40000 * k
def slotSize : Nat := 0x40000
def bankBase (k : Nat) : Nat := 0x100000 * (k + 1)
def bankSize : Nat := 0x100000

/-- LENGTH of an image lies in its range (Table 21.5a). -/
def lengthOk (n : Nat) : Bool := n % 4 == 0 && Nat.ble 68 n && Nat.ble n 262144

/-- One section: TYPE, INDEX and its data. -/
structure Section where
  type : Nat
  index : Nat
  data : List Byte

/-- `n` sections that fill the bytes exactly (R529, R531). -/
def sections : Nat → List Byte → Option (List Section)
  | 0, b => if b.isEmpty then some [] else none
  | n + 1, b =>
    let len := (byteDw b 1).toNat
    if b.length < 8 || b.length < 8 + len then none
    else match sections n (b.drop (8 + len)) with
      | some l => some (⟨getBits (byteDw b 0) 0 8, getBits (byteDw b 0) 8 8, (b.drop 8).take len⟩ :: l)
      | none => none

/-- The sections of an image; none where its headers do not end at its check word. -/
def imageSections (b : List Byte) : Option (List Section) :=
  let n := (byteDw b 7).toNat
  if b.length < 8 * n then none else sections n ((b.drop 64).take (b.length - 68))

/-- The check word of bytes (R531). -/
def checkOk (b : List Byte) : Bool := byteDw (b.drop (b.length - 4)) 0 == crc32c (b.take (b.length - 4))

/-- An image of LENGTH bytes is good for a module identity (R531). -/
def imageGood (b : List Byte) (id : Nat) : Bool :=
  byteDw b 0 == 0x534C4153#32 && getBits (byteDw b 1) 0 16 == 1 && (byteDw b 2).toNat == b.length && lengthOk b.length
    && bytesNat ((b.drop 16).take 8) == id && (imageSections b).isSome && checkOk b

def State.identity (s : State) : Nat := s.reg64 R.PEER_ID_LO

/-- The LENGTH field of a slot, and the image it holds. -/
def State.slotLength (s : State) (k : Nat) : Nat := bytesNat (s.flashBytes (slotBase k + 8) 4)
def State.slotImage (s : State) (k : Nat) : List Byte :=
  if lengthOk (s.slotLength k) then s.flashBytes (slotBase k) (s.slotLength k) else []

/-- A slot is good (R531). -/
def State.slotGood (s : State) (k : Nat) : Bool := imageGood (s.slotImage k) s.identity

def imageGen (b : List Byte) : Nat := (byteDw b 3).toNat

/-- Generation a is newer than b (R532). -/
def newer (a b : Nat) : Bool :=
  let d := (a + 2 ^ 32 - b) % 2 ^ 32
  Nat.blt 0 d && Nat.blt d (2 ^ 31)

/-- The current image, where there is one. -/
def State.currentImage (s : State) : List Byte :=
  if s.flag F.CFG_STAT.CFG_DEFAULTED then [] else s.slotImage (s.fld F.CFG_STAT.SLOT)

/-- A register takes the RW and RWL bits of a loaded word. -/
def State.loadReg (s : State) (off : Nat) (v : Word) : State :=
  match regRow off with
  | some r =>
    let m := BitVec.ofNat 32 (r.rw ||| r.rwl)
    s.setReg off ((s.reg off &&& ~~~ m) ||| (v &&& m))
  | none => s

/-- The dwords of bytes loaded into consecutive registers. -/
def State.loadRegs (s : State) (off : Nat) (b : List Byte) : State :=
  s.each (List.range (b.length / 4)) (fun t i => t.loadReg (off + 4 * i) (byteDw b i))

/-- The map of a bank built from its retired slices (R153). -/
def State.buildMap (s : State) (b retired : Nat) : State :=
  let good := (List.range 13).filter (fun k => !(natBit retired k))
  let map := (List.range 12).map (fun j => good.getD j 15)
  let s1 := s.each (List.range 12) (fun t j => t.setFld (posFld b j) (map.getD j 15))
  let s2 := (s1.setFld (F.CNV_MAP_HI.SPARE b) (good.getD 12 15)).setFld (F.CNV_MAP_HI.EPOCH b) 0
  let s3 := s2.setFld (F.CNV_BANK_STAT.RETIRED b) retired
  (s3.setBank b { s3.bank b with target := 0, maps := [⟨0, 0, map⟩] }).showBank b

/-- One section takes effect (R530, Table 21.5); a section that does not fit is skipped. PRESET waits for step 5. -/
def State.applySection (s : State) (x : Section) : State :=
  let n := x.data.length
  match x.type with
  | 1 => if x.index = 0 && n = 448 then s.loadRegs (R.CAL_TRIM_P 0) x.data else s.bump R.CFG_SKIPPED
  | 2 => if x.index < 3 && n = 1664 then
      (s.loadRegs (R.CORR_0 x.index 0) x.data).each (List.range 104) (fun t p => t.setFld (F.CORR_3.SRC x.index p) 1)
    else s.bump R.CFG_SKIPPED
  | 3 => if x.index = 0 && n = 32 then s.loadRegs (R.CAL_GAUGE_OFF 0) x.data else s.bump R.CFG_SKIPPED
  | 4 => if x.index = 0 && n = 32 then
      s.each (List.range 8) (fun t b => t.setFld (F.CNV_BANK_STAT.RETIRED b) (getBits (byteDw x.data b) 0 13))
    else s.bump R.CFG_SKIPPED
  | 5 => if x.index = 0 && n = 256 then s.loadRegs (R.CLK_BAND 0 0) x.data else s.bump R.CFG_SKIPPED
  | 6 => if x.index = 0 && n = 432 then s.loadRegs (R.CLK_SKEW_P 0) x.data else s.bump R.CFG_SKIPPED
  | 7 => if x.index < 8 && n = 512 then s.loadRegs (R.EQ_COEFF x.index 0) x.data else s.bump R.CFG_SKIPPED
  | 8 => if x.index = 0 && n % 8 = 0 then s else s.bump R.CFG_SKIPPED
  | _ => s.bump R.CFG_SKIPPED

/-- The last section of a type and index in an image. -/
def lastSection (b : List Byte) (type index : Nat) : Option Section :=
  ((imageSections b).getD []).reverse.find? (fun x => x.type == type && x.index == index)

/-- The PRESET section of an image that start-up writes (R530). -/
def presetSection (b : List Byte) : Option Section :=
  ((imageSections b).getD []).reverse.find? (fun x => x.type == 8 && x.index == 0 && x.data.length % 8 == 0)

/-- The PRESET pairs of an image: offset and value. -/
def presetPairs (b : List Byte) : List (Nat × Word) :=
  match presetSection b with
  | some x => (List.range (x.data.length / 8)).map (fun i => ((byteDw x.data (2 * i)).toNat, byteDw x.data (2 * i + 1)))
  | none => []

/-- Flash descriptors: CONTEXT, reserved bits and the host address (Table 21.6 row 1). -/
def cfgBad (d : Desc) (masks : List (Nat × Word)) : Bool := d.context != 15 || !(d.reservedClear 2 masks)

def haddrMasks : List (Nat × Word) := [(8, 0xFFFFFFFF), (9, 0xFFFFFFFF)]

def State.flashBusy (s : State) : Bool := s.flag F.CFG_STAT.FLASH_BUSY

/-- A write of the flash begins. -/
def State.startJob (s : State) (j : FlashJob) : State :=
  ({ s with cfg := { s.cfg with job := some j } }).setFlag F.CFG_STAT.FLASH_BUSY true

def State.endJob (s : State) : State :=
  ({ s with cfg := { s.cfg with job := none } }).setFlag F.CFG_STAT.FLASH_BUSY false

/-- The slot that a new image is written to, and its generation (R534). -/
def State.newSlot (s : State) : Nat := if s.flag F.CFG_STAT.CFG_DEFAULTED then 0 else 1 - s.fld F.CFG_STAT.SLOT
def State.newGen (s : State) : Nat :=
  if s.flag F.CFG_STAT.CFG_DEFAULTED then 1 else ((s.reg R.CFG_GEN).toNat + 1) % 2 ^ 32

/-- A section as bytes. -/
def sectionBytes (type index : Nat) (data : List Byte) : List Byte :=
  natBytes (type + 2 ^ 8 * index) 4 ++ natBytes data.length 4 ++ data

/-- `n` consecutive registers as bytes. -/
def State.regBytes (s : State) (off n : Nat) : List Byte :=
  wordsBytes ((List.range n).map (fun i => s.reg (off + 4 * i)))

/-- The sections of a COMMIT, each as bytes (R534): the snapshot, the equaliser banks, and the presets of the current
image. -/
def State.commitSections (s : State) (eq : Bool) : List (List Byte) :=
  let img := s.currentImage
  let retired := wordsBytes ((List.range 8).map (fun b => BitVec.ofNat 32 (s.fld (F.CNV_BANK_STAT.RETIRED b))))
  let old := fun (ty i : Nat) => match lastSection img ty i with
    | some x => [sectionBytes ty i x.data]
    | none => []
  [sectionBytes 1 0 (s.regBytes (R.CAL_TRIM_P 0) 112)]
    ++ (List.range 3).map (fun m => sectionBytes 2 m (s.regBytes (R.CORR_0 m 0) 416))
    ++ [sectionBytes 3 0 (s.regBytes (R.CAL_GAUGE_OFF 0) 8), sectionBytes 4 0 retired,
        sectionBytes 5 0 (s.regBytes (R.CLK_BAND 0 0) 64), sectionBytes 6 0 (s.regBytes (R.CLK_SKEW_P 0) 108)]
    ++ (List.range 8).flatMap (fun i => if eq then [sectionBytes 7 i (s.regBytes (R.EQ_COEFF i 0) 128)] else old 7 i)
    ++ (presetSection img).toList.map (fun x => sectionBytes 8 0 x.data)

/-- Bytes with their check word. -/
def withCheck (b : List Byte) : List Byte := b ++ wordBytes (crc32c b)

/-- The image of a COMMIT (R529, R534). -/
def State.commitImage (s : State) (eq : Bool) : List Byte :=
  let secs := s.commitSections eq
  let body := secs.flatten
  let refEn := getBits (byteDw s.currentImage 6) 0 4
  let head : List Word := [0x534C4153, 1, BitVec.ofNat 32 (68 + body.length), BitVec.ofNat 32 s.newGen,
    lo32 s.identity, hi32 s.identity, BitVec.ofNat 32 refEn, BitVec.ofNat 32 secs.length] ++ eventTime s.now
    ++ List.replicate 6 0
  withCheck (wordsBytes head ++ body)

/-- CFG_COMMIT (R534, R538, R543). -/
def State.cfgCommit (s : State) (d : Desc) : State :=
  if cfgBad d [(2, 1)] then s.finish d .badDescriptor []
  else if s.flashBusy || s.fld F.CAL_STAT.FG_ACTIVE != 0 || s.flag F.INP_MODE_STAT.CHANGING
      || s.flag F.CLK_STAT.RATE_CHANGING then s.finish d .busy []
  else s.startJob ⟨0, d.seq, s.newSlot, s.commitImage (d.f 2 0 1 == 1), false⟩

def execCfgCommit (ring : Fin 64) (s : State) : Host.Outcome State Fault Refusal :=
  s.act (fun t => t.withStart ring 0x63 (fun d u => u.cfgCommit d))

/-- An image with another generation and its check word (R536, R541). -/
def regenerate (b : List Byte) (gen : Nat) : List Byte :=
  withCheck (b.take 12 ++ natBytes gen 4 ++ (b.take (b.length - 4)).drop 16)

/-- The bytes that the flash holds after a write: some may differ from what was programmed. -/
def patched (b : List Byte) (bad : List (Nat × Byte)) : List Byte := bad.foldl (fun l e => l.set e.1 e.2) b

/-- The bit SLOTk_OK. -/
def slotOkFld (k : Nat) : Fld := if k = 0 then F.CFG_STAT.SLOT0_OK else F.CFG_STAT.SLOT1_OK

/-- The write and read-back of a slot end (R534 phases 3 and 4, R536); `bad` are the bytes that read back otherwise than
programmed. -/
def State.slotWritten (s : State) (kind : Nat) (bad : List (Nat × Byte)) : State :=
  match s.cfg.job with
  | none => s
  | some j =>
    if j.kind != kind then s
    else
      let s1 := s.endJob.program (slotBase j.target) slotSize (patched j.image bad)
      let good := s1.slotGood j.target
      let gen := imageGen j.image
      let s2 := s1.setFlag (slotOkFld j.target) good
      let pay := [BitVec.ofNat 32 j.target, BitVec.ofNat 32 gen, BitVec.ofNat 32 j.image.length]
      let s3 :=
        if good then
          let t := ((s2.setFld F.CFG_STAT.SLOT j.target).setFlag F.CFG_STAT.CFG_DEFAULTED false).setReg R.CFG_GEN
            (BitVec.ofNat 32 gen)
          if kind = 0 then t.raisePF 3 (j.target + 2 ^ 8 * (gen % 2 ^ 24)) else t.raisePF 5 j.target
        else (s2.raisePF 4 j.target).fault 0x000D j.target
      match s3.descOf j.seq with
      | some d => s3.finish d (if good then .ok else .aborted) pay
      | none => s3

def execCommitWriteDone (bad : List (Nat × Byte)) (s : State) : Host.Outcome State Fault Refusal :=
  s.act (fun t => t.slotWritten 0 bad)

def execPushWriteDone (bad : List (Nat × Byte)) (s : State) : Host.Outcome State Fault Refusal :=
  s.act (fun t => t.slotWritten 1 bad)

/-- CFG_PUSH (R536, R543): `image` are the bytes that the host memory holds at HADDR. -/
def State.cfgPush (s : State) (d : Desc) (image : List Byte) : State :=
  let n := d.n 2
  let b := image.take n
  if cfgBad d ((2, 0xFFFFFFFF) :: haddrMasks) || d.f 8 0 6 != 0 || !(lengthOk n) then s.finish d .badDescriptor []
  else if s.flashBusy then s.finish d .busy []
  else if b.length != n || !(imageGood b s.identity) then s.finish d .badDescriptor []
  else s.startJob ⟨1, d.seq, s.newSlot, regenerate b s.newGen, false⟩

def execCfgPush (ring : Fin 64) (image : List Byte) (s : State) : Host.Outcome State Fault Refusal :=
  s.act (fun t => t.withStart ring 0x64 (fun d u => u.cfgPush d image))

/-- CFG_READ (R537, R543). -/
def State.cfgRead (s : State) (d : Desc) : State :=
  let k := d.f 2 0 1
  if cfgBad d ((2, 1) :: (3, 0xFFFFFFFF) :: haddrMasks) || d.f 8 0 6 != 0 || d.n 3 < 64 then s.finish d .badDescriptor []
  else if s.flashBusy then s.finish d .busy []
  else
    let n := min (if lengthOk (s.slotLength k) then s.slotLength k else 64) (d.n 3)
    let b := s.flashBytes (slotBase k) n
    let w : HostWrite := { func := s.ringOwner d.ring, addr := dw64 d.dw 8
                           data := (List.range (n / 4)).map (byteDw b), tail := b.drop (4 * (n / 4)) }
    let s1 := { s with hif := { s.hif with writes := w :: s.hif.writes } }
    s1.finish d .ok [BitVec.ofNat 32 n, if s.slotGood k then 1 else 0]

def execCfgRead (ring : Fin 64) (s : State) : Host.Outcome State Fault Refusal :=
  s.act (fun t => t.withStart ring 0x65 (fun d u => u.cfgRead d))

/-- A firmware image of LENGTH bytes is good. -/
def firmwareGood (b : List Byte) : Bool :=
  byteDw b 0 == 0x57464153#32 && byteDw b 1 == 1 && (byteDw b 2).toNat == b.length && Nat.ble 36 b.length && Nat.ble b.length bankSize && checkOk b

/-- The firmware image of a bank. -/
def State.bankImage (s : State) (k : Nat) : List Byte :=
  let n := bytesNat (s.flashBytes (bankBase k + 8) 4)
  if Nat.ble n bankSize then s.flashBytes (bankBase k) n else []

def State.bankGood (s : State) (k : Nat) : Bool := firmwareGood (s.bankImage k)

/-- CFG_FW_GEN of a bank: its GENERATION, 0 if it is not good. -/
def State.showBankGen (s : State) (k : Nat) : State :=
  s.setReg (R.CFG_FW_GEN_A + 4 * k) (if s.bankGood k then byteDw (s.bankImage k) 3 else 0)

/-- The controller stops and is to start from a bank (R540 to R542). -/
def State.restartFw (s : State) (k : Nat) (byWatchdog : Bool) : State :=
  ({ s with cfg := { s.cfg with restart := some k, fallback := byWatchdog } }).setFlag F.CFG_STAT.FW_RUNNING false

/-- The bank from which the controller starts at RST_N, and E007 for each bank that is not good (R539). -/
def State.chooseBank (s : State) : State :=
  let ga := s.bankGood 0
  let gb := s.bankGood 1
  let s1 := (s.showBankGen 0).showBankGen 1
  let s2 := if ga then s1 else s1.raisePF 7 0
  let s3 := if gb then s2 else s2.raisePF 7 1
  if ga && gb then
    s3.restartFw (if newer (imageGen (s.bankImage 1)) (imageGen (s.bankImage 0)) then 1 else 0) false
  else if ga then (s3.restartFw 0 false).fault 0x000D 1
  else if gb then (s3.restartFw 1 false).fault 0x000D 0
  else s3.fault 0x010B 0

/-- The bank is chosen once after RST_N. -/
def State.chooseOnce (s : State) : State :=
  if s.cfg.chosen then s else ({ s with cfg := { s.cfg with chosen := true } }).chooseBank

/-- FIRMWARE_START (R539, R540). -/
def State.firmwareStart (s0 : State) : State :=
  let s := s0.chooseOnce
  match s.cfg.restart with
  | none => s
  | some k =>
    let s1 := { s with cfg := { s.cfg with restart := none, fallback := false } }
    let s2 := (s1.setFlag F.CFG_STAT.FW_RUNNING true).setFld F.CFG_STAT.FW_BANK k
    (s2.setReg R.CFG_FW_VER (byteDw (s.bankImage k) 4)).raisePF 6 (k + (if s.cfg.fallback then 2 else 0))

def execFirmwareStart (s : State) : Host.Outcome State Fault Refusal := s.act State.firmwareStart

/-- WATCHDOG_EXPIRE (R540). -/
def State.watchdog (s : State) : State :=
  if !s.flag F.CFG_STAT.FW_RUNNING then s
  else
    let k := s.fld F.CFG_STAT.FW_BANK
    let s1 := ((s.bump R.CFG_WDOG).raisePF 9 0).fault 0x000C 0
    let second := match s.cfg.wdogAt with
      | some t => Nat.ble s.time.elapsed (t + 60 * 2 ^ 64)
      | none => false
    let other := second && s.bankGood (1 - k)
    let s2 := { s1 with cfg := { s1.cfg with wdogAt := if second then none else some s.time.elapsed } }
    let s3 := if other then s2.setFlag F.CFG_STAT.FW_FALLBACK true else s2
    s3.restartFw (if other then 1 - k else k) true

def execWatchdogExpire (s : State) : Host.Outcome State Fault Refusal := s.act State.watchdog

/-- FW_UPDATE (R541, R543): `image` are the bytes that the host memory holds at HADDR. With the controller halted the
running bank is the one that FW_BANK shows. -/
def State.fwUpdate (s : State) (d : Desc) (image : List Byte) : State :=
  let n := d.n 3
  let b := image.take n
  if cfgBad d ((2, 1) :: (3, 0xFFFFFFFF) :: haddrMasks) || d.f 8 0 6 != 0 || Nat.blt bankSize n then
    s.finish d .badDescriptor []
  else if s.flashBusy then s.finish d .busy []
  else if b.length != n || !(firmwareGood b) then s.finish d .badDescriptor []
  else
    let k := s.fld F.CFG_STAT.FW_BANK
    let gen := ((s.reg (R.CFG_FW_GEN_A + 4 * k)).toNat + 1) % 2 ^ 32
    s.startJob ⟨2, d.seq, 1 - k, regenerate b gen, d.f 2 0 1 == 1⟩

def execFwUpdate (ring : Fin 64) (image : List Byte) (s : State) : Host.Outcome State Fault Refusal :=
  s.act (fun t => t.withStart ring 0x66 (fun d u => u.fwUpdate d image))

/-- FW_UPDATE_WRITE_DONE (R541). -/
def State.bankWritten (s : State) (bad : List (Nat × Byte)) : State :=
  match s.cfg.job with
  | none => s
  | some j =>
    if j.kind != 2 then s
    else
      let s1 := (s.endJob.program (bankBase j.target) bankSize (patched j.image bad)).showBankGen j.target
      let good := s1.bankGood j.target
      let s2 := if good then (if j.restart then s1.restartFw j.target false else s1)
        else (s1.raisePF 7 j.target).fault 0x000D j.target
      match s2.descOf j.seq with
      | some d => s2.finish d (if good then .ok else .aborted)
          [BitVec.ofNat 32 j.target, BitVec.ofNat 32 (imageGen j.image)]
      | none => s2

def execFwUpdateWriteDone (bad : List (Nat × Byte)) (s : State) : Host.Outcome State Fault Refusal :=
  s.act (fun t => t.bankWritten bad)

/-- FW_SELECT (R542, R543). -/
def State.fwSelect (s : State) (d : Desc) : State :=
  let k := d.f 2 0 1
  if cfgBad d [(2, 1)] then s.finish d .badDescriptor []
  else if s.flashBusy then s.finish d .busy []
  else if s.bankGood k then
    let s1 := ({ s with cfg := { s.cfg with wdogAt := none } }).setFlag F.CFG_STAT.FW_FALLBACK false
    (s1.restartFw k false).finish d .ok []
  else (s.raisePF 7 k).finish d .aborted []

def execFwSelect (ring : Fin 64) (s : State) : Host.Outcome State Fault Refusal :=
  s.act (fun t => t.withStart ring 0x67 (fun d u => u.fwSelect d))

/-- A ring abort or RST_N stops the write of a flash descriptor (R535): how many sectors have been erased and how many bytes
programmed is open; nothing is programmed before all is erased. -/
def State.abortJob (s : State) (j : FlashJob) : State :=
  let (v, s0) := s.draw 32
  let (e, s1) := s0.draw 9
  let (base, size) := if j.kind = 2 then (bankBase j.target, bankSize) else (slotBase j.target, slotSize)
  let n := v.toNat % (j.image.length + 1)
  let s2 := s1.endJob.program base (if n = 0 then min size (4096 * e.toNat) else size) (j.image.take n)
  if j.kind = 2 then s2.showBankGen j.target else s2.raisePF 4 j.target

end Sys2Proof.Machine
end

