-- ==== Sys2Proof/Machine/HostRings.lean ====
section
/-!
DEFINITION. Rings in use (ch. 15) and the event unit (ch. 16): doorbells, descriptor fetch, the coalescing timer,
MGMT_NOP, draining, Bus Master Enable, event records, and the window of BAR4.
-/
namespace Sys2Proof.Machine

/-- A doorbell write is discarded (R387): `w` is 0 for SQ_TAIL, 1 for CQ_HEAD. -/
def State.dbError (s : State) (f r w : Nat) : State :=
  let q := r + w * 2 ^ 8 + f * 2 ^ 16
  let s1 := s.bump R.HIF_DBERR_COUNT
  if f = s.ringOwner r then (s1.setFlag (F.HIF_RING_STAT.DB_ERR r) true).raise 32 q (s1.routeRing r)
  else s1.raisePF 32 q

/-- TYPE of a ring. -/
def State.ringType (s : State) (r : Nat) : Nat := s.fld (F.HIF_RING_CTL.TYPE r)

def State.ringEn (s : State) (r : Nat) : Bool := s.flag (F.HIF_RING_CTL.EN r)

/-- A write of SQ_TAIL (R386, R387). -/
def State.sqDoorbell (s : State) (f r v : Nat) : State :=
  if f != s.ringOwner r || Nat.ble (s.ringSize r) v || s.ringType r == 2 || !(s.ringEn r) then s.dbError f r 0
  else { s with hif := { s.hif with sqTail := SMap.set zero s.hif.sqTail r v } }

def execSqTailDoorbell (func : Fin 9) (ring : Fin 64) (value : Word) (s : State) : Host.Outcome State Fault Refusal :=
  s.act (fun t => t.sqDoorbell func ring value.toNat)

/-- Fetching no longer waits where the CQ has the room it waits for (R391). -/
def State.clearStall (s : State) (r : Nat) : State :=
  if Nat.ble (SMap.get zero s.hif.stalls r) (s.cqRoom r) then s.setFlag (F.HIF_RING_STAT.CQ_STALL r) false else s

/-- A write of CQ_HEAD returns slots (R386, R387, R391). -/
def State.cqDoorbell (s : State) (f r v : Nat) : State :=
  let size := s.ringSize r
  let n := (v + size - SMap.get zero s.hif.cqHead r) % size
  let used := SMap.get zero s.hif.cqUsed r
  if f != s.ringOwner r || Nat.ble size v || Nat.blt used n then s.dbError f r 1
  else
    ({ s with hif := { s.hif with
      cqHead := SMap.set zero s.hif.cqHead r v, cqUsed := SMap.set zero s.hif.cqUsed r (used - n) } }).clearStall r

def execCqHeadDoorbell (func : Fin 9) (ring : Fin 64) (value : Word) (s : State) : Host.Outcome State Fault Refusal :=
  s.act (fun t => t.cqDoorbell func ring value.toNat)

/-- Opcodes assigned for CMD rings of every function, for CMD rings of the PF, and for HARV rings (Table 15.5). -/
def opsAny : List Nat := [0x01, 0x02, 0x03, 0x04, 0x31, 0x32, 0x33, 0x34, 0x35, 0x40, 0x41, 0x42, 0x43, 0x44, 0x45, 0x50,
  0x51, 0x52, 0x53, 0x54, 0x60]
def opsPF : List Nat := [0x36, 0x61, 0x62, 0x63, 0x64, 0x65, 0x66, 0x67, 0x70, 0x71, 0x72, 0x73, 0x74]
def opsHarv : List Nat := [0x20, 0x21, 0x33]

/-- The opcode is permitted on the ring (R388, Table 15.5). -/
def State.opPermitted (s : State) (r op : Nat) : Bool :=
  if s.ringType r = 0 then opsAny.contains op || (opsPF.contains op && s.ringOwner r == 0)
  else s.ringType r == 1 && opsHarv.contains op

/-- The status that refuses a fetched descriptor before its opcode's own checks (R388, R410). -/
def State.fetchRefusal (s : State) (r : Nat) (d : Desc) : Option Nat :=
  if s.compat && s.ringOwner r != 0 then some (Status.notSupportedCompat).code
  else if d.version != (if s.ringV1 r then 1 else 2) || getBits (dwAt d.dw 0) 10 6 != 0
      || getBits (dwAt d.dw 0) 24 8 != 0 || !(s.opPermitted r d.opcode) then some (Status.badDescriptor).code
  else none

/-- Fetched descriptors of a ring that have not started. -/
def State.waitingStarts (s : State) (r : Nat) : Nat :=
  (s.hif.descs.filter (fun d => d.ring == r && !d.started)).length

/-- The ring fetches: it is an enabled CMD or HARV ring with announced descriptors, no fetch error, Bus Master Enable,
and fewer than 8 fetched descriptors that have not started (R379, R389, R390, R392). -/
def State.mayFetch (s : State) (r : Nat) : Bool :=
  s.ringEn r && Nat.blt (s.ringType r) 2 && s.fld (F.HIF_RING_PTR.SQ_HEAD r) != SMap.get zero s.hif.sqTail r
    && s.busMasterOn (s.ringOwner r) && !(s.flag (F.HIF_RING_STAT.FETCH_ERR r)) && Nat.blt (s.waitingStarts r) 8

/-- A fetched descriptor joins its ring: a refused one completes at once, on a HARV ring in its turn (R388, R389). -/
def State.takeDesc (s : State) (r : Nat) (words : List Word) : State :=
  let dw := ((words ++ List.replicate 16 0).take (if s.ringV1 r then 8 else 16) ++ List.replicate 8 0).take 16
  let d0 : Desc := ⟨r, s.hif.nextSeq, dw, false, none⟩
  let d := { d0 with refused := s.fetchRefusal r d0 }
  let head := s.fld (F.HIF_RING_PTR.SQ_HEAD r)
  let s1 := (s.setFld (F.HIF_RING_PTR.SQ_HEAD r) ((head + 1) % s.ringSize r)).setFlag (F.HIF_RING_STAT.CQ_STALL r) false
  let s2 := { s1 with hif := { s1.hif with nextSeq := s1.hif.nextSeq + 1, descs := s1.hif.descs ++ [d] } }
  match d.refused with
  | some code => if s2.isHarvRing r then s2.flushRefused r 8 else s2.completeCode d code []
  | none => s2.showHeld r

/-- DESCRIPTOR_FETCH (R389, R391, R392). -/
def State.fetch (s : State) (r : Nat) (err : Bool) (words : List Word) : State :=
  if !(s.mayFetch r) then s
  else if err then
    (s.setFlag (F.HIF_RING_STAT.FETCH_ERR r) true).raise 33 r (s.routeRing r)
  else if s.cqRoom r < s.slotsOf r (getBits (dwAt words 0) 0 8) then
    ({ s with hif := { s.hif with
      stalls := SMap.set zero s.hif.stalls r (s.slotsOf r (getBits (dwAt words 0) 0 8)) } }).raiseOnce
      (F.HIF_RING_STAT.CQ_STALL r) 35 r (s.routeRing r)
  else s.takeDesc r words

def execDescriptorFetch (ring : Fin 64) (err : Bool) (words : List Word) (s : State) :
    Host.Outcome State Fault Refusal :=
  s.act (fun t => t.fetch ring err words)

/-- COAL_TIME of a ring, not 0, has passed since the earliest completion or record that no message covers (R398): elapsed
time counts in 2^-64 s. -/
def State.coalDue (s : State) (r : Nat) : Bool :=
  s.fld (F.HIF_RING_IRQ.COAL_TIME r) != 0 && SMap.get zero s.hif.uncovered r != 0
    && Nat.ble (s.fld (F.HIF_RING_IRQ.COAL_TIME r) * 2 ^ 64)
      ((s.time.elapsed - SMap.get zero s.hif.coverAt r) * 1000000)

/-- IRQ_COAL_TIMER (R398). -/
def State.coalTimer (s : State) (r : Nat) : State :=
  if s.flag (F.HIF_RING_IRQ.IRQ_EN r) && s.coalDue r && s.busMasterOn (s.ringOwner r) then s.signal r else s

def execIrqCoalTimer (ring : Fin 64) (s : State) : Host.Outcome State Fault Refusal := s.act (fun t => t.coalTimer ring)

/-- MGMT_NOP (R406). -/
def State.nop (s : State) (d : Desc) : State :=
  if d.context = 15 && d.reservedClear 2 [] then s.finish d .ok (eventTime s.now)
  else s.finish d .badDescriptor []

def execMgmtNop (ring : Fin 64) (s : State) : Host.Outcome State Fault Refusal :=
  s.act (fun t => t.withStart ring 0x60 (fun d u => u.nop d))

/-- A ring has no descriptor outstanding and no completion that waits. -/
def State.ringClear (s : State) (r : Nat) : Bool :=
  !(s.hif.descs.any (fun d => d.ring == r)) && !(s.hif.waiting.any (fun w => w.ring == r))

/-- The disabled ring has drained (R407, R408). -/
def State.drainEnd (s : State) (r : Nat) : State :=
  let ab := s.hif.abortedRings.contains r
  let s1 := (s.setFlag (F.HIF_RING_STAT.DRAINING r) false).setFlag (F.HIF_RING_STAT.ABORTING r) false
  ({ s1 with hif := { s1.hif with abortedRings := s1.hif.abortedRings.filter (fun x => x != r) } }).raise 34
    (r + (if ab then 2 ^ 8 else 0)) (s.routeRing r)

/-- RING_DRAINED (R407): the last outstanding completion of a disabled ring has been written. -/
def State.ringDrained (s : State) (r : Nat) : State :=
  if s.flag (F.HIF_RING_STAT.DRAINING r) && s.ringClear r then s.drainEnd r else s

def execRingDrained (ring : Fin 64) (s : State) : Host.Outcome State Fault Refusal := s.act (fun t => t.ringDrained ring)

/-- The completions that have waited for a function's Bus Master Enable are written (R379). -/
def State.flushWaiting (s : State) (f : Nat) : State :=
  let mine := fun (w : Waiting) => s.ringOwner w.ring == f
  ((s.hif.waiting.filter mine).foldl State.writeCompletion
    { s with hif := { s.hif with waiting := s.hif.waiting.filter (fun w => !(mine w)) } }).wakeRings

/-- BUS_MASTER_ENABLE_CHANGE (R379). With the COMPAT ball high TotalVFs reads 0 and no VF exists (R410). -/
def State.busMasterChange (s : State) (f : Nat) (on : Bool) (vfs : Nat) : State :=
  let rest := s.hif.busMaster.filter (fun x => x != f)
  let s1 := { s with hif := { s.hif with
    busMaster := if on then f :: rest else rest
    numVfs := if s.flag F.GLB_STAT.COMPAT_BALL then 0 else vfs } }
  if on then s1.flushWaiting f else s1

def execBusMasterEnableChange (func : Fin 9) (on : Bool) (numVfs : Fin 9) (s : State) :
    Host.Outcome State Fault Refusal :=
  s.act (fun t => t.busMasterChange func on numVfs)

/-- The record of the queue that is written next: the lowest tide time, then the lowest event number (R417). -/
def nextRec : List EvRec → Option EvRec
  | [] => none
  | r :: l => match nextRec l with
    | some x => some (if x.tide < r.tide || (x.tide == r.tide && Nat.blt x.event r.event) then x else r)
    | none => some r

/-- A list without its first entry equal to `x`. -/
def dropFirst (x : EvRec) : List EvRec → List EvRec
  | [] => []
  | r :: l => if r = x then l else r :: dropFirst x l

/-- The enabled EVENT rings of function f that take a group (R396). -/
def State.eventRings (s : State) (f g : Nat) : List Nat :=
  (List.range 64).filter (fun r => s.ringEn r && s.ringType r == 2 && s.ringOwner r == f
    && natBit (s.fld (F.HIF_RING_EVGRP.GROUPS r)) g)

/-- A record reaches an EVENT ring, or is lost where that is full (R395, R397, R419). -/
def State.writeRecord (s : State) (e : EvRec) (r : Nat) : State :=
  let lost := SMap.get zero s.evt.lost r
  if s.ringSize r ≤ SMap.get zero s.hif.cqUsed r then
    let s1 := s.bump (R.HIF_RING_LOST r)
    let s2 := { s1 with evt := { s1.evt with lost := SMap.set zero s1.evt.lost r (lost + 1) } }
    if s2.flag (F.HIF_RING_STAT.EVT_LOST r) then s2
    else (s2.setFlag (F.HIF_RING_STAT.EVT_LOST r) true).raiseX 36 r (s2.routeRing r) (some r)
  else
    let f := s.ringOwner r
    let a := s.cqSlot r (s.fld (F.HIF_RING_PTR.CQ_TAIL r)) 16
    let dw0 := BitVec.ofNat 32 (s.fld (F.HIF_RING_STAT.PHASE r) * 2 ^ 31 + satNat 255 lost * 2 ^ 16 + e.event)
    let s1 := (s.post f (a + 4) (e.qual :: eventTime e.tide)).post f a [dw0]
    let s2 := { s1 with evt := { s1.evt with lost := SMap.set zero s1.evt.lost r 0 } }
    ((s2.advanceCq r 1).bump (R.HIF_RING_DONE r)).cover r (s.flag (urgBit e.event))

/-- A record is written to every ring that takes it, or counted as lost (R379, R396, R397). -/
def State.deliver (s : State) (e : EvRec) : State :=
  let rings := (s.eventRings e.func (e.event / 32)).filter (fun r => some r != e.excl)
  let s1 := if e.tide < s.evt.lastTide then s.setFlag F.EVT_STAT.REORDER_LATE true else s
  let s2 := { s1 with evt := { s1.evt with lastTide := e.tide } }
  if rings.isEmpty || !(s.busMasterOn e.func) then s2.bump (R.HIF_EVDROP e.func)
  else rings.foldl (fun t r => t.writeRecord e r) s2

/-- The queue has fallen to 128 records: E001 reports the discarded ones (R418). -/
def State.overflowEvent (s : State) : State :=
  if s.evt.discarded != 0 && Nat.ble s.evt.queue.length 128 then
    ({ s with evt := { s.evt with discarded := 0 } }).raise 1 s.evt.discarded s.routeAll
  else s

/-- The records whose core cycle has passed: until then an event of a lower number may still arise beside them (R417). -/
def State.ripe (s : State) : List EvRec := s.evt.queue.filter (fun e => e.cycle != s.time.cycle)

/-- EVENT_RECORD_WRITE (R414, R417, R418). -/
def State.writeEvent (s : State) : State :=
  match nextRec s.ripe with
  | some e => (({ s with evt := { s.evt with queue := dropFirst e s.evt.queue } }).deliver e).overflowEvent
  | none => s

def execEventRecordWrite (s : State) : Host.Outcome State Fault Refusal := s.act State.writeEvent

/-- A write to EVT_TEST; with GO=1 it raises the event (R420). -/
def State.evtTestWrite (s : State) (v : Word) : State :=
  let s1 := s.plainWrite R.EVT_TEST v
  let e := getBits v 0 9
  if getBits v 31 1 = 0 then s1
  else if assigned e then s1.raisePF e (s1.reg R.EVT_TEST_QUAL).toNat
  else s

def execEvtTestGo (value : Word) (s : State) : Host.Outcome State Fault Refusal :=
  s.act (fun t => t.evtTestWrite (value ||| 0x80000000#32))

/-- Byte address in capture memory of byte o of the window (R381). -/
def State.bar4Addr (s : State) (o : Nat) : Nat := 32 * (s.fld F.HIF_BAR4_BASE.BASE * 2048) + o

/-- BAR4_READ (R381): it waits while the stacks are not active (R372) and while a line of it lies in a group with an entry in
the write buffer (R360). -/
def State.bar4Read (s : State) (o n : Nat) : State :=
  let a := s.bar4Addr (o % 2 ^ 32 / 4 * 4)
  let lines := (List.range (ceilDiv (a % 32 + 4 * n) 32)).map (· + a / 32)
  let s1 := s.requestLines 6 (.bar4 a n) lines
  if s.memActive && !(lines.any s.hasEntry) then s.bar4Answer a n
  else { s1 with hif := { s1.hif with bar4 := s1.hif.bar4 ++ [(a, n)] } }

def execBar4Read (off dwords : Nat) (s : State) : Host.Outcome State Fault Refusal :=
  s.act (fun t => t.bar4Read off dwords)

/-- The first line of a span that lies in a partition in use (R382). -/
def State.firstInUse (s : State) (l n : Nat) : Option Nat :=
  ((List.range n).map (· + l)).find? (fun x => (List.range 16).any (fun k => s.ptValid k && s.ptInUse k
    && Nat.ble (s.ptBase k) x && Nat.blt x (s.ptBase k + s.ptLen k)))

/-- BAR4_WRITE (R353, R381, R382). -/
def State.bar4Write (s : State) (o : Nat) (data : List Byte) : State :=
  let a := s.bar4Addr (o % 2 ^ 32)
  let b := data.take (32 * memLines - a)
  if b.isEmpty then s
  else match s.firstInUse (a / 32) ((a + b.length - 1) / 32 - a / 32 + 1) with
    | some l => s.raiseOnce F.HIF_STAT.BAR4_DISCARD 39 l routePF
    | none => ({ s with mem := { s.mem with bulk := s.mem.bulk ++ [({ addr := a, bytes := b } : BulkWrite)] } }).admitBulk (s.mem.bulk.length + 1)

def execBar4Write (off : Nat) (data : List Byte) (s : State) : Host.Outcome State Fault Refusal :=
  s.act (fun t => t.bar4Write off data)

/-- BAR4_READ_TIMEOUT (R372): the oldest read that waits in a fault self-refresh ends with Completer Abort. -/
def State.bar4Timeout (s : State) : State :=
  match s.hif.bar4 with
  | e :: l =>
    if s.flag F.MEM_STAT.SR_FAULT then
      ({ s with
        hif := { s.hif with bar4 := l, reads := ⟨[], false, true⟩ :: s.hif.reads }
        mem := { s.mem with reads := s.mem.reads.filter (fun r => r.who != ReadFor.bar4 e.1 e.2) } }).raisePF 40 (e.1 / 32)
    else s
  | [] => s

def execBar4ReadTimeout (s : State) : Host.Outcome State Fault Refusal := s.act State.bar4Timeout

end Sys2Proof.Machine
end

