-- ==== Sys2Proof/Machine/RingControl.lean ====
section
/-!
DEFINITION. Setting up and ending rings (ch. 15): enabling, disabling and aborting a ring, loss and return of the link,
Function Level Reset, and PERST_N (ch. 21).
-/
namespace Sys2Proof.Machine

/-- A free number from 0 to n (log entry 4). -/
def State.someOf (s : State) (n : Nat) : Nat × State :=
  let (v, t) := s.draw 32
  (v.toNat % (n + 1), t)

/-- `n` free dwords (log entry 4). -/
def State.freeWords (s : State) : Nat → State × List Word
  | 0 => (s, [])
  | n + 1 =>
    let (v, t) := s.draw 32
    let (u, l) := t.freeWords n
    (u, v :: l)

/-- The acquisition that a descriptor carries ends with ABORTED; in a twin the partner takes it as an ACQ_STOP with
IMMEDIATE=1 (R301, R302, R460, R462). -/
def State.ctxAbort (s : State) (d : Desc) : State :=
  let n := d.context
  let c := s.ctx n
  match c.phase with
  | .pending => if c.asked.seq = d.seq then s.stopCtx n 4 else s
  | .armed =>
    if c.seq = d.seq then (if s.joined then s.tell (.arm (.stop n 7)) else s).stopCtx n 4 else s
  | .idle => s

/-- A harvest ends with ABORTED; how much of it had been issued is open (R404). -/
def State.harvCut (s : State) (h : Harvest) (d : Desc) : State :=
  if h.waits then s.harvAbort h d 0
  else if h.kind == .pair then s.harvAbort h d (64 * SMap.get zero s.pair.pairs h.seq)
  else
    let (k, t) := s.someOf (h.bytes / 32)
    (if k = 0 then t else t.postData (t.ringOwner d.ring) h.haddr ((t.harvData h).take (8 * k))).harvAbort h d (32 * k)

/-- A pan harvest ends with ABORTED (R342, R404). -/
def State.panCutHarvest (s : State) (d : Desc) : State :=
  let (k, t) := s.someOf ((s.panHarvData d.seq).length / 8)
  t.panHarvAbort d (8 * k)

/-- A pan buffer that an aborted PAN_CLEAR names is cleared all the same. -/
def State.panCutClear (s : State) (d : Desc) : State :=
  match s.gangWhere (fun g => g.clears.any (fun e => e.1 == d.seq)) with
  | some (f, g) =>
    let b := ((g.clears.find? (fun e => e.1 == d.seq)).map (·.2)).getD 0
    ((s.setGang f (some { g with clears := g.clears.filter (fun e => e.1 != d.seq) })).freeBuf f b).finish d .aborted []
  | none => s.finish d .aborted []

/-- A load ends with ABORTED after an open number of lines (R476, R510). -/
def State.loadCut (s : State) (d : Desc) : State :=
  let (k, t) := s.someOf (d.f 4 0 31)
  let (u, w) := t.freeWords (8 * k)
  (u.loadWrites { d with dw := d.dw.set 4 (BitVec.ofNat 32 k) } w).finish d .aborted [BitVec.ofNat 32 k]

/-- The sequence that a descriptor carries ends as by STIM_STOP with IMMEDIATE=1 (Table 19.7). -/
def State.stimAbort (s : State) (d : Desc) (p : Nat) : State :=
  match s.stm.run with
  | some r =>
    if r.seq = d.seq then s.stimHalt r 5 Status.aborted.code p
    else s.finish d .aborted []
  | none => s.finish d .aborted []

/-- A jump that waits is taken back (R488). -/
def State.jumpAbort (s : State) (d : Desc) : State :=
  let s1 := match s.stm.run with
    | some r =>
      (match r.jump with
      | some (q, _, _) => if q = d.seq then s.setRun { r with jump := none } else s
      | none => s)
    | none => s
  s1.finish d .aborted []

/-- The run that a descriptor carries ends (Table 20.7). -/
def State.patAbort (s : State) (d : Desc) (n : Nat) : State :=
  match s.pat.run with
  | some r => if r.seq = d.seq then s.patHalt r 4 Status.aborted.code n else s.finish d .aborted []
  | none => s.finish d .aborted []

/-- A foreground calibration ends (R178). -/
def State.fgAbort (s : State) (d : Desc) : State :=
  match s.cal.fg.find? (fun x => x.seq == d.seq) with
  | some x => (s.fgOver x).fgFinish x .aborted []
  | none => s.finish d .aborted []

/-- A trigger skew calibration ends. -/
def State.skewAbort (s : State) (d : Desc) : State :=
  match s.trg.skew.find? (fun x => x.seq == d.seq) with
  | some x =>
    (({ s with trg := { s.trg with skew := s.trg.skew.filter (fun y => y.seq != d.seq) } }).inject x.inputs false).finish
      d .aborted []
  | none => s.finish d .aborted []

/-- A flash operation stops (R535, R541). -/
def State.flashAbort (s : State) (d : Desc) : State :=
  (match s.cfg.job with
    | some j => if j.seq = d.seq then s.abortJob j else s
    | none => s).finish d .aborted []

/-- The own TWIN_JOIN ends. -/
def State.joinAbort (s : State) (d : Desc) : State :=
  if (s.pair.join.map (·.seq)) = some d.seq then (s.tell (.control .leave)).joinEnd .aborted else s.finish d .aborted []

/-- The own TWIN_SKEWCAL ends. -/
def State.twinCalAbort (s : State) (d : Desc) : State :=
  match s.pair.cal with
  | some c =>
    if c.seq = some d.seq then
      (({ s with pair := { s.pair with cal := none } }).inject c.own false).finish d .aborted []
    else s.finish d .aborted []
  | none => s.finish d .aborted []

/-- A harvest's descriptor ends. -/
def State.harvestAbort (s : State) (d : Desc) : State :=
  match s.hif.harvests.find? (fun h => h.seq == d.seq) with
  | some h => s.harvCut h d
  | none => s.finish d .aborted []

/-- An ACQ_RELEASE that waits is dropped. -/
def State.releaseAbort (s : State) (d : Desc) : State :=
  ({ s with hif := { s.hif with releases := s.hif.releases.filter (fun e => e.1 != d.seq) } }).finish d .aborted []

/-- A started descriptor ends under its own chapter's abort rule (R408); `p` and `n` are the presentation sample and the
pattern periods played at the abort. Where a chapter gives no rule, the work goes on and the descriptor completes with
ABORTED. -/
def State.abortStarted (s : State) (p n : Nat) (d : Desc) : State :=
  match d.opcode with
  | 0x01 => s.ctxAbort d
  | 0x03 => s.ctxAbort d
  | 0x04 => s.releaseAbort d
  | 0x20 => s.harvestAbort d
  | 0x21 => s.harvestAbort d
  | 0x33 => s.panCutHarvest d
  | 0x35 => s.panCutClear d
  | 0x40 => s.loadCut d
  | 0x42 => s.stimAbort d p
  | 0x44 => s.jumpAbort d
  | 0x50 => s.loadCut d
  | 0x52 => s.patAbort d n
  | 0x61 => s.fgAbort d
  | 0x62 => s.skewAbort d
  | 0x63 => s.flashAbort d
  | 0x64 => s.flashAbort d
  | 0x66 => s.flashAbort d
  | 0x70 => s.joinAbort d
  | 0x72 => s.twinCalAbort d
  | 0x73 => s.harvestAbort d
  | _ => s.finish d .aborted []

/-- One fetched descriptor is aborted: unstarted it completes without acting (R408). -/
def State.abortOne (s : State) (p n : Nat) (d : Desc) : State :=
  match s.descOf d.seq with
  | some e => if e.started then s.abortStarted p n e else s.finish e .aborted []
  | none => s

/-- Every descriptor of a ring is aborted, but for started ones of the opcodes in `keep`. -/
def State.abortAll (s : State) (r p n : Nat) (keep : List Nat) : State :=
  (s.hif.descs.filter (fun d => d.ring == r && !(d.started && keep.contains d.opcode))).foldl
    (fun t d => t.abortOne p n d) s

/-- An abort of a ring that drains (R408). -/
def State.ringAbort (s : State) (r p n : Nat) : State :=
  let s1 := { s with hif := { s.hif with
    abortedRings := if s.hif.abortedRings.contains r then s.hif.abortedRings else r :: s.hif.abortedRings } }
  let s2 := (s1.setFlag (F.HIF_RING_STAT.ABORTING r) true).abortAll r p n []
  if s2.ringClear r then s2.drainEnd r else s2

/-- EN of a ring becomes 0: fetching stops and the ring drains (R407). -/
def State.ringOff (s : State) (r : Nat) (v : Word) (abort : Bool) (p n : Nat) : State :=
  let s1 := (((s.plainWrite (R.HIF_RING_CTL r) v).setFlag (F.HIF_RING_STAT.RUNNING r) false).setFlag
    (F.HIF_RING_STAT.CQ_STALL r) false).setFlag (F.HIF_RING_STAT.DRAINING r) true
  if abort then s1.ringAbort r p n else if s1.ringClear r then s1.drainEnd r else s1

/-- A write that sets EN is refused (R385, R526). -/
def State.enableRefused (s : State) (r : Nat) (v : Word) : Bool :=
  let owner := getBits v 16 4
  s.flag (F.HIF_RING_STAT.DRAINING r) || getBits v 8 2 == 3
    || (s.reg (R.HIF_RING_SQ_BASE_LO r)).toNat % 4096 != 0 || (s.reg (R.HIF_RING_CQ_BASE_LO r)).toNat % 4096 != 0
    || (getBits v 5 1 == 1 && !s.compat) || Nat.blt s.hif.numVfs owner || !(s.flag F.CFG_STAT.READY)

/-- EN of an idle ring becomes 1: pointers, doorbells and phase restart (R385, R522). -/
def State.ringOn (s : State) (r : Nat) (v : Word) : State :=
  let s1 := ((s.plainWrite (R.HIF_RING_CTL r) v).setReg (R.HIF_RING_PTR r) 0).setFlag (F.HIF_RING_STAT.PHASE r) true
  let s2 := ((s1.setFlag (F.HIF_RING_STAT.FETCH_ERR r) false).setFlag (F.HIF_RING_STAT.RUNNING r) true).setFlag
    F.GLB_STAT.RING_SEEN true
  { s2 with hif := { s2.hif with
    sqTail := SMap.set zero s2.hif.sqTail r 0, cqHead := SMap.set zero s2.hif.cqHead r 0
    cqUsed := SMap.set zero s2.hif.cqUsed r 0, uncovered := SMap.set zero s2.hif.uncovered r 0
    coverAt := SMap.erase s2.hif.coverAt r } }

/-- A ring register write is discarded (R385). -/
def State.ringDiscard (s : State) (r : Nat) : State := s.setFlag (F.HIF_RING_STAT.WR_DISCARD r) true

/-- The ring is idle (R385). -/
def State.ringIdle (s : State) (r : Nat) : Bool := !(s.ringEn r) && !(s.flag (F.HIF_RING_STAT.DRAINING r))

/-- The value that a function writes to HIF_RINGr_CTL: a VF leaves OWNER as it is (Table 15.3). -/
def State.ringValue (s : State) (f r : Nat) (v : Word) : Word := if f = 0 then v else putBits v 16 4 (s.ringOwner r)

/-- Bits of HIF_RINGr_CTL that only an idle ring takes: TYPE, OWNER, SIZE_EXP, V1, HWEIGHT (R385). -/
def ringSetup : Word := 0x0F0F033F#32

/-- A write to HIF_RINGr_CTL (R384, R385, R407, R408, Table 15.3). -/
def State.ringCtlWrite (s : State) (f r : Nat) (v0 : Word) (p n : Nat) : State :=
  let v := s.ringValue f r v0
  let en := getBits v 31 1 == 1
  let abort := getBits v 30 1 == 1
  if f != 0 && f != s.ringOwner r then s
  else if (abort && en) || (!(s.ringIdle r) && ((v ^^^ s.reg (R.HIF_RING_CTL r)) &&& ringSetup) != 0) then s.ringDiscard r
  else if en && !(s.ringEn r) then (if s.enableRefused r v then s.ringDiscard r else s.ringOn r v)
  else if !en && s.ringEn r then s.ringOff r v abort p n
  else if abort && s.flag (F.HIF_RING_STAT.DRAINING r) then s.ringAbort r p n
  else s.plainWrite (R.HIF_RING_CTL r) v

/-- RING_ENABLE: the value written has EN=1. -/
def execRingEnable (func : Fin 9) (ring : Fin 64) (value : Word) (s : State) : Host.Outcome State Fault Refusal :=
  s.act (fun t => t.ringCtlWrite func ring (value ||| 0x80000000#32) 0 0)

/-- RING_DISABLE: the value written has EN=0 and ABORT=0. -/
def execRingDisable (func : Fin 9) (ring : Fin 64) (value : Word) (s : State) : Host.Outcome State Fault Refusal :=
  s.act (fun t => t.ringCtlWrite func ring (value &&& 0x3FFFFFFF#32) 0 0)

/-- RING_ABORT: the value written has EN=0 and ABORT=1. -/
def execRingAbort (func : Fin 9) (ring : Fin 64) (value : Word) (p : BitVec 64) (periods : Nat) (s : State) :
    Host.Outcome State Fault Refusal :=
  s.act (fun t => t.ringCtlWrite func ring (putBits value 30 2 1) p.toNat periods)

/-- A ring's descriptors end without a completion (R378, R409). -/
def State.ringLost (s : State) (r p n : Nat) (keep : List Nat) : State :=
  let s1 := s.abortAll r p n keep
  { s1 with hif := { s1.hif with
    descs := s1.hif.descs.filter (fun d => d.ring != r), waiting := s1.hif.waiting.filter (fun w => w.ring != r)
    abortedRings := s1.hif.abortedRings.filter (fun x => x != r) } }

/-- A map without the entry of a ring. -/
def State.forgetRing (s : State) (r : Nat) : State :=
  { s with
    hif := { s.hif with
      sqTail := SMap.erase s.hif.sqTail r, cqHead := SMap.erase s.hif.cqHead r, cqUsed := SMap.erase s.hif.cqUsed r
      uncovered := SMap.erase s.hif.uncovered r, coverAt := SMap.erase s.hif.coverAt r, stalls := SMap.erase s.hif.stalls r }
    evt := { s.evt with lost := SMap.erase s.evt.lost r } }

/-- The registers of a ring take their reset values, but for OWNER (R409). -/
def State.resetRing (s : State) (r : Nat) : State :=
  let owner := s.ringOwner r
  (((List.range 11).foldl (fun t i => t.setReg (R.HIF_RING_CTL r + 4 * i) (regReset (R.HIF_RING_CTL r + 4 * i)))
    s).setFld (F.HIF_RING_CTL.OWNER r) owner).forgetRing r

/-- Keys of one function in the snapshots and staged dwords (R107, R109). -/
def keyFunc (k : Nat) : Nat := k / 2 ^ 24

/-- The snapshots and staged dwords of a function are gone (R108, R109). -/
def State.clearSnaps (s : State) (f : Nat) : State :=
  { s with hif := { s.hif with
    snaps := s.hif.snaps.filter (fun e => keyFunc e.1 != f), staged := s.hif.staged.filter (fun e => keyFunc e.1 != f) } }

/-- The harvest cursors of a function's acquisitions go back to 0 (R409). -/
def State.clearCursors (s : State) (f : Nat) : State :=
  s.each (List.range 4) (fun t n =>
    if t.fld (F.ACQ_AC_STAT.OWNER n) = f then t.setCtx n { t.ctx n with cursors := [] } else t)

/-- Bus Master Enable of a function is 0. -/
def State.busOff (s : State) (f : Nat) : State :=
  { s with hif := { s.hif with busMaster := s.hif.busMaster.filter (fun x => x != f) } }

/-- The queued records routed to a VF are discarded by its Function Level Reset (R418). -/
def State.dropRecords (s : State) (f : Nat) : State :=
  if f = 0 then s
  else ({ s with evt := { s.evt with queue := s.evt.queue.filter (fun e => e.func != f) } }).overflowEvent

/-- A Function Level Reset of one function (R409, R418). -/
def State.funcReset (s : State) (f p n : Nat) : State :=
  let rings := (List.range 64).filter (fun r => s.ringOwner r == f)
  let s1 := rings.foldl (fun t r => t.ringLost r p n []) (s.busOff f)
  let s2 := rings.foldl State.resetRing s1
  ((s2.clearSnaps f).clearCursors f).dropRecords f

/-- HIF block. -/
def hifOffset (o : Nat) : Bool := Nat.ble 0x30000 o && Nat.blt o 0x40000

/-- Every HIF register holds its reset value except LINK_LOST, which becomes `lost`; rings and doorbells are gone
(R378, R409, Table 21.1). Snapshots and staged dwords go too, at a loss of the link as at a reset (R107, log entry 85). -/
def State.hifReset (s : State) (lost : Bool) : State :=
  let s1 := ({ s with regs := s.regs.filter (fun e => !(hifOffset e.1)) }).setFlag F.HIF_STAT.LINK_LOST lost
  { s1 with
    hif := { s1.hif with
      sqTail := [], cqHead := [], cqUsed := [], descs := [], harvests := [], releases := [], waiting := []
      uncovered := [], coverAt := [], stalls := [], abortedRings := [], snaps := [], staged := [], bar4 := [], inFlr := [], numVfs := 0, busMaster := [] }
    evt := { s1.evt with lost := [] } }

/-- The work of every ring ends without completions: that of an enabled ring whole, but for the opcodes in `keep`; a
draining ring's acquisitions, sequences and runs go on (R378). -/
def State.ringsLost (s : State) (p n : Nat) (keep : List Nat) : State :=
  let s0 := { s with hif := { s.hif with busMaster := [] } }
  s0.each (List.range 64) (fun t r => t.ringLost r p n (if t.ringEn r then keep else [0x01, 0x03, 0x42, 0x52]))

/-- PCIE_LINK_DOWN (R378). -/
def State.linkDown (s : State) (p n : Nat) : State :=
  let s1 := (s.ringsLost p n []).hifReset true
  ({ s1 with hif := { s1.hif with linkUp := false } }).fault 0x0110 0

def execPcieLinkDown (p : BitVec 64) (periods : Nat) (s : State) : Host.Outcome State Fault Refusal :=
  s.act (fun t => if t.hif.linkUp then t.linkDown p.toNat periods else t)

/-- PCIE_LINK_UP (R378, R411): the link trains, or changes its speed or width. -/
def State.linkTrain (s : State) (speed width : Nat) : State :=
  let s1 := if !s.hif.linkUp && s.flag F.HIF_STAT.LINK_LOST then s.hifReset true else s
  let s2 := { s1 with hif := { s1.hif with linkUp := true } }
  if s2.fld F.HIF_STAT.SPEED = speed && s2.fld F.HIF_STAT.WIDTH = width then s2
  else
    let s3 := (s2.setFld F.HIF_STAT.SPEED speed).setFld F.HIF_STAT.WIDTH width
    s3.raise 37 (speed + 2 ^ 8 * width) s3.routeAll

def execPcieLinkUp (speed : Fin 16) (width : Fin 32) (s : State) : Host.Outcome State Fault Refusal :=
  s.act (fun t => t.linkTrain speed width)

/-- FUNCTION_LEVEL_RESET (R409); that of the PF acts on every VF too. -/
def State.flr (s : State) (f p n : Nat) : State :=
  if f = 0 then
    let s1 := (List.range 9).foldl (fun t g => t.funcReset g p n) s
    s1.hifReset (s1.flag F.HIF_STAT.LINK_LOST)
  else if f ≤ s.hif.numVfs && !(s.hif.inFlr.contains f) then
    ({ s with hif := { s.hif with inFlr := f :: s.hif.inFlr } }).funcReset f p n
  else s

def execFunctionLevelReset (func : Fin 9) (p : BitVec 64) (periods : Nat) (s : State) : Host.Outcome State Fault Refusal :=
  s.act (fun t => t.flr func p.toNat periods)

/-- FUNCTION_LEVEL_RESET_DONE (R409): E038 to the PF with the VF number. -/
def State.flrDone (s : State) (f : Nat) : State :=
  if s.hif.inFlr.contains f then
    ({ s with hif := { s.hif with inFlr := s.hif.inFlr.filter (fun x => x != f) } }).raisePF 38 f
  else s

def execFunctionLevelResetDone (func : Fin 9) (s : State) : Host.Outcome State Fault Refusal :=
  s.act (fun t => t.flrDone func)

/-- PERST_N_PULSE (R523, Table 21.1): configuration space and the HIF block are reset; contexts that rings carry end
ABORTED, sequences and runs go on, everything else keeps its state. -/
def State.perst (s : State) : State :=
  let s1 := (s.ringsLost 0 0 [0x42, 0x52]).hifReset true
  { s1 with hif := { s1.hif with linkUp := false } }

def execPerstNPulse (s : State) : Host.Outcome State Fault Refusal := s.act State.perst

end Sys2Proof.Machine
end

