-- ==== Sys2Proof/Machine/Access.lean ====
section
/-!
DEFINITION. Accesses to BAR0 (ch. 0 R9 to R11, ch. 01 R29, R30, ch. 04 R107 to R109, ch. 15 Table 15.3, ch. 23): the
write of one dword at an offset, wide values and their snapshots, the view of a VF, and GLB_CTL.COMPAT.
-/
namespace Sys2Proof.Machine

/-- GLB_CTL (R522, R43): compatibility comes into force before the first ring is enabled, with 4-input mode; while a mode
change runs it leaves MODE as it is (log entry 84). -/
def State.compatWrite (s : State) (v : Word) : State :=
  if getBits v 0 1 = 0 then s
  else if s.flag F.GLB_STAT.RING_SEEN then s.setFlag F.GLB_STAT.COMPAT_LATE true
  else if s.compat then s
  else (((s.setFlag F.GLB_CTL.COMPAT true).inpModeWrite 2).symJudge false).raisePF 8 0

/-- GLB_COMPAT_WRITE (R522). -/
def execGlbCompatWrite (value : Word) (s : State) : Host.Outcome State Fault Refusal :=
  s.act (fun t => t.compatWrite value)

/-- A register of ring r at offset `o` of its group is written by a function (R385, Table 15.3). -/
def State.ringRegWrite (s : State) (f r o : Nat) (v : Word) : State :=
  if f != 0 && f != s.ringOwner r then s
  else if o = 0 then
    if getBits v 30 1 = 1 then
      let (p, s1) := s.draw 64
      let (n, s2) := s1.draw 16
      s2.ringCtlWrite f r v p.toNat n.toNat
    else s.ringCtlWrite f r v 0 0
  else if o ≤ 0x10 || o = 0x18 then
    if s.ringIdle r then s.plainWrite (R.HIF_RING_CTL r + o) v else s.ringDiscard r
  else s.plainWrite (R.HIF_RING_CTL r + o) v

/-- HIF: ring groups, and plain registers. -/
def State.hifWrite (s : State) (off : Nat) (v : Word) : State :=
  let x := off - 0x31000
  if Nat.ble 0x31000 off && Nat.blt x 0x1000 then s.ringRegWrite 0 (x / 0x40) (x % 0x40) v else s.plainWrite off v

/-- One dword of a wide RW register of n dwords at `base` is written by the PF: it is staged, and the highest-addressed
one puts the whole into force (R109). -/
def State.wideWrite (s : State) (base n off : Nat) (v : Word) : State :=
  if off = base + 4 * (n - 1) then
    let s1 := (List.range (n - 1)).foldl (fun t i => t.plainWrite (base + 4 * i) (t.stagedOr 0 (base + 4 * i))) s
    (s1.plainWrite off v).unstage 0 base n
  else { s with hif := { s.hif with staged := SMap.set (fun _ => none) s.hif.staged off (some v) } }

def State.timeWrite (s : State) (off : Nat) (v : Word) : State :=
  if off = R.TIME_CTL then s.timeCtlWrite v
  else if off = R.TIME_SYNC_CTL then s.syncCtlWrite v
  else if off = R.TIME_PPS_SEC_LO || off = R.TIME_PPS_SEC_HI then s.wideWrite R.TIME_PPS_SEC_LO 2 off v
  else if Nat.ble R.TIME_SYNC_LOAD_0 off && Nat.ble off R.TIME_SYNC_LOAD_2 then s.wideWrite R.TIME_SYNC_LOAD_0 3 off v
  else s.plainWrite off v

/-- UNLOCK_PH is at least 2 LOCK_PH (R71). -/
def State.lockWrite (s : State) (l : Nat) (v : Word) : State :=
  let s1 := s.plainWrite (R.CLK_SYN_LOCK l) v
  let low := satNat 255 (2 * s1.fld (F.CLK_SYN_LOCK.LOCK_PH l))
  if s1.fld (F.CLK_SYN_LOCK.UNLOCK_PH l) < low then s1.setFld (F.CLK_SYN_LOCK.UNLOCK_PH l) low else s1

/-- CLK_RATE_GO written through a plain register write: the gap that CORE will see is a free value (log entry 4). -/
def State.rateGoFree (s : State) (v : Word) : State :=
  let (g, s1) := s.draw 64
  s1.rateGo v g.toNat

/-- SYN_A to SYN_M: the loop whose group holds an offset, where it is the offset of CLK_SYNs_LOCK. -/
def State.clkWrite (s : State) (off : Nat) (v : Word) : State :=
  if off = R.CLK_CTL then s.clkCtlWrite v
  else if off = R.CLK_RATE_GO then s.rateGoFree v
  else if off = R.CLK_SRATE_GO then s.srateGo v
  else if Nat.ble (R.CLK_SKEW_P 0) off && Nat.ble off (R.CLK_SKEW_G 3) then s.skewWrite off v
  else match (List.range 4).find? (fun l => off == R.CLK_SYN_LOCK l) with
    | some l => s.lockWrite l v
    | none => s.plainWrite off v

def State.inpWrite (s : State) (off : Nat) (v : Word) : State :=
  if off = R.INP_MODE then s.inpModeWrite v
  else if off = R.INP_REF_CTL then s.refCtlWrite v
  else if off = R.INP_MON_CTL then s.monCtlWrite v
  else if off = R.INP_CALSTEP_CTL then s.stepWrite v
  else match (List.range 4).find? (fun n => off == R.INP_OFFSET n) with
    | some n => s.offsetWrite n v
    | none => s.plainWrite off v

def State.cnvWrite (s : State) (off : Nat) (v : Word) : State :=
  if off = R.CNV_CMD then s.cnvCmd v
  else if off = R.CNV_CHK_CTL || off = R.CNV_CHK_THR then (s.plainWrite off v).refreshBlocks
  else if (List.range 8).any (fun b => off == R.CNV_BANK_CTL b) then (s.plainWrite off v).showBanks.wakeSweeps
  else s.plainWrite off v

def State.calWrite (s : State) (off : Nat) (v : Word) : State :=
  match (List.range 112).find? (fun u => off == trimOff u) with
  | some u => s.trimWrite u v
  | none => (s.plainWrite off v).refreshBlocks

def State.eqWrite (s : State) (off : Nat) (v : Word) : State :=
  match (List.range 4).find? (fun n => off == R.EQ_SWAP n), (List.range 4).find? (fun n => off == R.EQ_DELAY n) with
  | some n, _ => s.eqSwap n v
  | _, some n => s.delayWrite n v
  | none, none => s.plainWrite off v

def State.decWrite (s : State) (off : Nat) (v : Word) : State :=
  match (List.range 20).find? (fun i => off == pathOff i) with
  | some i => s.pathWrite i v
  | none => s.plainWrite off v

/-- Registers of a detector at offset `o` of its group: staged ones, APPLY, and others (R233); on a follower they are
discarded (ch. 18). -/
def State.detWrite (s : State) (k o : Nat) (v : Word) : State :=
  if o < 0x20 then
    if s.isFollower then s.setFlag (F.TRG_TD_STAT.APPLY_DISCARD k) true
    else (s.plainWrite (R.TRG_TD_CFG k + o) v).showDet k
  else if o = 0x20 then (if getBits v 0 1 = 1 then s.trgApply k else s)
  else s.plainWrite (R.TRG_TD_CFG k + o) v

/-- The number of a sequencer register at offset `o` of its context's group, in seqReg's order. -/
def seqRegAt (o : Nat) : Option Nat := (List.range 23).find? (fun r => seqReg 0 r == 0xE0800 + o)

def State.trgWrite (s : State) (off : Nat) (v : Word) : State :=
  let x := off - 0xE0000
  if x < 0x400 then s.detWrite (x / 0x40) (x % 0x40) v
  else if x < 0x410 then s.pthWrite ((x - 0x400) / 4) v
  else if Nat.ble 0x420 x && Nat.blt x 0x454 then s.xdlyWrite ((x - 0x420) / 4) v
  else if Nat.ble 0x800 x && Nat.blt x 0xC00 then
    match seqRegAt (x % 0x100) with
    | some r => s.seqWrite ((x - 0x800) / 0x100) r v
    | none => s.plainWrite off v
  else s.plainWrite off v

def State.symWrite (s : State) (off : Nat) (v : Word) : State :=
  if off = R.SYM_APPLY then (if getBits v 0 1 = 1 then s.symApply else s) else s.plainWrite off v

def State.acqWrite (s : State) (off : Nat) (v : Word) : State :=
  let n := (off - 0x100000) / 0x100
  if 3 < n then s
  else if off = R.ACQ_AC_CTL n then s.acqCtlWrite n v
  else if off = R.ACQ_AC_SLU_CTL n then s.sluWrite n 0 v
  else if off = R.ACQ_AC_SLU_THR n then s.sluWrite n 1 v
  else s.plainWrite off v

def State.memWrite (s : State) (off : Nat) (v : Word) : State :=
  let x := off - 0x120400
  if off = R.MEM_XLATE_IN then (s.plainWrite off v).showXlate
  else if Nat.ble 0x120400 off && Nat.blt x 0x100 then (if x % 0x10 < 0xC then s.ptWrite (x / 0x10) (x % 0x10 / 4) v else s)
  else match (List.range 10).find? (fun j => off == (hashFld j).off), (List.range 8).find? (fun p => off == R.MEM_PORT_CTL p) with
    | some j, _ => s.hashWrite j v
    | none, some p => s.portWrite p v
    | none, none => s.plainWrite off v

/-- Registers that a running sequence locks (R494), and the others. -/
def State.stmWrite (s : State) (off : Nat) (v : Word) : State :=
  let x := off - 0x140000
  let held := x = 0 || (Nat.ble 0x10 x && Nat.blt x 0x30) || (Nat.ble 0x40 x && Nat.blt x 0x50)
  if held && s.stimState != 0 then s.setFlag F.STM_STAT.WR_DISCARD true else s.plainWrite off v

/-- Registers that a running pattern locks (R519), the idle codes (R516), and the others. -/
def State.patWrite (s : State) (off : Nat) (v : Word) : State :=
  let x := off - 0x150000
  let held := x = 0 || (Nat.ble 0x10 x && Nat.ble x 0x18)
  if held && s.patState != 0 then s.setFlag F.PAT_STAT.WR_DISCARD true
  else if x = 0x10 || x = 0x14 then (s.plainWrite off v).patIdle else s.plainWrite off v

def State.peerWrite (s : State) (off : Nat) (v : Word) : State :=
  let x := off - 0x160000
  if x = 0 then s.peerCtlWrite v
  else if off = R.PEER_BRX_RPTR then s.rptrWrite v
  else if Nat.ble 0x100 x && Nat.ble x 0x120 && x % 4 == 0 then s.outWrite ((x - 0x100) / 4) v
  else if Nat.ble 0x300 x && Nat.blt x 0x340 then s.peerWindowWrite off v
  else s.plainWrite off v

def State.pairWrite (s : State) (off : Nat) (v : Word) : State :=
  if off = R.PAIR_CTL then s.pairCtlWrite v
  else if off = R.PAIR_TWIN_PHASE || off = R.PAIR_TWIN_GAIN || off = R.PAIR_TWIN_OFF then s.twinWrite off v
  else s.plainWrite off v

/-- HLTH: writing a threshold re-arms its event (R554). -/
def State.hlthWrite (s : State) (off : Nat) (v : Word) : State :=
  let s1 := s.plainWrite off v
  match (List.range 16).find? (fun c => off == R.HLTH_THR c) with
  | some c => { s1 with hlth := { s1.hlth with thrFired := s1.hlth.thrFired.filter (fun x => x != c) } }
  | none => s1

/-- Correction sets: dwords are staged, and dword 3 acts (R159). -/
def State.corrRegWrite (s : State) (off : Nat) (v : Word) : State :=
  let x := off - 0x830000
  let m := x / 0x800
  let p := x % 0x800 / 0x10
  if 2 < m || 103 < p then s
  else if x % 0x10 = 0xC then s.corrWrite 0 m p
  else { s with hif := { s.hif with staged := SMap.set (fun _ => none) s.hif.staged off (some v) } }

/-- Equaliser coefficient banks. -/
def State.coeffRegWrite (s : State) (off : Nat) (v : Word) : State :=
  let x := off - 0x840000
  let k := x / 0x400
  if 7 < k || 0x200 ≤ x % 0x400 then s else s.coeffWrite (k / 2) (k % 2) (x % 0x400 / 4) v

/-- The mirror of the GLB block (R561). -/
def State.alias (s : State) (off : Nat) : Nat := if s.compat && off / 0x10000 == 0xF0 then off - 0xF00000 else off

/-- The PF writes one dword at an offset of BAR0 (R9, R29, R30, R557). -/
def State.pfWrite (s : State) (off0 : Nat) (v : Word) : State :=
  let off := s.alias off0
  if off % 4 != 0 || !(s.reachable off) then s
  else match off / 0x10000 with
  | 0x00 => if off = R.GLB_CTL then s.compatWrite v else s.plainWrite off v
  | 0x02 => if off = R.EVT_TEST then s.evtTestWrite v else s.plainWrite off v
  | 0x03 => s.hifWrite off v
  | 0x04 => s.timeWrite off v
  | 0x05 => s.clkWrite off v
  | 0x06 => s.inpWrite off v
  | 0x08 => s.cnvWrite off v
  | 0x0A => s.calWrite off v
  | 0x0C => s.eqWrite off v
  | 0x0D => s.decWrite off v
  | 0x0E => s.trgWrite off v
  | 0x0F => s.symWrite off v
  | 0x10 => s.acqWrite off v
  | 0x12 => s.memWrite off v
  | 0x14 => s.stmWrite off v
  | 0x15 => s.patWrite off v
  | 0x16 => s.peerWrite off v
  | 0x17 => s.pairWrite off v
  | 0x18 => s.hlthWrite off v
  | 0x81 => if s.clk.ramp.isSome then s else s.plainWrite off v
  | 0x83 => s.corrRegWrite off v
  | 0x84 => s.coeffRegWrite off v
  | _ => s.plainWrite off v

/-- A function writes one dword: a VF reaches only the registers of its own rings (Table 15.3). -/
def State.funcWrite (s : State) (f off : Nat) (v : Word) : State :=
  if f = 0 then s.pfWrite off v
  else if off / 0x1000 = 1 then s.ringRegWrite f (off % 0x1000 / 0x40) (off % 0x40) v
  else s

/-- REGISTER_WRITE: one or two naturally aligned dwords, the lower address first; any other access is discarded (R11). -/
def State.regWrite (s : State) (f off width : Nat) (v : BitVec 64) : State :=
  if width = 4 && off % 4 == 0 then s.funcWrite f off (v.extractLsb' 0 32)
  else if width = 8 && off % 8 == 0 then
    (s.funcWrite f off (v.extractLsb' 0 32)).funcWrite f (off + 4) (v.extractLsb' 32 32)
  else s

def execRegisterWrite (func : Fin 9) (off width : Nat) (value : BitVec 64) (s : State) :
    Host.Outcome State Fault Refusal :=
  s.act (fun t => t.regWrite func off width value)

/-- A family of wide values: first offset, two strides with their counts, dwords of each (R107). -/
structure Wide where
  base : Nat
  s1 : Nat
  n1 : Nat
  s2 : Nat
  n2 : Nat
  dwords : Nat
deriving DecidableEq, Repr

/-- The wide values of the Register Index. -/
def wides : List Wide := [
  ⟨0x40010, 0, 1, 0, 1, 5⟩, ⟨0x40030, 0, 1, 0, 1, 2⟩, ⟨0x40040, 0, 1, 0, 1, 2⟩, ⟨0x40060, 0, 1, 0, 1, 2⟩,
  ⟨0x40068, 0, 1, 0, 1, 2⟩, ⟨0x40084, 0, 1, 0, 1, 3⟩, ⟨0x80100, 0x20, 8, 0, 1, 2⟩, ⟨0x80110, 0x20, 8, 8, 2, 2⟩,
  ⟨0xA0100, 0x20, 8, 0, 1, 4⟩, ⟨0xC0010, 0x40, 4, 0, 1, 2⟩, ⟨0xD0200, 0, 1, 0, 1, 2⟩, ⟨0xE0030, 0x40, 16, 8, 2, 2⟩,
  ⟨0xE08C0, 0x100, 4, 0, 1, 2⟩, ⟨0xF0048, 0, 1, 0x10, 2, 2⟩, ⟨0x100008, 0x100, 4, 0, 1, 2⟩,
  ⟨0x100058, 0x100, 4, 8, 2, 2⟩, ⟨0x100068, 0x100, 4, 8, 4, 2⟩, ⟨0x100088, 0x100, 4, 0, 1, 2⟩,
  ⟨0x100090, 0x100, 4, 0, 1, 3⟩, ⟨0x120090, 0, 1, 0, 1, 2⟩, ⟨0x120300, 0x10, 16, 0, 1, 4⟩, ⟨0x140050, 0, 1, 8, 2, 2⟩,
  ⟨0x140060, 0, 1, 0, 1, 3⟩, ⟨0x150020, 0, 1, 0, 1, 2⟩, ⟨0x150028, 0, 1, 0, 1, 3⟩, ⟨0x160008, 0, 1, 0, 1, 2⟩,
  ⟨0x160200, 0x10, 13, 0, 1, 3⟩, ⟨0x170038, 0, 1, 0, 1, 2⟩, ⟨0x180400, 0, 1, 0, 1, 2⟩, ⟨0x180500, 0x10, 16, 0, 1, 4⟩,
  ⟨0x820000, 0x10, 104, 0, 1, 4⟩, ⟨0x830000, 0x800, 3, 0x10, 104, 4⟩, ⟨0x860000, 0x10, 64, 0, 1, 4⟩,
  ⟨0x861000, 0x20, 64, 0, 1, 8⟩]

/-- The wide value of the family that holds an offset: its lowest offset. -/
def Wide.first (w : Wide) (off : Nat) : Option Nat :=
  let d := off - w.base
  let i := if w.s1 = 0 then 0 else min (w.n1 - 1) (d / w.s1)
  let e := d - w.s1 * i
  let j := if w.s2 = 0 then 0 else min (w.n2 - 1) (e / w.s2)
  if Nat.ble w.base off && Nat.blt (e - w.s2 * j) (4 * w.dwords) then some (w.base + w.s1 * i + w.s2 * j) else none

/-- The wide value that holds an offset: its lowest offset and its dwords. -/
def wideAt (off : Nat) : Option (Nat × Nat) :=
  wides.findSome? (fun w => (w.first off).map (fun b => (b, w.dwords)))

/-- The value that a correction set entry reads: the applied one in the active mode (R158). -/
def State.corrWords (s : State) (off : Nat) : List Word :=
  let x := off - 0x830000
  let m := x / 0x800
  let p := x % 0x800 / 0x10
  let a := fun f => s.corrApplied m p f (s.frameNow false)
  [BitVec.ofNat 32 (pattern 18 (a 0)), BitVec.ofNat 32 (pattern 16 (a 1)),
   BitVec.ofNat 32 (pattern 16 (a 3) * 2 ^ 16 + pattern 16 (a 2)), s.reg (off + 12)]

/-- The dwords of a wide value as it stands in this core cycle. -/
def State.wideNow (s : State) (base n : Nat) : List Word :=
  let l := (List.range n).map (fun i => s.reg (base + 4 * i))
  if base = R.TIME_NOW 0 then s.timeNow
  else if base / 0x1000 = 0x860 then
    l.set 3 (putBits (dwAt l 3) 0 16 (s.entryAge ((base - 0x860000) / 0x10)))
  else if base / 0x10000 = 0x83 then s.corrWords base
  else l

/-- The snapshot of a read of the lowest dword (R107, R108). -/
def State.snapshot (s : State) (f base : Nat) (l : List Word) : State :=
  { s with hif := { s.hif with
    snaps := SMap.setList (fun _ => (0 : Word)) s.hif.snaps (f * 2 ^ 24 + base / 4) l } }

/-- The snapshot dword of an offset, 0 where the function holds none. -/
def State.snapAt (s : State) (f off : Nat) : Word := SMap.get (fun _ => (0 : Word)) s.hif.snaps (f * 2 ^ 24 + off / 4)

/-- A function reads one dword at an offset as the PF's BAR0 lays it out (R30, R107, R557, R561). -/
def State.pfRead (s : State) (f off0 : Nat) : Word × State :=
  let off := s.alias off0
  if !(s.reachable off) then (0xFFFFFFFF, s)
  else match wideAt off with
  | some (b, n) =>
    let l := s.wideNow b n
    if off = b then (dwAt l 0, s.snapshot f b l) else (s.snapAt f off, s)
  | none => (if (regRow off).isSome then s.reg off else 0, s)

/-- A function reads one dword: a VF reaches only its view (Table 15.3). -/
def State.funcRead (s : State) (f off : Nat) : Word × State :=
  if f = 0 then s.pfRead 0 off
  else if off < 0x100 then s.pfRead f off
  else if off < 0x200 then s.pfRead f (0x40000 + (off - 0x100))
  else if off / 0x1000 = 1 then
    (if s.ringOwner (off % 0x1000 / 0x40) = f then s.reg (0x30000 + off) else 0, s)
  else if off = 0x2000 then (s.reg (R.HIF_EVDROP f), s)
  else (0, s)

/-- The host has its answer. -/
def State.answer (s : State) (l : List Word) : State :=
  { s with hif := { s.hif with reads := ⟨l, false, false⟩ :: s.hif.reads } }

/-- WIDE_VALUE_READ: a read of one or two naturally aligned dwords; any other returns 0xFFFF_FFFF (R11). -/
def State.regRead (s : State) (f off width : Nat) : State :=
  if width = 4 && off % 4 == 0 then
    let (v, s1) := s.funcRead f off
    s1.answer [v]
  else if width = 8 && off % 8 == 0 then
    let (v, s1) := s.funcRead f off
    let (w, s2) := s1.funcRead f (off + 4)
    s2.answer [v, w]
  else s.answer [0xFFFFFFFF]

def execWideValueRead (func : Fin 9) (off width : Nat) (s : State) : Host.Outcome State Fault Refusal :=
  s.act (fun t => t.regRead func off width)

end Sys2Proof.Machine
end

