-- ==== Sys2Proof/Machine/Health.lean ====
section
/-!
DEFINITION. Supplies, service life and SMBus (ch. 22, ch. 24): the meanings of RAIL_CHECK, AGE_TICK and
SMBUS_TRANSACTION, and the junction limits that SENSOR_READ applies.
-/
namespace Sys2Proof.Machine

/-- Nominal voltage in mV and tolerance in tenths of a percent of rail r (Tables 22.4 and 24.5). -/
def railLimits : Nat → Nat × Nat
  | 0 => (750, 25) | 1 => (850, 30) | 2 => (900, 20) | 3 => (3300, 20) | 4 => (2500, 20)
  | 5 => (1000, 30) | 6 => (1800, 30) | 7 => (1100, 30) | 8 => (400, 30) | 9 => (1200, 30) | _ => (800, 30)

/-- A reading in mV lies below, or above, the operating limits of rail r (R566). -/
def railLow (r mv : Nat) : Bool := let (n, t) := railLimits r; decide (mv * 1000 < n * (1000 - t))
def railHigh (r mv : Nat) : Bool := let (n, t) := railLimits r; decide (n * (1000 + t) < mv * 1000)

/-- Rail r reads `mv` (R553): the event and the fault arise when the rail leaves its limits. -/
def State.railCheck (s : State) (r mv : Nat) : State :=
  let out := railLow r mv || railHigh r mv
  let was := s.flag (F.HLTH_STAT.RAIL.bit r)
  let s1 := (s.setFld (F.HLTH_RAIL.V r) mv).setFlag (F.HLTH_STAT.RAIL.bit r) out
  if out && !was then
    ((s1.setFlag F.HLTH_STAT.SUPPLY_SEEN true).raisePF 275 (r + (if railHigh r mv then 16 else 0))).fault 0x010C r
  else s1

/-- RAIL_CHECK (R553). -/
def execRailCheck (rail : Fin 11) (mv : BitVec 16) (s : State) : Host.Outcome State Fault Refusal :=
  s.act (fun t => t.railCheck rail mv.toNat)

/-- The largest weight of the form of R555 that `2^e10` admits as a tenth power, from bit `n` down. -/
def weightFrom (e10 : Nat) : Nat → Nat → Nat
  | 0, w => w
  | n + 1, w =>
    let w' := w + 2 ^ n
    weightFrom e10 n (if (2 * w' - 1) ^ 10 ≤ 2 ^ e10 then w' else w)

/-- The age weight of a second at T °C: 2^((T - 90) / 10) in units of 2^-16, rounded (R555). -/
def ageWeight (t : Int) : Nat :=
  let e := t + 80
  if e < 0 then 0 else weightFrom e.toNat 22 0

/-- WARN as it acts: from 60 to 104 (Table 22.6). -/
def State.warnLimit (s : State) : Int := ((max 60 (min 104 (s.fld F.HLTH_CTL.WARN)) : Nat) : Int)

/-- The highest junction reading of the present second; the highest of the last readings where it has had none. -/
def State.secondMax (s : State) : Int :=
  match s.hlth.hottest with
  | some t => t
  | none => (List.range 10).foldl (fun a k => max a (s.sfld (F.HLTH_TEMP.TEMP k))) (s.sfld (F.HLTH_TEMP.TEMP 0))

/-- A second of uptime ends: its weight for the highest reading T, and the second (R554, R555). -/
def State.ageTick (s : State) : State :=
  let t := s.secondMax
  let s0 := { s with hlth := { s.hlth with hottest := none, secondAt := s.hlth.secondAt + 2 ^ 64 } }
  let s1 := s0.setReg64 R.HLTH_AGE_LO (s.reg64 R.HLTH_AGE_LO + ageWeight t)
  let s2 := s1.bumpSat F.HLTH_UPTIME.V 1
  if s.warnLimit ≤ t then s2.healthCount 13 else s2

/-- AGE_TICK (R555): a second has passed since the last. -/
def execAgeTick (s : State) : Host.Outcome State Fault Refusal :=
  s.act (fun u => if u.passed u.hlth.secondAt (2 ^ 64) then u.ageTick else u)

/-- The qualifier of the thermal events: sensor and temperature (Table 16.14). -/
def thermQual (k : Nat) (temp : Nat) : Nat := k + 2 ^ 8 * temp

/-- A sensor reads (R550). -/
def State.storeTemp (s : State) (k temp : Nat) : State :=
  let t := signed 8 temp
  let s0 := { s with hlth := { s.hlth with hottest := some (match s.hlth.hottest with | some x => max x t | none => t) } }
  let s1 := s0.setFld (F.HLTH_TEMP.TEMP k) temp
  if s.sfld (F.HLTH_TEMP.MAX k) < signed 8 temp then s1.setFld (F.HLTH_TEMP.MAX k) temp else s1

/-- Every sensor's last reading is below, or at most, a limit. -/
def State.allBelow (s : State) (lim : Int) : Bool :=
  (List.range 10).all (fun k => decide (s.sfld (F.HLTH_TEMP.TEMP k) < lim))

/-- The warning limit of R551: THERM_ALERT_N is driven or released. -/
def State.warnStep (s : State) (k temp : Nat) : State :=
  if s.warnLimit ≤ signed 8 temp then
    if s.flag F.HLTH_STAT.ALERT then s
    else ((s.setFlag F.HLTH_STAT.ALERT true).setFlag F.HLTH_STAT.WARN_SEEN true).raise 272 (thermQual k temp) s.routeAll
  else if s.flag F.HLTH_STAT.ALERT && s.allBelow (s.warnLimit - 4) then
    (s.setFlag F.HLTH_STAT.ALERT false).raise 279 (thermQual k temp) s.routeAll
  else s

/-- The boundary-scan IDCODE (R572, R584). -/
def State.idcode (s : State) : Word :=
  BitVec.ofNat 32 (s.fld F.GLB_STAT.STEPPING % 16 * 2 ^ 28 + 0xA960 * 2 ^ 12 + 0x2B7 * 2 + 1)

/-- SMBUS_TRANSACTION (R572, R540): the firmware answers at address 0x58 while it runs; what it answers is its own,
a free value (log entry 4). -/
def State.smbus (s : State) (addr : Nat) : State :=
  if addr = 0x58 && s.flag F.CFG_STAT.FW_RUNNING then
    let (v, s1) := s.draw 8
    { s1 with hlth := { s1.hlth with smbusAck := true, smbusData := v } }
  else { s with hlth := { s.hlth with smbusAck := false } }

def execSmbusTransaction (addr : BitVec 7) (s : State) : Host.Outcome State Fault Refusal :=
  s.act (fun t => t.smbus addr.toNat)

end Sys2Proof.Machine
end

