-- ==== Sys2Proof/Machine/Idle.lean ====
section
/-!
DEFINITION. What an empty queue stands for: one core cycle passes with no command (log entry 2); and MODE_ROUTING_SWITCH,
which begins a core cycle.
-/
namespace Sys2Proof.Machine

/-- Step 0 of start-up ends and step 1 begins (Table 21.2, log entry 100). -/
def State.otpDone (s : State) : State := if s.fld F.CFG_STAT.STEP = 0 then s.setFld F.CFG_STAT.STEP 1 else s

/-- One core cycle without a command. In this order: the loading of the OTP values ends (Table 21.2); the players
count its samples and end what a cause has ended (R483, R498, R518); tide time and the sample index advance (R102,
R104); output registers act as written (Table 17.10) and changes due in it take effect (R457); roles change at a join
index or a handover (R453, R469); acquisitions that are to end do so once the core cycle of the cause has passed (R301,
R321); pan buffers become CLOSED and migrations take effect (R337, R338); the tap point may reach a zeroed index
(R105); swap requests start their fades (R188); a gauge window that waits begins (R142); stops of a twin agreed for it
act (R462); a split whose modules are ready ends (R468); harvests that wait claim their lines (R401); lines asked for
by the partner are served once the stacks run (R467); an absence of REF100_IN of more than 1 s is a fault
(Table 22.2). -/
def State.cycle (s : State) : State :=
  s.otpDone.countPlay.tick.applyOuts.joinEffect.handoverEffect.endsDue.pansDue.tapZero.eqBoundary.nextWindow
    |>.applyStops.trySplit.claimsDue.serveLines.refLong

/-- An empty queue: the module runs for one core cycle. -/
def State.idle (s : State) : State := s.whileRunning State.cycle

/-- MODE_ROUTING_SWITCH: the core-cycle boundary of Table 2.5; its core cycle is the first in the new mode (R105). -/
def State.routingSwitch (s : State) : State :=
  if s.flag F.INP_MODE_STAT.CHANGING && !s.inp.routed && !s.frozen then
    let i := next192 (s.time.idx + s.perCycle - 1)
    let s1 := s.cycle.route i
    (s1.openAllEpochs).showDets.monRefresh
  else s

def execModeRoutingSwitch (s : State) : Host.Outcome State Fault Refusal := s.act State.routingSwitch

end Sys2Proof.Machine
end

