-- ==== Sys2Proof/Machine/Startup.lean ====
section
/-!
DEFINITION. Reset, start-up and thermal shutdown (ch. 21, ch. 22): RST_N, the steps of Table 21.2, and the junction
limits of R551.
-/
namespace Sys2Proof.Machine

/-- What RST_N leaves of the module: the flash, whose interrupted write stays as far as it got (R535), and the trace of
what has already reached the host. -/
def State.afterReset (s : State) : State :=
  let t := match s.cfg.job with
    | some j => s.abortJob j
    | none => s
  { phase := .held
    cfg := { flash := t.cfg.flash }
    hif := { msix := s.hif.msix, writes := s.hif.writes, reads := s.hif.reads }
    fresh := t.fresh
    pending := s.pending }

/-- RST_N_ASSERT (R520): it acts in every phase. -/
def execRstNAssert (s : State) : Host.Outcome State Fault Refusal := .next s.afterReset

/-- The registers that the COMPAT ball sets at the rising edge (R521). -/
def State.ballHigh (s : State) : State :=
  let s1 := ((s.setFlag F.GLB_STAT.COMPAT_BALL true).setFlag F.GLB_CTL.COMPAT true).setFld F.INP_MODE.MODE 2
  let s2 := s1.setFld F.INP_MODE_STAT.ACTIVE_MODE 2
  { s2 with inp := { s2.inp with route := 2 }, cfg := { s2.cfg with pend8 := true } }

/-- RST_N rises: the module runs from step 0 of start-up, the factory values in their registers (R521, R524). -/
def State.rise (s : State) (compat : Bool) : State :=
  let s1 := { s with phase := .running }
  if compat then s1.ballHigh else s1

/-- RST_N_RISE: an edge needs RST_N low. -/
def execRstNRise (compat : Bool) (s : State) : Host.Outcome State Fault Refusal :=
  .next (match s.phase with
    | .held => s.rise compat
    | _ => s)

/-- The slot that start-up chooses (R532). -/
def State.pickSlot (s : State) : Option Nat :=
  match s.slotGood 0, s.slotGood 1 with
  | true, true => some (if newer (imageGen (s.slotImage 1)) (imageGen (s.slotImage 0)) then 1 else 0)
  | true, false => some 0
  | false, true => some 1
  | false, false => none

/-- The result of the checks of both slots (R531, R532). -/
def State.slotFlags (s : State) : State :=
  (s.setFlag F.CFG_STAT.SLOT0_OK (s.slotGood 0)).setFlag F.CFG_STAT.SLOT1_OK (s.slotGood 1)

/-- The chosen image is in force (R530, R532). -/
def State.applyImage (s : State) (k : Nat) : State :=
  let img := s.slotImage k
  let s1 := (s.setFld F.CFG_STAT.SLOT k).setReg R.CFG_GEN (byteDw img 3)
  let s2 := if s.slotGood (1 - k) then s1 else s1.fault 0x000D (1 - k)
  ((imageSections img).getD []).foldl State.applySection s2

/-- No slot is good: the OTP values stand (R532). -/
def State.defaulted (s : State) : State :=
  ({ s.setFlag F.CFG_STAT.CFG_DEFAULTED true with cfg := { s.cfg with pend2 := some 3 } }).fault 0x010A 0

/-- Steps 1 and 2 of Table 21.2: the slots are read and checked, the image is applied, the maps are built, the
reference buffers of REF_EN start, and the lock attempts of step 3 begin. -/
def State.flashRead (s0 : State) : State :=
  if Nat.blt 1 (s0.fld F.CFG_STAT.STEP) then s0
  else
    let s := s0.chooseOnce.slotFlags
    let ref := match s.pickSlot with
      | some k => byteDw (s.slotImage k) 6 &&& 0xF#32
      | none => 0
    let s1 := match s.pickSlot with
      | some k => s.applyImage k
      | none => s.defaulted
    let s2 := s1.each (List.range 8) (fun t b => t.buildMap b (t.fld (F.CNV_BANK_STAT.RETIRED b)))
    let s3 := (s2.showTrim.refCtlWrite ref).each (List.range 4) State.startLock
    s3.setFld F.CFG_STAT.STEP 3

/-- STARTUP_FLASH_READ_DONE (R532). -/
def execStartupFlashReadDone (s : State) : Host.Outcome State Fault Refusal := s.act State.flashRead

/-- The end of step 3: SYN_M and a sample loop are locked, and SAMPLE and CORE start (Table 21.2, R101, R102). -/
def State.lockDone (s : State) (gap : Nat) : State :=
  if s.fld F.CFG_STAT.STEP = 3 && s.locked 2 && (s.locked 0 || s.locked 1) then
    (s.setFld F.CFG_STAT.STEP 4).restartOn (if s.locked 0 then 0 else 1) gap
  else s

def execStartupLockDone (gap : Nat) (s : State) : Host.Outcome State Fault Refusal := s.act (fun t => t.lockDone gap)

/-- The blocks whose registers a preset may write (R533). -/
def presetBlock (b : Nat) : Bool :=
  [0x02, 0x05, 0x06, 0x08, 0x0C, 0x0D, 0x0E, 0x0F, 0x10, 0x12, 0x14, 0x15, 0x16, 0x17].contains b

/-- One PRESET entry (R533): a PF write with WO fields 0, or skipped. -/
def State.preset (s : State) (e : Nat × Word) : State :=
  match (if presetBlock (e.1 / 0x10000) then regRow e.1 else none) with
  | some r =>
    if (r.rw ||| r.rwl) = 0 then s.bump R.CFG_SKIPPED
    else s.pfWrite e.1 (e.2 &&& BitVec.ofNat 32 (r.rw ||| r.rwl ||| r.w1c))
  | none => s.bump R.CFG_SKIPPED

/-- Step 5: the presets of the current image, in entry order. -/
def State.presets (s : State) : State := (presetPairs s.currentImage).foldl State.preset s

/-- The result of boot training: the failed pseudo-channels, and the temperatures that retraining starts from (R368,
R370). -/
def State.trainResult (s : State) (failed : Nat) : State :=
  let l := bitsSet failed 64
  let s1 := (s.setReg64 R.MEM_PC_FAIL_LO (bitsOf l)).setFlag F.MEM_STAT.ACTIVE true
  let s2 := if l.isEmpty then s1 else (s1.setFlag F.MEM_STAT.TRAIN_FAIL true).raisePF 207 l.length
  let s3 := l.foldl (fun t p => t.fault 0x0106 p) s2
  { s3 with mem := { s3.mem with
    trnTemp := (List.range 64).foldl (fun m p => SMap.set noTemp m p (s3.sfld (tempFld (p / 32)))) s3.mem.trnTemp } }

/-- Step 6: READY, the whole milliseconds since RST_N rose (log entry 100), E000, and the events that waited for it
(Table 21.2, R521, R532). -/
def State.startupDone (s : State) : State :=
  let ms16 := satNat 0xFFFF (s.time.elapsed * 1000 / 2 ^ 64)
  let s1 := ((s.setFld F.CFG_STAT.STEP 6).setFlag F.CFG_STAT.READY true).setReg R.CFG_BOOT_MS (BitVec.ofNat 32 ms16)
  let q := (if s1.flag F.CFG_STAT.CFG_DEFAULTED then 1 else 0)
    + (if !(s1.flag F.CFG_STAT.CFG_DEFAULTED) && s1.fld F.CFG_STAT.SLOT == 1 then 2 else 0) + (if s1.compat then 4 else 0)
  let s2 := s1.raisePF 0 (q + 2 ^ 16 * ms16)
  let s3 := match s.cfg.pend2 with
    | some m => s2.raisePF 2 m
    | none => s2
  let s4 := if s.cfg.pend8 then s3.raisePF 8 1 else s3
  { s4 with cfg := { s4.cfg with pend2 := none, pend8 := false } }

/-- The end of step 4 and steps 5 and 6. -/
def State.trainEnd (s : State) (failed : Nat) : State :=
  if s.fld F.CFG_STAT.STEP = 4 then
    ((((s.trainResult failed).setFld F.CFG_STAT.STEP 5).memCheck).presets).startupDone
  else s

/-- HBM_BOOT_TRAINING_DONE (R368). -/
def execHbmBootTrainingDone (failed : Nat) (s : State) : Host.Outcome State Fault Refusal :=
  s.act (fun t => t.trainEnd failed)

/-- CRIT_STOP (R551): armed contexts, a sequence and a pattern run stop at once; `p` and `n` are the presentation sample
and the pattern periods played. -/
def State.critStop (s : State) (p n : Nat) : State :=
  let s1 := s.each (List.range 4) (fun t c => if t.armed c then t.stopRequest c 3 else t)
  let s2 := match s1.stm.run with
    | some r => s1.stimHalt r 4 Status.truncated.code p
    | none => s1
  match s2.pat.run with
  | some r => s2.patHalt r 3 Status.truncated.code n
  | none => s2

/-- The critical limit (R551). -/
def State.critStep (s : State) (k temp p n : Nat) : State :=
  let s0 := if s.allBelow 100 then { s with hlth := { s.hlth with critSeen := false } } else s
  if 105 ≤ signed 8 temp && !s0.hlth.critSeen then
    let s1 := (({ s0 with hlth := { s0.hlth with critSeen := true } }).setFlag F.HLTH_STAT.CRIT_SEEN true)
    let s2 := (s1.raise 273 (thermQual k temp) s1.routeAll).fault 0x010D k
    if s2.flag F.HLTH_CTL.CRIT_STOP then s2.critStop p n else s2
  else s0

/-- The shutdown limit (R551): E274 announces the shutdown of R552. -/
def State.shutStep (s : State) (k temp : Nat) : State :=
  if 110 ≤ signed 8 temp && !s.hlth.shutdownDue then
    (({ s with hlth := { s.hlth with shutdownDue := true, shutAt := s.time.elapsed } }).raise 274 (thermQual k temp) s.routeAll).fault 0x010E k
  else s

/-- SENSOR_READ (R550, R551). -/
def State.sensorRead (s : State) (k temp p n : Nat) : State :=
  (((s.storeTemp k temp).warnStep k temp).critStep k temp p n).shutStep k temp

def execSensorRead (sensor : Fin 10) (temp : BitVec 8) (p : BitVec 64) (periods : Nat) (s : State) :
    Host.Outcome State Fault Refusal :=
  s.act (fun t => t.sensorRead sensor temp.toNat p.toNat periods)

/-- A thermal shutdown, 20 us after E274 (R423, R552): every clock stops, the outputs float, the link is gone, the stacks lose their contents, and
THERM_ALERT_N is held low until RST_N. -/
def State.shutdown (s : State) : State :=
  if s.hlth.shutdownDue && s.passed s.hlth.shutAt (nanos 20000) then
    { (s.setFlag F.HLTH_STAT.ALERT true) with
      phase := .stopped
      hif := { s.hif with linkUp := false, busMaster := [] }
      mem := { s.mem with bytes := [], poison := [] }
      pat := { s.pat with on := 0 } }
  else s

/-- THERMAL_SHUTDOWN (R552): only a module that runs has a clock to stop. -/
def execThermalShutdown (s : State) : Host.Outcome State Fault Refusal :=
  .next (match s.phase with
    | .running => s.shutdown
    | _ => s)

end Sys2Proof.Machine
end

