-- ==== Sys2Proof/Machine/Dispatch.lean ====
section
/-!
DEFINITION. The dispatch of the AX96 model: one arm per command, one direct call of its meaning.
-/
namespace Sys2Proof.Machine

def exec (i : Instr) (s : State) : Host.Outcome State Fault Refusal :=
  match i with
  | .rstNAssert => Sys2Proof.Machine.execRstNAssert s
  | .rstNRise compat => Sys2Proof.Machine.execRstNRise compat s
  | .startupFlashReadDone => Sys2Proof.Machine.execStartupFlashReadDone s
  | .startupLockDone gap => Sys2Proof.Machine.execStartupLockDone gap s
  | .hbmBootTrainingDone failed => Sys2Proof.Machine.execHbmBootTrainingDone failed s
  | .perstNPulse => Sys2Proof.Machine.execPerstNPulse s
  | .registerWrite func off width value => Sys2Proof.Machine.execRegisterWrite func off width value s
  | .wideValueRead func off width => Sys2Proof.Machine.execWideValueRead func off width s
  | .crossingSlip crossing => Sys2Proof.Machine.execCrossingSlip crossing s
  | .x1Recentre bank => Sys2Proof.Machine.execX1Recentre bank s
  | .x2Recentre => Sys2Proof.Machine.execX2Recentre s
  | .x6sRecentre => Sys2Proof.Machine.execX6sRecentre s
  | .x8rRecentre => Sys2Proof.Machine.execX8rRecentre s
  | .inputOverrange input => Sys2Proof.Machine.execInputOverrange input s
  | .inputOverload input => Sys2Proof.Machine.execInputOverload input s
  | .inpOffsetWrite input value => Sys2Proof.Machine.execInpOffsetWrite input value s
  | .offsetDegradedEnd input => Sys2Proof.Machine.execOffsetDegradedEnd input s
  | .inpModeWrite value => Sys2Proof.Machine.execInpModeWrite value s
  | .modeRoutingSwitch => Sys2Proof.Machine.execModeRoutingSwitch s
  | .modeChangeComplete => Sys2Proof.Machine.execModeChangeComplete s
  | .calSettled => Sys2Proof.Machine.execCalSettled s
  | .inpRefCtlWrite value => Sys2Proof.Machine.execInpRefCtlWrite value s
  | .refSettleTimerExpire buffer level => Sys2Proof.Machine.execRefSettleTimerExpire buffer level s
  | .refLevelFault buffer level => Sys2Proof.Machine.execRefLevelFault buffer level s
  | .refLevelRecover buffer level => Sys2Proof.Machine.execRefLevelRecover buffer level s
  | .inpMonCtlWrite value => Sys2Proof.Machine.execInpMonCtlWrite value s
  | .monitorWindowEnd windows => Sys2Proof.Machine.execMonitorWindowEnd windows s
  | .bandTrialEnd loop errs => Sys2Proof.Machine.execBandTrialEnd loop errs s
  | .lockRetryTimer loop => Sys2Proof.Machine.execLockRetryTimer loop s
  | .loopLocked loop errs ppm gap => Sys2Proof.Machine.execLoopLocked loop errs ppm gap s
  | .loopTrip loop trip other gap sample pos => Sys2Proof.Machine.execLoopTrip loop trip other gap sample pos s
  | .standbyTracked diffs => Sys2Proof.Machine.execStandbyTracked diffs s
  | .switchDegradedEnd => Sys2Proof.Machine.execSwitchDegradedEnd s
  | .clkSwap value => Sys2Proof.Machine.execClkSwap value s
  | .clkRateGo value gap => Sys2Proof.Machine.execClkRateGo value gap s
  | .memClockChangeDone => Sys2Proof.Machine.execMemClockChangeDone s
  | .memAutoReturn => Sys2Proof.Machine.execMemAutoReturn s
  | .clkMemReturn value => Sys2Proof.Machine.execClkMemReturn value s
  | .clkSrateGo value => Sys2Proof.Machine.execClkSrateGo value s
  | .rampSegmentEnd => Sys2Proof.Machine.execRampSegmentEnd s
  | .refEdgeMissing => Sys2Proof.Machine.execRefEdgeMissing s
  | .refAbsent => Sys2Proof.Machine.execRefAbsent s
  | .refReturn => Sys2Proof.Machine.execRefReturn s
  | .holdoverEnd loop errs => Sys2Proof.Machine.execHoldoverEnd loop errs s
  | .ppsEdge ago => Sys2Proof.Machine.execPpsEdge ago s
  | .ppsMissingTimeout => Sys2Proof.Machine.execPpsMissingTimeout s
  | .timeCtlWrite value => Sys2Proof.Machine.execTimeCtlWrite value s
  | .syncInPulse => Sys2Proof.Machine.execSyncInPulse s
  | .softSync value => Sys2Proof.Machine.execSoftSync value s
  | .syncPoint gap sample => Sys2Proof.Machine.execSyncPoint gap sample s
  | .dwellEnd bank => Sys2Proof.Machine.execDwellEnd bank s
  | .epochOpen bank odd => Sys2Proof.Machine.execEpochOpen bank odd s
  | .gaugeBlockEnd gauge strobes => Sys2Proof.Machine.execGaugeBlockEnd gauge strobes s
  | .gaugeBlockAbandon unit strobes => Sys2Proof.Machine.execGaugeBlockAbandon unit strobes s
  | .fallbackBlockEnd bank strobes => Sys2Proof.Machine.execFallbackBlockEnd bank strobes s
  | .gaugeWindowStart gauge => Sys2Proof.Machine.execGaugeWindowStart gauge s
  | .gaugeWindowEnd gauge ladder => Sys2Proof.Machine.execGaugeWindowEnd gauge ladder s
  | .cnvRetire slice => Sys2Proof.Machine.execCnvRetire slice s
  | .cnvReadmit slice => Sys2Proof.Machine.execCnvReadmit slice s
  | .calTrimWrite unit value => Sys2Proof.Machine.execCalTrimWrite unit value s
  | .corrSetWrite func mode slice => Sys2Proof.Machine.execCorrSetWrite func mode slice s
  | .corrRampEnd slice field => Sys2Proof.Machine.execCorrRampEnd slice field s
  | .neighbourIntervalEnd input words => Sys2Proof.Machine.execNeighbourIntervalEnd input words s
  | .shadowIntervalEnd bank strobes => Sys2Proof.Machine.execShadowIntervalEnd bank strobes s
  | .calForeground ring => Sys2Proof.Machine.execCalForeground ring s
  | .fgTrimSearchDone ring trims => Sys2Proof.Machine.execFgTrimSearchDone ring trims s
  | .fgRelease ring ladders => Sys2Proof.Machine.execFgRelease ring ladders s
  | .eqCoeffWrite input bank entry value => Sys2Proof.Machine.execEqCoeffWrite input bank entry value s
  | .eqSwap input value => Sys2Proof.Machine.execEqSwap input value s
  | .eqFadeEnd input => Sys2Proof.Machine.execEqFadeEnd input s
  | .eqDelayWrite input value => Sys2Proof.Machine.execEqDelayWrite input value s
  | .eqClip input => Sys2Proof.Machine.execEqClip input s
  | .decPathWrite reg value => Sys2Proof.Machine.execDecPathWrite reg value s
  | .triggerLineEdge line rising ago => Sys2Proof.Machine.execTriggerLineEdge line rising ago s
  | .detectorFiring first obs => Sys2Proof.Machine.execDetectorFiring first obs s
  | .trgApply det => Sys2Proof.Machine.execTrgApply det s
  | .trgPthWrite input value => Sys2Proof.Machine.execTrgPthWrite input value s
  | .sequencerDecision ctx idx => Sys2Proof.Machine.execSequencerDecision ctx idx s
  | .triggerOutputPulse line => Sys2Proof.Machine.execTriggerOutputPulse line s
  | .triggerPulseEnd line => Sys2Proof.Machine.execTriggerPulseEnd line s
  | .reactiveEventPresent line sample => Sys2Proof.Machine.execReactiveEventPresent line sample s
  | .tlogEntryWrite => Sys2Proof.Machine.execTlogEntryWrite s
  | .trgSeqRegWrite ctx reg value => Sys2Proof.Machine.execTrgSeqRegWrite ctx reg value s
  | .trigSkewcal ring => Sys2Proof.Machine.execTrigSkewcal ring s
  | .skewcalDone ring steps => Sys2Proof.Machine.execSkewcalDone ring steps s
  | .symApply => Sys2Proof.Machine.execSymApply s
  | .symLock => Sys2Proof.Machine.execSymLock s
  | .symUnlock => Sys2Proof.Machine.execSymUnlock s
  | .symLockRetry => Sys2Proof.Machine.execSymLockRetry s
  | .symMatch first words => Sys2Proof.Machine.execSymMatch first words s
  | .symLevelWindowEnd => Sys2Proof.Machine.execSymLevelWindowEnd s
  | .acqArm ring => Sys2Proof.Machine.execAcqArm ring s
  | .armTakeEffect ctx => Sys2Proof.Machine.execArmTakeEffect ctx s
  | .segmentClose ctx => Sys2Proof.Machine.execSegmentClose ctx s
  | .indexEntryWrite => Sys2Proof.Machine.execIndexEntryWrite s
  | .acqStop ring => Sys2Proof.Machine.execAcqStop ring s
  | .acqCtlEnClear ctx => Sys2Proof.Machine.execAcqCtlEnClear ctx s
  | .memPtWrite pt reg value => Sys2Proof.Machine.execMemPtWrite pt reg value s
  | .acqStream ring => Sys2Proof.Machine.execAcqStream ring s
  | .acqRelease ring => Sys2Proof.Machine.execAcqRelease ring s
  | .sluiceTick ctx => Sys2Proof.Machine.execSluiceTick ctx s
  | .sluiceStepChange ctx => Sys2Proof.Machine.execSluiceStepChange ctx s
  | .streamGapOpen ctx => Sys2Proof.Machine.execStreamGapOpen ctx s
  | .secondRecord ctx => Sys2Proof.Machine.execSecondRecord ctx s
  | .panAttach ring => Sys2Proof.Machine.execPanAttach ring s
  | .panSwap ring => Sys2Proof.Machine.execPanSwap ring s
  | .panHarvest ring => Sys2Proof.Machine.execPanHarvest ring s
  | .panHarvestComplete ring => Sys2Proof.Machine.execPanHarvestComplete ring s
  | .panDetach ring => Sys2Proof.Machine.execPanDetach ring s
  | .panClear ring => Sys2Proof.Machine.execPanClear ring s
  | .panClearComplete ring => Sys2Proof.Machine.execPanClearComplete ring s
  | .panSelftest ring => Sys2Proof.Machine.execPanSelftest ring s
  | .panSelftestComplete ring fails => Sys2Proof.Machine.execPanSelftestComplete ring fails s
  | .panPassComplete first words => Sys2Proof.Machine.execPanPassComplete first words s
  | .panCellEccError pan bank cell double => Sys2Proof.Machine.execPanCellEccError pan bank cell double s
  | .memHashWrite reg value => Sys2Proof.Machine.execMemHashWrite reg value s
  | .writeBufferReserve => Sys2Proof.Machine.execWriteBufferReserve s
  | .portPanic port measure => Sys2Proof.Machine.execPortPanic port measure s
  | .refreshInterval stack => Sys2Proof.Machine.execRefreshInterval stack s
  | .stackTempRead stack temp => Sys2Proof.Machine.execStackTempRead stack temp s
  | .selfRefreshEntry => Sys2Proof.Machine.execSelfRefreshEntry s
  | .selfRefreshExit => Sys2Proof.Machine.execSelfRefreshExit s
  | .retrainStep found => Sys2Proof.Machine.execRetrainStep found s
  | .loadOffsetRetrain found => Sys2Proof.Machine.execLoadOffsetRetrain found s
  | .hbmEccCorrected line port word syndrome => Sys2Proof.Machine.execHbmEccCorrected line port word syndrome s
  | .hbmEccUncorrectable line port word syndrome => Sys2Proof.Machine.execHbmEccUncorrectable line port word syndrome s
  | .bar4ReadTimeout => Sys2Proof.Machine.execBar4ReadTimeout s
  | .pcieLinkDown sample pos => Sys2Proof.Machine.execPcieLinkDown sample pos s
  | .pcieLinkUp speed width => Sys2Proof.Machine.execPcieLinkUp speed width s
  | .busMasterEnableChange func on numVfs => Sys2Proof.Machine.execBusMasterEnableChange func on numVfs s
  | .bar4Read off dwords => Sys2Proof.Machine.execBar4Read off dwords s
  | .bar4Write off data => Sys2Proof.Machine.execBar4Write off data s
  | .ringEnable func ring value => Sys2Proof.Machine.execRingEnable func ring value s
  | .ringDisable func ring value => Sys2Proof.Machine.execRingDisable func ring value s
  | .ringAbort func ring value sample pos => Sys2Proof.Machine.execRingAbort func ring value sample pos s
  | .sqTailDoorbell func ring value => Sys2Proof.Machine.execSqTailDoorbell func ring value s
  | .cqHeadDoorbell func ring value => Sys2Proof.Machine.execCqHeadDoorbell func ring value s
  | .descriptorFetch ring err words => Sys2Proof.Machine.execDescriptorFetch ring err words s
  | .irqCoalTimer ring => Sys2Proof.Machine.execIrqCoalTimer ring s
  | .harvRange ring => Sys2Proof.Machine.execHarvRange ring s
  | .harvStream ring => Sys2Proof.Machine.execHarvStream ring s
  | .harvStreamWaitEnd ring => Sys2Proof.Machine.execHarvStreamWaitEnd ring s
  | .harvestComplete ring => Sys2Proof.Machine.execHarvestComplete ring s
  | .mgmtNop ring => Sys2Proof.Machine.execMgmtNop ring s
  | .ringDrained ring => Sys2Proof.Machine.execRingDrained ring s
  | .functionLevelReset func sample pos => Sys2Proof.Machine.execFunctionLevelReset func sample pos s
  | .eventRecordWrite => Sys2Proof.Machine.execEventRecordWrite s
  | .evtTestGo value => Sys2Proof.Machine.execEvtTestGo value s
  | .peerSoftPulse out value => Sys2Proof.Machine.execPeerSoftPulse out value s
  | .peerCtlWrite value => Sys2Proof.Machine.execPeerCtlWrite value s
  | .peerListenEnd => Sys2Proof.Machine.execPeerListenEnd s
  | .rollFrameSend => Sys2Proof.Machine.execRollFrameSend s
  | .trigFrameSend => Sys2Proof.Machine.execTrigFrameSend s
  | .rollFrameRx frame => Sys2Proof.Machine.execRollFrameRx frame s
  | .trigFrameRx frame => Sys2Proof.Machine.execTrigFrameRx frame s
  | .leaveFrameRx frame => Sys2Proof.Machine.execLeaveFrameRx frame s
  | .peerFrameReject frame => Sys2Proof.Machine.execPeerFrameReject frame s
  | .partnerAgeOut entry => Sys2Proof.Machine.execPartnerAgeOut entry s
  | .pairPresentChange level => Sys2Proof.Machine.execPairPresentChange level s
  | .pairLinkTrained partner cycle skew => Sys2Proof.Machine.execPairLinkTrained partner cycle skew s
  | .pairTrainTimeout => Sys2Proof.Machine.execPairTrainTimeout s
  | .pairBlockRx lanes => Sys2Proof.Machine.execPairBlockRx lanes s
  | .pairSilenceTimeout => Sys2Proof.Machine.execPairSilenceTimeout s
  | .pairRetrainTimer => Sys2Proof.Machine.execPairRetrainTimer s
  | .decisionMsgRx ctx first off frac mask sym => Sys2Proof.Machine.execDecisionMsgRx ctx first off frac mask sym s
  | .firingMsgRx det idx before frac => Sys2Proof.Machine.execFiringMsgRx det idx before frac s
  | .timeMsgRx cycle m => Sys2Proof.Machine.execTimeMsgRx cycle m s
  | .configMsgRx m => Sys2Proof.Machine.execConfigMsgRx m s
  | .armMsgRx m => Sys2Proof.Machine.execArmMsgRx m s
  | .controlMsgRx m => Sys2Proof.Machine.execControlMsgRx m s
  | .lineMsgRx line poison => Sys2Proof.Machine.execLineMsgRx line poison s
  | .samplesMsgRx first words leader => Sys2Proof.Machine.execSamplesMsgRx first words leader s
  | .twinJoin ring => Sys2Proof.Machine.execTwinJoin ring s
  | .twinJoinEffect => Sys2Proof.Machine.execTwinJoinEffect s
  | .twinPhaseOk offset => Sys2Proof.Machine.execTwinPhaseOk offset s
  | .twinSplit ring => Sys2Proof.Machine.execTwinSplit ring s
  | .twinSkewcal ring => Sys2Proof.Machine.execTwinSkewcal ring s
  | .twinSkewcalDone steps blocks => Sys2Proof.Machine.execTwinSkewcalDone steps blocks s
  | .harvPair ring => Sys2Proof.Machine.execHarvPair ring s
  | .twinHandover ring => Sys2Proof.Machine.execTwinHandover ring s
  | .twinHandoverEffect => Sys2Proof.Machine.execTwinHandoverEffect s
  | .stimLoad ring => Sys2Proof.Machine.execStimLoad ring s
  | .stimLoadComplete ring data => Sys2Proof.Machine.execStimLoadComplete ring data s
  | .stimSeqLoad ring table => Sys2Proof.Machine.execStimSeqLoad ring table s
  | .stimStart ring => Sys2Proof.Machine.execStimStart ring s
  | .stimReady => Sys2Proof.Machine.execStimReady s
  | .stimFirstSample ofs phase => Sys2Proof.Machine.execStimFirstSample ofs phase s
  | .stimDecisionSample => Sys2Proof.Machine.execStimDecisionSample s
  | .stimSegmentBoundary ofs => Sys2Proof.Machine.execStimSegmentBoundary ofs s
  | .stimStop ring sample => Sys2Proof.Machine.execStimStop ring sample s
  | .stimJump ring sample => Sys2Proof.Machine.execStimJump ring sample s
  | .stimGo ring sample => Sys2Proof.Machine.execStimGo ring sample s
  | .stimUnderrunStart k => Sys2Proof.Machine.execStimUnderrunStart k s
  | .stimUnderrunEnd k => Sys2Proof.Machine.execStimUnderrunEnd k s
  | .stimPoisonLine line => Sys2Proof.Machine.execStimPoisonLine line s
  | .stimSaturation out k => Sys2Proof.Machine.execStimSaturation out k s
  | .patLoad ring => Sys2Proof.Machine.execPatLoad ring s
  | .patLoadComplete ring data => Sys2Proof.Machine.execPatLoadComplete ring data s
  | .patTsetLoad ring sets => Sys2Proof.Machine.execPatTsetLoad ring sets s
  | .patStart ring => Sys2Proof.Machine.execPatStart ring s
  | .patReady => Sys2Proof.Machine.execPatReady s
  | .patFirstPeriod ofs phase => Sys2Proof.Machine.execPatFirstPeriod ofs phase s
  | .patVectorBoundary => Sys2Proof.Machine.execPatVectorBoundary s
  | .patStop ring pos => Sys2Proof.Machine.execPatStop ring pos s
  | .patGo ring => Sys2Proof.Machine.execPatGo ring s
  | .patUnderrunStart => Sys2Proof.Machine.execPatUnderrunStart s
  | .patUnderrunEnd => Sys2Proof.Machine.execPatUnderrunEnd s
  | .patPoisonLine line => Sys2Proof.Machine.execPatPoisonLine line s
  | .glbCompatWrite value => Sys2Proof.Machine.execGlbCompatWrite value s
  | .cfgCommit ring => Sys2Proof.Machine.execCfgCommit ring s
  | .commitWriteDone bad => Sys2Proof.Machine.execCommitWriteDone bad s
  | .cfgPush ring image => Sys2Proof.Machine.execCfgPush ring image s
  | .pushWriteDone bad => Sys2Proof.Machine.execPushWriteDone bad s
  | .cfgRead ring => Sys2Proof.Machine.execCfgRead ring s
  | .fwUpdate ring image => Sys2Proof.Machine.execFwUpdate ring image s
  | .fwUpdateWriteDone bad => Sys2Proof.Machine.execFwUpdateWriteDone bad s
  | .fwSelect ring => Sys2Proof.Machine.execFwSelect ring s
  | .firmwareStart => Sys2Proof.Machine.execFirmwareStart s
  | .watchdogExpire => Sys2Proof.Machine.execWatchdogExpire s
  | .sensorRead sensor temp sample pos => Sys2Proof.Machine.execSensorRead sensor temp sample pos s
  | .thermalShutdown => Sys2Proof.Machine.execThermalShutdown s
  | .railCheck rail mv => Sys2Proof.Machine.execRailCheck rail mv s
  | .ageTick => Sys2Proof.Machine.execAgeTick s
  | .smbusTransaction addr => Sys2Proof.Machine.execSmbusTransaction addr s
  | .commandSlot pc wait => Sys2Proof.Machine.execCommandSlot pc wait s
  | .linePacked ctx dec data => Sys2Proof.Machine.execLinePacked ctx dec data s
  | .trackingLost diffs => Sys2Proof.Machine.execTrackingLost diffs s
  | .twinJoinTimeout => Sys2Proof.Machine.execTwinJoinTimeout s
  | .p2pReadTimeout ring => Sys2Proof.Machine.execP2pReadTimeout ring s
  | .functionLevelResetDone func => Sys2Proof.Machine.execFunctionLevelResetDone func s
  | .leaveFrameSend => Sys2Proof.Machine.execLeaveFrameSend s
  | .pairCtlWrite value => Sys2Proof.Machine.execPairCtlWrite value s

end Sys2Proof.Machine
end

