-- ==== Sys2Proof/WellFormed.lean ====
section
/-!
DEFINITION. Which operands of a command have the shape the spec gives them. The types of Syntax.lean bound registers,
inputs, rings and units; what is left are lengths of lists and ranges of plain numbers. exec is total and gives every
command an effect whether it is well-formed or not.
-/
namespace Sys2Proof

/-- Lines of capture memory: 48 GiB in lines of 32 bytes (R348). -/
def captureLines : Nat := 1610612736

/-- An access to BAR0: 1, 2, 4 or 8 bytes, aligned, in the 16 MiB of the PF (R11, Table 15.2). -/
def regAccess (off width : Nat) : Bool :=
  [1, 2, 4, 8].contains width && off % width == 0 && Nat.blt off (2 ^ 24)

/-- The operands of a command have the shape the spec gives them. -/
def Instr.wf : Instr → Bool
  | .rstNAssert => true
  | .rstNRise _ => true
  | .startupFlashReadDone => true
  | .startupLockDone _ => true
  | .hbmBootTrainingDone failed => Nat.blt failed (2 ^ 64)
  | .perstNPulse => true
  | .registerWrite _ off width _ => regAccess off width
  | .wideValueRead _ off width => regAccess off width
  | .crossingSlip _ => true
  | .x1Recentre _ => true
  | .x2Recentre => true
  | .x6sRecentre => true
  | .x8rRecentre => true
  | .inputOverrange _ => true
  | .inputOverload _ => true
  | .inpOffsetWrite _ _ => true
  | .offsetDegradedEnd _ => true
  | .inpModeWrite _ => true
  | .modeRoutingSwitch => true
  | .modeChangeComplete => true
  | .calSettled => true
  | .inpRefCtlWrite _ => true
  | .refSettleTimerExpire _ _ => true
  | .refLevelFault _ _ => true
  | .refLevelRecover _ _ => true
  | .inpMonCtlWrite _ => true
  | .monitorWindowEnd windows => windows.length == 4
  | .bandTrialEnd _ _ => true
  | .lockRetryTimer _ => true
  | .loopLocked _ _ _ _ => true
  | .loopTrip _ _ _ _ _ _ => true
  | .standbyTracked _ => true
  | .switchDegradedEnd => true
  | .clkSwap _ => true
  | .clkRateGo _ _ => true
  | .memClockChangeDone => true
  | .memAutoReturn => true
  | .clkMemReturn _ => true
  | .clkSrateGo _ => true
  | .rampSegmentEnd => true
  | .refEdgeMissing => true
  | .refAbsent => true
  | .refReturn => true
  | .holdoverEnd _ _ => true
  | .ppsEdge _ => true
  | .ppsMissingTimeout => true
  | .timeCtlWrite _ => true
  | .syncInPulse => true
  | .softSync _ => true
  | .syncPoint _ _ => true
  | .dwellEnd _ => true
  | .epochOpen _ _ => true
  | .gaugeBlockEnd _ strobes => Nat.ble strobes.length 4096
  | .gaugeBlockAbandon _ _ => true
  | .fallbackBlockEnd _ strobes => Nat.ble strobes.length 4096
  | .gaugeWindowStart _ => true
  | .gaugeWindowEnd _ ladder => ladder.length == 5
  | .cnvRetire slice => Nat.blt slice.toNat 104
  | .cnvReadmit slice => Nat.blt slice.toNat 104
  | .calTrimWrite _ _ => true
  | .corrSetWrite _ _ _ => true
  | .corrRampEnd _ _ => true
  | .neighbourIntervalEnd _ _ => true
  | .shadowIntervalEnd _ _ => true
  | .calForeground _ => true
  | .fgTrimSearchDone _ trims => trims.all (fun t => Nat.blt t.1 108)
  | .fgRelease _ ladders => ladders.all (fun l => Nat.blt l.unit 108 && l.sums.length == 5)
  | .eqCoeffWrite _ _ _ _ => true
  | .eqSwap _ _ => true
  | .eqFadeEnd _ => true
  | .eqDelayWrite _ _ => true
  | .eqClip _ => true
  | .decPathWrite _ _ => true
  | .triggerLineEdge _ _ _ => true
  | .detectorFiring _ obs => obs.all (fun o => o.length == 4)
  | .trgApply _ => true
  | .trgPthWrite _ _ => true
  | .sequencerDecision _ _ => true
  | .triggerOutputPulse _ => true
  | .triggerPulseEnd _ => true
  | .reactiveEventPresent _ _ => true
  | .tlogEntryWrite => true
  | .trgSeqRegWrite _ _ _ => true
  | .trigSkewcal _ => true
  | .skewcalDone _ _ => true
  | .symApply => true
  | .symLock => true
  | .symUnlock => true
  | .symLockRetry => true
  | .symMatch _ _ => true
  | .symLevelWindowEnd => true
  | .acqArm _ => true
  | .armTakeEffect _ => true
  | .segmentClose _ => true
  | .indexEntryWrite => true
  | .acqStop _ => true
  | .acqCtlEnClear _ => true
  | .memPtWrite _ _ _ => true
  | .acqStream _ => true
  | .acqRelease _ => true
  | .sluiceTick _ => true
  | .sluiceStepChange _ => true
  | .streamGapOpen _ => true
  | .secondRecord _ => true
  | .panAttach _ => true
  | .panSwap _ => true
  | .panHarvest _ => true
  | .panHarvestComplete _ => true
  | .panDetach _ => true
  | .panClear _ => true
  | .panClearComplete _ => true
  | .panSelftest _ => true
  | .panSelftestComplete _ fails => fails.length == 8
  | .panPassComplete _ _ => true
  | .panCellEccError _ _ _ _ => true
  | .memHashWrite _ _ => true
  | .writeBufferReserve => true
  | .portPanic _ _ => true
  | .refreshInterval _ => true
  | .stackTempRead _ _ => true
  | .selfRefreshEntry => true
  | .selfRefreshExit => true
  | .retrainStep _ => true
  | .loadOffsetRetrain found => found.length == 32
  | .hbmEccCorrected line _ _ _ => Nat.blt line captureLines
  | .hbmEccUncorrectable line _ _ _ => Nat.blt line captureLines
  | .bar4ReadTimeout => true
  | .pcieLinkDown _ _ => true
  | .pcieLinkUp _ _ => true
  | .busMasterEnableChange _ _ _ => true
  | .bar4Read off dwords => off % 4 == 0 && Nat.blt 0 dwords
  | .bar4Write _ data => !data.isEmpty
  | .ringEnable _ _ _ => true
  | .ringDisable _ _ _ => true
  | .ringAbort _ _ _ _ _ => true
  | .sqTailDoorbell _ _ _ => true
  | .cqHeadDoorbell _ _ _ => true
  | .descriptorFetch _ err words => err || words.length == 16
  | .irqCoalTimer _ => true
  | .harvRange _ => true
  | .harvStream _ => true
  | .harvStreamWaitEnd _ => true
  | .harvestComplete _ => true
  | .mgmtNop _ => true
  | .ringDrained _ => true
  | .functionLevelReset _ _ _ => true
  | .eventRecordWrite => true
  | .evtTestGo _ => true
  | .peerSoftPulse _ _ => true
  | .peerCtlWrite _ => true
  | .peerListenEnd => true
  | .rollFrameSend => true
  | .trigFrameSend => true
  | .rollFrameRx frame => frame.length == 25
  | .trigFrameRx frame => frame.length == 25
  | .leaveFrameRx frame => frame.length == 25
  | .peerFrameReject _ => true
  | .partnerAgeOut _ => true
  | .pairPresentChange _ => true
  | .pairLinkTrained _ _ _ => true
  | .pairTrainTimeout => true
  | .pairBlockRx lanes => lanes.length == 9
  | .pairSilenceTimeout => true
  | .pairRetrainTimer => true
  | .decisionMsgRx _ _ _ _ _ _ => true
  | .firingMsgRx _ _ _ _ => true
  | .timeMsgRx _ _ => true
  | .configMsgRx _ => true
  | .armMsgRx _ => true
  | .controlMsgRx _ => true
  | .lineMsgRx line _ => Nat.blt line (2 ^ 256)
  | .samplesMsgRx _ words _ => words.length == 64
  | .twinJoin _ => true
  | .twinJoinEffect => true
  | .twinPhaseOk _ => true
  | .twinSplit _ => true
  | .twinSkewcal _ => true
  | .twinSkewcalDone _ _ => true
  | .harvPair _ => true
  | .twinHandover _ => true
  | .twinHandoverEffect => true
  | .stimLoad _ => true
  | .stimLoadComplete _ _ => true
  | .stimSeqLoad _ _ => true
  | .stimStart _ => true
  | .stimReady => true
  | .stimFirstSample _ _ => true
  | .stimDecisionSample => true
  | .stimSegmentBoundary _ => true
  | .stimStop _ _ => true
  | .stimJump _ _ => true
  | .stimGo _ _ => true
  | .stimUnderrunStart _ => true
  | .stimUnderrunEnd _ => true
  | .stimPoisonLine line => Nat.blt line captureLines
  | .stimSaturation _ _ => true
  | .patLoad _ => true
  | .patLoadComplete _ _ => true
  | .patTsetLoad _ _ => true
  | .patStart _ => true
  | .patReady => true
  | .patFirstPeriod _ _ => true
  | .patVectorBoundary => true
  | .patStop _ _ => true
  | .patGo _ => true
  | .patUnderrunStart => true
  | .patUnderrunEnd => true
  | .patPoisonLine line => Nat.blt line captureLines
  | .glbCompatWrite _ => true
  | .cfgCommit _ => true
  | .commitWriteDone bad => bad.all (fun b => Nat.blt b.1 0x40000)
  | .cfgPush _ _ => true
  | .pushWriteDone bad => bad.all (fun b => Nat.blt b.1 0x40000)
  | .cfgRead _ => true
  | .fwUpdate _ _ => true
  | .fwUpdateWriteDone bad => bad.all (fun b => Nat.blt b.1 0x100000)
  | .fwSelect _ => true
  | .firmwareStart => true
  | .watchdogExpire => true
  | .sensorRead _ _ _ _ => true
  | .thermalShutdown => true
  | .railCheck _ _ => true
  | .ageTick => true
  | .smbusTransaction _ => true
  | .commandSlot _ _ => true
  | .linePacked _ dec data => Nat.ble data.length 4 && (dec || data.all (fun d => d.all (fun w => w.length == 181)))
  | .trackingLost _ => true
  | .twinJoinTimeout => true
  | .p2pReadTimeout _ => true
  | .functionLevelResetDone _ => true
  | .leaveFrameSend => true
  | .pairCtlWrite _ => true

end Sys2Proof
end

