-- ==== Sys2Proof/Safety.lean ====
section
/-!
DEFINITION. What counts as a safe run, and the words the statements are made in: the part of a state that no command's
effect touches, a descriptor that starts, and the forms of a module that does not run.
-/
namespace Sys2Proof.Machine

/-- `t` with the queue and the phase of `s`: the next state of a command whose effect on everything else is `t`. -/
def State.keep (s t : State) : State := { t with phase := s.phase, pending := s.pending }

/-- The module runs. -/
def State.runs (s : State) : Bool := s.phase == .running

/-- The module runs, and the ring's next descriptor is `d`, has the opcode, and may start (R389). -/
def State.starts (s : State) (r op : Nat) (d : Desc) : Bool :=
  s.runs && s.headOf r == some d && d.opcode == op && s.mayStart r d

/-- The command answers a next state, and that state meets `P`. -/
def Answers (c : Instr) (s : State) (P : State → Prop) : Prop := ∃ t, exec c s = .next t ∧ P t

/-- Every register of BAR0 but the listed ones reads in `t` as in `s`. -/
def State.regsBut (s t : State) (l : List Nat) : Prop := ∀ o, o ∉ l → t.reg o = s.reg o

/-- The registers that raising event `e` may change: its SEEN bit, and the count of records discarded (R413, R418). -/
def evtRegs (e : Nat) : List Nat := [R.EVT_SEEN (e / 32), R.EVT_QLOST]

/-- Registers of the event unit and of the health block: all that handling a fault may change (R413, R418, R544 to
R546). -/
def faultOffset (o : Nat) : Bool := (Nat.ble 0x20000 o && Nat.blt o 0x30000) || (Nat.ble 0x180000 o && Nat.blt o 0x190000)

/-- One byte of capture memory, as a read delivers it where its line is not poison. -/
def State.byteAt (s : State) (a : Nat) : Byte := SMap.get memByte s.mem.bytes (s.loc a)

/-- Every byte of capture memory reads in `t` as in `s`. -/
def State.sameMem (s t : State) : Prop := ∀ a, t.byteAt a = s.byteAt a

/-- Event `e` has arisen: its SEEN bit is set (R413). -/
def State.seen (s : State) (e : Nat) : Bool := s.flag (seenBit e)

/-- A step that neither faults nor refuses. -/
def State.steps (s : State) : Prop := ∃ t, Sys2Proof.Machine.step s = .next t

/-- The state after n steps. -/
def State.afterSteps (s : State) : Nat → State
  | 0 => s
  | n + 1 =>
    match Sys2Proof.Machine.step s with
    | .next t => t.afterSteps n
    | _ => s

/-- RST_N held low: every block is in reset; what is left is the flash, the queue, the model's own counter of free values
and the trace of what had reached the host (R520). -/
def State.heldForm (s : State) : Prop :=
  s = { phase := .held
        cfg := { flash := s.cfg.flash }
        hif := { msix := s.hif.msix, writes := s.hif.writes, reads := s.hif.reads }
        fresh := s.fresh
        pending := s.pending }

/-- Stopped by a thermal shutdown: the alert stands, the link is down, every output driver is off and the stacks have lost
their contents (R552). -/
def State.stoppedForm (s : State) : Prop :=
  s.flag F.HLTH_STAT.ALERT = true ∧ s.hif.linkUp = false ∧ s.hif.busMaster = [] ∧ s.mem.bytes = [] ∧ s.pat.on = 0

/-- A module that does not run is as RST_N or its shutdown left it. -/
def State.sound (s : State) : Prop :=
  match s.phase with
  | .running => True
  | .held => s.heldForm
  | .stopped => s.stoppedForm

end Sys2Proof.Machine
end

