-- ==== Sys2Proof/Certificates/Slice0/Obligations.lean ====
section
/-!
DEFINITION. The statements for the provers: what the rules of the spec say each command does, for every state and operand
that the hypotheses name.
-/

open Sys2Proof Sys2Proof.Machine

/-- With commands waiting, a step is the effect of the first one on the state with the rest of the queue. With none
waiting, one core cycle passes while the module runs, and nothing happens otherwise; that an empty queue stands for a
core cycle is the model's choice (log entry 2). -/
def Obligations.StepRunsFront : Prop :=
  (∀ (s : State) (c : Instr) (rest : List Instr),
      s.pending = c :: rest →
      step s = exec c { s with pending := rest }) ∧
  (∀ (s : State),
      s.pending = [] →
      (s.runs = true → step s = .next (s.keep s.otpDone.countPlay.tick.applyOuts.joinEffect.handoverEffect.endsDue.pansDue.tapZero.eqBoundary.nextWindow.applyStops.trySplit.claimsDue.serveLines.refLong)) ∧
    (s.runs = false → step s = .next s))

/-- Every step answers a next state, never a fault or a refusal, and takes exactly the front of the queue; so after n
steps, with n commands or more waiting, exactly the first n have been carried out, in their order, whatever they were.
-/
def Obligations.QueueInOrder : Prop :=
  (∀ (s : State),
      ∃ t, step s = .next t ∧ t.pending = s.pending.drop 1) ∧
  (∀ (s : State) (n : Nat),
      n ≤ s.pending.length →
      (s.afterSteps n).pending = s.pending.drop n)

/-- A module that does not run keeps its whole state through every command but the two of RST_N. Only RST_N_ASSERT,
RST_N_RISE and THERMAL_SHUTDOWN ever change whether the module runs. After RST_N low with no flash write under way
nothing is left of the former state but the flash, what had reached the host, and the queue: two states that agree on
these are the same afterwards. -/
def Obligations.PhaseRules : Prop :=
  (∀ (s : State) (c : Instr),
      s.phase ≠ .running →
      (c ≠ .rstNAssert ∧ ∀ b, c ≠ .rstNRise b) →
      exec c s = .next s) ∧
  (∀ (s t : State) (c : Instr),
      exec c s = .next t →
      (c ≠ .rstNAssert ∧ c ≠ .thermalShutdown ∧ ∀ b, c ≠ .rstNRise b) →
      t.phase = s.phase) ∧
  (∀ (s t : State),
      s.cfg.job = none ∧ t.cfg.job = none →
      s.cfg.flash = t.cfg.flash ∧ s.fresh = t.fresh ∧ s.pending = t.pending →
      s.hif.msix = t.hif.msix ∧ s.hif.writes = t.hif.writes ∧ s.hif.reads = t.hif.reads →
      exec .rstNAssert s = exec .rstNAssert t)

/-- In every sound state a module held in reset has nothing but the flash, the queue and what had reached the host,
and a module stopped by a thermal shutdown drives the alert, has no link and no bus master, no capture memory contents
and no pattern driver on. Every step from a sound state answers a sound state, whatever command it carries out. -/
def Obligations.StoppedStaysSound : Prop :=
  ∀ (s t : State),
    s.sound →
    step s = .next t →
    t.sound

/-- State.reset is the module right after RST_N has risen with COMPAT low: it runs, no command waits, start-up is at
step 0, every register of BAR0 reads its reset value, no link is up, no bus master, descriptor, sequence or run
exists, no byte of capture memory is listed, and it is sound. The values that the spec does not give (log entry 3),
the erased flash and what unlisted memory reads as (log entry 9) are the model's choices. -/
def Obligations.AfterReset : Prop :=
  State.reset.runs = true ∧ State.reset.pending = [] ∧ State.reset.fld F.CFG_STAT.STEP = 0 ∧ (∀ o, State.reset.reg o = regReset o) ∧
    State.reset.flag F.GLB_STAT.COMPAT_BALL = false ∧ State.reset.hif.linkUp = false ∧ State.reset.hif.busMaster = [] ∧
    State.reset.hif.descs = [] ∧ State.reset.stm.run = none ∧ State.reset.pat.run = none ∧ State.reset.mem.bytes = [] ∧
    Memory.wf State.reset.mem.bytes = true ∧ State.reset.sound

/-- An overrange of a sampled input whose OVR bit is clear sets the bit and raises the input's event; with the bit set
it changes nothing; an overload sets OVERLOAD and raises E106. A write to INP_OFFSETn stores its low 16 bits and marks
a captured input's lines degraded until the mark ends; a write to INP_REF_CTL acts on the four buffers in turn: a
buffer that goes on starts its settle timer, one that goes off loses READY, one that serves a captured input stays on;
a write to INP_MON_CTL stores WINDOW and restarts the windows. When the settle timer of a buffer expires, READY sets
where the level lies in its band, and FAULT sets with E104 where not; a ready buffer whose level leaves the band loses
READY, sets FAULT, raises E104 and fault 0x0107 and marks its banks; a settled enabled buffer that recovers is READY
again and its banks are no longer marked. Whole next states. -/
def Obligations.InputsAndReferences : Prop :=
  (∀ (s : State) (n : Fin 4),
      s.runs = true →
      sampledIn s.inp.route n = true →
      s.flag (F.INP_STAT.OVR.bit n) = false →
      exec (.inputOverrange n) s = .next (s.keep ((s.setFlag (F.INP_STAT.OVR.bit n) true).raise (100 + n) 0 routePF))) ∧
  (∀ (s : State) (n : Fin 4),
      s.runs = true →
      s.flag (F.INP_STAT.OVR.bit n) = true →
      exec (.inputOverrange n) s = .next (s.keep s)) ∧
  (∀ (s : State) (n : Fin 4),
      s.runs = true →
      exec (.inputOverload n) s = .next (s.keep ((s.setFlag (F.INP_STAT.OVERLOAD.bit n) true).raisePF 106 n))) ∧
  (∀ (s : State) (n : Fin 4) (v : Word),
      s.runs = true →
      s.captured n = false →
      exec (.inpOffsetWrite n v) s = .next (s.keep (s.setFld (F.INP_OFFSET.OFFSET n) (getBits v 0 16)))) ∧
  (∀ (s : State) (n : Fin 4) (v : Word),
      s.runs = true →
      s.captured n = true →
      exec (.inpOffsetWrite n v) s =
    .next (s.keep (((s.setFld (F.INP_OFFSET.OFFSET n) (getBits v 0 16)).degOff (.offset n) (s.frameNow false)).degOn
      (.offset n) (s.frameNow false)))) ∧
  (∀ (s : State) (n : Fin 4),
      s.runs = true →
      exec (.offsetDegradedEnd n) s = .next (s.keep (s.degOff (.offset n) (s.frameNow false)))) ∧
  (∀ (s : State) (v : Word),
      s.runs = true →
      exec (.inpRefCtlWrite v) s =
    .next (s.keep ((((s.refWriteBit v 0).refWriteBit v 1).refWriteBit v 2).refWriteBit v 3))) ∧
  (∀ (s : State) (v : Word) (k : Fin 4),
      s.flag (F.INP_REF_CTL.EN.bit k) = false →
      getBits v k 1 = 1 →
      s.refWriteBit v k =
    { s.setFlag (F.INP_REF_CTL.EN.bit k) true with inp := { s.inp with settling := putBit s.inp.settling k true } }) ∧
  (∀ (s : State) (v : Word) (k : Fin 4),
      s.flag (F.INP_REF_CTL.EN.bit k) = true →
      getBits v k 1 = 0 →
      (List.range 4).any (fun n => s.captured n && refServes s.inp.route k n) = true →
      s.refWriteBit v k = s) ∧
  (∀ (s : State) (v : Word) (k : Fin 4),
      s.flag (F.INP_REF_CTL.EN.bit k) = true →
      getBits v k 1 = 0 →
      (List.range 4).any (fun n => s.captured n && refServes s.inp.route k n) = false →
      (s.refWriteBit v k).flag (F.INP_REF_CTL.EN.bit k) = false ∧ (s.refWriteBit v k).flag (F.INP_REF_STAT.READY.bit k) = false) ∧
  (∀ (s : State) (v : Word),
      s.runs = true →
      exec (.inpMonCtlWrite v) s = .next (s.keep (s.setFld F.INP_MON_CTL.WINDOW (getBits v 0 5)).monRestart)) ∧
  (∀ (s : State) (k : Fin 4) (x : Int),
      s.runs = true →
      natBit s.inp.settling k = true →
      (s.refInBand k x = true → exec (.refSettleTimerExpire k x) s =
      .next (s.keep (({ s with inp := { s.inp with settling := putBit s.inp.settling k false } }).setFlag
        (F.INP_REF_STAT.READY.bit k) true).wakeSweeps)) ∧
    (s.refInBand k x = false → Answers (.refSettleTimerExpire k x) s (fun t => t.flag (F.INP_REF_STAT.FAULT.bit k) = true ∧ t.seen 104 = true ∧
      t.inp = { s.inp with settling := putBit s.inp.settling k false } ∧
      s.regsBut t (R.INP_REF_STAT :: R.CNV_GAUGE_STAT :: evtRegs 104) ∧ t.mem = s.mem ∧ t.acq = s.acq ∧ t.hif = s.hif))) ∧
  (∀ (s : State) (k : Fin 4) (x : Int),
      s.runs = true →
      s.flag (F.INP_REF_STAT.READY.bit k) = true ∧ s.refInBand k x = false →
      Answers (.refLevelFault k x) s (fun t => t.flag (F.INP_REF_STAT.READY.bit k) = false ∧
      t.flag (F.INP_REF_STAT.FAULT.bit k) = true ∧ t.inp = { s.inp with spans := ⟨.buffer k, s.frameNow false, none⟩ :: s.inp.spans } ∧
      (∀ o, faultOffset o = false → o ≠ R.INP_REF_STAT → t.reg o = s.reg o) ∧
      t.mem = s.mem ∧ t.acq = s.acq ∧ t.hif = s.hif)) ∧
  (∀ (s : State) (k : Fin 4) (x : Int),
      s.runs = true →
      s.flag (F.INP_REF_CTL.EN.bit k) = true →
      natBit s.inp.settling k = false ∧ s.refInBand k x = true →
      exec (.refLevelRecover k x) s =
    .next (s.keep ((s.setFlag (F.INP_REF_STAT.READY.bit k) true).degOff (.buffer k) (s.frameNow false)).wakeSweeps)) ∧
  (∀ (s : State) (k : Fin 4) (x : Int),
      s.refInBand k x = decide (2000 * ((x - s.sfld (F.CAL_TRIM_REF.LEVEL k)).natAbs : Int) ≤ 100000 + s.sfld (F.CAL_TRIM_REF.LEVEL k)))

/-- At the end of a window, in every mode and state, the four inputs are treated in turn and the windows restart: an
input for which a condition of R57 holds shows STALE, one for which such a condition has held in the window keeps its
outputs, and every other one gets new outputs. For these MEAN is the rounded mean, MIN and MAX the extremes and RMS
the rounded deviation of the valid codes, FREQ the count of rising crossings as a frequency, CLIPPED says whether a
slice clipped, every SEQ counts by one, and no register but the input's own six changes. That a window without a valid
code gives free values is the model's choice (log entry 72). -/
def Obligations.MonitorOutputs : Prop :=
  (∀ (s : State) (a b c d : MonWindow),
      s.runs = true →
      exec (.monitorWindowEnd [a, b, c, d]) s =
    .next (s.keep ((((s.monInput 0 a).monInput 1 b).monInput 2 c).monInput 3 d).monRestart)) ∧
  (∀ (s : State) (n : Fin 4) (w : MonWindow),
      (s.monHeld n = true → s.monInput n w = s.setFlag (F.INP_MON_STAT.STALE n) true) ∧
    (s.monHeld n = false → natBit s.inp.monDirty n = true → s.monInput n w = s) ∧
    (s.monHeld n = false → natBit s.inp.monDirty n = false → s.monInput n w = s.monOutput n w)) ∧
  (∀ (s : State) (n : Fin 4) (w : MonWindow),
      windowCodes w ≠ [] →
      (s.monOutput n w).fld (F.INP_MON_MEAN.VALUE n) = pattern 16 (roundDiv (sumInt (windowCodes w)) (windowCodes w).length) ∧
    (s.monOutput n w).fld (F.INP_MON_RMS.VALUE n) = roundSqrtQuot (((windowCodes w).length : Int) * sumInt ((windowCodes w).map (fun c => c * c)) -
      sumInt (windowCodes w) * sumInt (windowCodes w)).toNat ((windowCodes w).length * (windowCodes w).length) % 2 ^ 16 ∧
    (s.monOutput n w).fld (F.INP_MON_MIN.VALUE n) = pattern 16 (minInt (windowCodes w)) ∧
    (s.monOutput n w).fld (F.INP_MON_MAX.VALUE n) = pattern 16 (maxInt (windowCodes w))) ∧
  (∀ (s : State) (n : Fin 4) (w : MonWindow),
      (s.monOutput n w).fld (F.INP_MON_FREQ.FREQ n) = s.monCount n (windowCodes w) % 2 ^ (F.INP_MON_FREQ.FREQ n).width ∧
    (s.monOutput n w).flag (F.INP_MON_STAT.STALE n) = false ∧
    (s.monOutput n w).flag (F.INP_MON_STAT.CLIPPED n) = w.clipped ∧
    (s.monOutput n w).fld (F.INP_MON_STAT.SEQ n) = (s.fld (F.INP_MON_STAT.SEQ n) + 1) % 256 ∧
    s.regsBut (s.monOutput n w) [R.INP_MON_MEAN n, R.INP_MON_RMS n, R.INP_MON_MIN n, R.INP_MON_MAX n, R.INP_MON_FREQ n,
      R.INP_MON_STAT n])

/-- An INP_MODE write is accepted exactly with no context armed, no change in progress, no foreground calibration
(R178) and a defined mode; where that is another mode than MODE it sets MODE and CHANGING, ends fades, symbol lock and
passes and stops the monitors; otherwise it changes nothing. With a change in progress and SAMPLE running, the routing
switch routes MODE from the next multiple of 192 on and opens an epoch in every bank, once. Completion clears
CHANGING, copies MODE to ACTIVE_MODE, raises E105 and restarts sweeps, convergence and monitors. Whole next states. -/
def Obligations.ModeChange : Prop :=
  (∀ (s : State) (v : Word),
      s.runs = true →
      s.anyArmed = false ∧ s.flag F.INP_MODE_STAT.CHANGING = false ∧ s.fld F.CAL_STAT.FG_ACTIVE = 0 ∧ getBits v 0 2 ≠ 3 →
      (getBits v 0 2 = s.fld F.INP_MODE.MODE → exec (.inpModeWrite v) s = .next (s.keep s)) ∧
    (getBits v 0 2 ≠ s.fld F.INP_MODE.MODE → exec (.inpModeWrite v) s = .next (s.keep
      (({ (s.setFld F.INP_MODE.MODE (getBits v 0 2)).setFlag F.INP_MODE_STAT.CHANGING true with
        inp := { s.inp with routed := false } }.endFades (s.frameNow true + 1)).symStop.cutPans).monRefresh))) ∧
  (∀ (s : State) (v : Word),
      s.runs = true →
      s.anyArmed = true ∨ s.flag F.INP_MODE_STAT.CHANGING = true ∨ s.fld F.CAL_STAT.FG_ACTIVE ≠ 0 ∨ getBits v 0 2 = 3 →
      exec (.inpModeWrite v) s = .next (s.keep s)) ∧
  (∀ (s : State),
      s.runs = true →
      s.flag F.INP_MODE_STAT.CHANGING = true →
      s.inp.routed = false →
      s.frozen = false →
      exec .modeRoutingSwitch s =
    .next (s.keep (s.cycle.route (next192 (s.time.idx + s.perCycle - 1))).openAllEpochs.showDets.monRefresh)) ∧
  (∀ (s : State),
      s.runs = true →
      (s.flag F.INP_MODE_STAT.CHANGING = false ∨ s.frozen = true ∨ s.inp.routed = true → exec .modeRoutingSwitch s = .next (s.keep s)) ∧
    (s.flag F.INP_MODE_STAT.CHANGING = false ∨ s.frozen = true ∨ s.inp.routed = false → exec .modeChangeComplete s = .next (s.keep s))) ∧
  (∀ (s : State),
      s.runs = true →
      s.flag F.INP_MODE_STAT.CHANGING = true →
      s.inp.routed = true →
      s.frozen = false →
      Answers .modeChangeComplete s (fun t =>
      ∃ u, u = ((s.setFlag F.INP_MODE_STAT.CHANGING false).setFld F.INP_MODE_STAT.ACTIVE_MODE
          (s.fld F.INP_MODE.MODE)).raisePF 105 (s.fld F.INP_MODE.MODE) ∧
        t = s.keep ((u.restartSweeps (u.frameNow true + 1)).modeSettled (u.frameNow true + 1))))

/-- A slip sets its GLB_XSTAT bit and raises E012; on X1.b the bank is marked and fault 0x0108 handled, on X2 fault
0x000E is handled and every gauge not already in fall-back goes into it, X6S and X8R are marked, and X7 loses the pair
link. A slipped X1.b is re-centred once no armed context uses the bank and not before; X2 ends the fall-back checks;
X6S is re-centred; X8R only while the sequencer is stopped. Whole next states. -/
def Obligations.FixedCrossings : Prop :=
  (∀ (s : State) (x : Fin 12) (u : State),
      s.runs = true →
      (s.setFlag ⟨R.GLB_XSTAT, x, 1⟩ true).raisePF 12 x = u →
      (x < 8 → exec (.crossingSlip x) s =
        .next (s.keep ((({ u with inp := { u.inp with x1Slipped := putBit u.inp.x1Slipped x true } }).degOn (.crossing x)
          (s.frameNow false)).fault 0x0108 x))) ∧
    (x = 8 → s.inp.x2Slipped = true → exec (.crossingSlip x) s = .next (s.keep (u.fault 0x000E 0))) ∧
    (x = 8 → s.inp.x2Slipped = false → exec (.crossingSlip x) s =
        .next (s.keep (({ u with inp := { u.inp with x2Slipped := true } }.each (List.range 4)
          (fun t g => if s.fallback g then t else t.fallbackStart g false)).fault 0x000E 0))) ∧
    (x = 9 → exec (.crossingSlip x) s = .next (s.keep { u with time := { u.time with x6sSlipped := true } })) ∧
    (x = 10 → exec (.crossingSlip x) s = .next (s.keep (u.linkLost 0))) ∧
    (x = 11 → exec (.crossingSlip x) s = .next (s.keep { u with inp := { u.inp with x8rSlipped := true } }))) ∧
  (∀ (s : State) (b : Fin 8),
      s.runs = true →
      s.bankInUse b = false →
      exec (.x1Recentre b) s = .next (s.keep
      (({ s with inp := { s.inp with x1Slipped := putBit s.inp.x1Slipped b false } }).degOff (.crossing b) (s.frameNow false)))) ∧
  (∀ (s : State) (b : Fin 8),
      s.runs = true →
      s.bankInUse b = true →
      exec (.x1Recentre b) s = .next (s.keep s)) ∧
  (∀ (s : State),
      s.runs = true →
      s.inp.x2Slipped = true →
      exec .x2Recentre s = .next (s.keep
      (((({ s with inp := { s.inp with x2Slipped := false } }.fallbackEnd 0).fallbackEnd 1).fallbackEnd 2).fallbackEnd 3))) ∧
  (∀ (s : State),
      s.runs = true →
      exec .x6sRecentre s = .next (s.keep { s with time := { s.time with x6sSlipped := false } })) ∧
  (∀ (s : State),
      s.runs = true →
      s.stimState = 0 →
      exec .x8rRecentre s = .next (s.keep { s with inp := { s.inp with x8rSlipped := false } }))

/-- With PPS_EN set, no slipped X6S, not as a twin follower, and not accepted by a grid that a time load of the same
core cycle has replaced (R119): the clamped error is stored, and the edge is stepped to while PPS_WAIT is set,
accepted within 1 ms of the expected instant, and rejected elsewhere. A rejected edge that is the third in a row is
stepped to, an accepted one whose error exceeds 1 us too. A missing edge counts the second, drops the servo to its
frequency term, clears PPS_LOCKED, sets PPS_MISSING and raises E082. Whole next states. -/
def Obligations.PpsEdge : Prop :=
  (∀ (s : State) (ago edge : Nat) (u : State),
      s.runs = true →
      s.isFollower = false ∧ s.flag F.TIME_CTL.PPS_EN = true ∧ s.time.x6sSlipped = false →
      s.edgeDropped ago = false →
      (((s.now : Int) - (ago : Int)) % (2 ^ 80 : Nat)).toNat = edge →
      s.setFld F.TIME_PPS_ERR.V (pattern 32 (clampInt (-(2 ^ 31 : Nat)) ((2 ^ 31 : Nat) - 1) (s.ppsError edge))) = u →
      (s.flag F.TIME_STAT.PPS_WAIT = true → exec (.ppsEdge ago) s = .next (s.keep (u.ppsStep edge))) ∧
    (s.flag F.TIME_STAT.PPS_WAIT = false → within1ms ((edge : Int) - (s.time.expected : Int)) = true →
      exec (.ppsEdge ago) s = .next (s.keep (u.ppsAccept edge))) ∧
    (s.flag F.TIME_STAT.PPS_WAIT = false → within1ms ((edge : Int) - (s.time.expected : Int)) = false →
      exec (.ppsEdge ago) s = .next (s.keep (u.ppsReject edge)))) ∧
  (∀ (s : State) (ago : Nat),
      s.runs = true →
      s.isFollower = true ∨ s.flag F.TIME_CTL.PPS_EN = false ∨ s.time.x6sSlipped = true ∨ s.edgeDropped ago = true →
      exec (.ppsEdge ago) s = .next (s.keep s)) ∧
  (∀ (s : State) (ago : Nat) (g : OldGrid),
      s.time.oldGrid = some g →
      s.edgeDropped ago = (g.cycle == s.time.cycle && g.stepped && within1ms ((g.now : Int) - (ago : Int) - (g.expected : Int)))) ∧
  (∀ (s : State),
      s.runs = true →
      s.isFollower = true ∨ s.flag F.TIME_CTL.PPS_EN = false ∨ s.time.stepped = false →
      exec .ppsMissingTimeout s = .next (s.keep s)) ∧
  (∀ (s : State) (u : State),
      s.runs = true →
      s.isFollower = false ∧ s.flag F.TIME_CTL.PPS_EN = true ∧ s.time.stepped = true →
      { s with time := { s.time with goodEdges := 0, expected := (s.time.expected + 2 ^ 40) % 2 ^ 80 } } = u →
      exec .ppsMissingTimeout s = .next (s.keep
      (((((if s.flag F.TIME_CTL.SERVO_HOLD then u else u.changeTime (.rate (clampInt (-rateLimit) rateLimit s.time.servoF))).setPpsSec
        (s.ppsSec + 1)).setFlag F.TIME_STAT.PPS_MISSING true).setFlag F.TIME_STAT.PPS_LOCKED false).raisePF 82 0)))

/-- Away from a twin, an accepted edge whose error lies within 1 us moves the frequency term f by minus an eighth-of-
an-eighth share of the error (ashr by 4), puts the rate at f minus the error limited to 50 ppm, counts the good edges
and sets PPS_LOCKED at the fourth, and leaves every register but the rate, the status word and those of E081 as they
were. -/
def Obligations.ServoAtAnEdge : Prop :=
  ∀ (s : State) (e f : Int),
    s.isLeader = false →
    signed 32 (pattern 32 (s.time.servoF - ashr e 4)) = f →
    (s.servo e).fld F.TIME_RATE_ADJ.V = pattern 32 (clampInt (-rateLimit) rateLimit (f - e)) ∧
    (s.servo e).time = { s.time with servoF := f, goodEdges := if e.natAbs ≤ 1100 then s.time.goodEdges + 1 else 0 } ∧
    (3 ≤ s.time.goodEdges → e.natAbs ≤ 1100 → (s.servo e).flag F.TIME_STAT.PPS_LOCKED = true) ∧
    (clampInt (-rateLimit) rateLimit (f - e) ≠ f - e → (s.servo e).seen 81 = true) ∧
    s.regsBut (s.servo e) (R.TIME_RATE_ADJ :: R.TIME_STAT :: evtRegs 81)

/-- A step by d moves tide time by d modulo 2^80 s units of 2^-40 s with its guard bits untouched, sets STEPPED,
raises E080, and changes no register but the step's index and size, the status word and those of E080; neither the
sample index nor the count of core cycles moves. -/
def Obligations.TideTimeStep : Prop :=
  ∀ (s : State) (d : Int),
    (s.stepTide d).time = { s.time with tide := (((s.time.tide : Int) + d * (2 ^ 24 : Nat)) % (2 ^ 104 : Nat)).toNat } ∧
    (s.stepTide d).flag F.TIME_STAT.STEPPED = true ∧ (s.stepTide d).seen 80 = true ∧
    s.regsBut (s.stepTide d) ([R.TIME_STEP_IDX_LO, R.TIME_STEP_IDX_LO + 4, R.TIME_STEP_DELTA_LO, R.TIME_STEP_DELTA_LO + 4,
      R.TIME_STAT] ++ evtRegs 80)

/-- A TIME_CTL write stores PPS_EN and SERVO_HOLD; on a module that is no follower PPS_EN rising waits for an edge to
step to, and falling clears the servo, LOCKED, MISSING and WAIT and sets the rate to 0. A pulse at SYNC_IN is sampled
only with EN set, with the slip of X6S at its reception; a software SYNC stores the RW fields and is sampled at once.
The sync point is 40 ns and DELAY after the sampling edge, and not before. A SYNC from SYNC_IN that finds EN cleared
there does nothing; one that meets an absent reference, a rate change or bypass, or that X6S has slipped, then or at
its reception, is ignored: it is counted and E085 tells why. Any other one performs the actions selected, less those
that an armed context or a twin skips, is counted, sets SYNC_PARTIAL where actions were skipped, and E084 tells what
was done and skipped. The phase reset alone, with a time load, or with a clock alignment first, is given whole. Whole
next states. -/
def Obligations.TimeControl : Prop :=
  (∀ (s : State) (v : Word) (u : State),
      s.runs = true →
      (s.setFld F.TIME_CTL.PPS_EN (getBits v 0 1)).setFld F.TIME_CTL.SERVO_HOLD (getBits v 1 1) = u →
      ((s.isFollower = true ∨ s.flag F.TIME_CTL.PPS_EN = (getBits v 0 1 == 1)) →
        exec (.timeCtlWrite v) s = .next (s.keep u)) ∧
    (s.isFollower = false → s.flag F.TIME_CTL.PPS_EN = false → getBits v 0 1 = 1 →
        exec (.timeCtlWrite v) s = .next (s.keep ({ u with time :=
          { s.time with stepped := false, rejects := 0, goodEdges := 0 } }.setFlag F.TIME_STAT.PPS_WAIT true))) ∧
    (s.isFollower = false → s.flag F.TIME_CTL.PPS_EN = true → getBits v 0 1 ≠ 1 →
        exec (.timeCtlWrite v) s = .next (s.keep (((({ u with time :=
          { s.time with servoF := 0, stepped := false, goodEdges := 0, rejects := 0 } }.setFlag F.TIME_STAT.PPS_LOCKED
          false).setFlag F.TIME_STAT.PPS_MISSING false).setFlag F.TIME_STAT.PPS_WAIT false).changeTime (.rate 0))))) ∧
  (∀ (s : State),
      s.runs = true →
      s.flag F.TIME_SYNC_CTL.EN = true →
      exec .syncInPulse s = .next (s.keep { s with time := { s.time with
      syncs := s.time.syncs ++ [⟨false, s.time.x6sSlipped, s.time.elapsed⟩] } })) ∧
  (∀ (s : State),
      s.runs = true →
      s.flag F.TIME_SYNC_CTL.EN = false →
      exec .syncInPulse s = .next (s.keep s)) ∧
  (∀ (s : State) (v : Word),
      s.runs = true →
      exec (.softSync v) s = .next (s.keep { s.setReg R.TIME_SYNC_CTL (v &&& 0x0000FF3F#32) with
      time := { s.time with syncs := s.time.syncs ++ [⟨true, false, s.time.elapsed⟩] } })) ∧
  (∀ (s : State) (x : SyncWait) (rest : List SyncWait) (gap : Nat) (p : BitVec 64) (u : State),
      s.runs = true →
      s.time.syncs = x :: rest →
      s.passed x.start (nanos (40 + 10 * s.fld F.TIME_SYNC_CTL.DELAY)) = true →
      { s with time := { s.time with syncs := rest } } = u →
      (x.soft = false → s.flag F.TIME_SYNC_CTL.EN = false → exec (.syncPoint gap p) s = .next (s.keep u)) ∧
    ((x.soft = true ∨ s.flag F.TIME_SYNC_CTL.EN = true) → s.syncCause x ≠ 0 →
      exec (.syncPoint gap p) s = .next (s.keep ((u.bump R.TIME_SYNC_IGNORED).raisePF 85 (s.syncCause x)))) ∧
    ((x.soft = true ∨ s.flag F.TIME_SYNC_CTL.EN = true) → s.syncCause x = 0 → exec (.syncPoint gap p) s = .next (s.keep
        ((((u.syncActions x.soft (s.syncSelected - s.syncSkipped) gap p.toNat x.start).syncPartial
          (s.syncSkipped != 0)).bump R.TIME_SYNC_COUNT).raisePF 84
            (s.syncSelected - s.syncSkipped + 2 ^ 8 * s.syncSkipped))))) ∧
  (∀ (s : State) (gap : Nat) (p : BitVec 64),
      s.runs = true →
      s.syncDue = false →
      exec (.syncPoint gap p) s = .next (s.keep s)) ∧
  (∀ (s : State),
      s.anyArmed = true ∨ s.joined = true →
      s.syncSkipped = s.syncSelected &&& 0xE) ∧
  (∀ (s : State) (gap p q : Nat),
      s.syncActions true 1 gap p q = (s.phaseReset s.time.idx).streamPhase s.time.idx ∧
    (s.syncActions true 5 gap p q) = s.loadTime.syncPhase ∧ (s.syncActions true 9 gap p q) = (s.alignClk gap).syncPhase)

/-- While a loop searches with the reference present, a trial ends with the band that fits, with the next band, or
with LOCK_FAIL and E075 and a retry after 1 ms; the retry starts a new attempt. A window of a loop that searches runs
its cycles, stores the counter's reading and sets FREQ_OK by it; the loop locks once a band fits and PH_OK and FREQ_OK
both stand, and not before: LOCKED, PH_OK and FREQ_OK set, SEARCHING clears, and STIM, the memory islands or the
sample clocks take it up. -/
def Obligations.LockAttempts : Prop :=
  (∀ (s u : State) (l : Fin 4) (errs : List Int) (b : Nat) (r : List Nat),
      s.runs = true →
      s.searching l = true ∧ s.clk.refLost = false →
      s.loopRun l errs = u →
      (u.loop l).trials = b :: r →
      ((u.loop l).fits = true → exec (.bandTrialEnd l errs) s =
        .next (s.keep (u.setLoop l { u.loop l with trials := [], fit := some b, good := 0 }).rateFailed)) ∧
    ((u.loop l).fits = false → r ≠ [] → exec (.bandTrialEnd l errs) s =
        .next (s.keep (u.setLoop l { u.loop l with trials := r, good := 0 }).rateFailed)) ∧
    ((u.loop l).fits = false → r = [] → exec (.bandTrialEnd l errs) s =
        .next (s.keep (((((u.setLoop l { u.loop l with trials := [], retry := true, failed := true }).setFlag
          (F.CLK_SYN_STAT.SEARCHING l) false).setFlag (F.CLK_SYN_STAT.PH_OK l) false).setFlag
          (F.CLK_SYN_STAT.LOCK_FAIL l) true).raisePF 75 l).rateFailed))) ∧
  (∀ (s : State) (l : Fin 4),
      s.runs = true →
      (s.loop l).retry = true ∧ s.clk.refLost = false →
      exec (.lockRetryTimer l) s = .next (s.keep (s.startLock l))) ∧
  (∀ (s : State) (l : Fin 4),
      (s.startLock l).flag (F.CLK_SYN_STAT.SEARCHING l) = true ∧ (s.startLock l).flag (F.CLK_SYN_STAT.LOCKED l) = false ∧
    (s.startLock l).flag (F.CLK_SYN_STAT.PH_OK l) = false ∧ (s.startLock l).flag (F.CLK_SYN_STAT.FREQ_OK l) = false ∧
    s.regsBut (s.startLock l) [R.CLK_SYN_STAT l] ∧ (s.startLock l).mem = s.mem ∧ (s.startLock l).acq = s.acq) ∧
  (∀ (s u : State) (l : Fin 4) (errs : List Int) (ppm : Int) (gap : Nat),
      s.runs = true →
      s.searching l = true ∧ s.clk.refLost = false →
      ((s.loopRun l errs).freqRead l (some ppm)).setFlag (F.CLK_SYN_STAT.FREQ_OK l) (Nat.ble ppm.natAbs 200) = u →
      exec (.loopLocked l errs ppm gap) s = .next (s.keep (u.lockCheck l gap))) ∧
  (∀ (u v : State) (l : Fin 4) (gap band : Nat),
      (u.loop l).fit = some band ∧ u.searching l = true →
      u.flag (F.CLK_SYN_STAT.PH_OK l) = true ∧ u.flag (F.CLK_SYN_STAT.FREQ_OK l) = true →
      u.lockedNow l band = v →
      v.flag (F.CLK_SYN_STAT.HOLDOVER l) = false →
      (l = 3 → u.lockCheck l gap = v.stimClock) ∧ (l = 2 → u.lockCheck l gap = v.memRecover) ∧
    (l = 0 ∨ l = 1 → u.lockCheck l gap = (v.tryRestart gap).memRecover)) ∧
  (∀ (u : State) (l : Fin 4) (gap : Nat),
      (u.loop l).fit = none ∨ u.searching l = false ∨ u.flag (F.CLK_SYN_STAT.PH_OK l) = false ∨ u.flag (F.CLK_SYN_STAT.FREQ_OK l) = false →
      u.lockCheck l gap = u)

/-- A locked loop is tried against its criteria after the reference cycles and readings it has had; with no cause
nothing more happens. One that trips for a cause sets LOST, starts a lock attempt and raises its event with the cause.
SYN_S stops STIM with CLOCK_LOST; SYN_M leaves the memory islands to find a clock; the standby sample loop is fault
0x0004; the active one hands over to a ready standby with E068 and fault 0x0003, or enters bypass and restarts where a
loop is locked; with both sample loops tripped in one reference cycle there is no hand-over. The standby is compared
with the active loop cycle by cycle: TRACKED sets at the 1,024th cycle within 0.5 ps in a row and clears beyond 1.0
ps. -/
def Obligations.LoopTrips : Prop :=
  (∀ (s u : State) (l : Fin 4) (x : Trip) (gap k n cause : Nat),
      s.runs = true →
      s.locked l = true ∧ s.clk.refLost = false →
      (s.loopRun l x.errs).freqRead l x.ppm = u →
      u.tripCause l x = cause ∧ cause ≠ 0 →
      (l = 3 → exec (.loopTrip l x none gap k n) s = .next (s.keep ((u.tripLoop 3 cause).stimLost k n))) ∧
    (l = 2 → exec (.loopTrip l x none gap k n) s = .next (s.keep (u.tripLoop 2 cause).memCheck)) ∧
    (l = 0 ∨ l = 1 → (u.tripLoop l cause).flag F.CLK_STAT.BYPASS = false → (l : Nat) = u.activeLoop →
      exec (.loopTrip l x none gap k n) s = .next (s.keep
        ((u.tripLoop l cause).activeTrip cause false (u.flag F.CLK_STAT.STBY_READY) gap).memCheck)) ∧
    (l = 0 ∨ l = 1 → (u.tripLoop l cause).flag F.CLK_STAT.BYPASS = false → (l : Nat) ≠ u.activeLoop →
      exec (.loopTrip l x none gap k n) s = .next (s.keep ((u.tripLoop l cause).fault 0x0004 l).memCheck))) ∧
  (∀ (s u t : State) (l : Fin 4) (x y : Trip) (gap k n cause c : Nat),
      s.runs = true →
      s.locked l = true ∧ s.clk.refLost = false →
      (s.loopRun l x.errs).freqRead l x.ppm = u →
      u.tripCause l x = cause ∧ cause ≠ 0 ∧ (l = 0 ∨ l = 1) →
      ((u.tripLoop l cause).loopRun (1 - l) y.errs).freqRead (1 - l) y.ppm = t →
      t.locked (1 - l) = true ∧ t.tripCause (1 - l) y = c ∧ c ≠ 0 →
      (t.tripLoop (1 - l) c).flag F.CLK_STAT.BYPASS = false →
      exec (.loopTrip l x (some y) gap k n) s = .next (s.keep
      ((t.tripLoop (1 - l) c).activeTrip cause true (u.flag F.CLK_STAT.STBY_READY) gap).memCheck)) ∧
  (∀ (s u : State) (l : Fin 4) (x : Trip) (o : Option Trip) (gap k n : Nat),
      s.runs = true →
      s.locked l = true ∧ s.clk.refLost = false →
      (s.loopRun l x.errs).freqRead l x.ppm = u →
      u.tripCause l x = 0 →
      exec (.loopTrip l x o gap k n) s = .next (s.keep u)) ∧
  (∀ (s : State) (cause gap : Nat),
      s.activeTrip cause false true gap =
      ((s.exchange cause).degOn .switchOver (s.frameNow false)).fault 0x0003 s.activeLoop ∧
    s.activeTrip cause false false gap = (s.bypassEntry gap).tryRestart 0 ∧
    s.activeTrip cause true true gap = (s.bypassEntry gap).tryRestart 0) ∧
  (∀ (s : State) (l p : Nat),
      s.periodTrips l p = true ↔ (1000 * (p : Rat) < 985 * s.targetPeriod l ∨ 1015 * s.targetPeriod l < 1000 * (p : Rat))) ∧
  (∀ (s : State) (diffs : List Int) (r : LoopSt × Bool),
      s.runs = true →
      s.locked s.standbyLoop = true ∧ s.flag F.CLK_STAT.BYPASS = false ∧ s.clk.refLost = false →
      diffs.foldl (trackStep (s.loopCtl s.standbyLoop).ki) (s.loop s.standbyLoop, s.flag (F.CLK_SYN_STAT.TRACKED s.standbyLoop)) = r →
      exec (.standbyTracked diffs) s = .next (s.keep ((s.setLoop s.standbyLoop r.1).setFlag
        (F.CLK_SYN_STAT.TRACKED s.standbyLoop) r.2).showStandby) ∧
    exec (.trackingLost diffs) s = .next (s.keep ((s.setLoop s.standbyLoop r.1).setFlag
        (F.CLK_SYN_STAT.TRACKED s.standbyLoop) r.2).showStandby)) ∧
  (∀ (ki : Nat) (x : LoopSt) (b : Bool) (d : Int),
      (20 < d.natAbs → (trackStep ki (x, b) d).2 = false) ∧
    (d.natAbs ≤ 10 → 1023 ≤ x.near → (trackStep ki (x, b) d).2 = true) ∧
    (d.natAbs ≤ 10 → x.near < 1023 → (trackStep ki (x, b) d).2 = b ∧ (trackStep ki (x, b) d).1.near = x.near + 1) ∧
    (10 < d.natAbs → (trackStep ki (x, b) d).1.near = 0) ∧ (10 < d.natAbs → d.natAbs ≤ 20 → (trackStep ki (x, b) d).2 = b)) ∧
  (∀ (s : State),
      s.runs = true →
      exec .switchDegradedEnd s = .next (s.keep (s.degOff .switchOver (s.frameNow false))))

/-- A swap is carried out with no context armed and the standby ready, and not otherwise; the same write may also ask
for MEM_RETURN; the memory islands on the backup clock with SYN_M locked begin to return on MEM_RETURN, or by
themselves with MEM_AUTO; the end of their change shows MEM_BACKUP and raises E071 or E072. CLK_RATE_GO and
CLK_SRATE_GO with a rate out of range set RATE_REJECT and nothing else; a legal SYN_S rate stops STIM and starts its
lock attempt. Whole next states. -/
def Obligations.ClockCommands : Prop :=
  (∀ (s u : State) (v : Word) (c : Instr),
      s.runs = true ∧ (c = .clkSwap v ∨ c = .clkMemReturn v) →
      s.setFlag F.CLK_CTL.MEM_AUTO (getBits v 8 1 == 1) = u →
      (getBits v 0 1 = 1 → u.anyArmed = false → u.flag F.CLK_STAT.STBY_READY = true → exec c s =
        .next (s.keep (if getBits v 1 1 = 1 then (u.exchange 0).memReturn else u.exchange 0))) ∧
    (getBits v 0 1 ≠ 1 ∨ u.anyArmed = true ∨ u.flag F.CLK_STAT.STBY_READY = false → exec c s =
        .next (s.keep (if getBits v 1 1 = 1 then u.memReturn else u)))) ∧
  (∀ (s : State) (cause : Nat),
      (s.exchange cause).seen 68 = true ∧ (s.exchange cause).fld F.CLK_STAT.ACTIVE = s.standbyLoop % 2 ∧
    (s.exchange cause).flag F.CLK_STAT.STBY_READY = false ∧
    s.regsBut (s.exchange cause) ([R.CLK_STAT, R.CLK_SYN_STAT s.standbyLoop, R.CLK_SWITCH_COUNT] ++ evtRegs 68)) ∧
  (∀ (s : State),
      (s.clk.mem = .backup → s.clk.memNext = none → s.locked 2 = true → s.memReturn = s.setMemClock .backup (some .synM)) ∧
    (s.clk.mem ≠ .backup ∨ s.clk.memNext ≠ none ∨ s.locked 2 = false → s.memReturn = s)) ∧
  (∀ (s : State),
      s.runs = true →
      (s.flag F.CLK_CTL.MEM_AUTO = true → exec .memAutoReturn s = .next (s.keep s.memReturn)) ∧
    (s.flag F.CLK_CTL.MEM_AUTO = false → exec .memAutoReturn s = .next (s.keep s))) ∧
  (∀ (s : State),
      s.runs = true →
      (s.clk.memNext = some .synM → exec .memClockChangeDone s = .next (s.keep
        (((s.setMemClock .synM none).setFlag F.CLK_STAT.MEM_BACKUP false).raisePF 72 0))) ∧
    (s.clk.memNext = some .backup → exec .memClockChangeDone s = .next (s.keep
        (((s.setMemClock .backup none).setFlag F.CLK_STAT.MEM_BACKUP true).raisePF 71 0)))) ∧
  (∀ (s : State) (v : Word) (gap : Nat),
      s.runs = true →
      getBits v 0 1 = 1 ∧ s.anyArmed = false ∧ s.flag F.CLK_STAT.RATE_CHANGING = false →
      s.flag F.INP_MODE_STAT.CHANGING = false ∧ s.joined = false ∧ s.fld F.CAL_STAT.FG_ACTIVE = 0 →
      ((rateBad (s.fld F.CLK_RATE.DIV) s.rateFcw = true ∨
        s.flag F.CLK_STAT.REF_ABSENT = true ∨ s.flag F.CLK_STAT.MEM_BACKUP = true) →
      exec (.clkRateGo v gap) s = .next (s.keep (s.setFlag F.CLK_STAT.RATE_REJECT true))) ∧
    (rateBad (s.fld F.CLK_RATE.DIV) s.rateFcw = false →
      s.flag F.CLK_STAT.REF_ABSENT = false → s.flag F.CLK_STAT.MEM_BACKUP = false →
      exec (.clkRateGo v gap) s = .next (s.keep (s.rateStart gap)))) ∧
  (∀ (s : State) (v : Word) (gap : Nat),
      s.runs = true →
      getBits v 0 1 = 0 ∨ s.anyArmed = true ∨ s.flag F.CLK_STAT.RATE_CHANGING = true ∨
    s.flag F.INP_MODE_STAT.CHANGING = true ∨ s.joined = true ∨ s.fld F.CAL_STAT.FG_ACTIVE ≠ 0 →
      exec (.clkRateGo v gap) s = .next (s.keep s)) ∧
  (∀ (s : State) (v : Word),
      s.runs = true →
      getBits v 0 1 = 1 ∧ s.stimState = 0 →
      (srateBad s.srateFcw = true ∨ s.flag F.CLK_STAT.REF_ABSENT = true →
      exec (.clkSrateGo v) s = .next (s.keep (s.setFlag F.CLK_STAT.RATE_REJECT true))) ∧
    (srateBad s.srateFcw = false → s.flag F.CLK_STAT.REF_ABSENT = false →
      exec (.clkSrateGo v) s = .next (s.keep ({ s with clk := { s.clk with sfcw := s.srateFcw, fcwNow := s.srateFcw, ramp := none, stimOn := false } }.startLock 3)))) ∧
  (∀ (fcw : Nat),
      srateBad fcw = false ↔ 120 * 2 ^ 32 ≤ fcw ∧ fcw ≤ 160 * 2 ^ 32)

/-- A missing edge freezes the loops and sets HOLDOVER of all four and of CLK_STAT; an absent reference also sets
REF_ABSENT, shows 0x8000 at the frequency counters, silences the peer bus, raises E076 and fault 0x0006, once; at its
return the loops move again; a loop that then reaches PH_OK leaves holdover, the last one with E077. A ramp segment
ends once its DURATION has elapsed: it goes on with NEXT at the frequency it reached, or ends the ramp with E078;
SLOPE_CLAMPED sets where a clamp has acted. -/
def Obligations.ReferenceLoss : Prop :=
  (∀ (s : State),
      s.runs = true →
      Answers .refEdgeMissing s (fun t => t.clk = { s.clk with refLost := true } ∧ t.flag F.CLK_STAT.HOLDOVER = true ∧
      (∀ l : Fin 4, t.flag (F.CLK_SYN_STAT.HOLDOVER l) = true) ∧
      s.regsBut t [R.CLK_STAT, R.CLK_SYN_STAT 0, R.CLK_SYN_STAT 1, R.CLK_SYN_STAT 2, R.CLK_SYN_STAT 3] ∧
      t.mem = s.mem ∧ t.acq = s.acq)) ∧
  (∀ (s u : State),
      s.runs = true →
      (((((s.refMissing.setFlag F.CLK_STAT.REF_ABSENT true).setReg (R.CLK_SYN_FREQ 0) 0x8000).setReg (R.CLK_SYN_FREQ 1) 0x8000).setReg (R.CLK_SYN_FREQ 2) 0x8000).setReg (R.CLK_SYN_FREQ 3) 0x8000).setFlag F.PEER_STAT.SILENT true = u →
      (s.flag F.CLK_STAT.REF_ABSENT = false → exec .refAbsent s = .next (s.keep
        (({ u with clk := { u.clk with refAt := some s.time.elapsed } }.raisePF 76 0).fault 0x0006 0))) ∧
    (s.flag F.CLK_STAT.REF_ABSENT = true → exec .refAbsent s = .next (s.keep s))) ∧
  (∀ (s : State),
      s.runs = true →
      s.clk.refLost = true →
      exec .refReturn s = .next (s.keep ((({ s.refLong with clk := { s.refLong.clk with refLost := false, refAt := none } }.setFlag
        F.CLK_STAT.REF_ABSENT false).setFlag F.PEER_STAT.SILENT false).each (List.range 4)
        (fun t l => t.setLoop l { t.loop l with good := 0, bad := 0 })))) ∧
  (∀ (s : State) (l : Fin 4) (errs : List Int),
      s.runs = true →
      s.flag (F.CLK_SYN_STAT.HOLDOVER l) = true ∧ s.clk.refLost = false →
      exec (.holdoverEnd l errs) s = .next (s.keep ((s.holdoverEnd l errs).lockCheck l 0))) ∧
  (∀ (s t u : State) (l : Fin 4) (errs : List Int),
      s.loopRun l errs = t →
      (t.setLoop l { t.loop l with bad := 0 }).setFlag (F.CLK_SYN_STAT.HOLDOVER l) false = u →
      ((t.loop l).good ≠ 1024 → s.holdoverEnd l errs = t) ∧
    ((t.loop l).good = 1024 → (∃ k, k < 4 ∧ u.flag (F.CLK_SYN_STAT.HOLDOVER k) = true) → s.holdoverEnd l errs = u) ∧
    ((t.loop l).good = 1024 → (∀ k, k < 4 → u.flag (F.CLK_SYN_STAT.HOLDOVER k) = false) → s.holdoverEnd l errs =
      (u.setFlag F.CLK_STAT.HOLDOVER false).raisePF 77 0)) ∧
  (∀ (s : State) (r : RampGen) (c : Nat) (clamped : Bool),
      s.runs = true →
      s.clk.ramp = some r →
      s.passed r.since (s.rampDuration r.seg * 184467440737) = true →
      s.rampAt r.seg r.base (s.rampDuration r.seg) = (c, clamped) →
      (s.rampLast r.seg = true → exec .rampSegmentEnd s = .next (s.keep
        ({ s.showClamp clamped with clk := { s.clk with fcwNow := c, ramp := none } }.raisePF 78 r.seg))) ∧
    (s.rampLast r.seg = false → exec .rampSegmentEnd s = .next (s.keep { s.showClamp clamped with
        clk := { s.clk with fcwNow := c, ramp := some ⟨s.rampNext r.seg, c, r.since + s.rampDuration r.seg * 184467440737⟩ } }))) ∧
  (∀ (s : State),
      s.runs = true →
      s.rampDue = false →
      exec .rampSegmentEnd s = .next (s.keep s) ∧ s.showClamp false = s ∧
    s.showClamp true = s.setFlag (F.CLK_SYN_STAT.SLOPE_CLAMPED 3) true)

/-- A gauge block that ends in the present core cycle with M valid comparisons, away from fall-back checks, writes its
statistics and, outside foreground calibration, its estimate, and is judged; a passing one on an unsuspected slice
only moves the sweep on, on a suspect one it clears the suspicion first; a failing one makes the slice suspect and is
confirmed or declares its fault. A block with 4 M strobes and fewer than M valid comparisons leaves abandoned
statistics and the next slot. A fall-back block passes or fails its slice and moves to the next position. A window
that falls due starts, or waits for another gauge's window or for a lower gauge's that falls due with it, and
elsewhere is skipped; its end fits the gauge, judges the fit and ends the fall-back checks. Whole next states. -/
def Obligations.GaugeChecks : Prop :=
  (∀ (s : State) (g : Fin 4) (l : List Strobe) (p f0 : Nat) (c : List (Int × Int)),
      s.runs = true →
      (s.gauge g).slice = some p ∧ s.blockRuns g l = true →
      s.gaugeComps g p l = c ∧ c.length = (s.gauge g).block.m →
      (s.gauge g).block.last 16 l.length = f0 →
      (s.bankFg (p / 13) = false → exec (.gaugeBlockEnd g l) s = .next (s.keep
        (((s.blockStats p 0 (s.gauge g).block c).gaugeEstimate p f0 (s.gauge g).block c).gaugeVerdict g p f0
          (s.positionIdx (p / 13) (s.visitPos g) (s.gauge g).block.start) (s.gauge g).block c))) ∧
    (s.bankFg (p / 13) = true → exec (.gaugeBlockEnd g l) s = .next (s.keep
        ((s.blockStats p 0 (s.gauge g).block c).gaugeVerdict g p f0
          (s.positionIdx (p / 13) (s.visitPos g) (s.gauge g).block.start) (s.gauge g).block c)))) ∧
  (∀ (s : State) (g : Fin 4) (p f0 first : Nat) (k : Block) (c : List (Int × Int)),
      (blockFails k c = false → s.suspect p = false → s.interps (p / 13) = [] →
      s.gaugeVerdict g p f0 first k c = s.visitDone g (f0 + 1)) ∧
    (blockFails k c = false → s.suspect p = true → (s.clearSuspect p (f0 + 1)).interps (p / 13) = [] →
      s.gaugeVerdict g p f0 first k c = (s.clearSuspect p (f0 + 1)).visitDone g (f0 + 1)) ∧
    (blockFails k c = true → s.suspect p = false → k.confirm = false →
      s.gaugeVerdict g p f0 first k c =
        ((s.makeSuspect p false (exceed k c) first f0).declareFault p f0 false).visitDone g (f0 + 1)) ∧
    (blockFails k c = true → s.suspect p = true → natBit (s.bank (p / 13)).declared (p % 13) = false →
      s.gaugeVerdict g p f0 first k c = (s.declareFault p f0 false).visitDone g (f0 + 1)) ∧
    (blockFails k c = true → s.suspect p = true → natBit (s.bank (p / 13)).declared (p % 13) = true →
      s.gaugeVerdict g p f0 first k c = s.visitDone g (f0 + 1))) ∧
  (∀ (s : State) (g : Fin 4) (p f0 first : Nat) (k : Block) (c : List (Int × Int)) (u : State),
      s.makeSuspect p false (exceed k c) first f0 = u →
      blockFails k c = true ∧ s.suspect p = false ∧ k.confirm = true →
      s.gaugeVerdict g p f0 first k c =
      u.setGauge g { u.gauge g with confirming := true, block := u.blockSettings g (f0 + 1) }) ∧
  (∀ (s : State) (u : Fin 12) (p : Nat) (l : List Strobe),
      s.runs = true →
      u < 4 ∧ (s.gauge u).slice = some p ∧ s.blockRuns u l = true →
      l.length = 4 * (s.gauge u).block.m ∧ (s.gaugeComps u p l).length < (s.gauge u).block.m →
      exec (.gaugeBlockAbandon u l) s =
    .next (s.keep ((s.abandonStats p 0).visitDone u ((s.gauge u).block.last 16 l.length + 1)))) ∧
  (∀ (s : State) (b : Fin 8) (u : Fin 12) (l : List Strobe),
      s.runs = true →
      (u : Nat) = b + 4 ∧ s.fbRuns b l = true →
      l.length = 4 * (s.bank b).fbBlock.m ∧ (s.fbComps b l).length < (s.bank b).fbBlock.m →
      exec (.gaugeBlockAbandon u l) s = .next (s.keep ((s.abandonStats (s.fbSlice b) 1).fbVisit b
      (s.fbNext b (s.bank b).fbPos) ((s.bank b).fbBlock.last 1 l.length + 1)))) ∧
  (∀ (s : State) (b : Fin 8) (l : List Strobe) (c : List (Int × Int)) (p f0 : Nat) (t u : State),
      s.runs = true →
      s.fbRuns b l = true ∧ s.fbSlice b = p ∧ (s.bank b).fbBlock.last 1 l.length = f0 →
      s.fbComps b l = c ∧ c.length = (s.bank b).fbBlock.m →
      s.blockStats p 1 (s.bank b).fbBlock c = t →
      (if blockFails (s.bank b).fbBlock c then t.fbFail b p (exceed (s.bank b).fbBlock c) f0 else t) = u →
      exec (.fallbackBlockEnd b l) s = .next (s.keep (u.fbVisit b (u.fbNext b (s.bank b).fbPos) (f0 + 1)))) ∧
  (∀ (s : State) (b p exc f0 : Nat) (x : Bank) (t : State),
      s.bank b = x →
      s.setBank b { x with fbFailed := putBit x.fbFailed x.fbPos true } = t →
      (t.suspect p = true → s.flag (F.HLTH_STAT.GAUGE_FAIL.bit (b / 2)) = false → s.fbFail b p exc f0 = t) ∧
    (t.suspect p = false → s.flag (F.HLTH_STAT.GAUGE_FAIL.bit (b / 2)) = false → s.fbFail b p exc f0 =
      t.makeSuspect p true exc (s.positionIdx b x.fbPos x.fbBlock.start) f0) ∧
    (t.suspect p = false → s.flag (F.HLTH_STAT.GAUGE_FAIL.bit (b / 2)) = true → s.fbFail b p exc f0 =
      (t.makeSuspect p true exc (s.positionIdx b x.fbPos x.fbBlock.start) f0).fault 0x0102 p)) ∧
  (∀ (s : State) (g : Fin 4),
      s.runs = true →
      (s.windowFalls g = true → s.anyWindow = false → (∀ k, k < (g : Nat) → s.windowFalls k = false) →
      exec (.gaugeWindowStart g) s = .next (s.keep (s.windowBegin g))) ∧
    (s.windowFalls g = true → s.anyWindow = true ∨ (∃ k, k < (g : Nat) ∧ s.windowFalls k = true) →
      exec (.gaugeWindowStart g) s = .next (s.keep (s.setGauge g { s.gauge g with winDue := true }))) ∧
    (s.windowFalls g = false → exec (.gaugeWindowStart g) s = .next (s.keep s))) ∧
  (∀ (s : State) (g : Nat),
      s.windowFalls g = (s.windowPoint g && !(s.frozen) && (match (s.gauge g).winStart with
      | some t => decide (t + 2 ^ 63 ≤ s.time.elapsed)
      | none => true))) ∧
  (∀ (s : State) (g : Fin 4) (ladder : List Int),
      s.runs = true →
      s.flag (windowFld g) = true ∧ (s.gauge g).winEnd ≤ s.time.cycle + 1 →
      exec (.gaugeWindowEnd g ladder) s =
    .next (s.keep ((((s.gaugeFit g ladder).judgeFit g ladder).setFlag (windowFld g) false).fallbackEnd g)))

/-- A dwell that has counted its 2^DWELL frames by the end of the core cycle makes the rotation due unless a pause
holds, and not before. At a frame boundary 64 frames after the last epoch, the decided change that falls due first
opens; with none decided, a rotation that is due exchanges spare and incumbent. RETIRE declares the fault of an
unretired slice at once; READMIT makes a retired slice the spare of a bank that is neither in use nor has one, and is
refused with result 1, 2 or 3 elsewhere. Whole next states; and every new epoch counts EPOCH modulo 256. -/
def Obligations.SliceMaps : Prop :=
  (∀ (s : State) (b : Fin 8) (f : Nat),
      s.runs = true →
      (s.bank b).dwellOver = some f →
      (s.rotPaused b = false → f ≤ s.frameNow true + 1 →
      exec (.dwellEnd b) s = .next (s.keep (s.setBank b { s.bank b with rotDue := some f }))) ∧
    (s.rotPaused b = true ∨ s.frameNow true + 1 < f → exec (.dwellEnd b) s = .next (s.keep s))) ∧
  (∀ (x : Bank) (a : Nat),
      x.dwellFrom = some a →
      x.dwellOver = some (a + (2 ^ x.dwell - x.dwelt))) ∧
  (∀ (s : State) (b : Fin 8) (odd : Bool) (c : Change),
      s.runs = true →
      s.frozen = false →
      (s.bank b).epochAt.all (fun e => Nat.ble (e + 64) (s.frameNow odd)) = true →
      firstDue (s.bank b).changes = some c ∧ c.earliest ≤ s.frameNow odd →
      exec (.epochOpen b odd) s = .next (s.keep (s.openChange b (s.frameNow odd) c))) ∧
  (∀ (s : State) (b : Fin 8) (odd : Bool) (f : Nat),
      s.runs = true →
      s.frozen = false ∧ (s.bank b).changes = [] →
      (s.bank b).epochAt.all (fun e => Nat.ble (e + 64) (s.frameNow odd)) = true →
      (s.bank b).rotDue = some f ∧ f ≤ s.frameNow odd ∧ s.rotPaused b = false ∧ s.suspect (13 * b + s.spare b) = false →
      s.blockOn b (13 * b + s.spare b) (s.frameNow odd) = false ∧ s.blockOn b (13 * b + s.pos b (s.bank b).target) (s.frameNow odd) = false →
      exec (.epochOpen b odd) s = .next (s.keep (s.rotate b (s.frameNow odd)))) ∧
  (∀ (s : State) (b : Fin 8) (frame : Nat),
      (s.newEpoch b frame).fld (F.CNV_MAP_HI.EPOCH b) = (s.fld (F.CNV_MAP_HI.EPOCH b) + 1) % 256 ∧
    s.regsBut (s.newEpoch b frame) [R.CNV_MAP_HI b] ∧ (s.newEpoch b frame).mem = s.mem) ∧
  (∀ (s : State) (p : BitVec 7),
      s.runs = true →
      s.reachable R.CNV_CMD = true →
      p.toNat < 104 ∧ s.retired p.toNat = false →
      exec (.cnvRetire p) s =
    .next (s.keep ((s.forgetCommand.declareFault p.toNat (s.frameNow false) true).cmdResult 0 (p.toNat / 13)))) ∧
  (∀ (s : State) (p : BitVec 7),
      s.runs = true →
      s.reachable R.CNV_CMD = true →
      p.toNat < 104 ∧ s.retired p.toNat = true →
      (s.bankInUse (p.toNat / 13) = false → s.hasSpare (p.toNat / 13) = false →
      exec (.cnvReadmit p) s = .next (s.keep ((s.forgetCommand.readmit p.toNat).cmdResult 0 8))) ∧
    (s.bankInUse (p.toNat / 13) = true → exec (.cnvReadmit p) s = .next (s.keep (s.cmdResult 1 8))) ∧
    (s.bankInUse (p.toNat / 13) = false → s.hasSpare (p.toNat / 13) = true →
      exec (.cnvReadmit p) s = .next (s.keep (s.cmdResult 3 8)))) ∧
  (∀ (s : State) (p : BitVec 7),
      s.runs = true →
      s.reachable R.CNV_CMD = true →
      104 ≤ p.toNat →
      exec (.cnvRetire p) s = .next (s.keep (s.cmdResult 2 8)) ∧ exec (.cnvReadmit p) s = .next (s.keep (s.cmdResult 2 8)))

/-- A TRIM write with no context armed stores the fields of its unit, shows TRIM_CHANGED and restarts convergence
where a field changes, and does nothing where none does; with a context armed it is discarded. Dword 3 of a correction
entry written by the PF takes the staged dwords: ramps of the four fields for the active mode of an unretired slice
while SAMPLE runs, values at once otherwise, and SRC becomes 5; an estimate of the same frame is discarded (R164). The
end of a ramp, 4,096 frames after its target arrived, stops it and shows RAMPING. Whole next states. -/
def Obligations.CorrectionSets : Prop :=
  (∀ (s : State) (u : Fin 112) (v x : Word),
      s.runs = true →
      s.reachable (trimOff u) = true →
      trimMerge u (trimFields u) (s.reg (trimOff u)) v = x →
      (s.anyArmed = false → s.reg (trimOff u) ≠ x → exec (.calTrimWrite u v) s =
        .next (s.keep (((s.setReg (trimOff u) x).showTrim).convergenceStart s.nextFrame))) ∧
    (s.anyArmed = true ∨ s.reg (trimOff u) = x → exec (.calTrimWrite u v) s = .next (s.keep s))) ∧
  (∀ (s : State) (frame : Nat),
      (s.convergenceStart frame).regs = (s.setFlag F.INP_MODE_STAT.CAL_SETTLED false).regs ∧
    (s.convergenceStart frame).cal.gaugeEsts = [] ∧ (s.convergenceStart frame).cal.nbEnds = []) ∧
  (∀ (s : State) (m : Fin 3) (p : Fin 104),
      s.runs = true →
      s.reachable (R.CORR_3 m p) = true →
      (s.corrRamps m p = true → exec (.corrSetWrite 0 m p) s = .next (s.keep (((s.corrStaged 0 m p).foldl
        (fun t e => t.rampTo p e.1 (s.writeFrame p) e.2) ((s.unstage 0 (R.CORR_0 m p) 3).hostFrame p (s.writeFrame p))).setFld
          (F.CORR_3.SRC m p) 5))) ∧
    (s.corrRamps m p = false → exec (.corrSetWrite 0 m p) s = .next (s.keep (((s.corrStaged 0 m p).foldl
        (fun t e => t.setCorr m p e.1 e.2) (s.unstage 0 (R.CORR_0 m p) 3)).setFld (F.CORR_3.SRC m p) 5)))) ∧
  (∀ (s : State) (f : Fin 9) (m : Fin 3) (p : Fin 104),
      s.runs = true →
      f ≠ 0 →
      exec (.corrSetWrite f m p) s = .next (s.keep s)) ∧
  (∀ (s : State) (p : Fin 104) (f : Fin 4),
      s.runs = true →
      exec (.corrRampEnd p f) s = .next (s.keep ({ s with cal := { s.cal with
      ramps := stopRamps (fun r => r.isOf s.inp.route p f && Nat.ble (r.start + 4096) (s.frameNow true)) s.cal.ramps } }.showRamping p)))

/-- The end of a neighbour interval of a sampled input that is not being calibrated sums its corrected outputs but
those left out, and forms the SKEW targets of the input, or counts as starved, and the 64th starved one in a row
raises E114; either way the interval counts and the next begins with the settings then in force. The end of a shadow
interval in which the estimator has run forms a SKEW target, and a BW target where the signal suffices, or counts as
starved. Convergence reached sets CAL_SETTLED once with E113. A CAL_FOREGROUND that starts is refused with
BAD_DESCRIPTOR or BUSY, or else connects the injectors of its inputs and shows FG_ACTIVE; its trim search ends with
the selected trims set and counted; its release writes the ladder results, releases the inputs, completes OK with
inputs, changes and time, and raises E112. Whole next states. -/
def Obligations.CalibrationRuns : Prop :=
  (∀ (s u : State) (n : Fin 4) (words : List (BitVec 16)) (m : NbStats),
      s.runs = true →
      s.frozen = false ∧ sampledIn s.inp.route n = true ∧ natBit (s.fld F.CAL_STAT.FG_ACTIVE) n = false →
      s.inCycle (s.nbLast n) = true ∧ s.nbStats n words = m →
      (if nbStarved m then s.nbStarve n else { s.nbTargets n (s.nbLast n) m with cal := { (s.nbTargets n (s.nbLast n) m).cal with starved := SMap.set zero (s.nbTargets n (s.nbLast n) m).cal.starved n 0 } }) = u →
      exec (.neighbourIntervalEnd n words) s = .next (s.keep (({ u with cal := { u.cal with
      nbEnds := SMap.set zero u.cal.nbEnds n (SMap.get zero u.cal.nbEnds n + 1) } }).nbBegin n (s.nbLast n + 1)))) ∧
  (∀ (s : State) (n : Fin 4) (words : List (BitVec 16)),
      s.runs = true →
      s.frozen = true ∨ sampledIn s.inp.route n = false ∨ natBit (s.fld F.CAL_STAT.FG_ACTIVE) n = true ∨ s.inCycle (s.nbLast n) = false →
      exec (.neighbourIntervalEnd n words) s = .next (s.keep s)) ∧
  (∀ (s : State) (n : Fin 4),
      (SMap.get zero s.cal.starved n = 63 → (s.nbStarve n).seen 114 = true) ∧
    (s.nbStarve n).reg (R.CAL_STARVED n) = s.reg (R.CAL_STARVED n) + 1 ∧
    s.regsBut (s.nbStarve n) (R.CAL_STARVED n :: evtRegs 114)) ∧
  (∀ (s : State) (b : Fin 8) (l : List ShStrobe),
      s.runs = true →
      s.frozen = false ∧ s.inCycle (s.shLast b) = true →
      (s.hasSpare b = true → s.shadowIn b (s.shFirst b) (s.shLast b) = true → exec (.shadowIntervalEnd b l) s =
        .next (s.keep ((s.shEstimate b (s.shLast b) (s.shStats b l)).shBegin b (s.shLast b + 1)))) ∧
    (s.hasSpare b = false ∨ s.shadowIn b (s.shFirst b) (s.shLast b) = false → exec (.shadowIntervalEnd b l) s =
        .next (s.keep (s.shBegin b (s.shLast b + 1))))) ∧
  (∀ (s : State) (b f p : Nat) (m : ShStats) (skew bw : Int),
      13 * b + s.spare b = p →
      s.corrApplied s.inp.route p 2 f + roundRat (m.dz1 / m.z1z1 * s.samplePeriod * 16) = skew →
      s.corrApplied s.inp.route p 3 f - roundRat (m.dz2 / m.z2z2 * (s.samplePeriod * s.samplePeriod) / 4) = bw →
      (m.z1z1 ≤ 0 → s.shEstimate b f m = s.bump (R.CAL_BANK_SHSTARVED b)) ∧
    (¬ m.z1z1 ≤ 0 → m.z2z2 < 256 * m.n → s.shEstimate b f m = s.applyEstimate p f 4 [(2, skew)]) ∧
    (¬ m.z1z1 ≤ 0 → ¬ m.z2z2 < 256 * m.n → s.shEstimate b f m = s.applyEstimate p f 4 [(2, skew), (3, bw)])) ∧
  (∀ (s : State),
      s.runs = true →
      (s.converged = true → s.flag F.INP_MODE_STAT.CAL_SETTLED = false → exec .calSettled s = .next (s.keep
        ((s.setFlag F.INP_MODE_STAT.CAL_SETTLED true).raisePF 113 (s.fld F.INP_MODE_STAT.ACTIVE_MODE)))) ∧
    (s.converged = false ∨ s.flag F.INP_MODE_STAT.CAL_SETTLED = true → exec .calSettled s = .next (s.keep s))) ∧
  (∀ (s u : State) (r : Fin 64) (d : Desc),
      s.starts r 0x61 d = true →
      s.begin r d = u →
      (u.fgValid d.begun = true → u.fgBusy (d.begun.f 2 0 4) = false → exec (.calForeground r) s = .next (s.keep
        ((({ u with cal := { u.cal with fg := u.cal.fg ++ [FgRun.mk d.seq d.ring (d.begun.f 2 0 4) (d.begun.f 2 8 1 == 1) 0] }
          }.maskFld F.CAL_STAT.FG_ACTIVE (d.begun.f 2 0 4) true).inject (d.begun.f 2 0 4) true).showBanks))) ∧
    (u.fgValid d.begun = false → exec (.calForeground r) s = .next (s.keep (u.finish d.begun .badDescriptor []))) ∧
    (u.fgValid d.begun = true → u.fgBusy (d.begun.f 2 0 4) = true →
      exec (.calForeground r) s = .next (s.keep (u.finish d.begun .busy [])))) ∧
  (∀ (s u : State) (r : Fin 64) (x : FgRun) (trims : List (Nat × Word)),
      s.runs = true →
      s.fgOf r = some x ∧ x.search = true →
      trims.foldl (fun t e => t.searchSet x.inputs e) s = u →
      exec (.fgTrimSearchDone r trims) s = .next (s.keep { u with cal := { u.cal with fg := u.cal.fg.map (fun y =>
      if y.seq = x.seq then { y with
        search := false
        changed := ((List.range 112).map (fun i => trimDiff i (s.reg (trimOff i)) (u.reg (trimOff i)))).foldl (· + ·) 0 }
      else y) } })) ∧
  (∀ (s u : State) (r : Fin 64) (x : FgRun) (ladders : List Ladder),
      s.runs = true →
      s.fgOf r = some x ∧ x.search = false →
      (ladders.foldl (fun t l => t.ladderSet x.inputs l) s).fgOver x = u →
      exec (.fgRelease r ladders) s = .next (s.keep ((u.fgFinish x .ok
      (BitVec.ofNat 32 x.inputs :: BitVec.ofNat 32 x.changed :: eventTime u.now)).raisePF 112
      (x.inputs + 2 ^ 8 * satNat 255 x.changed))))

/-- A coefficient write to a bank that is not live stores 18 bits; to a live bank it is discarded with WR_DISCARD and
E117. A swap request acts as Table 7.3 states, after a fade that ends in its frame has ended, and waits while SAMPLE
is stopped or a mode change runs; a write without REQ does nothing. At the next frame boundary the request acts: a
fade starts with the law and length in force there and the coefficients of the bank that was active. The end of a fade
makes its target active with E115; the queued request acts at a boundary with no fade. A delay write with its input
neither captured by an armed context nor observed by a detector in use acts from the first frame at the tap point
after it and leaves earlier words as they are (a joined module tells its partner D_T); otherwise it is discarded with
DELAY_DISCARD. A path write is refused with its bit of DEC_STAT while the path feeds an armed context's decimated
stream; otherwise its setting, and a restart where it changes, take effect at the next index that is on the old and on
the new grid. Whole next states. -/
def Obligations.EqualiserAndPaths : Prop :=
  (∀ (s u : State) (n : Fin 4) (k : Fin 2) (t : Fin 128) (v : Word),
      s.runs = true →
      s.reachable (R.EQ_COEFF (2 * n.val + k.val) t) = true →
      s.settleFade n = u →
      (u.bankLive n k = false → exec (.eqCoeffWrite n k t v) s = .next (s.keep (u.setFld (coeffFld n k t) (getBits v 0 18)))) ∧
    (u.bankLive n k = true → exec (.eqCoeffWrite n k t v) s = .next (s.keep
        ((u.setFlag (F.EQ_STAT.WR_DISCARD n) true).raisePF 117 (n + 16 * k))))) ∧
  (∀ (s u : State) (n : Fin 4) (v : Word) (k : Nat),
      s.runs = true →
      s.reachable (R.EQ_SWAP n) = true →
      getBits v 31 1 = 1 ∧ getBits v 0 1 = k →
      s.settleFade n = u →
      (u.flag (F.EQ_STAT.FADING n) = true → u.fld (F.EQ_STAT.FADE_TARGET n) = k →
        exec (.eqSwap n v) s = .next (s.keep (u.eqQueue n none))) ∧
    (u.flag (F.EQ_STAT.FADING n) = true → u.fld (F.EQ_STAT.FADE_TARGET n) ≠ k →
        exec (.eqSwap n v) s = .next (s.keep (u.eqQueue n (some k)))) ∧
    (u.flag (F.EQ_STAT.FADING n) = false → u.fld (F.EQ_STAT.ACTIVE n) = k → u.eqWaits = false →
        exec (.eqSwap n v) s = .next (s.keep u)) ∧
    (u.flag (F.EQ_STAT.FADING n) = false → u.fld (F.EQ_STAT.ACTIVE n) = k → u.eqWaits = true →
        exec (.eqSwap n v) s = .next (s.keep (u.eqQueue n none))) ∧
    (u.flag (F.EQ_STAT.FADING n) = false → u.fld (F.EQ_STAT.ACTIVE n) ≠ k → u.eqWaits = true →
        exec (.eqSwap n v) s = .next (s.keep (u.eqQueue n (some k)))) ∧
    (u.flag (F.EQ_STAT.FADING n) = false → u.fld (F.EQ_STAT.ACTIVE n) ≠ k → u.eqWaits = false →
        exec (.eqSwap n v) s = .next (s.keep (u.setDue n true)))) ∧
  (∀ (s : State) (n : Fin 4) (v : Word),
      s.runs = true →
      getBits v 31 1 = 0 →
      exec (.eqSwap n v) s = .next (s.keep s)) ∧
  (∀ (s : State) (n : Fin 4),
      (s.eqWaits = true ∨ s.flag (F.EQ_STAT.FADING n) = true → s.eqBegin n = s) ∧
    (∀ k, s.eqWaits = false → s.flag (F.EQ_STAT.FADING n) = false → s.eqAsked n = some k → k ≠ s.fld (F.EQ_STAT.ACTIVE n) →
      s.eqBegin n = ((s.setDue n false).eqQueue n none).fadeStart n) ∧
    (s.eqWaits = false → s.flag (F.EQ_STAT.FADING n) = false → s.eqAsked n = some (s.fld (F.EQ_STAT.ACTIVE n)) →
      s.eqBegin n = (s.setDue n false).eqQueue n none) ∧
    (s.eqAsked n = none → s.eqBegin n = s)) ∧
  (∀ (s : State) (n : Fin 4),
      ((s.fadeStart n).fades n).head? = some ⟨s.frameNow false,
        fadeLength (s.fld (F.EQ_CTL.FADE_LAW n)) (s.fld (F.EQ_CTL.FADE_EXP n)), s.fld (F.EQ_CTL.FADE_LAW n),
        (List.range 128).map (fun t => s.sfld (coeffFld n (s.fld (F.EQ_STAT.ACTIVE n)) t)), none⟩ ∧
    ((s.fadeStart n).fades n).tail = s.fades n ∧
    (s.fadeStart n).flag (F.EQ_STAT.FADING n) = true ∧
    (s.fadeStart n).reg64 (R.EQ_FADE_IDX_LO n) = s.time.idx % 2 ^ 64 ∧
    s.regsBut (s.fadeStart n) [R.EQ_STAT n, R.EQ_FADE_IDX_LO n, R.EQ_FADE_IDX_LO n + 4]) ∧
  (∀ (s : State) (n : Fin 4),
      s.runs = true →
      exec (.eqFadeEnd n) s = .next (s.keep (s.settleFade n)) ∧
    (s.fadeDue n = true → s.flag (F.EQ_STAT.FADING n) = true →
      s.settleFade n = ((s.setFld (F.EQ_STAT.ACTIVE n) (s.fld (F.EQ_STAT.FADE_TARGET n))).setFlag (F.EQ_STAT.FADING n) false).raisePF
        115 (n + 16 * s.fld (F.EQ_STAT.FADE_TARGET n))) ∧
    (s.fadeDue n = false ∨ s.flag (F.EQ_STAT.FADING n) = false → s.settleFade n = s)) ∧
  (∀ (s u : State) (n : Fin 4) (v : Word),
      s.runs = true →
      s.reachable (R.EQ_DELAY n) = true →
      ((s.setDelay n (getBits v 0 13) (getBits v 16 8)).markLate n).recomputeDT.showDets = u →
      (s.captured n = false → s.usedDets.any (fun k => (s.applied k).uses n) = false → exec (.eqDelayWrite n v) s =
        .next (s.keep (if u.joined then u.tell (.config (.delay u.ownDT)) else u))) ∧
    (s.captured n = true ∨ s.usedDets.any (fun k => (s.applied k).uses n) = true → exec (.eqDelayWrite n v) s =
        .next (s.keep (s.setFlag (F.EQ_STAT.DELAY_DISCARD n) true)))) ∧
  (∀ (s : State) (n : Fin 4) (x y i : Nat),
      x < 8192 ∧ y < 256 →
      (s.tapNext n ≤ i → (s.setDelay n x y).delayOf n i = (x, y)) ∧
    (i < s.tapNext n → (s.setDelay n x y).delayOf n i = s.delayOf n i)) ∧
  (∀ (s : State) (reg : Fin 20) (v : Word),
      s.runs = true →
      s.reachable (pathOff reg) = true →
      (s.pathHeld reg = true → exec (.decPathWrite reg v) s = .next (s.keep (s.setFlag
        (if 16 ≤ (reg : Nat) then ⟨R.DEC_STAT, 4 + ((reg : Nat) - 16) / 2, 1⟩ else ⟨R.DEC_STAT, (reg : Nat) / 4, 1⟩) true))) ∧
    (s.pathHeld reg = false → s.regPath reg = none → exec (.decPathWrite reg v) s = .next (s.keep (s.plainWrite (pathOff reg) v))) ∧
    (∀ k n, s.pathHeld reg = false → s.regPath reg = some (k, n) →
        exec (.decPathWrite reg v) s = .next (s.keep (s.pathSet k n (pathOff reg) v)))) ∧
  (∀ (s u : State) (k : PathKind) (n off i j : Nat) (v : Word) (old new : PathSet),
      s.tapNext (s.pathInput k n s.time.idx) = i ∧ s.pathAt k n (i - 1) = old →
      (s.dropWaiting k n i).plainWrite off v = u ∧ u.pathRegs k n = new →
      gridFrom s.p0 (2 ^ max (old.exp k) (new.exp k)) i = j →
      s.pathSet k n off v = (
      let t := { u with dec := { u.dec with paths := SMap.set (fun _ => []) u.dec.paths (k.no n) (⟨j, old⟩ :: u.pathSteps (k.no n)) } }
      if old.key k == new.key k then t else t.restart true j k n)) ∧
  (∀ (s : State) (k : PathKind) (n i : Nat) (w : Bool),
      (s.invalidOf k n i = 0 ∨ s.pathRuns k n i = false → s.restart w i k n = s) ∧
    (s.invalidOf k n i ≠ 0 → s.pathRuns k n i = true →
      ((s.restart w i k n).restarts (k.no n)).head? =
        some (restartAt s.p0 i (2 ^ ((s.pathAt k n i).exp k + s.pathStep k n)) (s.invalidOf k n i) w)) ∧
    s.regsBut (s.restart w i k n) [R.DEC_INVALID (s.pathInput k n i)]) ∧
  (∀ (p0 i r count : Nat) (w : Bool),
      0 < r ∧ 0 < count →
      early (some (restartAt p0 i r count w)) (gridFrom p0 r i + (count - 1) * r) = true ∧
    early (some (restartAt p0 i r count w)) (gridFrom p0 r i + count * r) = false)

/-- When a sum of input n saturates, CLIP is set and EQ_CLIP_COUNTn counts once; E118 with qualifier n is raised where
CLIP was clear, and is not raised again while CLIP stands. The tallies of lines are left alone: no other register but
those of E118 changes, nor any block beside the event unit. -/
def Obligations.SaturatedSum : Prop :=
  (∀ (s : State) (n : Fin 4),
      s.runs = true →
      (sampledIn s.inp.route n = true → s.flag (F.EQ_STAT.CLIP n) = false → exec (.eqClip n) s = .next (s.keep
        (((s.bump (R.EQ_CLIP_COUNT n)).setFlag (F.EQ_STAT.CLIP n) true).raisePF 118 n))) ∧
    (sampledIn s.inp.route n = true → s.flag (F.EQ_STAT.CLIP n) = true →
      exec (.eqClip n) s = .next (s.keep (s.bump (R.EQ_CLIP_COUNT n)))) ∧
    (sampledIn s.inp.route n = false → exec (.eqClip n) s = .next (s.keep s))) ∧
  (∀ (s : State) (n : Fin 4),
      sampledIn s.inp.route n = true →
      (s.eqClip n).flag (F.EQ_STAT.CLIP n) = true ∧
    (s.eqClip n).reg (R.EQ_CLIP_COUNT n) = s.reg (R.EQ_CLIP_COUNT n) + 1 ∧
    s.regsBut (s.eqClip n) (R.EQ_STAT n :: R.EQ_CLIP_COUNT n :: evtRegs 118) ∧
    (s.eqClip n).cnv = s.cnv ∧ (s.eqClip n).mem = s.mem ∧ (s.eqClip n).acq = s.acq)

/-- The sample drop keeps the first word of its period; the rake's minimum is the floor and its maximum the ceiling of
the extremes at 12 bits, so that the pair encloses every valid word; a block output with an invalid word is -32768 and
the mean otherwise; and indices of a grid are the ones congruent to P0, the first one from i on lying less than R
away. -/
def Obligations.DecimatedOutputs : Prop :=
  (∀ (p0 r i : Nat),
      0 < r →
      i ≤ gridFrom p0 r i ∧ gridFrom p0 r i < i + r ∧ ((gridFrom p0 r i : Int) - (p0 : Int)) % (r : Int) = 0) ∧
  (∀ (s : State) (n e lab : Nat) (x : Int) (l : List Int),
      s.decOutput .drop n e lab (x :: l) = pattern 16 x) ∧
  (∀ (l : List Int) (x : Int),
      x ∈ l →
      -32768 < x ∧ x < 32768 →
      (∀ y ∈ l, -32768 ≤ y ∧ y < 32768) →
      16 * signed 12 (rakePair l) ≤ max x (-32752) ∧ min x 32752 ≤ 16 * signed 12 (rakePair l / 2 ^ 12)) ∧
  (∀ (s : State) (k : PathKind) (n e lab : Nat) (l : List Int),
      k = .cic ∨ k = .ma0 ∨ k = .ma1 →
      ((s.pathAt k n lab).block k = true → s.decOutput k n e lab l = pattern 16 (if anyInvalid l then -32768 else meanWords l)) ∧
    ((s.pathAt k n lab).block k = false → early (runOf (s.restarts (k.no n)) lab) lab = true → s.decOutput k n e lab l = pattern 16 (-32768)) ∧
    (k = .cic → (s.pathAt k n lab).block k = false → s.restarts (k.no n) = [] → anyInvalid l = false →
      s.decOutput k n e lab l = pattern 16 (cicOutput (s.pathAt k n lab).order e l)))

/-- A comparator of level v and hysteresis h ignores an invalid word but loses both readinesses; the first word after
a restart sets q without a crossing; after that it reports a rising crossing exactly where it was ready and the word
is at v or above, and a falling one exactly where it was ready and the word is at v or below, and a crossing uses up
its readiness; a word outside v - h to v + h makes it ready. -/
def Obligations.ComparatorRule : Prop :=
  ∀ (v h x : Int) (c : Cmp),
    0 ≤ h →
    (x = -32768 → cmpStep v h c x = ({ c with rise := false, fall := false }, [])) ∧
    (x ≠ -32768 → c.restart = true → cmpStep v h c x = (⟨decide (v ≤ x), decide (x < v - h), decide (v + h < x), false⟩, [])) ∧
    (x ≠ -32768 → c.restart = false →
      (true ∈ (cmpStep v h c x).2 ↔ c.rise = true ∧ v ≤ x) ∧ (false ∈ (cmpStep v h c x).2 ↔ c.fall = true ∧ x ≤ v) ∧
      ((cmpStep v h c x).1.rise = true ↔ x < v - h ∨ (c.rise = true ∧ x < v)) ∧
      ((cmpStep v h c x).1.fall = true ↔ v + h < x ∨ (c.fall = true ∧ v < x)) ∧
      (cmpStep v h c x).1.restart = false)

/-- While SAMPLE runs the words of a core cycle are processed index by index after old firings are dropped, each index
with the words that every consumer receives; with it stopped nothing happens. An APPLY on a follower is discarded, as
is one that changes a fixed field of a detector in use (E130); any other takes the staged words, which act and restart
the detector from the index shown on, tells a remote detector to the follower, and raises E128 where an enabled
configuration is invalid. A write to TRG_PTHn restarts that comparator alone. A sequencer register is written only
while its context is not armed (else WR_DISCARD and E136). Whole next states. -/
def Obligations.DetectorWords : Prop :=
  (∀ (s : State) (first : BitVec 64) (obs : List (List (BitVec 16))),
      s.runs = true →
      (s.frozen = false → exec (.detectorFiring first obs) s = .next (s.keep
        (((s.purgeFires first.toNat).detectAll first.toNat obs).showDets))) ∧
    (s.frozen = true → exec (.detectorFiring first obs) s = .next (s.keep s))) ∧
  (∀ (s u v : State) (k : Fin 16) (d : DetSt),
      s.runs = true →
      s.reachable (R.TRG_TD_APPLY k) = true ∧ s.isFollower = false →
      s.detUsed k = false ∨ cfgFixed (dwAt (s.detStaged k) 0) = cfgFixed ((s.applied k).w 0) →
      { cfg := s.detStaged k, fifth := Nat.ble 4 ((List.range 16).filter (fun j => j != k.val && (s.applied j).en && (s.applied j).remote)).length } = d →
      ((s.detFrom k (s.applyIdx d) d).setReg64 (R.TRG_TD_APPLY_IDX_LO k) (s.applyIdx d)).showDets = u →
      (if u.isLeader && d.remote && u.detReason k == 0 then u.tell (.config (.detector k (s.detStaged k))) else u) = v →
      exec (.trgApply k) s = .next (s.keep (if d.en && u.detReason k != 0 then v.raisePF 128 (k + 16 * u.detReason k) else v))) ∧
  (∀ (s : State) (k : Fin 16),
      s.runs = true →
      s.reachable (R.TRG_TD_APPLY k) = true →
      (s.isFollower = true → exec (.trgApply k) s = .next (s.keep (s.setFlag (F.TRG_TD_STAT.APPLY_DISCARD k) true))) ∧
    (s.isFollower = false → s.detUsed k = true → cfgFixed (dwAt (s.detStaged k) 0) ≠ cfgFixed ((s.applied k).w 0) →
      exec (.trgApply k) s = .next (s.keep ((s.setFlag (F.TRG_TD_STAT.APPLY_DISCARD k) true).raisePF 130 k)))) ∧
  (∀ (s : State) (n : Fin 4) (v : Word) (u : State),
      s.runs = true →
      s.reachable (R.TRG_PTH n) = true →
      s.setReg (R.TRG_PTH n) v = u →
      exec (.trgPthWrite n v) s = .next (s.keep { u with trg := { s.trg with pth := SMap.set (fun _ => {}) s.trg.pth n {} } })) ∧
  (∀ (s : State) (n : Fin 4) (r : Fin 23) (v : Word),
      s.runs = true →
      s.reachable (seqReg n r) = true →
      (s.armed n = false → exec (.trgSeqRegWrite n r v) s = .next (s.keep ((s.plainWrite (seqReg n r) v).showDets))) ∧
    (s.armed n = true → exec (.trgSeqRegWrite n r v) s = .next (s.keep
        ((s.setFlag (F.TRG_AC_STAT.WR_DISCARD n) true).raisePF 136 n))))

/-- A sequencer decides an index only in an armed context with triggers enabled, until the context disarms, in
ascending order, and where the module decides it: on no follower, and about a handover on the side of its index. At an
index it decides it runs Table 9.1 on the firings of that index, counts timeouts and resets, completes or shows the
stages to the reactive lines, and shows HOLDING and STAGE; elsewhere nothing changes. A completion in the last
segment's dead time, with a full index queue or with no segment left is OVERLAP, one within a holdoff is HELD, and any
other is ACCEPTED; each counts once. Whole next states. -/
def Obligations.SequencerDecisions : Prop :=
  (∀ (s : State) (n : Fin 4) (j : BitVec 64) (r : SeqStep) (u : State),
      s.runs = true →
      s.armed n = true ∧ (s.ctx n).trigEn = true ∧ s.decides j.toNat = true →
      (s.ctx n).seqNext ≤ j.toNat →
      s.seqRun n j.toNat (bitsOf ((s.trg.fires.filter (fun f => f.idx == j.toNat)).map (·.det))) 8 (s.ctx n) 0 = r →
      ((s.setCtx n { r.ctx with seqNext := j.toNat + 1 }).bumpBy (R.TRG_AC_TIMEOUTS n) r.timeouts).bumpBy (R.TRG_AC_RESETS n) r.resets = u →
      (r.comp = none → exec (.sequencerDecision n j) s =
        .next (s.keep ((u.reactAll n j.toNat r.stages false false).showSeq n j.toNat))) ∧
    (∀ m, r.comp = some m → exec (.sequencerDecision n j) s =
        .next (s.keep ((u.complete2 (u.completionOf n j.toNat m) r.stages).showSeq n j.toNat)))) ∧
  (∀ (s : State) (n : Fin 4) (j : BitVec 64),
      s.runs = true →
      s.armed n = false ∨ (s.ctx n).trigEn = false ∨ s.decides j.toNat = false ∨ j.toNat < (s.ctx n).seqNext →
      exec (.sequencerDecision n j) s = .next (s.keep s)) ∧
  (∀ (s : State) (n t : Nat),
      (s.kindOf n t = .overlap ↔ (s.ctx n).streaming = false ∧ (s.inDead n t = true ∨ s.deadExtended n = true ∨ s.noMoreSegs n = true)) ∧
    (s.kindOf n t = .accepted ↔ ((s.ctx n).streaming = true ∨ (s.inDead n t = false ∧ s.deadExtended n = false ∧ s.noMoreSegs n = false)) ∧
      s.timeHeld n t = false ∧ s.eventHeld n t = false))

/-- A kept edge of a digital line gets its label, is stamped when rising, and is passed to the outputs that name the
line; a second edge of one kind in a core cycle is lost (E129). A pulse whose instant has come begins, with the level
that INV gives it, is merged into one before it that has not ended 2 ns earlier, or falls away while SAMPLE is stopped
or its output is inactive; an active pulse whose WIDTH has passed ends. The oldest event of a reactive line whose
instant has come reaches both players. Before its instant neither does anything. Whole next states. -/
def Obligations.OutputPulses : Prop :=
  (∀ (s u : State) (l : Fin 13) (rising : Bool) (ago t : Nat),
      s.runs = true →
      s.lineEdge l rising ago = (u, true) →
      (((s.now : Int) + fsTime (-((ago * 8000 : Nat) : Rat))) % (2 ^ 80 : Nat)).toNat = t →
      (rising = false → exec (.triggerLineEdge l rising ago) s = .next (s.keep
        (u.each ((List.range 13).filter (fun o => Nat.ble 4 o && u.passes o l)) (fun w o => w.passEdge o rising t)))) ∧
    (rising = true → exec (.triggerLineEdge l rising ago) s = .next (s.keep
        ((u.setTime (R.PEER_STAMP_0 l) t).each ((List.range 13).filter (fun o => Nat.ble 4 o &&
          (u.setTime (R.PEER_STAMP_0 l) t).passes o l)) (fun w o => w.passEdge o rising t))))) ∧
  (∀ (s u : State) (l : Fin 13) (rising : Bool) (ago : Nat),
      s.runs = true →
      s.lineEdge l rising ago = (u, false) →
      exec (.triggerLineEdge l rising ago) s = .next (s.keep u) ∧
    (u = s ∨ u = (s.bump R.TRG_XLOST).raiseOnce (F.TRG_XSTAT.LOST.bit l) 129 l routePF)) ∧
  (∀ (s u : State) (l : Fin 13) (p : Pulse),
      s.runs = true →
      s.trg.pulses.find? (fun p => p.line == l.val && p.phase == .due && s.passed p.ripe 0) = some p →
      { s with trg := { s.trg with pulses := s.trg.pulses.erase p } } = u →
      (s.frozen = true ∨ (4 ≤ l.val ∧ s.outDriven l = false) → exec (.triggerOutputPulse l) s = .next (s.keep u)) ∧
    (s.frozen = false → (l.val < 4 ∨ s.outDriven l = true) → u.trg.pulses.any (fun q => q.line == l.val && q.phase != .due && Nat.blt p.start (q.stop + nsTime 2)) = true →
      exec (.triggerOutputPulse l) s = .next (s.keep (u.pulseMerged l))) ∧
    (s.frozen = false → (l.val < 4 ∨ s.outDriven l = true) → u.trg.pulses.any (fun q => q.line == l.val && q.phase != .due && Nat.blt p.start (q.stop + nsTime 2)) = false →
      exec (.triggerOutputPulse l) s = .next (s.keep { u with trg := { u.trg with pulses := u.trg.pulses.filter (fun q => q.line != l.val || q.phase == .due) ++ [Pulse.mk l p.start (p.start + nsTime (s.outWidth l)) .active (!(s.outInv l)) p.ripe] } }))) ∧
  (∀ (s : State) (l : Fin 13),
      s.runs = true →
      s.trg.pulses.find? (fun p => p.line == l.val && p.phase == .due && s.passed p.ripe 0) = none →
      exec (.triggerOutputPulse l) s = .next (s.keep s)) ∧
  (∀ (s : State) (l : Fin 13),
      s.runs = true →
      exec (.triggerPulseEnd l) s = .next (s.keep { s with trg := { s.trg with
      pulses := s.trg.pulses.map (fun p =>
        if p.line == l.val && p.phase == .active && s.passed p.ripe ((p.stop - p.start) * 2 ^ 24) then { p with phase := .ended } else p) } })) ∧
  (∀ (s : State) (l : Fin 4) (p : BitVec 64) (x : Reactive),
      s.runs = true →
      s.trg.reacts.find? (fun x => x.line == l.val && s.passed x.ripe 0) = some x →
      exec (.reactiveEventPresent l p) s = .next (s.keep
      (({ s with trg := { s.trg with reacts := s.trg.reacts.erase x } }.stimReact l p.toNat).patReact l))) ∧
  (∀ (s : State) (l : Fin 4) (p : BitVec 64),
      s.runs = true →
      s.trg.reacts.find? (fun x => x.line == l.val && s.passed x.ripe 0) = none →
      exec (.reactiveEventPresent l p) s = .next (s.keep s))

/-- A TRIG_SKEWCAL that starts is refused with BAD_DESCRIPTOR (context, reserved bits, no input, an input not sampled,
a VF's ring) or BUSY, or connects the injectors of its inputs. Its end releases them, completes OK with the four
means, the rms values and the steps, and raises E133 with the inputs; the value of a step is the instant of its
crossing of code 0 under the hysteresis of R256 plus TRG_LAUNCH_DLYn. Whole next states. -/
def Obligations.SkewCalibration : Prop :=
  (∀ (s u : State) (r : Fin 64) (d : Desc) (bad : Bool),
      s.starts r 0x62 d = true →
      s.begin r d = u →
      (d.begun.context != 15 || !(d.begun.reservedClear 2 [(2, 0xF), (3, 0xFFFF)]) || d.begun.f 2 0 4 == 0 || !((inputsOf (d.begun.f 2 0 4)).all (sampledIn u.inp.route)) || u.ringOwner d.begun.ring != 0) = bad →
      (bad = true → exec (.trigSkewcal r) s = .next (s.keep (u.finish d.begun .badDescriptor []))) ∧
    (bad = false → u.fgBusy (d.begun.f 2 0 4) = true → exec (.trigSkewcal r) s = .next (s.keep (u.finish d.begun .busy []))) ∧
    (bad = false → u.fgBusy (d.begun.f 2 0 4) = false → exec (.trigSkewcal r) s = .next (s.keep (({ u with trg := { u.trg with skew := u.trg.skew ++ [SkewRun.mk d.seq d.ring (d.begun.f 2 0 4) (max 1 (d.begun.f 3 0 16))] } }).inject (d.begun.f 2 0 4) true)))) ∧
  (∀ (s t u : State) (r : Fin 64) (x : SkewRun) (steps : List (List SkewStep)) (vals : List (List Rat)),
      s.runs = true →
      s.trg.skew.find? (fun x => x.ring == r.val) = some x →
      s.skewAll x.inputs x.steps steps = (vals, t) →
      ({ t with trg := { t.trg with skew := t.trg.skew.filter (fun y => y.seq != x.seq) } }).inject x.inputs false = u →
      exec (.skewcalDone r steps) s = .next (s.keep ((u.finishSeq x.seq .ok (vals.map (fun l => BitVec.ofNat 32 (pattern 32 (skewMean l))) ++
      [BitVec.ofNat 32 ((List.range 4).foldl (fun a n => a + rmsOf (vals.getD n []) * 2 ^ (8 * n)) 0), BitVec.ofNat 32 x.steps])).raisePF 133 x.inputs))) ∧
  (∀ (s : State) (r : Fin 64) (steps : List (List SkewStep)),
      s.runs = true →
      s.trg.skew.find? (fun x => x.ring == r.val) = none →
      exec (.skewcalDone r steps) s = .next (s.keep s)) ∧
  (∀ (s : State) (n j : Nat) (words : List Int) (xp x : Int),
      upCrossing s.skewHyst 0 0 false words = some (j, xp, x) →
      s.skewValue n words = some (((1024 * (crossTrigger j 0 xp x).1 + (crossTrigger j 0 xp x).2 : Nat) : Rat) +
      (s.sfld (F.TRG_LAUNCH_DLY.V n) : Int) * 1000 / 16 * 1024 / s.samplePeriod))

/-- The oldest entry of the FIFO that may be written leaves it: a sluice record waits until the completions before it
are decided, a streaming entry while its partition has no free entry, and an entry behind a waiting one of its context
waits too. A non-streaming log without LOG_WRAP whose partition is full discards it and counts it as lost. Otherwise
its 16 bytes are written at the entry's place in the partition, the line enters the write buffer, and the count goes
up: no byte of memory outside those 16 changes. A non-streaming log without LOG_WRAP that has then filled its
partition sets LOG_FULL, and raises E132 where the arm has not raised it. Where no entry may be written nothing
changes. An entry that finds the FIFO full is lost, counted and raises E131; one that enters it takes its place by
index, with LOSS where entries of its context were lost before it. Whole next states. -/
def Obligations.TriggerLog : Prop :=
  (∀ (s u : State) (e : LogEntry) (l : List LogEntry) (q a : Nat),
      s.runs = true →
      s.popFrom s.trg.log [] = some (e, l) →
      s.reg64 (R.TRG_AC_LOG_COUNT_LO e.ctx) = q →
      (s.ctx e.ctx).streaming = true ∨ s.flag (F.TRG_AC_SEQ.LOG_WRAP e.ctx) = true ∨ q < 2 * s.ptLen (s.ctx e.ctx).logPart →
      32 * (s.ptBase (s.ctx e.ctx).logPart + q % (2 * s.ptLen (s.ctx e.ctx).logPart) / 2) + 16 * (q % 2) = a →
      (({ s with trg := { s.trg with log := l } }).putBytes a (wordsBytes e.dw)).buffer (a / 32) 1 = u →
      exec .tlogEntryWrite s = .next (s.keep ((u.setReg64 (R.TRG_AC_LOG_COUNT_LO e.ctx) (q + 1)).logFilled e.ctx)) ∧
    (∀ t, exec .tlogEntryWrite s = .next t → ∀ i, i < a ∨ a + (wordsBytes e.dw).length ≤ i → t.byteAt i = s.byteAt i)) ∧
  (∀ (s : State) (e : LogEntry) (l : List LogEntry),
      s.runs = true →
      s.popFrom s.trg.log [] = some (e, l) →
      (s.ctx e.ctx).streaming = false →
      s.flag (F.TRG_AC_SEQ.LOG_WRAP e.ctx) = false →
      2 * s.ptLen (s.ctx e.ctx).logPart ≤ s.reg64 (R.TRG_AC_LOG_COUNT_LO e.ctx) →
      exec .tlogEntryWrite s = .next (s.keep (({ s with trg := { s.trg with log := l } }).bump (R.TRG_AC_LOG_LOST e.ctx)))) ∧
  (∀ (u : State) (n : Nat),
      ((u.ctx n).streaming = true ∨ u.flag (F.TRG_AC_SEQ.LOG_WRAP n) = true ∨ u.reg64 (R.TRG_AC_LOG_COUNT_LO n) < 2 * u.ptLen (u.ctx n).logPart → u.logFilled n = u) ∧
    ((u.ctx n).streaming = false → u.flag (F.TRG_AC_SEQ.LOG_WRAP n) = false → 2 * u.ptLen (u.ctx n).logPart ≤ u.reg64 (R.TRG_AC_LOG_COUNT_LO n) →
      u.logFilled n = if (u.ctx n).once.contains 132 then u.setFlag (F.TRG_AC_STAT.LOG_FULL n) true
        else ((u.setFlag (F.TRG_AC_STAT.LOG_FULL n) true).setCtx n { u.ctx n with once := 132 :: (u.ctx n).once }).raise 132 n ((u.setFlag (F.TRG_AC_STAT.LOG_FULL n) true).routeCtx n))) ∧
  (∀ (s : State),
      s.runs = true →
      s.popFrom s.trg.log [] = none →
      exec .tlogEntryWrite s = .next (s.keep s)) ∧
  (∀ (s : State) (n : Nat) (dw : List Word) (r : Bool),
      (r = true ∨ s.trg.log.length < 4096 → (s.pushLog n dw r).trg.log = logInsert ⟨n, withLoss (natBit s.trg.loss n) dw⟩ s.trg.log ∧
      (s.pushLog n dw r).regs = s.regs) ∧
    (r = false → 4096 ≤ s.trg.log.length → (s.pushLog n dw r).trg.log = s.trg.log ∧
      natBit (s.pushLog n dw r).trg.loss n = true ∧
      (s.pushLog n dw r).regs = (((s.bump (R.TRG_AC_LOG_LOST n)).setFlag (F.TRG_AC_STAT.LOG_LOSS n) true).raise 131 n (s.routeCtx n)).regs))

/-- An APPLY that would start a new lock attempt while an armed context uses the symbol trigger is discarded with
E140. Any other takes the staged words for the words from the index shown on, a change of EN, INPUT, CODE or UI clears
LOCKED and starts an attempt, and an invalid configuration runs as disabled and raises E139 with its reason. An
attempt that has seen 4,096 symbols with rms timing error at most 0.08 UI, at least 1/16 of them with a transition
that drives the phase detector, and a mean unit interval in the pull-in range, locks: SYM_UI_MEAS, LOCKED and E137
with the offset; otherwise nothing happens. A locked loop whose last symbols meet a trip of R264 clears LOCKED, sets
LOST_SEEN, counts and raises E138 with its causes; any other is left alone. A retry of an unlocked trigger starts an
attempt where an active trigger's input is sampled and SAMPLE runs. Whole next states. Where an attempt begins in
phase is a free value (log entry 89). -/
def Obligations.SymbolTrigger : Prop :=
  (∀ (s u : State) (i : Nat),
      s.runs = true →
      s.reachable R.SYM_APPLY = true →
      symKey s.symStaged = symKey s.trg.sym ∨ s.symUsed = false →
      s.tapNext (getBits (s.reg R.SYM_CTL) 28 2) = i →
      s.symTake i (symKey s.symStaged != symKey s.trg.sym) = u →
      (symKey s.symStaged ≠ symKey s.trg.sym →
      exec .symApply s = .next (s.keep (((u.symClear.setFlag F.SYM_STAT.LOCKED false).symStart i).symJudge true))) ∧
    (symKey s.symStaged = symKey s.trg.sym → s.symActive = false → u.symActive = true →
      exec .symApply s = .next (s.keep ((u.symStart i).symJudge true))) ∧
    (symKey s.symStaged = symKey s.trg.sym → s.symActive = true ∨ u.symActive = false →
      exec .symApply s = .next (s.keep (u.symJudge true)))) ∧
  (∀ (s : State),
      s.runs = true →
      s.reachable R.SYM_APPLY = true →
      symKey s.symStaged ≠ symKey s.trg.sym ∧ s.symUsed = true →
      exec .symApply s = .next (s.keep ((s.setFlag F.SYM_STAT.APPLY_DISCARD true).raisePF 140 0))) ∧
  (∀ (s : State) (i : Nat) (c : Int),
      ((s.symTake i true).symWords c = s.symStaged) ∧
    ((i : Int) * 2 ^ 40 ≤ c → (s.symTake i false).symWords c = s.symStaged) ∧
    (c < (i : Int) * 2 ^ 40 → s.trg.symOld = none → (s.symTake i false).symWords c = s.trg.sym) ∧
    (s.symTake i false).reg64 R.SYM_APPLY_IDX_LO = i % 2 ^ 64) ∧
  (∀ (s : State) (i : Nat),
      (s.symActive = true → s.symIdle = false → s.frozen = false → ∃ l, (s.symStart i).trg.symLoop = some l ∧
      l.ui = ((s.sw 1).toNat : Int) * 2 ^ 18 ∧ (i : Int) * 2 ^ 40 ≤ l.centre ∧ l.centre ≤ (i : Int) * 2 ^ 40 + l.ui) ∧
    (s.symActive = false ∨ s.symIdle = true ∨ s.frozen = true → s.symStart i = s.setSymLoop none)) ∧
  (∀ (s : State),
      s.runs = true →
      (∀ l, s.trg.symLoop = some l → s.flag F.SYM_STAT.LOCKED = false → s.symMayLock l = true →
      exec .symLock s = .next (s.keep (s.symLocked l))) ∧
    (s.flag F.SYM_STAT.LOCKED = true ∨ s.trg.symLoop = none → exec .symLock s = .next (s.keep s)) ∧
    (∀ l, s.trg.symLoop = some l → s.symMayLock l = false → exec .symLock s = .next (s.keep s))) ∧
  (∀ (s : State) (l : SymLoop),
      (s.symMayLock l = true ↔ 4096 ≤ l.recs.length ∧ 10000 * errSquares l.recs ≤ 64 * 2 ^ 32 * errCount l.recs ∧
      4096 ≤ 16 * errCount l.recs ∧ 200 * ((uiMean l.recs : Int) - ((s.sw 1).toNat : Int)).natAbs ≤ uiMean l.recs) ∧
    s.symLocked l = ((((s.symClear.setSymLoop (some { l with count := 0, levels := [(0, 0), (0, 0), (0, 0), (0, 0)] })).setReg
      R.SYM_UI_MEAS (BitVec.ofNat 32 (uiMean l.recs))).setFlag F.SYM_STAT.LOCKED true).raisePF 137 (pattern 32 (s.symOffset (uiMean l.recs))))) ∧
  (∀ (s : State),
      s.runs = true →
      (∀ l, s.trg.symLoop = some l → s.flag F.SYM_STAT.LOCKED = true → s.symTrips l ≠ 0 → exec .symUnlock s = .next (s.keep
        (((((s.setFlag F.SYM_STAT.LOCKED false).setFlag F.SYM_STAT.LOST_SEEN true).bump R.SYM_UNLOCKS).raisePF 138 (s.symTrips l)).setSymLoop none))) ∧
    (s.flag F.SYM_STAT.LOCKED = false ∨ s.trg.symLoop = none → exec .symUnlock s = .next (s.keep s)) ∧
    (∀ l, s.trg.symLoop = some l → s.symTrips l = 0 → exec .symUnlock s = .next (s.keep s))) ∧
  (∀ (s : State),
      s.runs = true →
      (s.flag F.SYM_STAT.LOCKED = false → exec .symLockRetry s = .next (s.keep (s.symStart s.symNext))) ∧
    (s.flag F.SYM_STAT.LOCKED = true → exec .symLockRetry s = .next (s.keep s)))

/-- Tap-point words of the symbol trigger's input, while SAMPLE runs and the input is sampled, are those that every
consumer receives, and every symbol that they reach is decided in turn; otherwise nothing happens. A symbol of a
locked loop whose decision word is invalid counts and clears the history; any other also counts for its level, appends
its value to the last 256 symbols, and a match fires at the strobe that its boundary follows. A level window of 65,536
symbols of a locked loop stores the means, and with AUTO_THR moves the thresholds to the midpoints of the levels that
had symbols. A level is 0 to 3 by three thresholds in PAM4 and 0 or 1 by the middle one in NRZ. -/
def Obligations.SymbolDecisions : Prop :=
  (∀ (s : State) (first : BitVec 64) (words : List (BitVec 16)),
      s.runs = true →
      (s.frozen = false → s.symIdle = false → exec (.symMatch first words) s = .next (s.keep
        (State.symRun (words.length + 1) (first.toNat + words.length - 1) ((s.hearAll s.symInput first.toNat words).2.symSkip first.toNat)))) ∧
    (s.frozen = true ∨ s.symIdle = true → exec (.symMatch first words) s = .next (s.keep s))) ∧
  (∀ (s : State) (l : SymLoop) (w : List Word),
      s.symDecide l w none = s.symClear.setSymLoop (some { l with count := l.count + 1 }) ∧
    (∀ y h u, (symValue w y :: s.trg.symHist).take 256 = h →
      { s.setSymLoop (some { l with count := l.count + 1, levels := l.levels.modify (symLevel w y) (fun e => (e.1 + 1, e.2 + y)) }) with
        trg := { (s.setSymLoop (some { l with count := l.count + 1, levels := l.levels.modify (symLevel w y) (fun e => (e.1 + 1, e.2 + y)) })).trg with symHist := h } } = u →
      s.symDecide l w (some y) =
        if symMatches w h then u.symFire (l.boundary / 2 ^ 40).toNat (l.boundary % 2 ^ 40 * 1024 / 2 ^ 40).toNat else u)) ∧
  (∀ (w : List Word) (y : Int),
      symThr w 0 ≤ symThr w 1 ∧ symThr w 1 ≤ symThr w 2 →
      (symPam4 w = true → (symLevel w y = 0 ↔ y < symThr w 0) ∧ (symLevel w y = 1 ↔ symThr w 0 ≤ y ∧ y < symThr w 1) ∧
      (symLevel w y = 2 ↔ symThr w 1 ≤ y ∧ y < symThr w 2) ∧ (symLevel w y = 3 ↔ symThr w 2 ≤ y)) ∧
    (symPam4 w = false → symLevel w y = if symThr w 1 ≤ y then 1 else 0)) ∧
  (∀ (s u : State) (l : SymLoop),
      s.runs = true →
      s.flag F.SYM_STAT.LOCKED = true ∧ s.trg.symLoop = some l ∧ 65536 ≤ l.count →
      (s.each (List.range 4) (fun t k => (t.setFld (F.SYM_LVL.SEQ k) (s.fld (F.SYM_LVL.SEQ 0) + 1)).setFld (F.SYM_LVL.MEAN k) (levelMean (l.levels.getD k (0, 0))))).setSymLoop (some { l with count := 0, levels := [(0, 0), (0, 0), (0, 0), (0, 0)] }) = u →
      (u.symF 0 22 1 = 0 → exec .symLevelWindowEnd s = .next (s.keep u)) ∧
    (u.symF 0 22 1 = 1 → exec .symLevelWindowEnd s = .next (s.keep { u with trg := { u.trg with
      sym := autoThresholds u.trg.sym (fun k => l.levels.getD k (0, 0)) } }))) ∧
  (∀ (s : State),
      s.runs = true →
      (s.flag F.SYM_STAT.LOCKED = false ∨ s.trg.symLoop = none → exec .symLevelWindowEnd s = .next (s.keep s)) ∧
    (∀ l, s.trg.symLoop = some l → l.count < 65536 → exec .symLevelWindowEnd s = .next (s.keep s)))

/-- A started ACQ_ARM or ACQ_STREAM is refused with the first status of Table 11.5 that applies, in the table's order:
a bad descriptor, compatibility, the bypass, a busy context, its partitions, the reference buffers. One that passes
leaves its context pending with the request (a joined module also sends its summary and waits). An arm that is due
takes effect and one that is not changes nothing. Its registers: ARMED and the inputs are shown, ARM_IDX is the first
index of the core cycle, ARM_LATE is set for a late arm, and no other register changes; the sequencer's counters and
the counts of segments read 0. Capture memory raises E204 without a SPILL partition, and starts learning the load
offsets only where they are not known. Whole next states. -/
def Obligations.Arming : Prop :=
  (∀ (s u : State) (r : Fin 64) (d : Desc) (strm : Bool) (c : Ctx),
      s.starts r (if strm then 0x03 else 0x01) d = true →
      s.begin r d = u →
      { u.ctx d.begun.context with phase := .pending, stops := [], req := some ⟨strm, d.seq, d.ring, d.dw, (match Ctx.armAt { streaming := strm, dw := d.dw } with | some i => decide (i < u.time.idx) | none => false), none⟩ } = c →
      (∀ st, u.armStatus d.begun c.asked = some st → exec (if strm then .acqStream r else .acqArm r) s = .next (s.keep (u.finish d.begun st []))) ∧
    (u.armStatus d.begun c.asked = none → u.joined = false →
      exec (if strm then .acqStream r else .acqArm r) s = .next (s.keep (u.setCtx d.begun.context c))) ∧
    (u.armStatus d.begun c.asked = none → u.joined = true →
      exec (if strm then .acqStream r else .acqArm r) s = .next (s.keep ((u.setCtx d.begun.context c).twinWait d.begun.context)))) ∧
  (∀ (s : State) (d : Desc) (c : Ctx) (bad compat : Bool),
      (if c.streaming then s.streamBad d c else s.armBad d c) = bad →
      (s.compat && (s.seqNames d.context 16 || s.usesTwin d.context)) = compat →
      (bad = true → s.armStatus d c = some .badDescriptor) ∧
    (bad = false → compat = true → s.armStatus d c = some .notSupportedCompat) ∧
    (bad = false → compat = false → s.flag F.CLK_STAT.BYPASS = true → s.armStatus d c = some .clockLost) ∧
    (bad = false → compat = false → s.flag F.CLK_STAT.BYPASS = false → s.armBusy d.context c = true → s.armStatus d c = some .busy) ∧
    (bad = false → compat = false → s.flag F.CLK_STAT.BYPASS = false → s.armBusy d.context c = false →
      s.armParts d.context (s.ringOwner d.ring) c = false → s.armStatus d c = some .partitionFault) ∧
    (bad = false → compat = false → s.flag F.CLK_STAT.BYPASS = false → s.armBusy d.context c = false →
      s.armParts d.context (s.ringOwner d.ring) c = true → c.inputs.all s.refsReady = false → s.armStatus d c = some .refNotReady) ∧
    (bad = false → compat = false → s.flag F.CLK_STAT.BYPASS = false → s.armBusy d.context c = false →
      s.armParts d.context (s.ringOwner d.ring) c = true → c.inputs.all s.refsReady = true → s.armStatus d c = none)) ∧
  (∀ (s : State) (n : Fin 4),
      s.runs = true →
      (s.armDue n = true → exec (.armTakeEffect n) s = .next (s.keep (s.armEffect n))) ∧
    (s.armDue n = false → exec (.armTakeEffect n) s = .next (s.keep s))) ∧
  (∀ (s : State) (n : Fin 4),
      (s.armRegs n).flag (F.ACQ_AC_STAT.ARMED n) = true ∧
    (s.armRegs n).fld (F.ACQ_AC_STAT.INPUTS n) = (s.ctx n).a 2 0 4 ∧
    ((s.ctx n).late = true → (s.armRegs n).flag (F.ACQ_AC_STAT.ARM_LATE n) = true) ∧
    (s.armRegs n).reg64 (R.ACQ_AC_ARM_IDX_LO n) = s.time.idx % 2 ^ 64 ∧
    s.regsBut (s.armRegs n) [R.ACQ_AC_STAT n, R.ACQ_AC_ARM_IDX_LO n, R.ACQ_AC_ARM_IDX_LO n + 4]) ∧
  (∀ (s : State) (n : Fin 4),
      (s.clearSeq n).reg (R.TRG_AC_COMPL n) = 0 ∧ (s.clearSeq n).reg (R.TRG_AC_OVERLAP n) = 0 ∧
    (s.clearSeq n).reg (R.TRG_AC_HELD n) = 0 ∧ (s.clearSeq n).reg (R.TRG_AC_TIMEOUTS n) = 0 ∧
    (s.clearSeq n).reg (R.TRG_AC_RESETS n) = 0 ∧ (s.clearSeq n).reg (R.ACQ_AC_SEGS n) = 0 ∧
    (s.clearSeq n).flag (F.TRG_AC_STAT.LOG_FULL n) = false ∧ (s.clearSeq n).fld (F.TRG_AC_STAT.STAGE n) = 0) ∧
  (∀ (s : State),
      (s.spill = none → s.armMemory = s.raisePF 204 0) ∧
    (s.spill ≠ none → s.flag F.MEM_STAT.OFFSETS = false → s.mem.offsetPc = none → s.armMemory = { s with mem := { s.mem with offsetPc := some 0 } }) ∧
    (s.spill ≠ none → (s.flag F.MEM_STAT.OFFSETS = true ∨ s.mem.offsetPc ≠ none) → s.armMemory = s))

/-- The oldest open segment of a context closes once packed to its last sample: SEGS counts it, its index entries join
the queue, and one that is not OK counts and raises E162; the acquisition is to end with its last segment (row 0), its
last slot (row 1) or a soft stop (row 2), and ends once the core cycle of the cause has passed, its lines are packed
and no tail update waits. The status of a segment follows Table 11.8. While no tail update waits, the oldest index
entry is written as a whole line at its place: no byte of memory outside that line changes. Whole next states. -/
def Obligations.SegmentsAndEntries : Prop :=
  (∀ (s u v w : State) (n : Fin 4) (g : Seg) (rest : List Seg),
      s.runs = true →
      (s.ctx n).segs = g :: rest ∧ s.segPacked n g = true →
      (({ s with acq := { s.acq with queue := s.acq.queue ++ [IdxItem.mk n (s.segEntries n g (State.segStatus (s.ctx n) g))] } }).setCtx n { s.ctx n with segs := rest, entries := (s.ctx n).entries + (s.segEntries n g (State.segStatus (s.ctx n) g)).length, closed := (s.ctx n).closed + 1, degr := (s.ctx n).degr.filter (fun e => Nat.blt g.last (e.lab + (e.count - 1) * e.ratio)), dlines := (s.ctx n).dlines.filter (fun l => Nat.blt g.last (l.lab + (l.count - 1) * l.ratio)) }).setFlag (F.ACQ_AC_STAT.SEG_OPEN n) (!rest.isEmpty) = u →
      u.setFld (F.ACQ_AC_SEGS.V n) (u.fld (F.ACQ_AC_SEGS.V n) + 1) = v →
      (if State.segStatus (s.ctx n) g == .ok then v else (v.bump (R.ACQ_AC_NONOK n)).raise 162 (n + 2 ^ 16 * (State.segStatus (s.ctx n) g).code) (v.routeCtx n)).notify n = w →
      (g.num + 1 = (s.ctx n).nseg → exec (.segmentClose n) s = .next (s.keep ((w.endFor n 0 g.last).tryEnd n))) ∧
    (g.num + 1 ≠ (s.ctx n).nseg → g.num + 1 = w.slots n →
      exec (.segmentClose n) s = .next (s.keep ((w.endFor n 1 g.last).tryEnd n))) ∧
    (g.num + 1 ≠ (s.ctx n).nseg → g.num + 1 ≠ w.slots n → (s.ctx n).stopping = true ∧ rest = [] →
      exec (.segmentClose n) s = .next (s.keep ((w.endFor n 2 g.last).tryEnd n))) ∧
    (g.num + 1 ≠ (s.ctx n).nseg → g.num + 1 ≠ w.slots n → (s.ctx n).stopping = false ∨ rest ≠ [] →
      exec (.segmentClose n) s = .next (s.keep (w.tryEnd n)))) ∧
  (∀ (s : State) (n : Fin 4),
      s.runs = true →
      ((s.ctx n).segs = [] ∨ ∃ g l, (s.ctx n).segs = g :: l ∧ s.segPacked n g = false) →
      exec (.segmentClose n) s = .next (s.keep s)) ∧
  (∀ (s u : State) (x : IdxItem) (r : List IdxItem) (e : Nat × Nat) (l : List (Nat × Nat)),
      s.runs = true →
      s.acq.queue = x :: r ∧ x.lines = e :: l ∧ s.tailsWait = false →
      { s with acq := { s.acq with queue := if l.isEmpty then r else { x with lines := l } :: r } } = u →
      exec .indexEntryWrite s = .next (s.keep (u.writeLine 1 e.1 e.2)) ∧
    (∀ i, i < 32 * e.1 ∨ 32 * e.1 + 32 ≤ i → (u.writeLine 1 e.1 e.2).byteAt i = s.byteAt i) ∧
    (∀ i, e.1 < memLines → i < 32 → (u.writeLine 1 e.1 e.2).byteAt (32 * e.1 + i) = BitVec.ofNat 8 (e.2 / 256 ^ i))) ∧
  (∀ (s : State),
      s.runs = true →
      (s.acq.queue = [] ∨ s.tailsWait = true → exec .indexEntryWrite s = .next (s.keep s)) ∧
    (∀ x r, s.acq.queue = x :: r → x.lines = [] → s.tailsWait = false →
      exec .indexEntryWrite s = .next (s.keep { s with acq := { s.acq with queue := r } }))) ∧
  (∀ (s : State) (n : Nat) (row e cyc : Nat),
      (s.ctx n).ending = some (row, e, cyc) →
      (cyc < s.time.cycle → s.drained n e = true → s.tailsWait = false → s.tryEnd n = s.acqEnd n row) ∧
    (s.time.cycle ≤ cyc ∨ s.drained n e = false ∨ s.tailsWait = true → s.tryEnd n = s))

/-- ACQ_STOP with a bad descriptor, or for another function's context, completes BAD_DESCRIPTOR; on an idle context it
completes OK with 0; a pending arm is cancelled with TRUNCATED; an armed context notes the stop and stops softly or at
once by IMMEDIATE. Clearing EN stops the context at once. At 53,248 lines the write buffer's reserve stops every armed
context with E198. Whole next states. -/
def Obligations.AcquisitionStops : Prop :=
  (∀ (s u : State) (r : Fin 64) (d : Desc),
      s.starts r 0x02 d = true →
      s.begin r d = u →
      d.begun.context < 4 ∧ d.begun.reservedClear 2 [(2, 1)] = true →
      ((u.ctx d.begun.context).phase = .idle → exec (.acqStop r) s = .next (s.keep (u.finish d.begun .ok [0]))) ∧
    ((u.ctx d.begun.context).phase = .pending → exec (.acqStop r) s = .next (s.keep
      (((u.setCtx d.begun.context { u.ctx d.begun.context with stops := (u.ctx d.begun.context).stops ++ [d.seq] }).armCancel
        d.begun.context .truncated).twinWithdraw d.begun.context 3))) ∧
    ((u.ctx d.begun.context).phase = .armed → u.fld (F.ACQ_AC_STAT.OWNER d.begun.context) = u.ringOwner d.ring →
      exec (.acqStop r) s = .next (s.keep ((u.setCtx d.begun.context { u.ctx d.begun.context with
        stops := (u.ctx d.begun.context).stops ++ [d.seq] }).stopRequest d.begun.context (if d.begun.f 2 0 1 = 1 then 7 else 2)))) ∧
    ((u.ctx d.begun.context).phase = .armed → u.fld (F.ACQ_AC_STAT.OWNER d.begun.context) ≠ u.ringOwner d.ring →
      exec (.acqStop r) s = .next (s.keep (u.finish d.begun .badDescriptor [])))) ∧
  (∀ (s : State) (r : Fin 64) (d : Desc),
      s.starts r 0x02 d = true →
      4 ≤ d.begun.context ∨ d.begun.reservedClear 2 [(2, 1)] = false →
      exec (.acqStop r) s = .next (s.keep ((s.begin r d).finish d.begun .badDescriptor []))) ∧
  (∀ (s u : State) (n : Fin 4),
      s.runs = true →
      s.reachable (R.ACQ_AC_CTL n) = true →
      s.plainWrite (R.ACQ_AC_CTL n) (s.reg (R.ACQ_AC_CTL n) &&& 0xFFFFFFFE#32) = u →
      exec (.acqCtlEnClear n) s = .next (s.keep (if u.armed n then u.stopRequest n 3 else u.stopCtx n 3))) ∧
  (∀ (s : State),
      s.runs = true →
      (53248 ≤ s.occupancy → exec .writeBufferReserve s = .next (s.keep s.reserveStop)) ∧
    (s.occupancy < 53248 → exec .writeBufferReserve s = .next (s.keep s)))

/-- A context packs a line only while armed, for a stream it has, and not past its end; otherwise nothing changes. A
segmented raw line is stored, per input, at the line of the slot that holds its first index; every byte of memory
outside those lines reads as before, and the next line starts 21 indices on. Streams pack through the same gate. -/
def Obligations.LinesPacked : Prop :=
  (∀ (s : State) (n : Fin 4) (dec : Bool) (data : List (List (List (BitVec 16)))),
      s.runs = true →
      (s.packAllowed n dec = false → exec (.linePacked n dec data) s = .next (s.keep s)) ∧
    (s.packAllowed n dec = true → (s.ctx n).streaming = true → exec (.linePacked n dec data) s = .next (s.keep ((s.streamLine n data).tryEnd n))) ∧
    (s.packAllowed n true = true → (s.ctx n).streaming = false →
      exec (.linePacked n true data) s = .next (s.keep (((s.packDec n data).takePhase n).tryEnd n))) ∧
    (s.packAllowed n false = true → (s.ctx n).streaming = false →
      exec (.linePacked n false data) s = .next (s.keep ((s.packRaw n data).tryEnd n)))) ∧
  (∀ (s : State) (n : Fin 4) (k f : Nat) (data : List (List (List (BitVec 16)))),
      s.runs = true →
      s.packAllowed n false = true ∧ (s.ctx n).streaming = false ∧ (s.ctx n).ending = none →
      (s.ctx n).slotOf (s.ctx n).next = some (k, f) →
      ∃ t, exec (.linePacked n false data) s = .next t ∧ (t.ctx n).next = (s.ctx n).next + 21 ∧
      ∀ i, (∀ m ∈ (s.ctx n).inputs, i < 32 * (s.ptBase ((s.ctx n).inPart m) + s.rawLineOf n k f (s.ctx n).next) ∨
        32 * (s.ptBase ((s.ctx n).inPart m) + s.rawLineOf n k f (s.ctx n).next) + 32 ≤ i) → t.byteAt i = s.byteAt i)

/-- A sluice tick of an armed, running context with a decimated stream or of a streaming one notes fill, occupancy and
pressure, then in a gap clears AT_MAX and closes the gap where it may, or decides by the rows of Table 12.2 (a
segmented acquisition only with SLU_CTL.EN). A requested step takes effect once the line before its index is closed:
record, STEP, count, a restart of its CIC paths, E165, and the demand. A gap opens where the next line finds a stream
full: GAP_START record, GAP_OPEN, GAP_SEEN, a count and E166, and then a record of every phase reset that the packer
had not reached. A SECOND record is written where a whole second passes in the core cycle of an armed streaming
context with 64 free log entries. Elsewhere nothing changes. Whole next states. -/
def Obligations.SluiceAndGaps : Prop :=
  (∀ (s u v : State) (n : Fin 4),
      s.runs = true →
      s.armed n = true ∧ (s.ctx n).ending = none ∧ s.frozen = false →
      (s.ctx n).streaming = true ∨ (s.ctx n).decEn = true →
      s.setCtx n { s.ctx n with prevFill := if (s.ctx n).streaming then s.maxFill n else 0, prevOcc := s.occupancy, maxSaid := (s.ctx n).maxSaid && Nat.ble (s.fld (F.ACQ_AC_SLU_THR.HI n)) (s.pressure n) } = u →
      u.setFlag (F.ACQ_AC_SLU_STAT.AT_MAX n) false = v →
      (u.gapOpen n = true → v.gapMayClose n = true → exec (.sluiceTick n) s = .next (s.keep (v.gapClose n (v.resumeAt n)))) ∧
    (u.gapOpen n = true → v.gapMayClose n = false → exec (.sluiceTick n) s = .next (s.keep v)) ∧
    (u.gapOpen n = false → (s.ctx n).streaming = true ∨ s.flag (F.ACQ_AC_SLU_CTL.EN n) = true →
      exec (.sluiceTick n) s = .next (s.keep (u.sluDecide n (s.pressure n)
        (Nat.blt (s.ctx n).prevFill (if (s.ctx n).streaming then s.maxFill n else 0) || Nat.blt (s.ctx n).prevOcc s.occupancy)))) ∧
    (u.gapOpen n = false → (s.ctx n).streaming = false → s.flag (F.ACQ_AC_SLU_CTL.EN n) = false →
      exec (.sluiceTick n) s = .next (s.keep u))) ∧
  (∀ (s : State) (n : Fin 4),
      s.runs = true →
      s.armed n = false ∨ (s.ctx n).ending.isSome = true ∨ s.frozen = true ∨ ((s.ctx n).streaming = false ∧ (s.ctx n).decEn = false) →
      exec (.sluiceTick n) s = .next (s.keep s)) ∧
  (∀ (s : State) (n p : Nat) (r : Bool),
      (s.fld (F.ACQ_AC_SLU_THR.HI n) ≤ p → r = true → s.step n < (s.stepBounds n (s.ctx n)).2 → s.stepRoom n = true → s.mayStepUp n = true →
      s.sluDecide n p r = (s.setFlag (F.ACQ_AC_SLU_STAT.AT_MAX n) false).askUp n) ∧
    (p ≤ s.fld (F.ACQ_AC_SLU_THR.LO n) → p < s.fld (F.ACQ_AC_SLU_THR.HI n) → 16 ≤ (s.ctx n).lowTicks + 1 → s.stepLow n < s.step n →
      s.stepRoom n = true → s.mayStepDown n = true → s.sluDecide n p r = (s.setFlag (F.ACQ_AC_SLU_STAT.AT_MAX n) false).askDown n) ∧
    (s.fld (F.ACQ_AC_SLU_THR.LO n) < p → p < s.fld (F.ACQ_AC_SLU_THR.HI n) →
      s.sluDecide n p r = (s.setCtx n { s.ctx n with lowTicks := 0 }).setFlag (F.ACQ_AC_SLU_STAT.AT_MAX n) false)) ∧
  (∀ (s u v : State) (n : Fin 4) (q : StepReq) (l : List StepReq) (old new : Nat),
      s.runs = true →
      (s.ctx n).stepReq = q :: l ∧ s.armed n = true ∧ s.stepReady n q.pos = true →
      s.step n = old ∧ (if q.up then old + 1 else old - 1) = new →
      ((((s.sluLog n q.pos 0 new old).setFld (F.ACQ_AC_SLU_STAT.STEP n) new).bump (R.ACQ_AC_SLU_CHANGES n)).setCtx n { ((s.sluLog n q.pos 0 new old).setFld (F.ACQ_AC_SLU_STAT.STEP n) new).ctx n with stepReq := l, rateBit := true, lowTicks := 0, lastStep := some q.pos }) = u →
      (match u.decPath (s.ctx n) with | some (.cic, ins) => u.each ins (fun t m => t.restart false q.pos .cic m) | _ => u) = v →
      exec (.sluiceStepChange n) s = .next (s.keep ((v.raise 165 (n + 16 * old + 256 * new) (v.routeCtx n)).demand))) ∧
  (∀ (s : State) (n : Fin 4),
      s.runs = true →
      ((s.ctx n).stepReq = [] ∨ s.armed n = false → exec (.sluiceStepChange n) s = .next (s.keep s)) ∧
    (∀ q l, (s.ctx n).stepReq = q :: l → s.stepReady n q.pos = false → exec (.sluiceStepChange n) s = .next (s.keep s))) ∧
  (∀ (s : State) (n : Fin 4),
      s.runs = true →
      (s.armed n = true → s.gapOpen n = false → s.streamFull n = true → exec (.streamGapOpen n) s = .next (s.keep (s.openGap n (s.ctx n).nextIdx))) ∧
    (s.armed n = false ∨ s.gapOpen n = true ∨ s.streamFull n = false → exec (.streamGapOpen n) s = .next (s.keep s))) ∧
  (∀ (s : State) (n : Fin 4),
      s.runs = true →
      (∀ i sec, s.armed n = true → (s.ctx n).streaming = true → s.flag (F.ACQ_AC_SLU_CTL.SEC_REC n) = true → s.frozen = false →
      64 ≤ s.logFree n → s.secondStrobe = some (i, sec) → exec (.secondRecord n) s =
        .next (s.keep (s.pushLog n (sluiceRecord n i 4 (s.step n) (s.step n) sec) true))) ∧
    (s.armed n = false ∨ (s.ctx n).streaming = false ∨ s.flag (F.ACQ_AC_SLU_CTL.SEC_REC n) = false ∨ s.frozen = true ∨
      s.logFree n < 64 ∨ s.secondStrobe = none → exec (.secondRecord n) s = .next (s.keep s))) ∧
  (∀ (s t u : State) (n i : Nat),
      (((s.pushLog n (sluiceRecord n i 1 (s.step n) (s.step n) (s.lineCount n)) true).setFlag (F.ACQ_AC_SLU_STAT.GAP_OPEN n) true).setFlag (F.ACQ_AC_SLU_STAT.GAP_SEEN n) true).bump (R.ACQ_AC_GAPS n) = t →
      (t.setCtx n { t.ctx n with gapStart := i, lowTicks := 0, phases := [] }).raise 166 n (t.routeCtx n) = u →
      s.openGap n i = u.each (s.ctx n).phases (fun t p => t.phaseRecord n p) ∧
    u.flag (F.ACQ_AC_SLU_STAT.GAP_OPEN n) = true ∧ u.flag (F.ACQ_AC_SLU_STAT.GAP_SEEN n) = true ∧
    u.seen 166 = true ∧ u.reg (R.ACQ_AC_GAPS n) = s.reg (R.ACQ_AC_GAPS n) + 1 ∧
    u.trg.log = logInsert ⟨n, withLoss (natBit s.trg.loss n) (sluiceRecord n i 1 (s.step n) (s.step n) (s.lineCount n))⟩ s.trg.log ∧
    s.regsBut u (R.ACQ_AC_SLU_STAT n :: R.ACQ_AC_GAPS n :: evtRegs 166))

/-- HARV_RANGE is refused with BAD_DESCRIPTOR or PARTITION_FAULT or starts a harvest; HARV_STREAM is refused, claims
what is there (NOWAIT), or waits for its lines. A waiting harvest claims at its end. A harvest that may complete
(stacks active, Bus Master Enable, its turn among the claims of its target, no read of it waiting) posts its data and
reads it back in peer windows, finishes with its count and poison, releases what it carried and lets waiting releases
act. ACQ_RELEASE acts at once or after the harvests before it; a bad one completes at once. A peer read that times out
ends its harvest ABORTED. Elsewhere nothing changes. Whole next states. -/
def Obligations.HarvestsAndReleases : Prop :=
  (∀ (s u : State) (r : Fin 64) (d : Desc) (k : Nat) (h : Harvest),
      s.starts r 0x20 d = true →
      s.begin r d = u →
      d.begun.f 2 0 4 = k →
      (⟨d.seq, d.ring, .range, 0, k, 0, d.begun.f 5 0 31, d.begun.f 6 0 31, false, false, dw64 d.dw 8, u.ptBase k + d.begun.f 3 0 31, u.regionLen d.begun⟩ : Harvest) = h →
      (rangeBad d.begun 0 = true ∨ (u.ptValid k = true ∧ u.regionBad d.begun = true) →
        exec (.harvRange r) s = .next (s.keep (u.finish d.begun .badDescriptor []))) ∧
    (rangeBad d.begun 0 = false → (u.ptValid k = false ∨ (u.regionBad d.begun = false ∧ (u.ptType k = 6 ∨ u.ptOwner k ≠ u.ringOwner d.ring))) →
        exec (.harvRange r) s = .next (s.keep (u.finish d.begun .partitionFault []))) ∧
    (rangeBad d.begun 0 = false → u.ptValid k = true → u.regionBad d.begun = false → u.ptType k ≠ 6 → u.ptOwner k = u.ringOwner d.ring →
        exec (.harvRange r) s = .next (s.keep ((u.addHarvest h).harvReads h)))) ∧
  (∀ (s u : State) (r : Fin 64) (d : Desc) (h : Harvest),
      s.starts r 0x21 d = true →
      s.begin r d = u →
      (⟨d.seq, d.ring, .stream, d.begun.context, d.begun.f 2 0 5, (u.ctx d.begun.context).arms, 0, d.begun.n 3, true, false, dw64 d.dw 8, (u.targetSpan d.begun.context (d.begun.f 2 0 5)).1, (u.targetSpan d.begun.context (d.begun.f 2 0 5)).2⟩ : Harvest) = h →
      (u.streamHarvBad d.begun = true → exec (.harvStream r) s = .next (s.keep (u.finish d.begun .badDescriptor []))) ∧
    (u.streamHarvBad d.begun = false → d.begun.f 2 8 1 = 1 → exec (.harvStream r) s = .next (s.keep (u.claim h (min h.count (u.remains h)) false))) ∧
    (u.streamHarvBad d.begun = false → d.begun.f 2 8 1 ≠ 1 → exec (.harvStream r) s = .next (s.keep (((u.addHarvest h).tryClaim h).showHeld d.ring)))) ∧
  (∀ (s : State) (h : Harvest),
      ((s.ctx h.ctx).arms = h.arm → h.count ≤ s.remains h → s.tryClaim h = s.claim h h.count false) ∧
    (s.remains h < h.count → s.harvEnded h = true → s.tryClaim h = s.claim h (s.remains h) true) ∧
    (s.remains h < h.count → s.harvEnded h = false → s.tryClaim h = s)) ∧
  (∀ (s : State) (r : Fin 64),
      s.runs = true →
      (∀ h, s.hif.harvests.find? (fun h => h.ring == r.val && h.waits) = some h →
      exec (.harvStreamWaitEnd r) s = .next (s.keep ((s.tryClaim h).showHeld r))) ∧
    (s.hif.harvests.find? (fun h => h.ring == r.val && h.waits) = none → exec (.harvStreamWaitEnd r) s = .next (s.keep s))) ∧
  (∀ (s u : State) (r : Fin 64) (h : Harvest) (d : Desc),
      s.runs = true →
      s.pairDrain s.pair.lines.length = u →
      u.hif.harvests.find? (fun h => h.ring == r.val && !h.waits && h.kind != .pair) = some h ∧ u.descOf h.seq = some d →
      (u.memActive = true → u.busMasterOn (u.ringOwner r) = true → u.harvFirst h = true → u.readsWait (· == .harvest h.seq) = false →
      exec (.harvestComplete r) s = .next (s.keep ((if h.count = 0 then u else (u.postData (u.ringOwner r) h.haddr (u.harvData h)).flushReads
        (u.ringOwner r) h.haddr h.bytes).harvFinish h d (u.harvPoison h)))) ∧
    (u.memActive = false ∨ u.busMasterOn (u.ringOwner r) = false ∨ u.harvFirst h = false ∨ u.readsWait (· == .harvest h.seq) = true →
      exec (.harvestComplete r) s = .next (s.keep u))) ∧
  (∀ (s u : State) (r : Fin 64),
      s.runs = true →
      s.pairDrain s.pair.lines.length = u →
      u.hif.harvests.find? (fun h => h.ring == r.val && !h.waits && h.kind != .pair) = none →
      exec (.harvestComplete r) s = .next (s.keep u)) ∧
  (∀ (s u : State) (r : Fin 64) (d : Desc),
      s.starts r 0x04 d = true →
      s.begin r d = u →
      (u.releaseAfter d.begun = [] ∨ u.releaseBad d.begun = true → exec (.acqRelease r) s = .next (s.keep (u.releaseNow d.begun))) ∧
    (u.releaseAfter d.begun ≠ [] → u.releaseBad d.begun = false → exec (.acqRelease r) s = .next (s.keep { u with hif := { u.hif with
      releases := u.hif.releases ++ [(d.seq, d.begun.context, u.releaseAfter d.begun)] } }))) ∧
  (∀ (s : State) (r : Fin 64),
      s.runs = true →
      (∀ h d, s.hif.harvests.find? (fun h => h.ring == r.val && !h.waits && h.kind != .pair) = some h → s.descOf h.seq = some d →
      s.touchesPeer h.haddr h.bytes = true → exec (.p2pReadTimeout r) s = .next (s.keep ((if s.busMasterOn (s.ringOwner r) then
        (s.postData (s.ringOwner r) h.haddr (s.harvData h)).flushReads (s.ringOwner r) h.haddr h.bytes else s).harvAbort h d h.bytes))) ∧
    (∀ h d, s.hif.harvests.find? (fun h => h.ring == r.val && !h.waits && h.kind != .pair) = some h → s.descOf h.seq = some d →
      s.touchesPeer h.haddr h.bytes = false → exec (.p2pReadTimeout r) s = .next (s.keep s)) ∧
    (∀ d, s.hif.harvests.find? (fun h => h.ring == r.val && !h.waits && h.kind != .pair) = none → s.running r 0x33 = some d →
      s.touchesPeer (dw64 d.dw 4) (4 * (s.panHarvData d.seq).length) = true →
      exec (.p2pReadTimeout r) s = .next (s.keep (s.panHarvAbort d (s.panHarvData d.seq).length))) ∧
    (s.hif.harvests.find? (fun h => h.ring == r.val && !h.waits && h.kind != .pair) = none → s.running r 0x33 = none →
      exec (.p2pReadTimeout r) s = .next (s.keep s))) ∧
  (∀ (s : State) (h : Harvest) (x : Nat),
      (∀ a, (s.postData x h.haddr (s.harvData h)).byteAt a = s.byteAt a) ∧
    (s.postData x h.haddr (s.harvData h)).hif.writes = { func := x, addr := h.haddr, data := s.harvData h, relaxed := s.flag F.HIF_CTL.DATA_RO && Config.relaxedOrdering x && !(s.touchesPeer h.haddr (4 * (s.harvData h).length)) } :: s.hif.writes ∧
    (h.kind = .range → s.harvRelease h = s) ∧
    (h.kind = .stream → (s.ctx h.ctx).arms = h.arm → s.harvRelease h = s.setReleased h.ctx h.target (s.released h.ctx h.target + h.count)))

/-- PAN_ATTACH is refused with the status of Table 13.6, assigns a free gang or a detached one and completes OK with
PEPOCH, or asks an attached gang to migrate, after the migrations that wait already. PAN_SWAP closes the FILLING
buffer and waits for it, or completes OK with none. PAN_DETACH clears ATTACHED, also for migrations that wait, closes
the FILLING buffer and completes once nothing fills or closes and no migration before it waits. PAN_HARVEST and
PAN_CLEAR are refused BAD_DESCRIPTOR or BUSY, or run for their buffer. PAN_SELFTEST of pans that no gang owns sets
TESTING. Whole next states. -/
def Obligations.PanDescriptors : Prop :=
  (∀ (s u : State) (r : Fin 64) (d : Desc) (f code : Nat),
      s.starts r 0x31 d = true →
      s.begin r d = u →
      d.begun.f 2 0 3 = f ∧ d.begun.f 2 4 2 = code →
      (∀ st, u.attachStatus d.begun = some st → exec (.panAttach r) s = .next (s.keep (u.finish d.begun st []))) ∧
    (u.attachStatus d.begun = none → u.gang f = none → exec (.panAttach r) s = .next (s.keep
      ((u.assign f code (u.ringOwner d.ring) d.begun.context d.begun.asg true {}).finish d.begun .ok
        [BitVec.ofNat 32 ((u.assign f code (u.ringOwner d.ring) d.begun.context d.begun.asg true {}).fld (F.PAN_STAT.PEPOCH f))]))) ∧
    (∀ g, u.attachStatus d.begun = none → u.gang f = some g → g.attached = false ∧ g.migrate = [] → exec (.panAttach r) s = .next (s.keep
      ((u.assign f code g.owner d.begun.context d.begun.asg true g).finish d.begun .ok
        [BitVec.ofNat 32 ((u.assign f code g.owner d.begun.context d.begun.asg true g).fld (F.PAN_STAT.PEPOCH f))]))) ∧
    (∀ g, u.attachStatus d.begun = none → u.gang f = some g → g.attached = true ∨ g.migrate ≠ [] →
      exec (.panAttach r) s = .next (s.keep ((u.setGang f (some { g with
        migrate := g.migrate ++ [⟨d.begun.context, d.begun.asg, d.seq, u.time.cycle, true⟩] })).closeFilling f 3)))) ∧
  (∀ (s u : State) (r : Fin 64) (d : Desc) (f : Nat) (bad : Bool),
      s.starts r 0x32 d = true →
      s.begin r d = u →
      d.begun.f 2 0 3 = f →
      (!(d.begun.reservedClear 2 [(2, 0x37)]) || u.gangBad d.begun f (d.begun.f 2 4 2) || d.begun.context != 15) = bad →
      (bad = true → exec (.panSwap r) s = .next (s.keep (u.finish d.begun .badDescriptor []))) ∧
    (∀ g b, bad = false → u.namedGang f (d.begun.f 2 4 2) = some g → u.filling f = some b → exec (.panSwap r) s =
      .next (s.keep ((u.setGang f (some { g with swaps := g.swaps ++ [(d.seq, b)] })).closeBuf f b 0))) ∧
    (bad = false → (u.namedGang f (d.begun.f 2 4 2) = none ∨ u.filling f = none) → exec (.panSwap r) s =
      .next (s.keep (u.finish d.begun .ok [0xFFFFFFFF, 0])))) ∧
  (∀ (s u : State) (r : Fin 64) (d : Desc) (f : Nat) (bad : Bool),
      s.starts r 0x34 d = true →
      s.begin r d = u →
      d.begun.f 2 0 3 = f →
      (!(d.begun.reservedClear 2 [(2, 0x37)]) || u.gangBad d.begun f (d.begun.f 2 4 2) || d.begun.context != 15) = bad →
      (bad = true → exec (.panDetach r) s = .next (s.keep (u.finish d.begun .badDescriptor []))) ∧
    (bad = false → u.namedGang f (d.begun.f 2 4 2) = none → exec (.panDetach r) s = .next (s.keep (u.finish d.begun .ok []))) ∧
    (∀ g, bad = false → u.namedGang f (d.begun.f 2 4 2) = some g →
      exec (.panDetach r) s = .next (s.keep ((((u.setGang f (some { g with
        attached := false, detaches := g.detaches ++ [d.seq], migrate := g.migrate.map (fun m => { m with live := false }) })).panFld f
          (d.begun.f 2 4 2) (fun k => F.PAN_STAT.ATTACHED k) 0).closeFilling f 4).checkDetach f)))) ∧
  (∀ (s u : State) (r : Fin 64) (d : Desc) (f code : Nat) (bad : Bool),
      s.starts r 0x33 d = true →
      s.begin r d = u →
      d.begun.f 2 0 3 = f ∧ d.begun.f 2 4 2 = code →
      (!(d.begun.reservedClear 2 [(2, 0x337), (4, 0xFFFFFFFF), (5, 0xFFFFFFFF), (6, 0xFFFFFFFF)]) || u.gangBad d.begun f code || d.begun.context != 15 || dw64 d.begun.dw 4 % 64 != 0) = bad →
      (bad = true → exec (.panHarvest r) s = .next (s.keep (u.finish d.begun .badDescriptor []))) ∧
    (∀ g, bad = false → u.namedGang f code = some g →
      (d.begun.f 2 8 1 = 1 ∧ asgPing g.dw = false) ∨
        d.begun.n 6 < (if u.bufState f (d.begun.f 2 8 1) = 0 then { g.buf (d.begun.f 2 8 1) with dw := g.dw } else g.buf (d.begun.f 2 8 1)).bytes →
      exec (.panHarvest r) s = .next (s.keep (u.finish d.begun .badDescriptor []))) ∧
    (∀ g, bad = false → u.namedGang f code = some g → (d.begun.f 2 8 1 ≠ 1 ∨ asgPing g.dw = true) →
      (if u.bufState f (d.begun.f 2 8 1) = 0 then { g.buf (d.begun.f 2 8 1) with dw := g.dw } else g.buf (d.begun.f 2 8 1)).bytes ≤ d.begun.n 6 →
      exec (.panHarvest r) s = .next (s.keep (if u.bufBusy f code (d.begun.f 2 8 1) then u.finish d.begun .busy []
        else u.setGang f (some { g with harvests := g.harvests ++ [(d.seq, d.begun.f 2 8 1, d.begun.f 2 9 1 == 1)] })))) ∧
    (bad = false → u.namedGang f code = none → exec (.panHarvest r) s = .next (s.keep (u.finish d.begun .busy [])))) ∧
  (∀ (s u : State) (r : Fin 64) (d : Desc) (f : Nat) (bad : Bool),
      s.starts r 0x35 d = true →
      s.begin r d = u →
      d.begun.f 2 0 3 = f →
      (!(d.begun.reservedClear 2 [(2, 0x137)]) || u.gangBad d.begun f (d.begun.f 2 4 2) || d.begun.context != 15) = bad →
      (bad = true → exec (.panClear r) s = .next (s.keep (u.finish d.begun .badDescriptor []))) ∧
    (bad = false → (u.namedGang f (d.begun.f 2 4 2) = none ∨ u.bufBusy f (d.begun.f 2 4 2) (d.begun.f 2 8 1) = true) →
      exec (.panClear r) s = .next (s.keep (u.finish d.begun .busy []))) ∧
    (∀ g, bad = false → u.namedGang f (d.begun.f 2 4 2) = some g → u.bufBusy f (d.begun.f 2 4 2) (d.begun.f 2 8 1) = false →
      exec (.panClear r) s = .next (s.keep (u.setGang f (some { g with clears := g.clears ++ [(d.seq, d.begun.f 2 8 1)] }))))) ∧
  (∀ (s u : State) (r : Fin 64) (d : Desc) (pans : List Nat) (bad : Bool),
      s.starts r 0x36 d = true →
      s.begin r d = u →
      bitsSet (d.begun.f 2 0 8) 8 = pans →
      (!(d.begun.reservedClear 2 [(2, 0xFF)]) || d.begun.context != 15 || u.ringOwner d.ring != 0) = bad →
      (bad = true → exec (.panSelftest r) s = .next (s.keep (u.finish d.begun .badDescriptor []))) ∧
    (bad = false → pans.any u.panOwned = true → exec (.panSelftest r) s = .next (s.keep (u.finish d.begun .busy []))) ∧
    (bad = false → pans.any u.panOwned = false → exec (.panSelftest r) s = .next (s.keep
      (pans.foldl (fun t k => t.setFlag (F.PAN_STAT.TESTING k) true) { u with pan := { u.pan with tests := u.pan.tests ++ [(d.seq, d.ring, d.begun.f 2 0 8)] } }))))

/-- The oldest pass of a gang updates the buffer it entered with its words, as every consumer receives them, and
counts once in the degraded passes where one of them lies on a degraded line; then what is due in the gang happens: a
CLOSING buffer that no pass can enter any more and with no pass left closes, waiting migrations act in order, and
detaches complete. A pan harvest posts header and cells and frees the buffer where it clears; it waits while Bus
Master Enable is 0. A clear frees its buffer. A self-test ends with its counts, fences and E195. A cell error counts,
flags, and faults; a double-bit one raises E194 and poisons its cell. Elsewhere nothing changes. Whole next states. -/
def Obligations.PanPasses : Prop :=
  (∀ (s : State) (f : Fin 8) (ws : List (BitVec 16)) (g : Gang) (p : Pass) (rest : List Pass),
      s.runs = true →
      s.gang f = some g ∧ g.passes = p :: rest →
      exec (.panPassComplete f ws) s = .next (s.keep
      (((s.setGang f (some { g with passes := rest })).accumulate f p (asgPoints (g.buf p.buf).dw) ws).gangDue f))) ∧
  (∀ (s t : State) (f n : Nat) (p : Pass) (ws : List (BitVec 16)) (g : Gang) (l : List Int),
      s.gang f = some g →
      s.passWords (g.buf p.buf).dw p.t 0 n ws = (l, t) →
      s.accumulate f p n ws = t.setGang f (some (g.setBuf p.buf { (g.buf p.buf).updates 0 l with
      deg := ((g.buf p.buf).updates 0 l).deg + (if s.passDegraded (g.buf p.buf).dw p.t n then 1 else 0) })) ∧ l.length = n) ∧
  (∀ (s : State) (f : Nat) (g : Gang),
      s.gang f = some g →
      ((g.passes = [] ∧ (∀ m ∈ g.migrate, m.cycle < s.time.cycle)) → s.migrated f = g.migrate.foldl (fun t m =>
        (t.assign f g.code g.owner m.ctx m.dw m.live { (t.gang f).getD g with migrate := [] }).finishSeq m.seq .ok
          [BitVec.ofNat 32 ((t.assign f g.code g.owner m.ctx m.dw m.live { (t.gang f).getD g with migrate := [] }).fld (F.PAN_STAT.PEPOCH f))]) s) ∧
    (g.passes ≠ [] ∨ (∃ m ∈ g.migrate, s.time.cycle ≤ m.cycle) → s.migrated f = s)) ∧
  (∀ (s : State) (f : Fin 8) (ws : List (BitVec 16)),
      s.runs = true →
      (s.gang f = none ∨ ∃ g, s.gang f = some g ∧ g.passes = []) →
      exec (.panPassComplete f ws) s = .next (s.keep s)) ∧
  (∀ (b : PanBuf) (q : Nat) (x : Int),
      (x = -32768 → b.update q x = { b with inv := satNat (2 ^ 32 - 1) (b.inv + 1) }) ∧
    (x ≠ -32768 → asgMode b.dw = 0 → SMap.get (clearedCell 0) b.cells q ≠ 0x80000000#32 →
      b.update q x = { b with cells := SMap.set (clearedCell 0) b.cells q (SMap.get (clearedCell 0) b.cells q + BitVec.ofInt 32 x) }) ∧
    (x ≠ -32768 → asgMode b.dw = 0 → SMap.get (clearedCell 0) b.cells q = 0x80000000#32 → b.update q x = b)) ∧
  (∀ (s u : State) (r : Fin 64) (d : Desc) (f b : Nat) (g : Gang) (clear : Bool) (data : List Word),
      s.runs = true →
      s.running r 0x33 = some d ∧ s.gangWhere (fun g => g.harvests.any (fun e => e.1 == d.seq)) = some (f, g) →
      g.harvests.find? (fun e => e.1 == d.seq) = some (d.seq, b, clear) →
      (g.buf b).header f g.code b ++ (g.buf b).cellList = data →
      ((((s.postData (s.ringOwner r) (dw64 d.dw 4) data).flushReads (s.ringOwner r) (dw64 d.dw 4) (4 * data.length)).setGang f (some { g with harvests := g.harvests.filter (fun e => e.1 != d.seq) })).finish d .ok [BitVec.ofNat 32 (g.buf b).bytes]) = u →
      (s.busMasterOn (s.ringOwner r) = true → exec (.panHarvestComplete r) s = .next (s.keep (if clear then u.freeBuf f b else u))) ∧
    (s.busMasterOn (s.ringOwner r) = false → exec (.panHarvestComplete r) s = .next (s.keep s))) ∧
  (∀ (s : State) (r : Fin 64),
      s.runs = true →
      s.running r 0x33 = none →
      exec (.panHarvestComplete r) s = .next (s.keep s)) ∧
  (∀ (s : State) (r : Fin 64) (d : Desc) (f b q : Nat) (g : Gang),
      s.runs = true →
      s.running r 0x35 = some d ∧ s.gangWhere (fun g => g.clears.any (fun e => e.1 == d.seq)) = some (f, g) →
      g.clears.find? (fun e => e.1 == d.seq) = some (q, b) →
      exec (.panClearComplete r) s = .next (s.keep
      (((s.setGang f (some { g with clears := g.clears.filter (fun e => e.1 != d.seq) })).freeBuf f b).finish d .ok []))) ∧
  (∀ (s : State) (r : Fin 64) (fails : List Nat) (q rg m : Nat),
      s.runs = true →
      s.pan.tests.find? (fun e => e.2.1 == r.val) = some (q, rg, m) →
      exec (.panSelftestComplete r fails) s = .next (s.keep
      ((((bitsSet m 8).foldl (fun (t : State) (k : Nat) => t.panTested k (fails.getD k 0)) { s with pan := { s.pan with tests := s.pan.tests.filter (fun e => e.1 != q) } }).raisePF 195
        (m + 2 ^ 8 * bitsOf ((bitsSet m 8).filter (fun k => fails.getD k 0 != 0)))).finishSeq q .ok
        [BitVec.ofNat 32 m, BitVec.ofNat 32 (bitsOf ((bitsSet m 8).filter (fun k => fails.getD k 0 != 0)))]))) ∧
  (∀ (s u : State) (k : Fin 8) (bank : Fin 48) (cell : Fin 43692) (dbl : Bool),
      s.runs = true →
      (if dbl then (((s.bumpSat (F.PAN_ECC.UNCORR k) 1).setFlag (F.PAN_FLAGS.ECC_UNC k) true).raise 194 (k + 8 * bank) (s.routeGang k)).fault 0x010F k else ((s.bumpSat (F.PAN_ECC.CORR k) 1).setFlag (F.PAN_FLAGS.ECC_CORR k) true).fault 0x0009 k) = u →
      (u.gangOf k = none → exec (.panCellEccError k bank cell dbl) s = .next (s.keep u)) ∧
    (∀ f g b c, u.gangOf k = some (f, g) → cellPlace g (u.splitBanks f g) f k bank cell = (b, c) →
      exec (.panCellEccError k bank cell dbl) s = .next (s.keep (u.setGang f (some (g.setBuf b (if dbl then { g.buf b with
        eccU := (g.buf b).eccU + 1
        cells := if Nat.blt c (asgPoints (g.buf b).dw * asgRows (g.buf b).dw) then
          SMap.set (clearedCell (asgMode (g.buf b).dw)) (g.buf b).cells c 0x80000000#32 else (g.buf b).cells }
        else { g.buf b with eccC := (g.buf b).eccC + 1 })))))))

/-- A hash mask is written only while no partition is valid (else HASH_DISCARD). A partition register in use keeps its
value; an accepted write shows NO_SPILL; one that breaks R284 on an invalid partition is stored with VALID cleared and
ERR set, and on a valid one is discarded with ERR. A panic of a port ends where it is not to panic, and is to panic
only on ports 0 to 6 with PANIC_EN that hold a request: at a wait of PANIC_THR or more, on the prefetch ports at a
fill below it; it starts where none runs, counts, and raises E206 once on a real-time port. A command slot of an
active PC serves a bank over its limit, else a panicking real-time port, else any panicking port, else a bank due
whose PC's requests are for other banks, else the round of the ports, else a bank due; with the stacks not active or a
memory clock change in progress it serves nothing. A port issues its oldest write of the PC before its oldest read.
Whole next states. -/
def Obligations.MemoryConfiguration : Prop :=
  (∀ (s : State) (j : Fin 10) (v : Word),
      s.runs = true →
      s.reachable (hashFld j).off = true →
      ((List.range 16).any s.ptValid = true → exec (.memHashWrite j v) s = .next (s.keep (s.setFlag F.MEM_STAT.HASH_DISCARD true))) ∧
    ((List.range 16).any s.ptValid = false → exec (.memHashWrite j v) s = .next (s.keep
      ((s.setFld (hashFld j) (getBits v 0 20)).showXlate)))) ∧
  (∀ (s u : State) (k : Fin 16) (r : Fin 3) (v : Word) (good : Bool),
      s.runs = true →
      s.reachable (R.MEM_PT_BASE k) = true →
      s.plainWrite (R.MEM_PT_BASE k + 4 * r.val) v = u →
      s.ptGood k (u.ptBase k) (u.ptLen k) (u.reg (R.MEM_PT_CFG k)).toNat = good →
      (s.ptInUse k = true → exec (.memPtWrite k r v) s = .next (s.keep s)) ∧
    (s.ptInUse k = false → (u.ptValid k = false ∨ good = true) → exec (.memPtWrite k r v) s = .next (s.keep u.showSpill)) ∧
    (s.ptInUse k = false → u.ptValid k = true → good = false → s.ptValid k = true →
      exec (.memPtWrite k r v) s = .next (s.keep (s.setFlag (F.MEM_PT_CFG.ERR k) true))) ∧
    (s.ptInUse k = false → u.ptValid k = true → good = false → s.ptValid k = false →
      exec (.memPtWrite k r v) s = .next (s.keep ((u.setFlag (F.MEM_PT_CFG.VALID k) false).setFlag (F.MEM_PT_CFG.ERR k) true)))) ∧
  (∀ (s u : State) (p : Fin 8) (m : Option Nat),
      s.runs = true →
      (s.setFlag (F.MEM_PORT_STAT.PANIC p) true).bump (R.MEM_PORT_PANICS p) = u →
      (s.mustPanic p m = false → exec (.portPanic p m) s = .next (s.keep (s.setFlag (F.MEM_PORT_STAT.PANIC p) false))) ∧
    (s.mustPanic p m = true → s.panics p = false → exec (.portPanic p m) s = .next (s.keep
      (if p.val < 4 then u.raiseOnce (F.MEM_PORT_STAT.PANIC_SEEN p) 206 p routePF else u))) ∧
    (s.mustPanic p m = true → s.panics p = true → exec (.portPanic p m) s = .next (s.keep s)) ∧
    (s.mustPanic p m = true ↔ p.val ≠ 7 ∧ s.flag (F.MEM_PORT_CTL.PANIC_EN p) = true ∧ ∃ x, m = some x ∧
      (if p.val = 2 ∨ p.val = 3 then x < s.fld (F.MEM_PORT_CTL.PANIC_THR p) else s.fld (F.MEM_PORT_CTL.PANIC_THR p) ≤ x))) ∧
  (∀ (s : State) (pc : Fin 64) (wait : Nat) (ov rt anyp idle due : Option Nat) (round : Option (Nat × State)) (busy : List Nat),
      s.runs = true →
      (List.range 48).find? (fun b => Nat.blt (s.fld (limitFld (pc.val / 32))) (s.refCount pc b)) = ov →
      s.firstPort ((s.portsFor pc).filter (fun p => Nat.blt p 4 && s.panics p)) = rt ∧ s.firstPort ((s.portsFor pc).filter s.panics) = anyp →
      (s.bufferedLines.map (·.1) ++ s.mem.reads.map (·.line)).filterMap (fun l => if s.pcOf l == pc.val then some (s.bank48 l) else none) = busy →
      (List.range 48).find? (fun b => s.refCount pc b != 0 && !(busy.contains b)) = idle ∧ (List.range 48).find? (fun b => s.refCount pc b != 0) = due →
      s.roundPort pc (s.portsFor pc) = round →
      (s.clk.memNext = none → s.memActive = true → exec (.commandSlot pc wait) s = .next (s.keep
      (match ov, rt, anyp, idle, round, due with
        | some b, _, _, _, _, _ => s.refreshBank pc b
        | none, some p, _, _, _, _ => s.issue pc p wait
        | none, none, some p, _, _, _ => s.issue pc p wait
        | none, none, none, some b, _, _ => s.refreshBank pc b
        | none, none, none, none, some r, _ => r.2.issue pc r.1 wait
        | none, none, none, none, none, some b => s.refreshBank pc b
        | none, none, none, none, none, none => s))) ∧
    (s.clk.memNext ≠ none ∨ s.memActive = false → exec (.commandSlot pc wait) s = .next (s.keep s))) ∧
  (∀ (s : State) (pc p wait : Nat) (slots : List WbSlot) (e : Nat × Nat),
      (s.waitingLines pc).find? (fun e => e.2 == p) = some e →
      (s.mem.slots.foldl (fun (a : List WbSlot × Bool) x => if !a.2 && x.group == e.1 / 16 && x.lines.contains (e.1 % 16, p) then (a.1 ++ [{ x with lines := x.lines.filter (fun y => y != (e.1 % 16, p)), draining := true }], true) else (a.1 ++ [x], a.2)) ([], false)).1.filter (fun x => !x.lines.isEmpty) = slots →
      s.issue pc p wait = ((({ s with mem := { s.mem with slots := slots } }).showOcc.noteWait p wait).admitLines 16).admitBulk 64) ∧
  (∀ (s : State) (pc p wait : Nat) (r : MemRead),
      (s.waitingLines pc).find? (fun e => e.2 == p) = none →
      (s.waitingReads pc).find? (fun r => r.port == p) = some r →
      s.issue pc p wait = (({ s with mem := { s.mem with reads := s.mem.reads.erase r } }).noteWait p wait).readDone r)

/-- An interval of an active stack raises its refresh counts and checks for a catch-up. Above 85 degrees a stack
becomes hot with limit 4 and E199; below 82 it becomes normal with limit 8. Idle conditions met, the stacks enter
self-refresh with E201; a request brings them out with E202 but for the fault case. A retraining step writes a test
line, takes the setting found or counts a failure, and the 32nd ends it; it waits for a catch-up, a panicking port and
a real-time request of its PC, and runs only where retraining may. Errors of lines count, are logged, raise events and
faults, and an uncorrectable line is poison. Whole next states. -/
def Obligations.RefreshAndTraining : Prop :=
  (∀ (s u : State) (k : Fin 2),
      s.runs = true →
      { s with mem := { s.mem with refBase := SMap.set zero s.mem.refBase k (SMap.get zero s.mem.refBase k + 1) } } = u →
      (s.memActive = true → exec (.refreshInterval k) s = .next (s.keep ((if u.fld (maxoutFld k) < satNat 15 (u.refMax k) then
        u.setFld (maxoutFld k) (satNat 15 (u.refMax k)) else u).checkCatchup k))) ∧
    (s.memActive = false → exec (.refreshInterval k) s = .next (s.keep s))) ∧
  (∀ (s u : State) (k : Fin 2) (x : BitVec 8),
      s.runs = true →
      s.setFld (tempFld k) x.toNat = u →
      (u.flag (hotFld k) = false → 85 < signed 8 x.toNat → exec (.stackTempRead k x) s = .next (s.keep
        ((((u.setFlag (hotFld k) true).setFld (limitFld k) 4).raisePF 199 (k + 2)).checkCatchup k))) ∧
    (u.flag (hotFld k) = true → signed 8 x.toNat < 82 → exec (.stackTempRead k x) s = .next (s.keep
        (((u.setFlag (hotFld k) false).setFld (limitFld k) 8).raisePF 199 k))) ∧
    ((u.flag (hotFld k) = false ∧ signed 8 x.toNat ≤ 85) ∨ (u.flag (hotFld k) = true ∧ 82 ≤ signed 8 x.toNat) →
      exec (.stackTempRead k x) s = .next (s.keep u))) ∧
  (∀ (s : State) (idle : Bool),
      s.runs = true →
      (s.flag F.MEM_CTL.SR_AUTO && s.memActive && !s.anyArmed && !s.playing && !s.memRequested && !(s.flag F.CLK_STAT.RATE_CHANGING)) = idle →
      (idle = true → exec .selfRefreshEntry s = .next (s.keep
        ((((s.clearCounts.setFlag F.MEM_STAT.SR true).setFlag F.MEM_STAT.ACTIVE false).bump R.MEM_SR_COUNT).raisePF 201 0).wakeRings)) ∧
    (idle = false → exec .selfRefreshEntry s = .next (s.keep s))) ∧
  (∀ (s : State),
      s.runs = true →
      (s.flag F.MEM_STAT.SR = true → s.flag F.MEM_STAT.SR_FAULT = false → exec .selfRefreshExit s = .next (s.keep
        (((((s.clearCounts.setFlag F.MEM_STAT.SR false).setFlag F.MEM_STAT.SR_FAULT false).setFlag F.MEM_STAT.ACTIVE
          true).raisePF 202 0).wakeRings.bar4Serve))) ∧
    (s.flag F.MEM_STAT.SR = false ∨ s.flag F.MEM_STAT.SR_FAULT = true → exec .selfRefreshExit s = .next (s.keep s))) ∧
  (∀ (s u v : State) (found : Option Int) (pc : Nat),
      s.runs = true →
      s.canTrain = true ∧ s.flag F.MEM_CTL.RETRAIN_EN = true ∧ s.mem.offsetPc = none →
      s.mem.trnPc.getD s.nextPc = pc ∧ s.stepWaits pc = false →
      (if s.mem.trnPc.isNone && pc == s.fld F.MEM_TRN_STAT.NEXT_PC then s.setFld F.MEM_TRN_STAT.NEXT_PC (pc + 1) else s) = u →
      (match found with | some x => (({ u with mem := { u.mem with trnPc := some pc, trnStep := s.mem.trnStep + 1 } }).testLine pc s.mem.trnStep).trainSet pc s.mem.trnStep x | none => (({ u with mem := { u.mem with trnPc := some pc, trnStep := s.mem.trnStep + 1 } }).testLine pc s.mem.trnStep).trainFail pc) = v →
      exec (.retrainStep found) s = .next (s.keep (if s.mem.trnStep + 1 = 32 then v.trainDone pc else v))) ∧
  (∀ (s : State) (found : Option Int) (l : List (Option Int)),
      s.runs = true →
      (s.canTrain = false ∨ s.flag F.MEM_CTL.RETRAIN_EN = false ∨ s.mem.offsetPc ≠ none ∨ s.stepWaits (s.mem.trnPc.getD s.nextPc) = true →
      exec (.retrainStep found) s = .next (s.keep s)) ∧
    (s.mem.offsetPc = none ∨ s.canTrain = false → exec (.loadOffsetRetrain l) s = .next (s.keep s)) ∧
    (s.canTrain = true ↔ s.memActive = true ∧ s.clk.memNext = none ∧ s.flag F.CLK_STAT.MEM_BACKUP = false ∧
      ¬(s.flag F.CLK_STAT.BYPASS = true ∧ s.flag F.MEM_STAT.SR_FAULT = true) ∧ ∃ k, s.spill = some k)) ∧
  (∀ (s u : State) (found : List (Option Int)) (pc : Nat),
      s.runs = true →
      s.mem.offsetPc = some pc ∧ s.canTrain = true →
      (s.each (List.range 32) (fun t c => match found.getD c none with | some x => (t.testLine pc c).offsetSet pc c x | none => (t.testLine pc c).trainFail pc)).trainDone pc = u →
      exec (.loadOffsetRetrain found) s = .next (s.keep (if pc < 63 then { u with mem := { u.mem with offsetPc := some (pc + 1) } }
      else ({ u with mem := { u.mem with offsetPc := none } }).setFlag F.MEM_STAT.OFFSETS true))) ∧
  (∀ (s u v w : State) (l : Nat) (p : Fin 8) (wd : Fin 4) (sy : BitVec 8),
      s.runs = true →
      l < memLines →
      (s.bumpSat F.MEM_ECC_CE.V 1).eccLog false l p wd sy.toNat = u →
      (if (match u.mem.eccAt with | some t => decide (t + millisecond ≤ u.time.elapsed) | none => true) then ({ u with mem := { u.mem with eccAt := some u.time.elapsed } }).raisePF 196 l else u) = v →
      v.fault 0x0007 (s.pcOf l) = w →
      exec (.hbmEccCorrected l p wd sy) s = .next (s.keep (if w.flag F.MEM_CTL.ECC_WB && !(w.inBuffer l) then w.buffer l 7 else w))) ∧
  (∀ (s u : State) (l : Nat) (p : Fin 8) (wd : Fin 4) (sy : BitVec 8),
      s.runs = true →
      l < memLines →
      ((s.bumpSat F.MEM_ECC_UE.V 1).raisePF 197 l).eccLog true l p wd sy.toNat = u →
      exec (.hbmEccUncorrectable l p wd sy) s = .next (s.keep ((if u.poisoned l then u
      else { u with mem := { u.mem with poison := u.place l :: u.mem.poison } }).fault 0x0105 (s.pcOf l))))

/-- A written line reads back its value, byte by byte, is no longer uncorrectable, and leaves every other byte alone;
a line marked uncorrectable reads as the poison line; a write beyond the last line changes nothing; a bulk write
stores exactly its bytes. Every write keeps the canonical form of memory. -/
def Obligations.CaptureMemoryLines : Prop :=
  (∀ (s : State) (p l x : Nat),
      l < memLines →
      (∀ i, i < 32 → (s.writeLine p l x).byteAt (32 * l + i) = BitVec.ofNat 8 (x / 256 ^ i)) ∧
    (∀ i, i < 32 * l ∨ 32 * l + 32 ≤ i → (s.writeLine p l x).byteAt i = s.byteAt i) ∧
    (s.writeLine p l x).readLine l = x % 2 ^ 256 ∧
    (s.poisoned l = true → s.readLine l = poisonLine)) ∧
  (∀ (s : State) (p l x : Nat) (w : BulkWrite) (i : Nat),
      (memLines ≤ l → s.writeLine p l x = s) ∧
    ((s.bulkWrite w).byteAt i = if w.addr ≤ i ∧ i < w.addr + w.bytes.length then w.bytes.getD (i - w.addr) 0 else s.byteAt i) ∧
    (Memory.wf s.mem.bytes = true → Memory.wf (s.writeLine p l x).mem.bytes = true ∧ Memory.wf (s.bulkWrite w).mem.bytes = true))

/-- Loss of the link, PERST_N and a reset of the PF leave every HIF register at its reset value but HIF_STAT, no
descriptor, no waiting completion and no bus master; loss of the link sets LINK_LOST and handles fault 0x0110.
Training sets the link up; a changed speed or width is stored and raises E037. Bus Master Enable decides whether
waiting completions are written. A VF reset marks the VF; its end unmarks it with E038. A window read is answered at
once with the stacks active and no line of it in a group that the write buffer holds, and waits else; a window write
outside partitions in use is admitted, else discarded with E039; the oldest read that waits in a fault self-refresh
ends with Completer Abort and E040. Whole next states. -/
def Obligations.LinkAndWindow : Prop :=
  (∀ (s u : State) (p : BitVec 64) (n : Nat),
      s.runs = true →
      (s.ringsLost p.toNat n []).hifReset true = u →
      (s.hif.linkUp = true → exec (.pcieLinkDown p n) s = .next (s.keep (({ u with hif := { u.hif with linkUp := false } }).fault 0x0110 0))) ∧
    (s.hif.linkUp = false → exec (.pcieLinkDown p n) s = .next (s.keep s)) ∧
    (∀ o, hifOffset o = true → o ≠ R.HIF_STAT → u.reg o = regReset o) ∧
    u.flag F.HIF_STAT.LINK_LOST = true ∧ u.hif.descs = [] ∧ u.hif.waiting = [] ∧ u.hif.busMaster = [] ∧ u.hif.harvests = []) ∧
  (∀ (s u v : State) (sp : Fin 16) (w : Fin 32),
      s.runs = true →
      (if s.hif.linkUp = false ∧ s.flag F.HIF_STAT.LINK_LOST = true then s.hifReset true else s) = u →
      ({ u with hif := { u.hif with linkUp := true } }) = v →
      (v.fld F.HIF_STAT.SPEED = sp ∧ v.fld F.HIF_STAT.WIDTH = w → exec (.pcieLinkUp sp w) s = .next (s.keep v)) ∧
    (v.fld F.HIF_STAT.SPEED ≠ sp ∨ v.fld F.HIF_STAT.WIDTH ≠ w → exec (.pcieLinkUp sp w) s = .next (s.keep
      (((v.setFld F.HIF_STAT.SPEED sp).setFld F.HIF_STAT.WIDTH w).raise 37 (sp + 2 ^ 8 * w) v.routeAll)))) ∧
  (∀ (s u : State),
      s.runs = true →
      (s.ringsLost 0 0 [0x42, 0x52]).hifReset true = u →
      exec .perstNPulse s = .next (s.keep { u with hif := { u.hif with linkUp := false } }) ∧
    (∀ o, hifOffset o = true → o ≠ R.HIF_STAT → u.reg o = regReset o) ∧
    u.hif.descs = [] ∧ u.hif.waiting = [] ∧ u.hif.busMaster = []) ∧
  (∀ (s u : State) (f v : Fin 9),
      s.runs = true →
      { s with hif := { s.hif with numVfs := if s.flag F.GLB_STAT.COMPAT_BALL then 0 else v } } = u →
      exec (.busMasterEnableChange f false v) s = .next (s.keep
      { u with hif := { u.hif with busMaster := s.hif.busMaster.filter (fun x => x != f.val) } }) ∧
    exec (.busMasterEnableChange f true v) s = .next (s.keep
      (({ u with hif := { u.hif with busMaster := f.val :: s.hif.busMaster.filter (fun x => x != f.val) } }).flushWaiting f))) ∧
  (∀ (s u : State) (f : Fin 9) (p : BitVec 64) (n : Nat),
      s.runs = true →
      (List.range 9).foldl (fun t g => t.funcReset g p.toNat n) s = u →
      (f.val = 0 → exec (.functionLevelReset f p n) s = .next (s.keep (u.hifReset (u.flag F.HIF_STAT.LINK_LOST)))) ∧
    (f.val ≠ 0 → f.val ≤ s.hif.numVfs → f.val ∉ s.hif.inFlr → exec (.functionLevelReset f p n) s = .next (s.keep
      (({ s with hif := { s.hif with inFlr := f.val :: s.hif.inFlr } }).funcReset f p.toNat n))) ∧
    (f.val ≠ 0 → s.hif.numVfs < f.val ∨ f.val ∈ s.hif.inFlr → exec (.functionLevelReset f p n) s = .next (s.keep s))) ∧
  (∀ (s : State) (f : Fin 9),
      s.runs = true →
      (f.val ∈ s.hif.inFlr → exec (.functionLevelResetDone f) s = .next (s.keep
      (({ s with hif := { s.hif with inFlr := s.hif.inFlr.filter (fun x => x != f.val) } }).raisePF 38 f))) ∧
    (f.val ∉ s.hif.inFlr → exec (.functionLevelResetDone f) s = .next (s.keep s))) ∧
  (∀ (s t : State) (o n a : Nat) (ls : List Nat),
      s.runs = true →
      32 * (s.fld F.HIF_BAR4_BASE.BASE * 2048) + o % 2 ^ 32 / 4 * 4 = a →
      (List.range (ceilDiv (a % 32 + 4 * n) 32)).map (· + a / 32) = ls →
      { s with mem := { s.mem with reads := s.mem.reads ++ (ls.filter s.hasEntry).map (fun l => ⟨6, l, .bar4 a n⟩) } } = t →
      (s.memActive = true → (∀ l ∈ ls, s.hasEntry l = false) → exec (.bar4Read o n) s = .next (s.keep { s with hif := { s.hif with
        reads := ⟨(List.range n).map (fun i => s.bar4Dword (a + 4 * i)), (List.range n).any (fun i => s.poisoned ((a + 4 * i) / 32)), false⟩ :: s.hif.reads } })) ∧
    (s.memActive = false ∨ (∃ l ∈ ls, s.hasEntry l = true) →
      exec (.bar4Read o n) s = .next (s.keep { t with hif := { t.hif with bar4 := t.hif.bar4 ++ [(a, n)] } }))) ∧
  (∀ (s : State) (o a : Nat) (data b : List Byte),
      s.runs = true →
      32 * (s.fld F.HIF_BAR4_BASE.BASE * 2048) + o % 2 ^ 32 = a →
      data.take (32 * memLines - a) = b →
      (b = [] → exec (.bar4Write o data) s = .next (s.keep s)) ∧
    (∀ l, b ≠ [] → s.firstInUse (a / 32) ((a + b.length - 1) / 32 - a / 32 + 1) = some l →
      exec (.bar4Write o data) s = .next (s.keep (s.raiseOnce F.HIF_STAT.BAR4_DISCARD 39 l routePF))) ∧
    (b ≠ [] → s.firstInUse (a / 32) ((a + b.length - 1) / 32 - a / 32 + 1) = none →
      exec (.bar4Write o data) s = .next (s.keep
        (({ s with mem := { s.mem with bulk := s.mem.bulk ++ [({ addr := a, bytes := b } : BulkWrite)] } }).admitBulk (s.mem.bulk.length + 1))))) ∧
  (∀ (s : State),
      s.runs = true →
      (∀ a n l, s.hif.bar4 = (a, n) :: l → s.flag F.MEM_STAT.SR_FAULT = true → exec .bar4ReadTimeout s = .next (s.keep
      (({ s with hif := { s.hif with bar4 := l, reads := ⟨[], false, true⟩ :: s.hif.reads }, mem := { s.mem with reads := s.mem.reads.filter (fun r => r.who != ReadFor.bar4 a n) } }).raisePF 40 (a / 32)))) ∧
    (s.hif.bar4 = [] ∨ s.flag F.MEM_STAT.SR_FAULT = false → exec .bar4ReadTimeout s = .next (s.keep s)))

/-- A write of EN=1 to an idle ring clears its pointers, sets its phase to 1 and shows RUNNING; refused, it shows only
WR_DISCARD. A write of ABORT with EN, and one that changes the set-up of a ring that is not idle, show only
WR_DISCARD; one that changes neither EN nor the set-up is stored, and with ABORT aborts a draining ring. A write of
EN=0 shows DRAINING; with ABORT it also ends every fetched descriptor. A ring drains when nothing of it is
outstanding, with E034. A doorbell write sets the tail, or returns slots and ends a CQ_STALL whose room there now is,
or counts an error. A fetch takes the descriptor, or shows FETCH_ERR with E033 or CQ_STALL with E035. MGMT_NOP
completes with tide time or BAD_DESCRIPTOR. A completion is written dword 0 last with the ring's phase. Whole next
states. -/
def Obligations.DescriptorRings : Prop :=
  (∀ (s u : State) (f : Fin 9) (r : Fin 64) (v w : Word),
      s.runs = true →
      s.ringValue f r (v ||| 0x80000000#32) = w →
      (f.val = 0 ∨ f.val = s.ringOwner r) ∧ s.ringEn r = false →
      ((((s.plainWrite (R.HIF_RING_CTL r) w).setReg (R.HIF_RING_PTR r) 0).setFlag (F.HIF_RING_STAT.PHASE r) true).setFlag (F.HIF_RING_STAT.FETCH_ERR r) false).setFlag (F.HIF_RING_STAT.RUNNING r) true = u →
      (getBits w 30 1 = 0 → s.enableRefused r w = false →
      exec (.ringEnable f r v) s = .next (s.keep { u.setFlag F.GLB_STAT.RING_SEEN true with hif := { u.hif with
        sqTail := SMap.set zero u.hif.sqTail r 0, cqHead := SMap.set zero u.hif.cqHead r 0
        cqUsed := SMap.set zero u.hif.cqUsed r 0, uncovered := SMap.set zero u.hif.uncovered r 0
        coverAt := SMap.erase u.hif.coverAt r } })) ∧
    (getBits w 30 1 = 1 ∨ s.enableRefused r w = true →
      exec (.ringEnable f r v) s = .next (s.keep (s.setFlag (F.HIF_RING_STAT.WR_DISCARD r) true)))) ∧
  (∀ (s : State) (f : Fin 9) (r : Fin 64) (v : Word) (p : BitVec 64) (n : Nat),
      s.runs = true →
      f.val ≠ 0 ∧ f.val ≠ s.ringOwner r →
      exec (.ringEnable f r v) s = .next (s.keep s) ∧ exec (.ringDisable f r v) s = .next (s.keep s) ∧
    exec (.ringAbort f r v p n) s = .next (s.keep s)) ∧
  (∀ (s : State) (f : Fin 9) (r : Fin 64) (y a v : Word) (p : BitVec 64) (n k m : Nat) (c : Instr),
      s.runs = true →
      (c = .ringEnable f r y ∧ a = y ||| 0x80000000#32 ∧ k = 0 ∧ m = 0) ∨ (c = .ringDisable f r y ∧ a = y &&& 0x3FFFFFFF#32 ∧ k = 0 ∧ m = 0) ∨ (c = .ringAbort f r y p n ∧ a = putBits y 30 2 1 ∧ k = p.toNat ∧ m = n) →
      s.ringValue f r a = v →
      f.val = 0 ∨ f.val = s.ringOwner r →
      ((getBits v 30 1 = 1 ∧ getBits v 31 1 = 1) ∨ (s.ringIdle r = false ∧ ((v ^^^ s.reg (R.HIF_RING_CTL r)) &&& ringSetup) ≠ 0) →
      exec c s = .next (s.keep (s.setFlag (F.HIF_RING_STAT.WR_DISCARD r) true))) ∧
    (getBits v 30 1 ≠ 1 → getBits v 31 1 = 1 → s.ringEn r = true → ((v ^^^ s.reg (R.HIF_RING_CTL r)) &&& ringSetup) = 0 →
      exec c s = .next (s.keep (s.plainWrite (R.HIF_RING_CTL r) v))) ∧
    (getBits v 31 1 ≠ 1 → s.ringEn r = false → s.ringIdle r = true ∨ ((v ^^^ s.reg (R.HIF_RING_CTL r)) &&& ringSetup) = 0 →
      exec c s = .next (s.keep (if getBits v 30 1 = 1 ∧ s.flag (F.HIF_RING_STAT.DRAINING r) = true then s.ringAbort r k m
        else s.plainWrite (R.HIF_RING_CTL r) v)))) ∧
  (∀ (s u v x : State) (f : Fin 9) (r : Fin 64) (y z : Word) (p : BitVec 64) (n : Nat),
      s.runs = true →
      (f.val = 0 ∨ f.val = s.ringOwner r) ∧ s.ringEn r = true →
      ((s.ringValue f r (y &&& 0x3FFFFFFF#32) ^^^ s.reg (R.HIF_RING_CTL r)) &&& ringSetup) = 0 →
      s.ringValue f r (putBits y 30 2 1) = z ∧ ((z ^^^ s.reg (R.HIF_RING_CTL r)) &&& ringSetup) = 0 →
      (((s.plainWrite (R.HIF_RING_CTL r) (s.ringValue f r (y &&& 0x3FFFFFFF#32))).setFlag (F.HIF_RING_STAT.RUNNING r) false).setFlag (F.HIF_RING_STAT.CQ_STALL r) false).setFlag (F.HIF_RING_STAT.DRAINING r) true = u →
      (((s.plainWrite (R.HIF_RING_CTL r) z).setFlag (F.HIF_RING_STAT.RUNNING r) false).setFlag (F.HIF_RING_STAT.CQ_STALL r) false).setFlag (F.HIF_RING_STAT.DRAINING r) true = v →
      (({ v with hif := { v.hif with abortedRings := if v.hif.abortedRings.contains r.val then v.hif.abortedRings else r.val :: v.hif.abortedRings } }).setFlag (F.HIF_RING_STAT.ABORTING r) true).abortAll r p.toNat n [] = x →
      exec (.ringDisable f r y) s = .next (s.keep (if u.ringClear r then u.drainEnd r else u)) ∧
    exec (.ringAbort f r y p n) s = .next (s.keep (if x.ringClear r then x.drainEnd r else x))) ∧
  (∀ (s : State) (r p n : Nat) (d e : Desc),
      s.descOf d.seq = some e →
      s.ringDiscard r = s.setFlag (F.HIF_RING_STAT.WR_DISCARD r) true ∧
    (e.started = false → s.abortOne p n d = s.finish e .aborted []) ∧
    (e.started = true → s.abortOne p n d = s.abortStarted p n e) ∧
    (s.descOf d.seq = none → s.abortOne p n d = s)) ∧
  (∀ (s u : State) (r : Fin 64),
      s.runs = true →
      (s.setFlag (F.HIF_RING_STAT.DRAINING r) false).setFlag (F.HIF_RING_STAT.ABORTING r) false = u →
      (s.flag (F.HIF_RING_STAT.DRAINING r) = true → (∀ d ∈ s.hif.descs, d.ring ≠ r.val) → (∀ w ∈ s.hif.waiting, w.ring ≠ r.val) →
      exec (.ringDrained r) s = .next (s.keep
        (({ u with hif := { u.hif with abortedRings := s.hif.abortedRings.filter (fun x => x != r.val) } }).raise 34
          (r + (if r.val ∈ s.hif.abortedRings then 2 ^ 8 else 0)) (s.routeRing r)))) ∧
    (s.flag (F.HIF_RING_STAT.DRAINING r) = false ∨ (∃ d ∈ s.hif.descs, d.ring = r.val) ∨ (∃ w ∈ s.hif.waiting, w.ring = r.val) →
      exec (.ringDrained r) s = .next (s.keep s))) ∧
  (∀ (s : State) (f : Fin 9) (r : Fin 64) (v : Word),
      s.runs = true →
      (f.val = s.ringOwner r → v.toNat < s.ringSize r → s.ringType r ≠ 2 → s.ringEn r = true →
      exec (.sqTailDoorbell f r v) s = .next (s.keep { s with hif := { s.hif with sqTail := SMap.set zero s.hif.sqTail r v.toNat } })) ∧
    (f.val = s.ringOwner r → s.ringSize r ≤ v.toNat ∨ s.ringType r = 2 ∨ s.ringEn r = false →
      exec (.sqTailDoorbell f r v) s = .next (s.keep (((s.bump R.HIF_DBERR_COUNT).setFlag (F.HIF_RING_STAT.DB_ERR r) true).raise 32
        (r + f * 2 ^ 16) ((s.bump R.HIF_DBERR_COUNT).routeRing r)))) ∧
    (f.val ≠ s.ringOwner r → exec (.sqTailDoorbell f r v) s = .next (s.keep ((s.bump R.HIF_DBERR_COUNT).raisePF 32 (r + f * 2 ^ 16))))) ∧
  (∀ (s u : State) (f : Fin 9) (r : Fin 64) (v : Word) (n : Nat),
      s.runs = true →
      (v.toNat + s.ringSize r - SMap.get zero s.hif.cqHead r) % s.ringSize r = n →
      { s with hif := { s.hif with cqHead := SMap.set zero s.hif.cqHead r v.toNat, cqUsed := SMap.set zero s.hif.cqUsed r (SMap.get zero s.hif.cqUsed r - n) } } = u →
      (f.val = s.ringOwner r → v.toNat < s.ringSize r → n ≤ SMap.get zero s.hif.cqUsed r →
      exec (.cqHeadDoorbell f r v) s = .next (s.keep (if SMap.get zero u.hif.stalls r ≤ u.cqRoom r then u.setFlag (F.HIF_RING_STAT.CQ_STALL r) false else u))) ∧
    (f.val = s.ringOwner r → s.ringSize r ≤ v.toNat ∨ SMap.get zero s.hif.cqUsed r < n →
      exec (.cqHeadDoorbell f r v) s = .next (s.keep (((s.bump R.HIF_DBERR_COUNT).setFlag (F.HIF_RING_STAT.DB_ERR r) true).raise 32
        (r + 2 ^ 8 + f * 2 ^ 16) ((s.bump R.HIF_DBERR_COUNT).routeRing r)))) ∧
    (f.val ≠ s.ringOwner r →
      exec (.cqHeadDoorbell f r v) s = .next (s.keep ((s.bump R.HIF_DBERR_COUNT).raisePF 32 (r + 2 ^ 8 + f * 2 ^ 16))))) ∧
  (∀ (s u v : State) (r : Fin 64) (err : Bool) (ws : List Word) (d : Desc),
      s.runs = true →
      ({ ring := r, seq := s.hif.nextSeq, dw := ((ws ++ List.replicate 16 0).take (if s.ringV1 r then 8 else 16) ++ List.replicate 8 0).take 16, started := false, refused := none } : Desc) = d →
      (s.setFld (F.HIF_RING_PTR.SQ_HEAD r) ((s.fld (F.HIF_RING_PTR.SQ_HEAD r) + 1) % s.ringSize r)).setFlag (F.HIF_RING_STAT.CQ_STALL r) false = u →
      { u with hif := { u.hif with nextSeq := s.hif.nextSeq + 1, descs := s.hif.descs ++ [{ d with refused := s.fetchRefusal r d }] } } = v →
      (s.mayFetch r = false → exec (.descriptorFetch r err ws) s = .next (s.keep s)) ∧
    (s.mayFetch r = true → err = true → exec (.descriptorFetch r err ws) s = .next (s.keep
      ((s.setFlag (F.HIF_RING_STAT.FETCH_ERR r) true).raise 33 r (s.routeRing r)))) ∧
    (s.mayFetch r = true → err = false → s.cqRoom r < s.slotsOf r (getBits (dwAt ws 0) 0 8) →
      exec (.descriptorFetch r err ws) s = .next (s.keep (({ s with hif := { s.hif with stalls := SMap.set zero s.hif.stalls r (s.slotsOf r (getBits (dwAt ws 0) 0 8)) } }).raiseOnce
        (F.HIF_RING_STAT.CQ_STALL r) 35 r (s.routeRing r)))) ∧
    (s.mayFetch r = true → err = false → s.slotsOf r (getBits (dwAt ws 0) 0 8) ≤ s.cqRoom r →
      exec (.descriptorFetch r err ws) s = .next (s.keep (match s.fetchRefusal r d with
        | some code => if v.isHarvRing r then v.flushRefused r 8 else v.completeCode { d with refused := some code } code []
        | none => v.showHeld r)))) ∧
  (∀ (s : State) (r : Fin 64),
      s.runs = true →
      (s.flag (F.HIF_RING_IRQ.IRQ_EN r) = true → s.coalDue r = true →
      s.busMasterOn (s.ringOwner r) = true → s.fld (F.HIF_RING_IRQ.VECTOR r) ≤ (if s.ringOwner r = 0 then 63 else 7) →
      exec (.irqCoalTimer r) s = .next (s.keep { s with hif := { s.hif with
        msix := (s.ringOwner r, s.fld (F.HIF_RING_IRQ.VECTOR r)) :: s.hif.msix, uncovered := SMap.set zero s.hif.uncovered r 0
        coverAt := SMap.erase s.hif.coverAt r } })) ∧
    (s.flag (F.HIF_RING_IRQ.IRQ_EN r) = true → s.coalDue r = true →
      s.busMasterOn (s.ringOwner r) = true → (if s.ringOwner r = 0 then 63 else 7) < s.fld (F.HIF_RING_IRQ.VECTOR r) →
      exec (.irqCoalTimer r) s = .next (s.keep (s.raiseOnce (F.HIF_RING_STAT.VEC_ERR r) 41 r (s.routeRing r)))) ∧
    (s.flag (F.HIF_RING_IRQ.IRQ_EN r) = false ∨ s.coalDue r = false ∨ s.busMasterOn (s.ringOwner r) = false →
      exec (.irqCoalTimer r) s = .next (s.keep s)) ∧
    (s.coalDue r = true ↔ s.fld (F.HIF_RING_IRQ.COAL_TIME r) ≠ 0 ∧ SMap.get zero s.hif.uncovered r ≠ 0 ∧
      s.fld (F.HIF_RING_IRQ.COAL_TIME r) * 2 ^ 64 ≤ (s.time.elapsed - SMap.get zero s.hif.coverAt r) * 1000000)) ∧
  (∀ (s : State) (w : Waiting),
      (w.ext = false → (s.writeCompletion w).hif.writes =
      { func := s.ringOwner w.ring, addr := s.cqSlot w.ring (s.fld (F.HIF_RING_PTR.CQ_TAIL w.ring)) 32
        data := [putBits (dwAt w.dw 0) 31 1 (s.fld (F.HIF_RING_STAT.PHASE w.ring))] } ::
      { func := s.ringOwner w.ring, addr := s.cqSlot w.ring (s.fld (F.HIF_RING_PTR.CQ_TAIL w.ring)) 32 + 4
        data := (w.dw.drop 1).take 7 } :: s.hif.writes) ∧
    (w.ext = true → (s.writeCompletion w).hif.writes =
      { func := s.ringOwner w.ring, addr := s.cqSlot w.ring (s.fld (F.HIF_RING_PTR.CQ_TAIL w.ring)) 32
        data := [putBits (dwAt w.dw 0) 31 1 (s.fld (F.HIF_RING_STAT.PHASE w.ring))] } ::
      { func := s.ringOwner w.ring
        addr := s.cqSlot w.ring ((s.fld (F.HIF_RING_PTR.CQ_TAIL w.ring) + 1) % s.ringSize w.ring) 32, data := (w.dw.drop 8).take 8 } ::
      { func := s.ringOwner w.ring, addr := s.cqSlot w.ring (s.fld (F.HIF_RING_PTR.CQ_TAIL w.ring)) 32 + 4
        data := (w.dw.drop 1).take 7 } :: s.hif.writes))

/-- Completing a descriptor of a ring changes no block but the host interface and the event unit: capture memory, the
acquisition contexts, the clocks and every other block keep what they hold; every register outside the HIF block keeps
its value but the SEEN bit of event 41 and the count of discarded records; running harvests, waiting releases, host
reads, the link, Bus Master Enable and the doorbells stay; no descriptor becomes outstanding, and the completed one is
outstanding no longer. -/
def Obligations.CompletionFrame : Prop :=
  ∀ (s : State) (d : Desc) (st : Status) (p : List Word),
    d.ring < 64 →
    { s.finish d st p with regs := s.regs, hif := s.hif, evt := s.evt } = s ∧
    (∀ o, hifOffset o = false → o ∉ evtRegs 41 → (s.finish d st p).reg o = s.reg o) ∧
    (s.finish d st p).hif.harvests = s.hif.harvests ∧ (s.finish d st p).hif.releases = s.hif.releases ∧
    (s.finish d st p).hif.bar4 = s.hif.bar4 ∧ (s.finish d st p).hif.reads = s.hif.reads ∧
    (s.finish d st p).hif.linkUp = s.hif.linkUp ∧ (s.finish d st p).hif.busMaster = s.hif.busMaster ∧
    (s.finish d st p).hif.sqTail = s.hif.sqTail ∧ (s.finish d st p).hif.cqHead = s.hif.cqHead ∧
    (∀ e ∈ (s.finish d st p).hif.descs, e ∈ s.hif.descs ∧ e.seq ≠ d.seq)

/-- MGMT_NOP with context 15 and dwords 2 to 15 all zero completes OK with the low 64 bits of tide time, as an event
record holds them, in dwords 2 and 3 of its completion; with a reserved bit at 1 it completes BAD_DESCRIPTOR. With
FENCE=1 it does not start while an earlier descriptor of its ring is outstanding, so it completes after every one of
them has completed and its completion has been written. Whole next states. -/
def Obligations.RingNop : Prop :=
  (∀ (s : State) (r : Fin 64) (d : Desc),
      s.starts r 0x60 d = true →
      (d.context = 15 → (∀ i, 2 ≤ i → i < 16 → dwAt d.dw i = 0) → exec (.mgmtNop r) s = .next (s.keep
        ((s.begin r d).finish d.begun .ok [lo32 (s.begin r d).now,
          BitVec.ofNat 32 ((s.begin r d).now / 2 ^ 40 % 2 ^ 24 * 2 ^ 8 + (s.begin r d).now / 2 ^ 32 % 2 ^ 8)]))) ∧
    ((d.context ≠ 15 ∨ ∃ i, 2 ≤ i ∧ i < 16 ∧ dwAt d.dw i ≠ 0) → exec (.mgmtNop r) s = .next (s.keep
        ((s.begin r d).finish d.begun .badDescriptor [])))) ∧
  (∀ (s : State) (r : Fin 64) (d : Desc),
      s.runs = true →
      s.headOf r = some d ∧ d.fence = true →
      ((∃ e ∈ s.hif.descs, e.ring = r.val ∧ e.seq < d.seq) ∨ (∃ w ∈ s.hif.waiting, w.ring = r.val ∧ w.seq < d.seq)) →
      exec (.mgmtNop r) s = .next (s.keep s))

/-- An event that arises sets its bit in EVT_SEEN. With its enable bit 1, one record is formed for each function of
its route (and of the mirror), with the tide time of the core cycle, and enters the queue in that order; with its
enable bit 0 nothing but the SEEN bit changes, so no record is formed, nothing is counted as lost, and there is
nothing that a later enabling could deliver. A record enters a queue of fewer than 255 records whole, and raising an
event changes no block but the event unit. -/
def Obligations.EventsArise : Prop :=
  (∀ (s : State) (e q : Nat) (fns : List Nat) (x : Option Nat),
      (s.raiseX e q fns x).seen e = true) ∧
  (∀ (s u : State) (e q : Nat) (fns : List Nat) (x : Option Nat),
      e < 288 →
      s.setFlag (seenBit e) true = u →
      (s.flag (enBit e) = false → s.raiseX e q fns x = u) ∧
    (s.flag (enBit e) = true → (u.evt.queue.length + (u.mirrored fns).length ≤ 255) →
      s.raiseX e q fns x = { u with evt := { u.evt with
        queue := u.evt.queue ++ (u.mirrored fns).map (fun f => ⟨e, BitVec.ofNat 32 q, s.now % 2 ^ 64, f, x, s.time.cycle⟩) } })) ∧
  (∀ (s : State) (e q : Nat) (fns : List Nat) (x : Option Nat),
      e < 288 →
      s.regsBut (s.raiseX e q fns x) (evtRegs e) ∧ (s.raiseX e q fns x).hif = s.hif ∧ (s.raiseX e q fns x).acq = s.acq ∧
    s.sameMem (s.raiseX e q fns x))

/-- The record written next is one of those in the queue whose core cycle has passed, with the least tide time, and of
those the least event number. It goes to every enabled EVENT ring of its function that takes its group; with none, or
without Bus Master Enable, it is counted in HIF_EVDROP. A ring with no room counts a loss and, once, sets EVT_LOST
with E036. A written record has dword 0 last, with phase, losses and event number. When the queue is at most 128, E001
reports what was discarded. A test write raises the event it names if it is assigned, and stores nothing where it is
not (the model's choice, log entry 96). A fault raises E277 or E278, counts, and fills one entry of the fault log.
Whole next states. -/
def Obligations.EventRecords : Prop :=
  (∀ (l : List EvRec) (e : EvRec),
      nextRec l = some e →
      e ∈ l ∧ ∀ r ∈ l, e.tide < r.tide ∨ (e.tide = r.tide ∧ e.event ≤ r.event)) ∧
  (∀ (s u : State) (e : EvRec),
      s.runs = true →
      nextRec s.ripe = some e ∧ (e ∈ s.ripe ↔ e ∈ s.evt.queue ∧ e.cycle ≠ s.time.cycle) →
      ({ s with evt := { s.evt with queue := dropFirst e s.evt.queue } }).deliver e = u →
      (u.evt.discarded = 0 ∨ 128 < u.evt.queue.length → exec .eventRecordWrite s = .next (s.keep u)) ∧
    (u.evt.discarded ≠ 0 → u.evt.queue.length ≤ 128 → exec .eventRecordWrite s = .next (s.keep
      (({ u with evt := { u.evt with discarded := 0 } }).raise 1 u.evt.discarded u.routeAll)))) ∧
  (∀ (s : State),
      s.runs = true →
      (∀ e ∈ s.evt.queue, e.cycle = s.time.cycle) →
      exec .eventRecordWrite s = .next (s.keep s)) ∧
  (∀ (s u : State) (e : EvRec) (rings : List Nat),
      (s.eventRings e.func (e.event / 32)).filter (fun r => some r != e.excl) = rings →
      { (if e.tide < s.evt.lastTide then s.setFlag F.EVT_STAT.REORDER_LATE true else s) with evt := { s.evt with lastTide := e.tide } } = u →
      (rings = [] ∨ s.busMasterOn e.func = false → s.deliver e = u.bump (R.HIF_EVDROP e.func)) ∧
    (rings ≠ [] → s.busMasterOn e.func = true → s.deliver e = rings.foldl (fun t r => t.writeRecord e r) u)) ∧
  (∀ (s u v : State) (e : EvRec) (r a : Nat),
      ({ s.bump (R.HIF_RING_LOST r) with evt := { s.evt with lost := SMap.set zero s.evt.lost r (SMap.get zero s.evt.lost r + 1) } } : State) = u →
      s.cqSlot r (s.fld (F.HIF_RING_PTR.CQ_TAIL r)) 16 = a →
      ({ (s.post (s.ringOwner r) (a + 4) (e.qual :: eventTime e.tide)).post (s.ringOwner r) a [BitVec.ofNat 32 (s.fld (F.HIF_RING_STAT.PHASE r) * 2 ^ 31 + satNat 255 (SMap.get zero s.evt.lost r) * 2 ^ 16 + e.event)] with evt := { s.evt with lost := SMap.set zero s.evt.lost r 0 } } : State) = v →
      (s.ringSize r ≤ SMap.get zero s.hif.cqUsed r → u.flag (F.HIF_RING_STAT.EVT_LOST r) = true → s.writeRecord e r = u) ∧
    (s.ringSize r ≤ SMap.get zero s.hif.cqUsed r → u.flag (F.HIF_RING_STAT.EVT_LOST r) = false →
      s.writeRecord e r = (u.setFlag (F.HIF_RING_STAT.EVT_LOST r) true).raiseX 36 r (u.routeRing r) (some r)) ∧
    (SMap.get zero s.hif.cqUsed r < s.ringSize r →
      s.writeRecord e r = ((v.advanceCq r 1).bump (R.HIF_RING_DONE r)).cover r (s.flag (urgBit e.event)))) ∧
  (∀ (s u : State) (v : Word),
      s.runs = true →
      s.plainWrite R.EVT_TEST (v ||| 0x80000000#32) = u →
      (assigned (getBits (v ||| 0x80000000#32) 0 9) = true → exec (.evtTestGo v) s = .next (s.keep
      (u.raisePF (getBits (v ||| 0x80000000#32) 0 9) (s.reg R.EVT_TEST_QUAL).toNat))) ∧
    (assigned (getBits (v ||| 0x80000000#32) 0 9) = false → exec (.evtTestGo v) s = .next (s.keep s))) ∧
  (∀ (s u : State) (code inst : Nat),
      (if code < 0x100 then (s.raisePF 277 code).healthCountOpt (faultCounter code) else (((s.raisePF 278 code).healthCount 15).healthCountOpt (faultCounter code)).setFlag F.HLTH_STAT.OUTSIDE true) = u →
      s.fault code inst = (u.setRegs (R.HLTH_FLOG (u.fld F.HLTH_FLOGPTR.V) 0)
      (BitVec.ofNat 32 (code + 2 ^ 16 * (inst % 2 ^ 16)) ::
        (match faultCounter code with | some c => u.reg (R.HLTH_CNT c) | none => 0) :: eventTime u.now)).setFld F.HLTH_FLOGPTR.V (u.fld F.HLTH_FLOGPTR.V + 1))

/-- A write of one aligned dword, or of two with the lower first, acts; any other is discarded. An unreachable block
discards writes and reads as all ones. RW bits take the value, RWL bits only while nothing is armed, W1C bits written
1 clear, other bits and registers stay. A VF writes only ring registers. A read of the lowest dword of a wide value
snapshots it whole for its function; another dword reads that snapshot. A read of another width or alignment answers
all ones. COMPAT comes into force before the first ring only, with 4-input mode and E008. Whole next states. -/
def Obligations.RegisterAccesses : Prop :=
  (∀ (s : State) (f : Fin 9) (o w : Nat) (v : BitVec 64),
      s.runs = true →
      (w = 4 → o % 4 = 0 → exec (.registerWrite f o w v) s = .next (s.keep (s.funcWrite f o (v.extractLsb' 0 32)))) ∧
    (w = 8 → o % 8 = 0 → exec (.registerWrite f o w v) s = .next (s.keep
      ((s.funcWrite f o (v.extractLsb' 0 32)).funcWrite f (o + 4) (v.extractLsb' 32 32)))) ∧
    ((w ≠ 4 ∨ o % 4 ≠ 0) → (w ≠ 8 ∨ o % 8 ≠ 0) → exec (.registerWrite f o w v) s = .next (s.keep s))) ∧
  (∀ (s : State) (f o a : Nat) (v : Word),
      s.alias o = a →
      (s.reachable a = false → s.funcWrite 0 o v = s) ∧
    (s.reachable a = true → a % 4 = 0 → a / 0x10000 ∈ [0x01, 0x11, 0x82, 0x85, 0x86, 0x87, 0x88] → s.funcWrite 0 o v = s.plainWrite a v) ∧
    (a = R.EVT_TEST → s.funcWrite 0 o v = s.evtTestWrite v) ∧
    (f ≠ 0 → o / 0x1000 = 1 → f ≠ s.ringOwner (o % 0x1000 / 0x40) → s.funcWrite f o v = s) ∧
    (f ≠ 0 → o / 0x1000 ≠ 1 → s.funcWrite f o v = s)) ∧
  (∀ (s : State) (o : Nat) (v m c : Word) (row : RegRow),
      regRow o = some row →
      BitVec.ofNat 32 (row.rw + (if s.anyArmed then 0 else row.rwl)) = m →
      BitVec.ofNat 32 row.w1c = c →
      s.regsBut (s.plainWrite o v) [o] ∧
    (∀ i, i < 32 → ((s.plainWrite o v).reg o).getLsbD i =
      ((if m.getLsbD i then v.getLsbD i else (s.reg o).getLsbD i) && !(v.getLsbD i && c.getLsbD i)))) ∧
  (∀ (s : State) (f : Fin 9) (o w : Nat),
      s.runs = true →
      (w = 4 → o % 4 = 0 → exec (.wideValueRead f o w) s = .next (s.keep ((s.funcRead f o).2.answer [(s.funcRead f o).1]))) ∧
    (w = 8 → o % 8 = 0 → exec (.wideValueRead f o w) s = .next (s.keep
      (((s.funcRead f o).2.funcRead f (o + 4)).2.answer [(s.funcRead f o).1, ((s.funcRead f o).2.funcRead f (o + 4)).1]))) ∧
    ((w ≠ 4 ∨ o % 4 ≠ 0) → (w ≠ 8 ∨ o % 8 ≠ 0) → exec (.wideValueRead f o w) s = .next (s.keep
      { s with hif := { s.hif with reads := ⟨[0xFFFFFFFF], false, false⟩ :: s.hif.reads } }))) ∧
  (∀ (s : State) (f o a : Nat),
      s.alias o = a →
      (s.reachable a = false → s.pfRead f o = (0xFFFFFFFF, s)) ∧
    (∀ b n, s.reachable a = true → wideAt a = some (b, n) → a = b → s.pfRead f o = (dwAt (s.wideNow b n) 0,
      { s with hif := { s.hif with snaps := SMap.setList (fun _ => (0 : Word)) s.hif.snaps (f * 2 ^ 24 + b / 4) (s.wideNow b n) } })) ∧
    (∀ b n, s.reachable a = true → wideAt a = some (b, n) → a ≠ b →
      s.pfRead f o = (SMap.get (fun _ => (0 : Word)) s.hif.snaps (f * 2 ^ 24 + a / 4), s)) ∧
    (s.reachable a = true → wideAt a = none → s.pfRead f o = (if (regRow a).isSome then s.reg a else 0, s))) ∧
  (∀ (s : State) (v : Word),
      s.runs = true →
      (getBits v 0 1 = 0 → exec (.glbCompatWrite v) s = .next (s.keep s)) ∧
    (getBits v 0 1 ≠ 0 → s.flag F.GLB_STAT.RING_SEEN = true → exec (.glbCompatWrite v) s = .next (s.keep
      (s.setFlag F.GLB_STAT.COMPAT_LATE true))) ∧
    (getBits v 0 1 ≠ 0 → s.flag F.GLB_STAT.RING_SEEN = false → s.flag F.GLB_CTL.COMPAT = true →
      exec (.glbCompatWrite v) s = .next (s.keep s)) ∧
    (getBits v 0 1 ≠ 0 → s.flag F.GLB_STAT.RING_SEEN = false → s.flag F.GLB_CTL.COMPAT = false →
      exec (.glbCompatWrite v) s = .next (s.keep ((((s.setFlag F.GLB_CTL.COMPAT true).inpModeWrite 2).symJudge false).raisePF 8 0))))

/-- RST_N low, in every phase, leaves every register at its reset value and every block in reset but for the flash,
the queue and what had reached the host; an interrupted flash write stays as far as it got. RST_N high starts a held
module at step 0, COMPAT sampled. The flash read chooses and applies an image or falls back to OTP, builds the maps,
starts the buffers and lock attempts, and shows step 3. The lock ends step 3 and starts SAMPLE. Training ends step 4,
then presets run and READY and E000 follow. A firmware start shows the bank and raises E006; a watchdog expiry counts,
raises E009 and fault 0x000C and restarts. Whole next states. -/
def Obligations.ResetAndStartUp : Prop :=
  (∀ (s t : State),
      (match s.cfg.job with | some j => s.abortJob j | none => s) = t →
      ∃ u, exec .rstNAssert s = .next u ∧ u.phase = .held ∧ u.heldForm ∧ (∀ o, u.reg o = regReset o) ∧ u.pending = s.pending ∧
      u.cfg.flash = t.cfg.flash ∧ u.hif.writes = s.hif.writes ∧ u.hif.msix = s.hif.msix ∧ (∀ a, u.byteAt a = memByte a)) ∧
  (∀ (s u : State),
      ({ s with phase := .running } : State) = u →
      (s.phase = .held → exec (.rstNRise false) s = .next u) ∧
    (s.phase = .held → exec (.rstNRise true) s = .next
      { (((u.setFlag F.GLB_STAT.COMPAT_BALL true).setFlag F.GLB_CTL.COMPAT true).setFld F.INP_MODE.MODE 2).setFld F.INP_MODE_STAT.ACTIVE_MODE 2 with
        inp := { s.inp with route := 2 }, cfg := { s.cfg with pend8 := true } }) ∧
    (∀ b, s.phase ≠ .held → exec (.rstNRise b) s = .next s)) ∧
  (∀ (s u v : State) (ref : Word),
      s.runs = true →
      s.chooseOnce.slotFlags = u →
      (match u.pickSlot with | some k => byteDw (u.slotImage k) 6 &&& 0xF#32 | none => 0) = ref →
      (match u.pickSlot with | some k => u.applyImage k | none => u.defaulted) = v →
      (s.fld F.CFG_STAT.STEP ≤ 1 → exec .startupFlashReadDone s = .next (s.keep
      (((((v.each (List.range 8) (fun t b => t.buildMap b (t.fld (F.CNV_BANK_STAT.RETIRED b)))).showTrim).refCtlWrite ref).each
        (List.range 4) State.startLock).setFld F.CFG_STAT.STEP 3))) ∧
    (1 < s.fld F.CFG_STAT.STEP → exec .startupFlashReadDone s = .next (s.keep s))) ∧
  (∀ (s : State),
      s.slotFlags = (s.setFlag F.CFG_STAT.SLOT0_OK (s.slotGood 0)).setFlag F.CFG_STAT.SLOT1_OK (s.slotGood 1) ∧
    s.defaulted = ({ s.setFlag F.CFG_STAT.CFG_DEFAULTED true with cfg := { s.cfg with pend2 := some 3 } }).fault 0x010A 0 ∧
    (s.slotGood 0 = true → s.slotGood 1 = true → s.pickSlot = some (if newer (imageGen (s.slotImage 1)) (imageGen (s.slotImage 0)) then 1 else 0)) ∧
    (s.slotGood 0 = true → s.slotGood 1 = false → s.pickSlot = some 0) ∧
    (s.slotGood 0 = false → s.slotGood 1 = true → s.pickSlot = some 1) ∧
    (s.slotGood 0 = false → s.slotGood 1 = false → s.pickSlot = none)) ∧
  (∀ (s : State) (gap : Nat),
      s.runs = true →
      (s.fld F.CFG_STAT.STEP = 3 → s.locked 2 = true → s.locked 0 = true → exec (.startupLockDone gap) s = .next (s.keep
      ((s.setFld F.CFG_STAT.STEP 4).restartOn 0 gap))) ∧
    (s.fld F.CFG_STAT.STEP = 3 → s.locked 2 = true → s.locked 0 = false → s.locked 1 = true → exec (.startupLockDone gap) s =
      .next (s.keep ((s.setFld F.CFG_STAT.STEP 4).restartOn 1 gap))) ∧
    (s.fld F.CFG_STAT.STEP ≠ 3 ∨ s.locked 2 = false ∨ (s.locked 0 = false ∧ s.locked 1 = false) →
      exec (.startupLockDone gap) s = .next (s.keep s))) ∧
  (∀ (s u v : State) (failed m16 : Nat),
      s.runs = true →
      ((presetPairs (((s.trainResult failed).setFld F.CFG_STAT.STEP 5).memCheck.currentImage)).foldl State.preset ((s.trainResult failed).setFld F.CFG_STAT.STEP 5).memCheck) = u →
      ((u.setFld F.CFG_STAT.STEP 6).setFlag F.CFG_STAT.READY true).setReg R.CFG_BOOT_MS (BitVec.ofNat 32 m16) = v →
      satNat 0xFFFF (u.time.elapsed * 1000 / 2 ^ 64) = m16 →
      (s.fld F.CFG_STAT.STEP = 4 → ∃ q w, exec (.hbmBootTrainingDone failed) s = .next (s.keep
        { w with cfg := { w.cfg with pend2 := none, pend8 := false } }) ∧
      q = (if v.flag F.CFG_STAT.CFG_DEFAULTED then 1 else 0) + (if !(v.flag F.CFG_STAT.CFG_DEFAULTED) && v.fld F.CFG_STAT.SLOT == 1 then 2 else 0) + (if v.compat then 4 else 0) ∧
      (u.cfg.pend2 = none → u.cfg.pend8 = false → w = v.raisePF 0 (q + 2 ^ 16 * m16)) ∧
      (∀ m, u.cfg.pend2 = some m → u.cfg.pend8 = false → w = (v.raisePF 0 (q + 2 ^ 16 * m16)).raisePF 2 m) ∧
      (u.cfg.pend2 = none → u.cfg.pend8 = true → w = (v.raisePF 0 (q + 2 ^ 16 * m16)).raisePF 8 1) ∧
      (∀ m, u.cfg.pend2 = some m → u.cfg.pend8 = true → w = ((v.raisePF 0 (q + 2 ^ 16 * m16)).raisePF 2 m).raisePF 8 1)) ∧
    (s.fld F.CFG_STAT.STEP ≠ 4 → exec (.hbmBootTrainingDone failed) s = .next (s.keep s))) ∧
  (∀ (s u : State),
      s.runs = true →
      s.chooseOnce = u →
      (u.cfg.restart = none → exec .firmwareStart s = .next (s.keep u)) ∧
    (∀ k, u.cfg.restart = some k → exec .firmwareStart s = .next (s.keep
      ((((({ u with cfg := { u.cfg with restart := none, fallback := false } }).setFlag F.CFG_STAT.FW_RUNNING true).setFld
        F.CFG_STAT.FW_BANK k).setReg R.CFG_FW_VER (byteDw (u.bankImage k) 4)).raisePF 6 (k + (if u.cfg.fallback then 2 else 0)))))) ∧
  (∀ (s u : State) (second other : Bool),
      s.runs = true →
      (match s.cfg.wdogAt with | some t => Nat.ble s.time.elapsed (t + 60 * 2 ^ 64) | none => false) = second →
      (second && s.bankGood (1 - s.fld F.CFG_STAT.FW_BANK)) = other →
      ({ ((s.bump R.CFG_WDOG).raisePF 9 0).fault 0x000C 0 with cfg := { (((s.bump R.CFG_WDOG).raisePF 9 0).fault 0x000C 0).cfg with wdogAt := if second then none else some s.time.elapsed } } : State) = u →
      (s.flag F.CFG_STAT.FW_RUNNING = false → exec .watchdogExpire s = .next (s.keep s)) ∧
    (s.flag F.CFG_STAT.FW_RUNNING = true → other = true → exec .watchdogExpire s = .next (s.keep
      ((u.setFlag F.CFG_STAT.FW_FALLBACK true).restartFw (1 - s.fld F.CFG_STAT.FW_BANK) true))) ∧
    (s.flag F.CFG_STAT.FW_RUNNING = true → other = false → exec .watchdogExpire s = .next (s.keep
      (u.restartFw (s.fld F.CFG_STAT.FW_BANK) true))))

/-- A flash descriptor with CONTEXT other than 15, a reserved bit, a bad address or a bad length completes
BAD_DESCRIPTOR; one that meets another flash operation completes BUSY. CFG_COMMIT writes the assembled image to the
other slot; CFG_PUSH and FW_UPDATE write a good image under a new generation; their ends read back, set SLOT_OK or the
bank's generation, make a good slot current with E003 or E005, else raise E004 or E007 with fault 0x000D, and
complete. CFG_READ writes the slot's bytes to the host. FW_SELECT restarts a good bank, else raises E007 and completes
ABORTED. Programming a region erases it whole. Whole next states. -/
def Obligations.StoredConfiguration : Prop :=
  (∀ (s u : State) (r : Fin 64) (d : Desc) (bad busy : Bool),
      s.starts r 0x63 d = true →
      s.begin r d = u →
      cfgBad d.begun [(2, 1)] = bad →
      (u.flag F.CFG_STAT.FLASH_BUSY || u.fld F.CAL_STAT.FG_ACTIVE != 0 || u.flag F.INP_MODE_STAT.CHANGING || u.flag F.CLK_STAT.RATE_CHANGING) = busy →
      (bad = true → exec (.cfgCommit r) s = .next (s.keep (u.finish d.begun .badDescriptor []))) ∧
    (bad = false → busy = true → exec (.cfgCommit r) s = .next (s.keep (u.finish d.begun .busy []))) ∧
    (bad = false → busy = false → exec (.cfgCommit r) s = .next (s.keep
      (({ u with cfg := { u.cfg with job := some ⟨0, d.seq, u.newSlot, u.commitImage (d.begun.f 2 0 1 == 1), false⟩ } }).setFlag
        F.CFG_STAT.FLASH_BUSY true)))) ∧
  (∀ (s u g v w : State) (bad : List (Nat × Byte)) (j : FlashJob) (pay : List Word),
      s.runs = true →
      s.cfg.job = some j ∧ [BitVec.ofNat 32 j.target, BitVec.ofNat 32 (imageGen j.image), BitVec.ofNat 32 j.image.length] = pay →
      s.endJob.program (slotBase j.target) slotSize (patched j.image bad) = u →
      (((u.setFlag (slotOkFld j.target) true).setFld F.CFG_STAT.SLOT j.target).setFlag F.CFG_STAT.CFG_DEFAULTED false).setReg R.CFG_GEN (BitVec.ofNat 32 (imageGen j.image)) = g →
      (if u.slotGood j.target then g.raisePF 3 (j.target + 2 ^ 8 * (imageGen j.image % 2 ^ 24)) else ((u.setFlag (slotOkFld j.target) false).raisePF 4 j.target).fault 0x000D j.target) = v →
      (if u.slotGood j.target then g.raisePF 5 j.target else ((u.setFlag (slotOkFld j.target) false).raisePF 4 j.target).fault 0x000D j.target) = w →
      (j.kind = 0 → exec (.commitWriteDone bad) s = .next (s.keep (match v.descOf j.seq with
        | some d => v.finish d (if u.slotGood j.target then .ok else .aborted) pay | none => v))) ∧
    (j.kind = 1 → exec (.pushWriteDone bad) s = .next (s.keep (match w.descOf j.seq with
        | some d => w.finish d (if u.slotGood j.target then .ok else .aborted) pay | none => w))) ∧
    (j.kind ≠ 0 → exec (.commitWriteDone bad) s = .next (s.keep s)) ∧
    (j.kind ≠ 1 → exec (.pushWriteDone bad) s = .next (s.keep s))) ∧
  (∀ (s u : State) (r : Fin 64) (d : Desc) (image b : List Byte) (n : Nat) (bad : Bool),
      s.starts r 0x64 d = true →
      s.begin r d = u →
      (d.begun.n 2 = n) ∧ image.take n = b →
      (cfgBad d.begun ((2, 0xFFFFFFFF) :: haddrMasks) || d.begun.f 8 0 6 != 0 || !(lengthOk n)) = bad →
      (bad = true → exec (.cfgPush r image) s = .next (s.keep (u.finish d.begun .badDescriptor []))) ∧
    (bad = false → u.flag F.CFG_STAT.FLASH_BUSY = true → exec (.cfgPush r image) s = .next (s.keep (u.finish d.begun .busy []))) ∧
    (bad = false → u.flag F.CFG_STAT.FLASH_BUSY = false → b.length ≠ n ∨ imageGood b u.identity = false →
      exec (.cfgPush r image) s = .next (s.keep (u.finish d.begun .badDescriptor []))) ∧
    (bad = false → u.flag F.CFG_STAT.FLASH_BUSY = false → b.length = n → imageGood b u.identity = true →
      exec (.cfgPush r image) s = .next (s.keep
        (({ u with cfg := { u.cfg with job := some ⟨1, d.seq, u.newSlot, regenerate b u.newGen, false⟩ } }).setFlag F.CFG_STAT.FLASH_BUSY true)))) ∧
  (∀ (s u : State) (r : Fin 64) (d : Desc) (n k : Nat) (bad : Bool),
      s.starts r 0x65 d = true →
      s.begin r d = u →
      d.begun.f 2 0 1 = k ∧ min (if lengthOk (u.slotLength k) then u.slotLength k else 64) (d.begun.n 3) = n →
      (cfgBad d.begun ((2, 1) :: (3, 0xFFFFFFFF) :: haddrMasks) || d.begun.f 8 0 6 != 0 || decide (d.begun.n 3 < 64)) = bad →
      (bad = true → exec (.cfgRead r) s = .next (s.keep (u.finish d.begun .badDescriptor []))) ∧
    (bad = false → u.flag F.CFG_STAT.FLASH_BUSY = true → exec (.cfgRead r) s = .next (s.keep (u.finish d.begun .busy []))) ∧
    (bad = false → u.flag F.CFG_STAT.FLASH_BUSY = false → exec (.cfgRead r) s = .next (s.keep
      (({ u with hif := { u.hif with writes := { func := u.ringOwner d.ring, addr := dw64 d.dw 8, data := (List.range (n / 4)).map (byteDw (u.flashBytes (slotBase k) n)), tail := (u.flashBytes (slotBase k) n).drop (4 * (n / 4)) } :: u.hif.writes } }).finish d.begun .ok
        [BitVec.ofNat 32 n, if u.slotGood k then 1 else 0])))) ∧
  (∀ (s u : State) (r : Fin 64) (d : Desc) (image b : List Byte) (n k : Nat) (bad : Bool),
      s.starts r 0x66 d = true →
      s.begin r d = u →
      d.begun.n 3 = n ∧ image.take n = b ∧ u.fld F.CFG_STAT.FW_BANK = k →
      (cfgBad d.begun ((2, 1) :: (3, 0xFFFFFFFF) :: haddrMasks) || d.begun.f 8 0 6 != 0 || Nat.blt bankSize n) = bad →
      (bad = true → exec (.fwUpdate r image) s = .next (s.keep (u.finish d.begun .badDescriptor []))) ∧
    (bad = false → u.flag F.CFG_STAT.FLASH_BUSY = true → exec (.fwUpdate r image) s = .next (s.keep (u.finish d.begun .busy []))) ∧
    (bad = false → u.flag F.CFG_STAT.FLASH_BUSY = false → b.length ≠ n ∨ firmwareGood b = false →
      exec (.fwUpdate r image) s = .next (s.keep (u.finish d.begun .badDescriptor []))) ∧
    (bad = false → u.flag F.CFG_STAT.FLASH_BUSY = false → b.length = n → firmwareGood b = true →
      exec (.fwUpdate r image) s = .next (s.keep
        (({ u with cfg := { u.cfg with job := some ⟨2, d.seq, 1 - k, regenerate b (((u.reg (R.CFG_FW_GEN_A + 4 * k)).toNat + 1) % 2 ^ 32),
          d.begun.f 2 0 1 == 1⟩ } }).setFlag F.CFG_STAT.FLASH_BUSY true)))) ∧
  (∀ (s : State) (bad : List (Nat × Byte)),
      s.runs = true →
      (s.cfg.job = none → exec (.commitWriteDone bad) s = .next (s.keep s) ∧ exec (.pushWriteDone bad) s = .next (s.keep s)) ∧
    (s.cfg.job = none ∨ (∃ j, s.cfg.job = some j ∧ j.kind ≠ 2) → exec (.fwUpdateWriteDone bad) s = .next (s.keep s))) ∧
  (∀ (s u v : State) (bad : List (Nat × Byte)) (j : FlashJob) (good : Bool),
      s.runs = true →
      s.cfg.job = some j ∧ j.kind = 2 →
      (s.endJob.program (bankBase j.target) bankSize (patched j.image bad)).showBankGen j.target = u →
      u.bankGood j.target = good →
      (if good then (if j.restart then u.restartFw j.target false else u) else (u.raisePF 7 j.target).fault 0x000D j.target) = v →
      (∀ d, v.descOf j.seq = some d → exec (.fwUpdateWriteDone bad) s = .next (s.keep
      (v.finish d (if good then .ok else .aborted) [BitVec.ofNat 32 j.target, BitVec.ofNat 32 (imageGen j.image)]))) ∧
    (v.descOf j.seq = none → exec (.fwUpdateWriteDone bad) s = .next (s.keep v))) ∧
  (∀ (s u : State) (r : Fin 64) (d : Desc) (k : Nat) (bad : Bool),
      s.starts r 0x67 d = true →
      s.begin r d = u →
      d.begun.f 2 0 1 = k →
      cfgBad d.begun [(2, 1)] = bad →
      (bad = true → exec (.fwSelect r) s = .next (s.keep (u.finish d.begun .badDescriptor []))) ∧
    (bad = false → u.flag F.CFG_STAT.FLASH_BUSY = true → exec (.fwSelect r) s = .next (s.keep (u.finish d.begun .busy []))) ∧
    (bad = false → u.flag F.CFG_STAT.FLASH_BUSY = false → u.bankGood k = true → exec (.fwSelect r) s = .next (s.keep
      (((({ u with cfg := { u.cfg with wdogAt := none } }).setFlag F.CFG_STAT.FW_FALLBACK false).restartFw k false).finish d.begun .ok []))) ∧
    (bad = false → u.flag F.CFG_STAT.FLASH_BUSY = false → u.bankGood k = false → exec (.fwSelect r) s = .next (s.keep
      ((u.raisePF 7 k).finish d.begun .aborted [])))) ∧
  (∀ (s : State) (a n i : Nat) (b : List Byte),
      b.length ≤ n →
      SMap.get flashByte (s.program a n b).cfg.flash i =
      (if a ≤ i ∧ i < a + b.length then b.getD (i - a) 0 else if a ≤ i ∧ i < a + n then 0xFF else SMap.get flashByte s.cfg.flash i))

/-- A sensor reading is stored with its maximum and the highest of its second, then meets the warning, critical and
shutdown limits: at WARN the alert is driven with E272, and released with E279 once every sensor is 4 below; at 105
E273 and fault 0x010D arise once, stopping runs where CRIT_STOP says; at 110 E274 and fault 0x010E announce the
shutdown, which 20 us later stops every clock, floats the outputs, drops the link and loses capture memory. A rail
that leaves its limits shows its bit, E275 and fault 0x010C, and nothing else. Once a second has passed since the
last, it adds the weight of its highest reading and counts as uptime. The firmware answers SMBus address 0x58 while it
runs. Whole next states. -/
def Obligations.ModuleHealth : Prop :=
  (∀ (s z u v w : State) (k : Fin 10) (x : BitVec 8) (p : BitVec 64) (n : Nat),
      s.runs = true →
      ({ s with hlth := { s.hlth with hottest := some (match s.hlth.hottest with | some y => max y (signed 8 x.toNat) | none => signed 8 x.toNat) } } : State) = z →
      (if s.sfld (F.HLTH_TEMP.MAX k) < signed 8 x.toNat then (z.setFld (F.HLTH_TEMP.TEMP k) x.toNat).setFld (F.HLTH_TEMP.MAX k) x.toNat else z.setFld (F.HLTH_TEMP.TEMP k) x.toNat) = u →
      u.warnStep k x.toNat = v →
      v.critStep k x.toNat p.toNat n = w →
      exec (.sensorRead k x p n) s = .next (s.keep (if 110 ≤ signed 8 x.toNat ∧ w.hlth.shutdownDue = false then
      (({ w with hlth := { w.hlth with shutdownDue := true, shutAt := w.time.elapsed } }).raise 274 (k + 2 ^ 8 * x.toNat) w.routeAll).fault 0x010E k else w))) ∧
  (∀ (s : State) (k x : Nat),
      (s.warnLimit ≤ signed 8 x → s.flag F.HLTH_STAT.ALERT = true → s.warnStep k x = s) ∧
    (s.warnLimit ≤ signed 8 x → s.flag F.HLTH_STAT.ALERT = false → s.warnStep k x =
      ((s.setFlag F.HLTH_STAT.ALERT true).setFlag F.HLTH_STAT.WARN_SEEN true).raise 272 (k + 2 ^ 8 * x) s.routeAll) ∧
    (signed 8 x < s.warnLimit → s.flag F.HLTH_STAT.ALERT = true → s.allBelow (s.warnLimit - 4) = true →
      s.warnStep k x = (s.setFlag F.HLTH_STAT.ALERT false).raise 279 (k + 2 ^ 8 * x) s.routeAll) ∧
    (signed 8 x < s.warnLimit → s.flag F.HLTH_STAT.ALERT = false ∨ s.allBelow (s.warnLimit - 4) = false → s.warnStep k x = s)) ∧
  (∀ (s u v : State) (k x p n : Nat),
      (if s.allBelow 100 then { s with hlth := { s.hlth with critSeen := false } } else s) = u →
      (((({ u with hlth := { u.hlth with critSeen := true } }).setFlag F.HLTH_STAT.CRIT_SEEN true).raise 273 (k + 2 ^ 8 * x) u.routeAll).fault 0x010D k) = v →
      (105 ≤ signed 8 x → u.hlth.critSeen = false → s.critStep k x p n = if v.flag F.HLTH_CTL.CRIT_STOP then v.critStop p n else v) ∧
    (signed 8 x < 105 ∨ u.hlth.critSeen = true → s.critStep k x p n = u)) ∧
  (ageWeight 90 = 0x10000 ∧ ageWeight 100 = 0x20000 ∧ ageWeight 80 = 0x8000 ∧ ageWeight 60 = 0x2000) ∧
  (∀ (s : State),
      (s.phase = .running → s.hlth.shutdownDue = true → s.passed s.hlth.shutAt (nanos 20000) = true → exec .thermalShutdown s = .next
      { (s.setFlag F.HLTH_STAT.ALERT true) with
        phase := .stopped, hif := { s.hif with linkUp := false, busMaster := [] }
        mem := { s.mem with bytes := [], poison := [] }, pat := { s.pat with on := 0 } }) ∧
    (s.phase ≠ .running ∨ s.hlth.shutdownDue = false ∨ s.passed s.hlth.shutAt (nanos 20000) = false → exec .thermalShutdown s = .next s)) ∧
  (∀ (s u : State) (r : Fin 11) (mv : BitVec 16),
      s.runs = true →
      (s.setFld (F.HLTH_RAIL.V r) mv.toNat).setFlag (F.HLTH_STAT.RAIL.bit r) (railLow r mv.toNat || railHigh r mv.toNat) = u →
      ((railLow r mv.toNat || railHigh r mv.toNat) = true → s.flag (F.HLTH_STAT.RAIL.bit r) = false → exec (.railCheck r mv) s = .next (s.keep
        (((u.setFlag F.HLTH_STAT.SUPPLY_SEEN true).raisePF 275 (r + (if railHigh r mv.toNat then 16 else 0))).fault 0x010C r))) ∧
    ((railLow r mv.toNat || railHigh r mv.toNat) = false ∨ s.flag (F.HLTH_STAT.RAIL.bit r) = true → exec (.railCheck r mv) s = .next (s.keep u))) ∧
  (∀ (s u : State),
      s.runs = true →
      (({ s with hlth := { s.hlth with hottest := none, secondAt := s.hlth.secondAt + 2 ^ 64 } } : State).setReg64 R.HLTH_AGE_LO (s.reg64 R.HLTH_AGE_LO + ageWeight s.secondMax)).bumpSat F.HLTH_UPTIME.V 1 = u →
      (s.passed s.hlth.secondAt (2 ^ 64) = true → s.warnLimit ≤ s.secondMax → exec .ageTick s = .next (s.keep (u.healthCount 13))) ∧
    (s.passed s.hlth.secondAt (2 ^ 64) = true → s.secondMax < s.warnLimit → exec .ageTick s = .next (s.keep u)) ∧
    (s.passed s.hlth.secondAt (2 ^ 64) = false → exec .ageTick s = .next (s.keep s)) ∧
    (∀ x, s.hlth.hottest = some x → s.secondMax = x) ∧
    (∀ k, s.hlth.hottest = none → k < 10 → s.sfld (F.HLTH_TEMP.TEMP k) ≤ s.secondMax)) ∧
  (∀ (s : State) (a : BitVec 7),
      s.runs = true →
      (a.toNat = 0x58 → s.flag F.CFG_STAT.FW_RUNNING = true → exec (.smbusTransaction a) s = .next (s.keep
        { s with fresh := s.fresh + 1, hlth := { s.hlth with smbusAck := true, smbusData := Config.freeValue 8 s.fresh } })) ∧
    (a.toNat ≠ 0x58 ∨ s.flag F.CFG_STAT.FW_RUNNING = false → exec (.smbusTransaction a) s = .next (s.keep
        { s with hlth := { s.hlth with smbusAck := false } })))

/-- A software pulse is placed only where the SRC written is 22. A write of EN listens from OFF, leaves when seated,
else goes OFF. The end of 8 ms of LISTEN takes the lowest seat that no partner holds, else no seat. Only a seated,
live, staying module sends, on a bus idle for the frame's gap and the seat, a ROLL once in its period from its offset
on, a TRIG only while no ROLL waits 500 us; a frame carries its type, seat, sequence number and payload with a CRC,
holds the bus for 2,000 ns, and counts; a LEAVE ends in OFF. A received frame, entries of 8 ms having aged out, is
rejected, or acts: a ROLL enters or updates the table, on its own identity flags a duplicate, and on its seat with a
lower identity gives the seat up; a table that is full raises E258 once for an identity; a TRIG enters the receive
ring or is counted lost; a LEAVE or an age-out frees the entry with E257. Whole next states. -/
def Obligations.ChassisPeers : Prop :=
  (∀ (s u : State) (o : Fin 9) (x : Word),
      s.runs = true →
      s.plainWrite (outReg o) (x ||| 0x20#32) = u →
      (getBits (u.reg (outReg o)) 0 5 = 22 → exec (.peerSoftPulse o x) s = .next (s.keep (u.pulseDue (o + 4) u.softEdge))) ∧
    (getBits (u.reg (outReg o)) 0 5 ≠ 22 → exec (.peerSoftPulse o x) s = .next (s.keep u))) ∧
  (∀ (s u : State) (v : Word),
      s.runs = true →
      s.plainWrite R.PEER_CTL v = u →
      (u.flag F.PEER_CTL.EN = true → u.peerState = 0 → exec (.peerCtlWrite v) s = .next (s.keep (({ u with peer := { u.peer with listenAt := u.time.elapsed } }).setFld F.PEER_STAT.STATE 1))) ∧
    (u.flag F.PEER_CTL.EN = true → u.peerState ≠ 0 → exec (.peerCtlWrite v) s = .next (s.keep u)) ∧
    (u.flag F.PEER_CTL.EN = false → u.peerState = 2 → exec (.peerCtlWrite v) s = .next (s.keep { u with peer := { u.peer with leaving := true } })) ∧
    (u.flag F.PEER_CTL.EN = false → u.peerState ≠ 2 → exec (.peerCtlWrite v) s = .next (s.keep u.peerOff))) ∧
  (∀ (s u : State),
      s.runs = true →
      (∀ k, s.peerState = 1 → s.since s.peer.listenAt 8000 = true → s.freeSeat = some k → (s.setFld F.PEER_STAT.SEAT k).setFld F.PEER_STAT.STATE 2 = u →
      exec .peerListenEnd s = .next (s.keep { u with peer := { u.peer with lfsr := lfsrSeed ((s.setFld F.PEER_STAT.SEAT k).reg R.PEER_ID_LO), seatAt := s.time.elapsed, rolls := 0 } }) ∧
      (∀ e, e < 64 → s.entryValid e = true → s.entrySeat e ≠ k) ∧ k < 64) ∧
    (s.peerState = 1 → s.since s.peer.listenAt 8000 = true → s.freeSeat = none → exec .peerListenEnd s = .next (s.keep (s.setFld F.PEER_STAT.STATE 3))) ∧
    (s.peerState ≠ 1 ∨ s.since s.peer.listenAt 8000 = false → exec .peerListenEnd s = .next (s.keep s))) ∧
  (∀ (s u v : State) (live : Bool),
      s.runs = true →
      (!(s.flag F.CLK_STAT.REF_ABSENT) && s.peerState == 2 && !s.peer.leaving) = live →
      s.sendFrame 0 (s.rollPayload s.rollState) = u →
      (s.sendFrame 2 (s.rollPayload 0)).peerOff = v →
      (live = true → s.rollDue 0 = true → s.busFree (if s.rollDue 500 then 4 else 72) = true →
      exec .rollFrameSend s = .next (s.keep { u with peer := { u.peer with lfsr := lfsrStep u.peer.lfsr, rolls := u.peer.rolls + 1 } })) ∧
    (live = false ∨ s.rollDue 0 = false ∨ s.busFree (if s.rollDue 500 then 4 else 72) = false → exec .rollFrameSend s = .next (s.keep s)) ∧
    (∀ x r, live = true → s.rollDue 500 = false → s.busFree 4 = true → s.peer.txq = x :: r → exec .trigFrameSend s = .next (s.keep
      (({ s with peer := { s.peer with txq := r } }).sendFrame 1 x.payload))) ∧
    (live = false ∨ s.rollDue 500 = true ∨ s.busFree 4 = false ∨ s.peer.txq = [] → exec .trigFrameSend s = .next (s.keep s)) ∧
    (s.peer.leaving = true → s.flag F.CLK_STAT.REF_ABSENT = false → s.busFree 72 = true → exec .leaveFrameSend s = .next (s.keep v.peerListen)) ∧
    (s.peer.leaving = false ∨ s.flag F.CLK_STAT.REF_ABSENT = true ∨ s.busFree 72 = false → exec .leaveFrameSend s = .next (s.keep s))) ∧
  (∀ (s : State) (n us : Nat),
      (s.busFree n = true ↔ s.peer.busEnd ≤ s.time.elapsed ∧
      (2 + n + s.fld F.PEER_STAT.SEAT) * 2 ^ 64 ≤ (s.time.elapsed - s.peer.busEnd) * 100000000) ∧
    (s.rollDue us = true ↔ (1000 * s.peer.rolls + s.peer.lfsr.toNat % 900 + us) * 2 ^ 64 ≤ (s.time.elapsed - s.peer.seatAt) * 1000000)) ∧
  (∀ (s : State) (type : Nat) (p : List Byte),
      s.sendFrame type p = { s with peer := { s.peer with
      sent := ([0x55#8, 0x55#8, 0xD5#8] ++ (natBytes (type + s.fld F.PEER_STAT.SEAT * 2 ^ 4 + s.peer.seq * 2 ^ 10) 2 ++ p) ++
        wordBytes (crc32c (natBytes (type + s.fld F.PEER_STAT.SEAT * 2 ^ 4 + s.peer.seq * 2 ^ 10) 2 ++ p))) :: s.peer.sent
      seq := (s.peer.seq + 1) % 64, busEnd := s.time.elapsed + 2000 * 2 ^ 64 / 1000000000 } }) ∧
  (∀ (z s t : State) (b p : List Byte) (h : Nat) (c : Instr),
      z.runs = true →
      ({ z with peer := { z.peer with busEnd := z.time.elapsed + 0 * 2 ^ 64 / 1000000000 } } : State).ageAll = s →
      c ∈ [.rollFrameRx b, .trigFrameRx b, .leaveFrameRx b, .peerFrameReject b] →
      bytesNat ((b.drop 3).take 2) = h ∧ (b.drop 5).take 16 = p →
      s.bump R.PEER_REJECT = t →
      (s.peerState = 0 ∨ s.flag F.PEER_CTL.EN = false ∨ s.flag F.CLK_STAT.REF_ABSENT = true → exec c z = .next (z.keep s)) ∧
    (s.peerState ≠ 0 → s.flag F.PEER_CTL.EN = true → s.flag F.CLK_STAT.REF_ABSENT = false → frameGood b = false →
      exec c z = .next (z.keep (t.raiseOnce F.PEER_STAT.REJECT_SEEN 260 (t.fld F.PEER_REJECT.V % 2 ^ 16) routePF))) ∧
    (s.peerState ≠ 0 → s.flag F.PEER_CTL.EN = true → s.flag F.CLK_STAT.REF_ABSENT = false → frameGood b = true → h % 16 = 0 →
      exec c z = .next (z.keep (s.rollRx (h / 16 % 64) (h / 1024) (bytesNat (p.take 8)) (bytesNat ((p.drop 8).take 2)) (bytesNat ((p.drop 10).take 2))))) ∧
    (s.peerState ≠ 0 → s.flag F.PEER_CTL.EN = true → s.flag F.CLK_STAT.REF_ABSENT = false → frameGood b = true → h % 16 = 1 →
      exec c z = .next (z.keep (s.trigRx (h / 16 % 64) (h / 1024) p))) ∧
    (∀ e, s.peerState ≠ 0 → s.flag F.PEER_CTL.EN = true → s.flag F.CLK_STAT.REF_ABSENT = false → frameGood b = true → h % 16 = 2 →
      s.entryOf (bytesNat (p.take 8)) = some e → exec c z = .next (z.keep (s.freeEntry e)))) ∧
  (∀ (s : State) (seat seq id caps st : Nat),
      (s.peerState = 2 → id = s.peerId → s.rollRx seat seq id caps st = (s.setFlag F.PEER_STAT.DUP_ID true).raisePF 259 0x3F) ∧
    (s.peerState = 2 → seat = s.fld F.PEER_STAT.SEAT → id < s.peerId →
      s.rollRx seat seq id caps st = ((s.bump R.PEER_SEATCHG).startListen.tableRoll seat seq id caps st).seatFree) ∧
    (s.peerState ≠ 2 ∨ (id ≠ s.peerId ∧ (seat ≠ s.fld F.PEER_STAT.SEAT ∨ s.peerId ≤ id)) →
      s.rollRx seat seq id caps st = (s.tableRoll seat seq id caps st).seatFree) ∧
    (∀ e, s.entryOf id = some e → s.entrySeat e = seat → s.tableRoll seat seq id caps st =
      s.setEntry e seat seq id caps st (getBits (s.reg (R.PARTNER e 0)) 30 1 == 1)) ∧
    (∀ e, s.entryOf id = some e → s.entrySeat e ≠ seat → s.tableRoll seat seq id caps st =
      (s.setEntry e seat seq id caps st true).raisePF 259 e) ∧
    (∀ e, s.entryOf id = none → (List.range 64).find? (fun e => !(s.entryValid e)) = some e →
      s.tableRoll seat seq id caps st = (s.setEntry e seat seq id caps st false).raisePF 256 e) ∧
    (s.entryOf id = none → (List.range 64).find? (fun e => !(s.entryValid e)) = none → s.tableRoll seat seq id caps st =
      if s.peer.noRoom.contains id then s else ({ s with peer := { s.peer with noRoom := id :: s.peer.noRoom } }).raisePF 258 (id % 2 ^ 32))) ∧
  (∀ (s u : State) (seat seq : Nat) (p : List Byte) (e : Option Nat),
      s.entryAt seat = e →
      s.noteSeq e seq = u →
      (u.flag F.PEER_CTL.RX_EN = false → s.trigRx seat seq p = u) ∧
    (u.flag F.PEER_CTL.RX_EN = true → u.reg R.PEER_BRX_WPTR - u.reg R.PEER_BRX_RPTR = 64#32 → s.trigRx seat seq p = u.bump R.PEER_BRX_LOST) ∧
    (u.flag F.PEER_CTL.RX_EN = true → u.reg R.PEER_BRX_WPTR - u.reg R.PEER_BRX_RPTR ≠ 64#32 → s.trigRx seat seq p =
      ((u.setRegs (R.BRX ((u.reg R.PEER_BRX_WPTR).toNat % 64) 0) (u.brxEntry e p)).bump R.PEER_BRX_WPTR).raisePF 261 (e.getD 0x3F))) ∧
  (∀ (s u : State) (e : Fin 64),
      s.runs = true →
      ({ ((s.setReg (R.PARTNER e 0) (putBits (s.reg (R.PARTNER e 0)) 31 1 0)).showPartners).raisePF 257 e with peer := { s.peer with noRoom := [] } } : State) = u →
      (s.entryValid e = true → s.since (SMap.get zero s.peer.rollAt e) 8000 = true → u.peerState ≠ 3 → exec (.partnerAgeOut e) s = .next (s.keep u)) ∧
    (s.entryValid e = true → s.since (SMap.get zero s.peer.rollAt e) 8000 = true → u.peerState = 3 → exec (.partnerAgeOut e) s = .next (s.keep u.takeSeat)) ∧
    (s.entryValid e = false ∨ s.since (SMap.get zero s.peer.rollAt e) 8000 = false → exec (.partnerAgeOut e) s = .next (s.keep s)))

/-- A change of presence shows its level with E270; its fall loses the link. TRAINING shows whether the own conditions
hold while the link is down and no loss is less than 1 ms old, and a training that starts notes when. A training that
ends brings the link up with every lane good and E264, aligned where the core cycle numbers agree and the boundaries
lie within a quarter of a core period; one of 2 ms counts and restarts. A microsecond without a good lane loses the
link. A block on a trained link with a good lane ends the silence; one with two bad data lanes, or one beside the
failed lane, loses the link; one bad lane, or a wrong spare, counts an error of the lane. Loss shows LOST_SEEN,
counts, raises E266 with its cause and fault 0x0109, ends what the twin runs, and rests 1 ms. A timer ends the rest.
Whole next states. -/
def Obligations.PairLink : Prop :=
  (∀ (s u : State) (b : Bool),
      s.runs = true →
      (s.setFlag F.PAIR_STAT.PRESENT b).raisePF 270 (if b then 1 else 0) = u →
      (s.flag F.PAIR_STAT.PRESENT = b → exec (.pairPresentChange b) s = .next (s.keep s)) ∧
    (s.flag F.PAIR_STAT.PRESENT ≠ b → b = true → exec (.pairPresentChange b) s = .next (s.keep u.pairTrain)) ∧
    (s.flag F.PAIR_STAT.PRESENT ≠ b → b = false → exec (.pairPresentChange b) s = .next (s.keep (u.linkLost 2)))) ∧
  (∀ (s u : State) (cause : Nat),
      ((((s.setFlag F.PAIR_STAT.LINK_UP false).setFlag F.PAIR_STAT.LOST_SEEN true).bump R.PAIR_LOSSES).raisePF 266 (2 ^ cause)).fault 0x0109 0 = u →
      (s.flag F.PAIR_STAT.LINK_UP = true → s.linkLost cause = ({ u with pair := { u.pair with restAt := some u.time.elapsed } }).twinLost.pairTrain) ∧
    (s.flag F.PAIR_STAT.LINK_UP = false → s.linkLost cause = s.pairTrain) ∧
    (∀ on, (s.flag F.PAIR_CTL.EN && s.flag F.PAIR_STAT.PRESENT && !(s.flag F.CLK_STAT.BYPASS) &&
      !(s.flag F.PAIR_STAT.LINK_UP) && s.pair.restAt.isNone) = on → s.pairTrain = (if on = true ∧ s.flag F.PAIR_STAT.TRAINING = false
        then { s with pair := { s.pair with trainAt := s.time.elapsed } } else s).setFlag F.PAIR_STAT.TRAINING on)) ∧
  (∀ (s u : State) (id : BitVec 64) (cyc : Nat) (skew : Int) (al : Bool),
      s.runs = true →
      (cyc == s.coreNo && decide (4 * ((skew.natAbs : Nat) : Rat) ≤ s.corePeriod)) = al →
      (((((s.setFlag F.PAIR_STAT.LINK_UP true).setFlag F.PAIR_STAT.TRAINING false).setFlag F.PAIR_STAT.SPARE_USED false).setFld F.PAIR_STAT.FAILED 15).setFlag F.PAIR_STAT.UNALIGNED (!al)).setReg64 R.PAIR_PARTNER_ID_LO id.toNat = u →
      (s.flag F.PAIR_STAT.TRAINING = true → exec (.pairLinkTrained id cyc skew) s = .next (s.keep
      (({ u.showLat with pair := { s.pair with errs := [], blockAt := s.time.elapsed } }).raisePF 264 (8 * 2 ^ 8)))) ∧
    (s.flag F.PAIR_STAT.TRAINING = false → exec (.pairLinkTrained id cyc skew) s = .next (s.keep s))) ∧
  (∀ (s : State) (v : Word),
      s.runs = true →
      (s.flag F.PAIR_STAT.TRAINING = true → s.since s.pair.trainAt 2000 = true → exec .pairTrainTimeout s =
      .next (s.keep (({ s with pair := { s.pair with trainAt := s.time.elapsed } }).bump R.PAIR_TRAIN_FAILS))) ∧
    (s.flag F.PAIR_STAT.TRAINING = false ∨ s.since s.pair.trainAt 2000 = false → exec .pairTrainTimeout s = .next (s.keep s)) ∧
    (s.flag F.PAIR_STAT.LINK_UP = true → s.since s.pair.blockAt 1 = true → exec .pairSilenceTimeout s = .next (s.keep (s.linkLost 3))) ∧
    (s.flag F.PAIR_STAT.LINK_UP = false ∨ s.since s.pair.blockAt 1 = false → exec .pairSilenceTimeout s = .next (s.keep s)) ∧
    (∀ t, s.pair.restAt = some t → s.since t 1000 = true →
      exec .pairRetrainTimer s = .next (s.keep (({ s with pair := { s.pair with restAt := none } }).pairTrain))) ∧
    (s.pair.restAt = none ∨ (∃ t, s.pair.restAt = some t ∧ s.since t 1000 = false) → exec .pairRetrainTimer s = .next (s.keep s)) ∧
    exec (.pairCtlWrite v) s = .next (s.keep (s.plainWrite R.PAIR_CTL v).pairTrain)) ∧
  (∀ (z s : State) (ls : List (BitVec 128)) (bad : List Nat),
      z.runs = true →
      (List.range 8).filter (fun k => !(laneGood (ls.getD k 0))) = bad →
      (if bad.length = 8 then z else { z with pair := { z.pair with blockAt := z.time.elapsed } }) = s →
      (z.flag F.PAIR_STAT.LINK_UP = false → exec (.pairBlockRx ls) z = .next (z.keep z)) ∧
    (z.flag F.PAIR_STAT.LINK_UP = true → s.flag F.PAIR_STAT.SPARE_USED = false → 1 < bad.length →
      exec (.pairBlockRx ls) z = .next (z.keep (s.linkLost 1))) ∧
    (∀ k, z.flag F.PAIR_STAT.LINK_UP = true → bad = [k] → s.flag F.PAIR_STAT.SPARE_USED = false ∨ k = s.fld F.PAIR_STAT.FAILED →
      exec (.pairBlockRx ls) z = .next (z.keep (s.laneError k))) ∧
    (z.flag F.PAIR_STAT.LINK_UP = true → bad = [] →
      exec (.pairBlockRx ls) z = .next (z.keep (if (List.range 8).foldl (fun a k => a ^^^ ls.getD k 0) (0 : BitVec 128) = ls.getD 8 0 then s else s.laneError 8))) ∧
    (z.flag F.PAIR_STAT.LINK_UP = true → s.flag F.PAIR_STAT.SPARE_USED = true → (∃ k ∈ bad, k ≠ s.fld F.PAIR_STAT.FAILED) →
      exec (.pairBlockRx ls) z = .next (z.keep (s.linkLost 1)))) ∧
  (∀ (s u : State) (k : Nat),
      { s.bump (R.PAIR_LANE_ERR k) with pair := { s.pair with errs := (k, s.time.elapsed) :: s.pair.errs.filter (fun e => decide (s.time.elapsed < e.2 + millisecond)) } } = u →
      ((u.flag F.PAIR_STAT.SPARE_USED = true ∨ u.laneErrors k < max 1 (u.fld F.PAIR_CTL.ERR_THR)) → s.laneError k = u) ∧
    (u.flag F.PAIR_STAT.SPARE_USED = false → max 1 (u.fld F.PAIR_CTL.ERR_THR) ≤ u.laneErrors k → s.laneError k =
      (((((u.setFlag F.PAIR_STAT.SPARE_USED true).setFld F.PAIR_STAT.FAILED k).raisePF 265 (k + 16)).fault 0x000B k).tell (.control (.laneFailed k)))))

/-- TWIN_JOIN is refused by form, compatibility, work under way or a missing link; else its request goes to the
partner, and with both present equal roles end both joins. A request missing for TIMEOUT ends PAIR_LOST. At the join
index the module takes its role, form and the leader's seeds; the input form is then joined, the other waits for its
phase, which the follower judges by each measured strobe offset and which degrades samples while it is off. A split
stops or ends arms; a module is ready with no arm and none unwritten, and both leave 4 D_L cycles after the later was.
A handover carries configurations to the follower and takes effect at its index on each module; the old leader then
sends the arms' state once its last decision has gone. Whole next states. -/
def Obligations.TwinJoining : Prop :=
  (∀ (s u : State) (r : Fin 64) (d : Desc) (bad : Bool),
      s.starts r 0x70 d = true ∧ s.pair.join = none →
      s.begin r d = u →
      (d.begun.context != 15 || !(d.begun.reservedClear 2 [(2, 0x11), (3, 0xFFFF)]) || u.joined) = bad →
      (bad = true → exec (.twinJoin r) s = .next (s.keep (u.finish d.begun .badDescriptor []))) ∧
    (bad = false → u.compat = true → exec (.twinJoin r) s = .next (s.keep (u.finish d.begun .notSupportedCompat []))) ∧
    (bad = false → u.compat = false → u.joinBusy = true → exec (.twinJoin r) s = .next (s.keep (u.finish d.begun .busy []))) ∧
    (bad = false → u.compat = false → u.joinBusy = false → u.flag F.PAIR_STAT.LINK_UP = false →
      exec (.twinJoin r) s = .next (s.keep (u.finish d.begun .pairLost []))) ∧
    (bad = false → u.compat = false → u.joinBusy = false → u.flag F.PAIR_STAT.LINK_UP = true →
      exec (.twinJoin r) s = .next (s.keep
        ((({ u with pair := { u.pair with join := some ⟨d.seq, d.begun.f 2 0 1 == 1, d.begun.f 2 4 1 == 1, d.begun.f 3 0 16, u.time.elapsed⟩ } }).tell
          (.control (.join (u.joinReq (d.begun.f 2 0 1 == 1) (d.begun.f 2 4 1 == 1))))).joinBoth)))) ∧
  (∀ (s : State) (own : JoinRun) (p : JoinReq) (j : Nat),
      s.pair.join = some own ∧ s.pair.partner = some p ∧ s.joinIndex = j →
      (own.leader = p.leader → s.joinBoth = s.joinEnd .badDescriptor) ∧
    (own.leader = false → p.leader = true → s.joinBoth = s) ∧
    (own.leader = true → p.leader = false → s.joinBad own p = true → s.joinBoth = (s.tell (.control (.joined false 0))).joinEnd .badDescriptor) ∧
    (own.leader = true → p.leader = false → s.joinBad own p = false → s.joinBoth =
      (({ s with pair := { s.pair with joinAt := some j } }).tell (.control (.joined true j))).tell
        (.time (j / s.perCycle - s.dL) (.rate (s.sfld F.TIME_RATE_ADJ.V))))) ∧
  (∀ (s : State),
      s.runs = true →
      (∀ j, s.pair.join = some j → s.pair.partner = none → s.since j.start (1000 * (if j.timeout = 0 then 1000 else j.timeout)) = true →
      exec .twinJoinTimeout s = .next (s.keep ((s.tell (.control .leave)).joinEnd .pairLost))) ∧
    (∀ j, s.pair.join = some j → s.pair.partner ≠ none ∨ s.since j.start (1000 * (if j.timeout = 0 then 1000 else j.timeout)) = false →
      exec .twinJoinTimeout s = .next (s.keep s)) ∧
    (s.pair.join = none → exec .twinJoinTimeout s = .next (s.keep s))) ∧
  (∀ (s u v : State) (own : JoinRun) (p : JoinReq) (j : Nat),
      s.runs = true →
      s.pair.join = some own ∧ s.pair.partner = some p ∧ s.pair.joinAt = some j →
      (s.setFld F.PAIR_STAT.ROLE (if own.leader then 1 else 2)).setFlag F.PAIR_STAT.FORM own.interleave = u →
      (if own.leader then u.reseed (u.reg (R.CLK_SYN_SEED 0)) (u.reg (R.CLK_SYN_SEED 1)) else u.reseed p.seedA p.seedB).roleEffect.symRole = v →
      (s.time.idx < j → exec .twinJoinEffect s = .next (s.keep s)) ∧
    (j ≤ s.time.idx → own.interleave = true → exec .twinJoinEffect s = .next (s.keep
      ((({ v with pair := { v.pair with joinAt := none, partner := none } }).phaseTo false).judgePhase))) ∧
    (j ≤ s.time.idx → own.interleave = false → exec .twinJoinEffect s = .next (s.keep
      (({ v with pair := { v.pair with joinAt := none, partner := none } }).joinDone)))) ∧
  (∀ (s u : State) (x : Int),
      s.runs = true →
      { s with pair := { s.pair with offset := x } } = u →
      (s.isFollower = true → s.flag F.PAIR_STAT.FORM = true → u.onTarget = s.flag F.PAIR_STAT.PHASE_OK →
      exec (.twinPhaseOk x) s = .next (s.keep u)) ∧
    (s.isFollower = true → s.flag F.PAIR_STAT.FORM = true → u.onTarget ≠ s.flag F.PAIR_STAT.PHASE_OK →
      exec (.twinPhaseOk x) s = .next (s.keep ((u.tell (.control (.phaseOk u.onTarget))).phaseTo u.onTarget))) ∧
    (s.isFollower = false ∨ s.flag F.PAIR_STAT.FORM = false → exec (.twinPhaseOk x) s = .next (s.keep s)) ∧
    (u.onTarget = true ↔ (x : Rat) - (8 * s.samplePeriod + (clampInt (-800000) 800000 (s.sfld F.PAIR_TWIN_PHASE.V) : Int)) ≤ 160 ∧
      -160 ≤ (x : Rat) - (8 * s.samplePeriod + (clampInt (-800000) 800000 (s.sfld F.PAIR_TWIN_PHASE.V) : Int)))) ∧
  (∀ (s u : State),
      s.setFlag F.PAIR_STAT.PHASE_OK true = u →
      s.phaseTo true = (if u.pair.join.isSome then (u.degOff .phase (u.frameNow false)).joinDone else u.degOff .phase (u.frameNow false)) ∧
    ((∀ x ∈ s.inp.spans, ¬(x.cause = .phase ∧ x.stop = none)) → s.phaseTo false =
      (s.setFlag F.PAIR_STAT.PHASE_OK false).degOn .phase ((s.setFlag F.PAIR_STAT.PHASE_OK false).frameNow false)) ∧
    ((∃ x ∈ s.inp.spans, x.cause = .phase ∧ x.stop = none) → s.phaseTo false = s.setFlag F.PAIR_STAT.PHASE_OK false)) ∧
  (∀ (s u : State) (r : Fin 64) (d : Desc),
      s.starts r 0x71 d = true ∧ s.pair.split = none →
      s.begin r d = u →
      (d.begun.context = 15 → d.begun.reservedClear 2 [] = true → u.joined = true → exec (.twinSplit r) s = .next (s.keep
      ((u.tell (.control .split)).splitStart (some d.seq)))) ∧
    (d.begun.context ≠ 15 ∨ d.begun.reservedClear 2 [] = false ∨ u.joined = false → exec (.twinSplit r) s = .next (s.keep
      (u.finish d.begun .badDescriptor [])))) ∧
  (∀ (s u : State) (own : Option Nat),
      (if s.pair.ready.isSome || s.anyBusy || s.armUnwritten then s else ({ s with pair := { s.pair with ready := some s.coreNo } }).tell (.control (.splitReady s.coreNo))) = u →
      (s.pair.split = none → s.trySplit = s) ∧
    (s.pair.split = some own → u.pair.ready = none ∨ u.pair.partnerReady = none → s.trySplit = u) ∧
    (∀ a b, s.pair.split = some own → u.pair.ready = some a → u.pair.partnerReady = some b → s.trySplit =
      if max a b + 4 * u.dL ≤ u.coreNo then (u.twinLeave.raisePF 268 0).finishOpt own .ok [] else u)) ∧
  (∀ (s u : State) (r : Fin 64) (d : Desc) (bad : Bool) (h : Nat),
      s.starts r 0x74 d = true ∧ s.pair.handover = none →
      s.begin r d = u →
      (d.begun.context != 15 || !(d.begun.reservedClear 2 []) || !u.isLeader || u.flag F.PAIR_STAT.FORM) = bad →
      (u.coreNo + 512) * u.perCycle = h →
      (bad = true → exec (.twinHandover r) s = .next (s.keep (u.finish d.begun .badDescriptor []))) ∧
    (bad = false → 4 < ((List.range 16).filter (fun k => (u.applied k).swapRemote)).length →
      exec (.twinHandover r) s = .next (s.keep (u.finish d.begun .busy []))) ∧
    (bad = false → ((List.range 16).filter (fun k => (u.applied k).swapRemote)).length ≤ 4 → exec (.twinHandover r) s = .next (s.keep
      (({ u with pair := { u.pair with handover := some (d.seq, h) } }).tell (.config (.handover h
        ((List.range 16).map (fun k => swapped (u.applied k).cfg))
        ((List.range 4).map (fun n => (List.range 23).map (fun i => u.reg (seqReg n i)))))))))) ∧
  (∀ (s : State),
      s.runs = true →
      (∀ q h, s.pair.handover = some (q, h) → s.isLeader = true → h ≤ s.time.idx → exec .twinHandoverEffect s = .next (s.keep (s.handAway h))) ∧
    (∀ q h, s.pair.handover = some (q, h) → s.isLeader = true → s.time.idx < h → exec .twinHandoverEffect s = .next (s.keep s)) ∧
    (∀ q h, s.pair.handover = some (q, h) → s.isLeader = false → exec .twinHandoverEffect s = .next (s.keep
      (if h / s.perCycle + 67 + s.dT + s.dP ≤ s.coreNo then (({ s with pair := { s.pair with handover := none } }.idleSeqs).tell
        (.config (.handArms (((List.range 4).filter s.armed).map s.handCtx)))).finishSeq q .ok [] else s))) ∧
    (∀ x, s.pair.handover = none → s.pair.handIn = some x → s.isFollower = true → x.h ≤ s.time.idx →
      exec .twinHandoverEffect s = .next (s.keep (s.handTake x))) ∧
    (s.pair.handover = none → s.pair.handIn = none ∨ s.isFollower = false ∨ (∃ x, s.pair.handIn = some x ∧ s.time.idx < x.h) →
      exec .twinHandoverEffect s = .next (s.keep s)))

/-- A TWIN_SKEWCAL of the leader is refused by form or BUSY, or asks the follower and injects; its end stores means or
applies an estimate, or sends the follower's blocks. Samples enter a running calibration or, with TRACK, the
background estimate, applied at the 4,096th block. HARV_PAIR is refused by form or partition, or asks the follower for
its lines, which join those that wait. A decision makes the follower accept it; a firing counts on the leader; a time
message acts D_L cycles after it arose; configurations, delays and handovers are taken by the role they concern, the
old leader's last arm state by the new one; arm messages compare, start, end, withdraw or stop arms; control messages
carry joins, splits, calibrations and line requests. Messages in another role change nothing. Whole next states. -/
def Obligations.TwinOperation : Prop :=
  (∀ (s u : State) (r : Fin 64) (d : Desc) (m n : Nat) (bad : Bool),
      s.starts r 0x72 d = true ∧ s.pair.cal = none →
      s.begin r d = u →
      d.begun.f 2 0 8 = m ∧ max 1 (d.begun.f 3 0 16) = n →
      (d.begun.context != 15 || !(d.begun.reservedClear 2 [(2, 0xFF), (3, 0xFFFF)]) || !u.isLeader || (!u.twinForm && (m == 0 || !((inputsOf (m % 16)).all (sampledIn u.inp.route)) || !((inputsOf (m / 16)).all (sampledIn u.inp.route))))) = bad →
      (bad = true → exec (.twinSkewcal r) s = .next (s.keep (u.finish d.begun .badDescriptor []))) ∧
    (bad = false → u.twinForm = true → exec (.twinSkewcal r) s = .next (s.keep
      (({ u with pair := { u.pair with cal := some { seq := some d.seq, own := 0, other := 0, steps := n } } }).tell (.control (.skewRun 0 n))))) ∧
    (bad = false → u.twinForm = false → u.fgBusy (m % 16) = true → exec (.twinSkewcal r) s = .next (s.keep (u.finish d.begun .busy []))) ∧
    (bad = false → u.twinForm = false → u.fgBusy (m % 16) = false → exec (.twinSkewcal r) s = .next (s.keep
      ((({ u with pair := { u.pair with cal := some { seq := some d.seq, own := m % 16, other := m / 16, steps := n } } }).inject (m % 16) true).tell
        (.control (.skewRun (m / 16) n)))))) ∧
  (∀ (s u v : State) (st : List (List SkewStep)) (bl : List (Nat × List (BitVec 16))) (c : TwinCal) (vals : List (List Rat)),
      s.runs = true →
      s.pair.cal = some c →
      ({ s with pair := { s.pair with cal := none } } : State) = u →
      s.skewAll c.own c.steps st = (vals, v) →
      (∀ q, s.twinForm = true → c.seq = some q → c.steps ≤ c.blocks → exec (.twinSkewcalDone st bl) s = .next (s.keep
        ((u.twinApply (s.twinEstimate c.sums 1) false).finishSeq q .ok [BitVec.ofNat 32 c.blocks,
          BitVec.ofNat 32 (pattern 32 ((s.twinEstimate c.sums 1).1 - s.pair.twin.1)), BitVec.ofNat 32 (s.twinEstimate c.sums 1).2.1,
          BitVec.ofNat 32 (s.twinEstimate c.sums 1).2.2]))) ∧
    (∀ q, s.twinForm = true → c.seq = some q → c.blocks < c.steps → exec (.twinSkewcalDone st bl) s = .next (s.keep s)) ∧
    (s.twinForm = true → c.seq = none → exec (.twinSkewcalDone st bl) s = .next (s.keep
        (u.sendBlocks (bl.take c.steps)))) ∧
    (∀ q, s.twinForm = false → c.seq = some q → exec (.twinSkewcalDone st bl) s = .next (s.keep
        (({ v with pair := { v.pair with cal := some { c with mine := some (vals.map skewMean) } } }).inject c.own false).skewBoth)) ∧
    (s.twinForm = false → c.seq = none → exec (.twinSkewcalDone st bl) s = .next (s.keep
        ((({ v with pair := { v.pair with cal := none } }).inject c.own false).tell (.control (.skewDone (vals.map skewMean))))))) ∧
  (∀ (s v : State) (bl : List (Nat × List (BitVec 16))) (i : Nat) (ws l : List (BitVec 16)),
      s.hearAll 0 i ws = (l, v) →
      s.sendBlocks [] = s ∧ s.sendBlocks ((i, ws) :: bl) = (v.tell (.samples i (l.map (fun w => w.toInt)))).sendBlocks bl) ∧
  (∀ (s : State) (st : List (List SkewStep)) (bl : List (Nat × List (BitVec 16))),
      s.runs = true →
      s.pair.cal = none →
      exec (.twinSkewcalDone st bl) s = .next (s.keep s)) ∧
  (∀ (s u : State) (r : Fin 64) (d : Desc) (k : Nat) (bad : Bool),
      s.starts r 0x73 d = true →
      s.begin r d = u →
      d.begun.f 2 0 4 = k →
      (rangeBad d.begun 0xF || !u.isLeader || (u.ptValid k && u.regionBad d.begun)) = bad →
      (bad = true → exec (.harvPair r) s = .next (s.keep (u.finish d.begun .badDescriptor []))) ∧
    (bad = false → (u.ptValid k = false ∨ u.ptType k = 6 ∨ u.ptOwner k ≠ u.ringOwner r) →
      exec (.harvPair r) s = .next (s.keep (u.finish d.begun .partitionFault []))) ∧
    (bad = false → u.ptValid k = true → u.ptType k ≠ 6 → u.ptOwner k = u.ringOwner d.ring → exec (.harvPair r) s = .next (s.keep
      (((u.addHarvest ⟨d.seq, d.ring, .pair, 0, k, 0, d.begun.f 5 0 31, d.begun.f 6 0 31, false, false, dw64 d.dw 8, u.ptBase k + d.begun.f 3 0 31, u.regionLen d.begun⟩).harvReads
        ⟨d.seq, d.ring, .pair, 0, k, 0, d.begun.f 5 0 31, d.begun.f 6 0 31, false, false, dw64 d.dw 8, u.ptBase k + d.begun.f 3 0 31, u.regionLen d.begun⟩).tell
        (.control (.linesFor (d.begun.f 7 0 4) (d.begun.f 3 0 31) (u.regionLen d.begun) (d.begun.f 5 0 31) (d.begun.f 6 0 31))))))) ∧
  (∀ (s u v w : State) (x : Nat) (po : Bool) (f : BitVec 64) (ws ls l : List (BitVec 16)) (k : Fin 16) (be : Bool) (fr : BitVec 10) (n : Fin 4) (off : Int) (mask : BitVec 16) (sy : Bool) (cy : Nat) (tm : TimeMsg),
      s.runs = true →
      (s.bump (R.TRG_TD_COUNT k)).setReg64 (R.TRG_TD_LAST_IDX_LO k) f.toNat = u →
      s.hearFrom 0 ((f.toNat : Int) - 6) ls = (l, v) →
      { v with pair := { v.pair with trackN := 0, track := {} } } = w →
      ((∃ h ∈ s.hif.harvests, h.kind = .pair) → exec (.lineMsgRx x po) s = .next (s.keep
        (({ s with pair := { s.pair with lines := s.pair.lines ++ [(x % 2 ^ 256, po)] } }).pairDrain (s.pair.lines.length + 1)))) ∧
    ((∀ h ∈ s.hif.harvests, h.kind ≠ .pair) → exec (.lineMsgRx x po) s = .next (s.keep s)) ∧
    (s.isLeader = true → s.twinForm = true → (∀ c, v.pair.cal = some c → exec (.samplesMsgRx f ws ls) s = .next (s.keep
        { v with pair := { v.pair with cal := some { c with blocks := c.blocks + 1, sums := c.sums.block ws l } } }))) ∧
    (s.isLeader = true → s.twinForm = true → v.pair.cal = none → v.flag F.PAIR_CTL.TRACK = true → exec (.samplesMsgRx f ws ls) s = .next (s.keep
        (if v.pair.trackN + 1 < 4096 then { v with pair := { v.pair with trackN := v.pair.trackN + 1, track := v.pair.track.block ws l } }
          else if (v.pair.track.block ws l).signal then w.twinApply (w.twinEstimate (v.pair.track.block ws l) 8) true else w.bump R.PAIR_STARVED))) ∧
    (s.isLeader = true → s.twinForm = true → v.pair.cal = none → v.flag F.PAIR_CTL.TRACK = false → exec (.samplesMsgRx f ws ls) s = .next (s.keep v)) ∧
    (s.isLeader = false ∨ s.twinForm = false → exec (.samplesMsgRx f ws ls) s = .next (s.keep s)) ∧
    (s.twinForm = false → (s.isLeader = true ∧ (s.applied k).remote = true) ∨ (s.isFollower = true ∧ s.firesHere f.toNat = true) → exec (.firingMsgRx k f be fr) s = .next (s.keep
        { u with trg := { s.trg with fires := s.trg.fires ++ [⟨k, f.toNat, if be then f.toNat - 1 else f.toNat, fr.toNat⟩] } })) ∧
    (s.twinForm = true ∨ ((s.isLeader = false ∨ (s.applied k).remote = false) ∧ (s.isFollower = false ∨ s.firesHere f.toNat = false)) → exec (.firingMsgRx k f be fr) s = .next (s.keep s)) ∧
    (s.isFollower = true ∨ s.pair.handWait = true → s.armed n = true → exec (.decisionMsgRx n f off fr mask sy) s = .next (s.keep
        (((s.acceptTrigger n ((f.toNat : Int) + off).toNat fr.toNat mask.toNat).drive n ((f.toNat : Int) + off).toNat fr.toNat true).reactAll
          n f.toNat [] true true))) ∧
    ((s.isFollower = false ∧ s.pair.handWait = false) ∨ s.armed n = false → exec (.decisionMsgRx n f off fr mask sy) s = .next (s.keep s)) ∧
    (s.isFollower = true ∨ s.pair.join ≠ none → exec (.timeMsgRx cy tm) s = .next (s.keep
        (({ s with time := { s.time with due := s.time.due ++ [(cy + s.dL, tm)] } }).applyDue))) ∧
    (s.isFollower = false → s.pair.join = none → exec (.timeMsgRx cy tm) s = .next (s.keep s))) ∧
  (∀ (s u : State) (k : Nat) (w : List Word) (d h : Nat) (dets seqs : List (List Word)) (arms : List HandCtx),
      s.runs = true →
      (s.setRegs (R.TRG_TD_CFG (k % 16)) (w.take 8)).newDet (k % 16) { cfg := localised w } = u →
      (s.isFollower = true → s.twinForm = false → exec (.configMsgRx (.detector k w)) s = .next (s.keep
        ((u.setReg64 (R.TRG_TD_APPLY_IDX_LO (k % 16)) (s.applyIdx { cfg := localised w })).showDets))) ∧
    (s.isFollower = false ∨ s.twinForm = true → exec (.configMsgRx (.detector k w)) s = .next (s.keep s)) ∧
    (s.joined = true ∨ s.pair.join ≠ none → exec (.configMsgRx (.delay d)) s = .next (s.keep
        ({ s with pair := { s.pair with partnerDT := d } }).showDets)) ∧
    (s.joined = false → s.pair.join = none → exec (.configMsgRx (.delay d)) s = .next (s.keep s)) ∧
    (s.isFollower = true → exec (.configMsgRx (.handover h dets seqs)) s = .next (s.keep
        { s with pair := { s.pair with handIn := some ⟨h, dets, seqs⟩ } })) ∧
    (s.isFollower = false → exec (.configMsgRx (.handover h dets seqs)) s = .next (s.keep s)) ∧
    (s.pair.handWait = true → exec (.configMsgRx (.handArms arms)) s = .next (s.keep
        (arms.foldl State.takeCtx { s with pair := { s.pair with handWait := false } }))) ∧
    (s.pair.handWait = false → exec (.configMsgRx (.handArms arms)) s = .next (s.keep s))) ∧
  (∀ (s : State) (a : ArmSummary) (n x cause : Nat),
      s.runs = true →
      (s.joined = true → exec (.armMsgRx (.summary a)) s = .next (s.keep (({ s with pair := { s.pair with
        theirs := s.pair.theirs.filter (fun (b : ArmSummary) => b.ctx != a.ctx) ++ [a] } }).twinCompare a.ctx))) ∧
    (s.isFollower = true → s.twinWaits n = true → exec (.armMsgRx (.go n x)) s = .next (s.keep (s.twinGo n x))) ∧
    (s.isFollower = true → exec (.armMsgRx (.unequal n)) s = .next (s.keep (s.twinUnequal n))) ∧
    (s.joined = true → exec (.armMsgRx (.withdraw n)) s = .next (s.keep (s.withdrawn n))) ∧
    (s.joined = true → exec (.armMsgRx (.stop n cause)) s = .next (s.keep (s.stopFor n cause))) ∧
    (s.joined = false → exec (.armMsgRx (.summary a)) s = .next (s.keep s) ∧ exec (.armMsgRx (.withdraw n)) s = .next (s.keep s) ∧
      exec (.armMsgRx (.stop n cause)) s = .next (s.keep s)) ∧
    (s.isFollower = false → exec (.armMsgRx (.go n x)) s = .next (s.keep s) ∧ exec (.armMsgRx (.unequal n)) s = .next (s.keep s))) ∧
  (∀ (s : State) (j : JoinReq) (i m n k : Nat) (p : Int) (g o b l a c : Nat) (ok ramp : Bool),
      s.runs = true →
      (s.joined = false → exec (.controlMsgRx (.join j)) s = .next (s.keep (({ s with pair := { s.pair with partner := some j } }).joinBoth))) ∧
    (∀ own, s.pair.join = some own → own.leader = false → exec (.controlMsgRx (.joined true i)) s = .next (s.keep
        { s with pair := { s.pair with joinAt := some i } })) ∧
    (∀ own, s.pair.join = some own → own.leader = false → exec (.controlMsgRx (.joined false i)) s = .next (s.keep (s.joinEnd .badDescriptor))) ∧
    (s.isLeader = true → s.twinForm = true → exec (.controlMsgRx (.phaseOk ok)) s = .next (s.keep (s.phaseTo ok))) ∧
    (s.joined = true → s.pair.split = none → exec (.controlMsgRx .split) s = .next (s.keep (s.splitStart none))) ∧
    (s.joined = true → exec (.controlMsgRx (.splitReady c)) s = .next (s.keep (({ s with pair := { s.pair with partnerReady := some c } }).trySplit))) ∧
    exec (.controlMsgRx .leave) s = .next (s.keep { s with pair := { s.pair with partner := none } }) ∧
    exec (.controlMsgRx (.laneFailed k)) s = .next (s.keep (s.raisePF 265 k)) ∧
    (s.isFollower = true → s.twinForm = false → s.fgBusy (m % 16) = true → exec (.controlMsgRx (.skewRun m n)) s = .next (s.keep (s.tell (.control .skewBusy)))) ∧
    (s.isFollower = true → s.twinForm = false → s.fgBusy (m % 16) = false → exec (.controlMsgRx (.skewRun m n)) s = .next (s.keep
        (({ s with pair := { s.pair with cal := some { seq := none, own := m % 16, other := 0, steps := n } } }).inject (m % 16) true))) ∧
    (s.isLeader = true ∨ s.pair.join ≠ none → exec (.controlMsgRx (.twinState p g o)) s = .next (s.keep { s with pair := { s.pair with twin := (p, g, o) } })) ∧
    (s.isFollower = true → exec (.controlMsgRx (.linesFor k b l a c)) s = .next (s.keep (s.linesFor k b l a c))) ∧
    (s.isFollower = true → s.twinForm = true → exec (.controlMsgRx (.twinSet p g o ramp)) s = .next (s.keep
        (((((s.setReg R.PAIR_TWIN_PHASE (BitVec.ofNat 32 (pattern 32 p))).setFld F.PAIR_TWIN_GAIN.V g).setFld F.PAIR_TWIN_OFF.V o).twinRetarget ramp
          (s.twinAt (s.frameNow false))).judgePhase)))) ∧
  (∀ (s : State) (j : JoinReq) (i n : Nat) (l : List Int) (ok : Bool),
      s.runs = true →
      (s.joined = true → exec (.controlMsgRx (.join j)) s = .next (s.keep s)) ∧
    (s.pair.join = none ∨ (∃ own, s.pair.join = some own ∧ own.leader = true) → exec (.controlMsgRx (.joined ok i)) s = .next (s.keep s)) ∧
    (s.isLeader = false ∨ s.twinForm = false → exec (.controlMsgRx (.phaseOk ok)) s = .next (s.keep s)) ∧
    (s.joined = false ∨ s.pair.split ≠ none → exec (.controlMsgRx .split) s = .next (s.keep s)) ∧
    (s.joined = false → exec (.controlMsgRx (.splitReady i)) s = .next (s.keep s)) ∧
    (s.isFollower = true → s.twinForm = true → exec (.controlMsgRx (.skewRun i n)) s = .next (s.keep
        (({ s with pair := { s.pair with cal := some { seq := none, own := i % 16, other := 0, steps := n } } }).tellTwin))) ∧
    (s.isFollower = false → exec (.controlMsgRx (.skewRun i n)) s = .next (s.keep s)) ∧
    (∀ c, s.pair.cal = some c → exec (.controlMsgRx .skewBusy) s = .next (s.keep
        ((({ s with pair := { s.pair with cal := none } }).inject c.own false).finishOpt c.seq .busy []))) ∧
    (∀ c, s.pair.cal = some c → exec (.controlMsgRx (.skewDone l)) s = .next (s.keep
        (({ s with pair := { s.pair with cal := some { c with partner := some l } } }).skewBoth))) ∧
    (s.pair.cal = none → exec (.controlMsgRx .skewBusy) s = .next (s.keep s) ∧ exec (.controlMsgRx (.skewDone l)) s = .next (s.keep s)) ∧
    exec (.controlMsgRx .linesRefused) s = .next (s.keep s.linesRefused))

/-- A load or start of the wrong owner, form, partition, table or time completes with its status; an accepted load
writes its lines; a table that passes its checks is stored; an accepted start enters LOADING with counters cleared.
READY follows once the stacks are active, with the head store's poison lines; the first sample, once due, shows
PLAYING, its time and E224. At a decision sample the first applying row of Table 19.6 is taken, latches clear and
drops count; at the boundary the sequence goes on, a ramp with it, or a cause of its end is set; of causes the earlier
STIM cycle and then the lower row decides, and the sequence ends when the core cycle has passed. A stop, jump and go
act or wait; under-runs, which need a missing condition of R495 and a frame not in the head store, poison and
saturation set their flags, counts and events; a sample that sounds is the resampled code with gain and offset,
clamped, and any other is the idle code. The end reports counts and frees the partition. Whole next states. -/
def Obligations.StimulusSequences : Prop :=
  (∀ (s u : State) (r : Fin 64) (d : Desc) (k ty op : Nat) (bad : Bool) (busy : Option Nat) (c : Instr),
      (c = .stimLoad r ∧ op = 0x40 ∧ ty = 4 ∧ u.stimBad d.begun loadMasks = bad ∧ u.stm.run.map (·.part) = busy) ∨ (c = .patLoad r ∧ op = 0x50 ∧ ty = 5 ∧ u.patBad d.begun loadMasks = bad ∧ u.pat.run.map (·.part) = busy) →
      s.starts r op d = true →
      s.begin r d = u →
      d.begun.f 2 0 4 = k →
      ((bad = true ∨ d.begun.f 4 0 31 = 0 ∨ d.begun.f 8 0 6 ≠ 0 ∨ u.ptLen k < d.begun.f 3 0 31 + d.begun.f 4 0 31) →
      exec c s = .next (s.keep (u.finish d.begun .badDescriptor []))) ∧
    (bad = false → d.begun.f 4 0 31 ≠ 0 → d.begun.f 8 0 6 = 0 → d.begun.f 3 0 31 + d.begun.f 4 0 31 ≤ u.ptLen k →
      (u.partBad d.begun k ty = true → exec c s = .next (s.keep (u.finish d.begun .partitionFault []))) ∧
      (u.partBad d.begun k ty = false → busy = some k → exec c s = .next (s.keep
        ((u.raise 229 k (u.routeRing d.ring)).finish d.begun .refusedPlaying []))) ∧
      (u.partBad d.begun k ty = false → busy ≠ some k → exec c s = .next (s.keep u)))) ∧
  (∀ (s : State) (r : Fin 64) (data : List Word) (d : Desc) (op : Nat) (c : Instr),
      s.runs = true →
      (c = .stimLoadComplete r data ∧ op = 0x40) ∨ (c = .patLoadComplete r data ∧ op = 0x50) →
      s.running r op = some d →
      (data.length = 8 * d.f 4 0 31 → exec c s = .next (s.keep ((s.loadWrites d data).finish d .ok [BitVec.ofNat 32 (d.f 4 0 31)]))) ∧
    (data.length ≠ 8 * d.f 4 0 31 → exec c s = .next (s.keep s))) ∧
  (∀ (s u : State) (r : Fin 64) (d : Desc) (w : List Word) (n : Nat) (bad : Bool),
      s.starts r 0x41 d = true →
      s.begin r d = u →
      d.begun.f 2 0 11 = n →
      (u.stimBad d.begun [(2, 0x7FF), (8, 0xFFFFFFFF), (9, 0xFFFFFFFF)] || d.begun.haddrBad || decide (n = 0) || Nat.blt 1024 n || tableBad w n) = bad →
      (u.stimForeign d.begun = true → exec (.stimSeqLoad r w) s = .next (s.keep (u.finish d.begun .badDescriptor []))) ∧
    (u.stimForeign d.begun = false → u.fld F.STM_STAT.STATE ≠ 0 → exec (.stimSeqLoad r w) s = .next (s.keep
      ((u.raise 229 0x100 (u.routeRing d.ring)).finish d.begun .refusedPlaying []))) ∧
    (u.stimForeign d.begun = false → u.fld F.STM_STAT.STATE = 0 → bad = true → exec (.stimSeqLoad r w) s = .next (s.keep
      (u.finish d.begun .badDescriptor []))) ∧
    (u.stimForeign d.begun = false → u.fld F.STM_STAT.STATE = 0 → bad = false → exec (.stimSeqLoad r w) s = .next (s.keep
      (((u.setRegs (R.STM_SEQ 0 0) (w.take (4 * n))).setFld F.STM_SEQ_LEN.V n).finish d.begun .ok [BitVec.ofNat 32 n])))) ∧
  (∀ (s u v : State) (r : Fin 64) (d : Desc) (x : Nat),
      s.starts r 0x42 d = true →
      s.begin r d = u →
      d.begun.n 3 + 2 ^ 32 * d.begun.f 4 0 16 = x →
      ((({ u with stm := { u.stm with run := some { seq := d.seq, ring := d.ring, part := d.begun.f 2 0 4, start := d.begun.f 2 8 2, line := d.begun.f 2 12 2, next := some (.entry (d.begun.f 2 16 10)) } } }).setFld F.STM_STAT.STATE 1).setFlag F.STM_STAT.DUAL (d.begun.f 2 4 1 == 1)) = v →
      (∀ st, u.stimStatus d.begun = some st → exec (.stimStart r) s = .next (s.keep (u.finish d.begun st []))) ∧
    (u.stimStatus d.begun = none → exec (.stimStart r) s = .next (s.keep
      (((v.setRegs R.STM_UNDERRUNS [0, 0, 0, 0]).setReg64 R.STM_RATE_LO (if x = 0 then 0 else max x (2 ^ 42))).setFlag
        (F.MEM_PT_CFG.IN_USE (d.begun.f 2 0 4)) true)))) ∧
  (∀ (s : State),
      s.runs = true →
      (∀ r, s.stm.run = some r → s.stimState = 1 → s.memActive = true → exec .stimReady s = .next (s.keep
      ((s.setRun { r with headBad := s.headPoison r, relAt := s.time.elapsed }).setFld F.STM_STAT.STATE 2))) ∧
    (s.stm.run = none ∨ s.stimState ≠ 1 ∨ s.memActive = false → exec .stimReady s = .next (s.keep s)) ∧
    (∀ r, s.pat.run = some r → s.patState = 1 → s.memActive = true → exec .patReady s = .next (s.keep
      ((s.setPat { r with relAt := s.time.elapsed }).setFld F.PAT_STAT2.STATE 2))) ∧
    (s.pat.run = none ∨ s.patState ≠ 1 ∨ s.memActive = false → exec .patReady s = .next (s.keep s))) ∧
  (∀ (s u : State) (ofs : Nat) (ph : Fin 16) (r : StimRun) (e : Nat) (x : Int),
      s.runs = true →
      s.stm.run = some r ∧ -((min ofs (s.cycleLen / 2 ^ 24) * 2 ^ 24 * s.dacFcw * 100000000 : Nat) : Int) = x →
      ((s.setFld F.STM_STAT.STATE 3).setTime R.STM_START_TIME_0 (s.instant ofs)).passBegin { r with phase := if r.start = 1 then ph else 0, acc := x } e 0 = u →
      (r.next = some (.entry e) → s.stimState = 2 → r.start = 0 ∨ r.released = true → s.firstDue r.start r.relAt = true →
      exec (.stimFirstSample ofs ph) s = .next (s.keep
        (u.raise 224 (match s.descOf r.seq with | some d => d.tag.toNat | none => 0) (s.routeRing r.ring)))) ∧
    ((∀ n, r.next ≠ some (.entry n)) ∨ s.stimState ≠ 2 ∨ (r.start ≠ 0 ∧ r.released = false) ∨ s.firstDue r.start r.relAt = false →
      exec (.stimFirstSample ofs ph) s = .next (s.keep s))) ∧
  (∀ (s : State) (ofs l : Nat) (ph : Fin 16) (k : BitVec 64) (o : Fin 2),
      s.runs = true →
      s.stm.run = none →
      exec (.stimFirstSample ofs ph) s = .next (s.keep s) ∧ exec .stimDecisionSample s = .next (s.keep s) ∧
    exec (.stimSegmentBoundary ofs) s = .next (s.keep s) ∧ exec (.stimUnderrunStart k) s = .next (s.keep s) ∧
    exec (.stimUnderrunEnd k) s = .next (s.keep s) ∧ exec (.stimPoisonLine l) s = .next (s.keep s) ∧
    exec (.stimSaturation o k) s = .next (s.keep s) ∧ s.soOut o k.toNat = s.soIdle o) ∧
  (∀ (s : State) (r : StimRun) (k : Nat),
      s.stm.run = some r →
      (s.reaches r k = true ↔ s.stimState = 3 ∧ ∀ e, r.ending = some e → k < e.count) ∧ (s.plays r = true ↔ s.stimState = 3 ∧ r.ending = none) ∧
    (s.stimState ≠ 3 → s.presented r k = 0) ∧
    (s.stimState = 3 → r.next = none → s.presented r k = r.cycleStart (s.countAt r k)) ∧
    (s.stimState = 3 → r.next ≠ none → s.presented r k = max (r.cycleStart (s.countAt r k)) (s.boundary r - 384)) ∧
    (∀ rank code count, r.ending = none → r.cause rank code count k = { r with ending := some ⟨(k + r.phase) / 16, rank, code, count⟩ }) ∧
    (∀ rank code count e, r.ending = some e → (k + r.phase) / 16 < e.cycle ∨ ((k + r.phase) / 16 = e.cycle ∧ e.rank < rank) →
      r.cause rank code count k = { r with ending := some ⟨(k + r.phase) / 16, rank, code, count⟩ }) ∧
    (∀ rank code count e, r.ending = some e → e.cycle < (k + r.phase) / 16 ∨ ((k + r.phase) / 16 = e.cycle ∧ rank ≤ e.rank) →
      r.cause rank code count k = r) ∧
    (∀ e, r.ending = some e → s.stimOver = s.stimEnd r e.code e.count) ∧ (r.ending = none → s.stimOver = s)) ∧
  (∀ (s u : State) (r r1 : StimRun) (used : Option Nat) (taken : Bool) (dd : Int),
      s.runs = true →
      s.stm.run = some r ∧ (s.boundary r : Int) - 384 = dd →
      s.stimOutcome r (s.fld F.STM_ENTRY.V) dd = (r1, used, taken) →
      ((((s.setRun (r1.clearLatches dd)).bumpBy R.STM_REACT_DROP (r.drops dd used)).setFld F.STM_STAT.LOOP_DEPTH r1.loops.length).setFld F.STM_STAT.CALL_DEPTH r1.calls.length).setReg64 R.STM_SCOUNT_LO dd.toNat = u →
      (s.reaches r (s.boundary r - 384) = true → r.next = none → taken = false → exec .stimDecisionSample s = .next (s.keep u)) ∧
    (s.reaches r (s.boundary r - 384) = true → r.next = none → taken = true → exec .stimDecisionSample s = .next (s.keep
      ((u.bump R.STM_REACT_TAKEN).raise 227 (used.getD 0) (s.routeRing r.ring)))) ∧
    (s.reaches r (s.boundary r - 384) = false ∨ r.next ≠ none → exec .stimDecisionSample s = .next (s.keep s))) ∧
  (∀ (s : State) (r : StimRun) (e : Nat) (dd : Int) (x : SeqEntry),
      s.seqEntry e = x →
      (latched dd r.stop = true → s.stimOutcome r e dd = ({ r with next := some (.finish Status.ok.code) }, none, false)) ∧
    (∀ q t p, latched dd r.stop = false → r.jump = some (q, t, p) → (p : Int) < dd → s.stimOutcome r e dd =
      ({ r with next := some (.entry t), jump := none, acting := some (q, t), calls := [], loops := s.keptLoops r.loops t }, none, false)) ∧
    (latched dd r.stop = false → r.jump = none → x.ren = true → latched dd (SMap.get noLatch r.react x.rline) = true →
      s.stimOutcome r e dd = ({ r with next := some (.entry x.rtarget), calls := [], loops := s.keptLoops r.loops x.rtarget }, some x.rline, true)) ∧
    (latched dd r.stop = false → r.jump = none → x.ren = false → x.ctrl = 5 → latched dd (r.waitLatch x) = false →
      s.stimOutcome r e dd = ({ r with next := some (.entry e) }, none, false)) ∧
    (latched dd r.stop = false → r.jump = none → x.ren = false → x.ctrl ≠ 5 → s.stimOutcome r e dd =
      ({ r with next := some (s.inTable (s.stimCtrl r e).1), loops := (s.stimCtrl r e).2.1, calls := (s.stimCtrl r e).2.2 }, none, false))) ∧
  (∀ (s : State) (ofs : Nat) (r : StimRun),
      s.runs = true →
      s.stm.run = some r →
      (∀ code, s.reaches r (s.boundary r) = true → r.next = some (.finish code) → exec (.stimSegmentBoundary ofs) s = .next (s.keep
      (s.setRun (r.cause (if code = 0 then 1 else 3) code (s.boundary r) (s.boundary r - 1))))) ∧
    (∀ e, s.reaches r (s.boundary r) = true → r.next = some (.entry e) → exec (.stimSegmentBoundary ofs) s = .next (s.keep
      ((s.jumpDone r (s.boundary r) (s.instant ofs)).passBegin r e (s.boundary r)))) ∧
    (s.reaches r (s.boundary r) = false ∨ r.next = none → exec (.stimSegmentBoundary ofs) s = .next (s.keep s))) ∧
  (∀ (s u : State) (r : StimRun) (e k : Nat) (x : SeqEntry),
      s.seqEntry e = x →
      ((s.setRun { r with first := r.frames, frames := r.frames + x.len, next := none, acting := none, seen := [], prev := if r.frames = 0 then none else some (s.fld F.STM_ENTRY.V, r.first) }).setFld F.STM_ENTRY.V e).setReg64 R.STM_SCOUNT_LO k = u →
      (x.ramp = true → s.passBegin r e k = u.rampGo x.rseg) ∧ (x.ramp = false → s.passBegin r e k = u)) ∧
  (∀ (s u : State) (r : Fin 64) (d : Desc) (p : BitVec 64) (bad : Bool),
      s.starts r 0x43 d = true →
      s.begin r d = u →
      u.stimBad d.begun [(2, 1)] = bad →
      (bad = true → exec (.stimStop r p) s = .next (s.keep (u.finish d.begun .badDescriptor []))) ∧
    (bad = false → u.stm.run = none → exec (.stimStop r p) s = .next (s.keep (u.finish d.begun .ok [0]))) ∧
    (∀ x, bad = false → u.stm.run = some x → u.stimState ≠ 3 → exec (.stimStop r p) s = .next (s.keep
      ((u.stimEnd x Status.truncated.code 0).finish d.begun .ok [1]))) ∧
    (∀ x, bad = false → u.stm.run = some x → u.stimState = 3 → d.begun.f 2 0 1 = 1 → exec (.stimStop r p) s = .next (s.keep
      ((u.setRun (x.cause 4 Status.truncated.code (x.cycleEnd (u.countAt x p.toNat)) (u.countAt x p.toNat))).finish d.begun .ok [1]))) ∧
    (∀ x, bad = false → u.stm.run = some x → u.stimState = 3 → d.begun.f 2 0 1 ≠ 1 → exec (.stimStop r p) s = .next (s.keep
      ((u.setRun { x with stop := some (x.stop.getD (u.presented x p.toNat)) }).finish d.begun .ok [1])))) ∧
  (∀ (s u : State) (r : Fin 64) (d : Desc) (p : BitVec 64) (t : Nat) (bad : Bool),
      s.starts r 0x44 d = true →
      s.begin r d = u →
      d.begun.f 2 0 10 = t →
      (u.stimBad d.begun [(2, 0x3FF)] || Nat.ble (u.fld F.STM_SEQ_LEN.V) t || !(u.seqEntry t).head || Nat.blt u.stimState 2) = bad →
      (bad = true ∨ u.stm.run = none → exec (.stimJump r p) s = .next (s.keep (u.finish d.begun .badDescriptor []))) ∧
    (∀ x, bad = false → u.stm.run = some x → exec (.stimJump r p) s = .next (s.keep
      ((u.abortDesc (x.jump.map (·.1))).setRun { x with jump := some (d.seq, t, u.presented x p.toNat) })))) ∧
  (∀ (s u : State) (r : Fin 64) (d : Desc) (p : BitVec 64) (bad : Bool),
      s.starts r 0x45 d = true →
      s.begin r d = u →
      u.stimBad d.begun [] = bad →
      (bad = true → exec (.stimGo r p) s = .next (s.keep (u.finish d.begun .badDescriptor []))) ∧
    (bad = false → u.stm.run = none → exec (.stimGo r p) s = .next (s.keep (u.finish d.begun .ok [0]))) ∧
    (∀ x, bad = false → u.stm.run = some x → u.stimState = 1 → x.start = 3 → x.released = false → exec (.stimGo r p) s = .next (s.keep
      ((u.setFlag F.STM_STAT.MISSED_RELEASE true).finish d.begun .ok [0]))) ∧
    (∀ x, bad = false → u.stm.run = some x → u.stimState = 2 → x.start = 3 → x.released = false → exec (.stimGo r p) s = .next (s.keep
      ((u.setRun { x with released := true, relAt := u.time.elapsed }).finish d.begun .ok [1]))) ∧
    (∀ x, bad = false → u.stm.run = some x → u.stimState ≠ 1 → u.stimState = 3 ∨ x.start ≠ 3 ∨ x.released = true →
      exec (.stimGo r p) s = .next (s.keep
        ((u.setRun { x with go := some (x.go.getD (u.presented x p.toNat)) }).finish d.begun .ok [1])))) ∧
  (∀ (s : State) (k : BitVec 64) (n l e i : Nat) (o : Fin 2) (r : StimRun) (code : Int),
      s.runs = true ∧ k.toNat = n →
      s.stm.run = some r ∧ s.soRaw o (s.resampled r o n) = code →
      s.fld F.STM_ENTRY.V = e ∧ (l - s.frameLine r e 0) * (32 / stimFrame s.stimDual) = i →
      (s.plays r = true → r.under = none → s.fetchKept = false → s.countAt r n = n → s.needsFifo r n = true →
      exec (.stimUnderrunStart k) s = .next (s.keep
        ((s.setRun { r with under := some n, tainted := true }).setFlag F.STM_STAT.UNDERRUN true))) ∧
    (s.plays r = false ∨ r.under ≠ none ∨ s.fetchKept = true ∨ s.countAt r n ≠ n ∨ s.needsFifo r n = false →
      exec (.stimUnderrunStart k) s = .next (s.keep s)) ∧
    (∀ k0, s.plays r = true → s.countAt r n = n → r.cycleStart n = n → r.under = some k0 → k0 < n →
      s.memActive = true ∨ (∀ j < 16, s.needsFifo r (n + j) = false) → exec (.stimUnderrunEnd k) s = .next (s.keep
        (((((((s.setRun { r with under := none }).setFlag F.STM_STAT.UNDERRUN false).setFlag F.STM_STAT.UNDERRUN_SEEN true).bump
          R.STM_UNDERRUNS).bumpSat F.STM_HELD.V (n - k0)).each s.stimOuts (fun t o =>
            t.raise 226 (o + 2 ^ 8 * satNat (2 ^ 24 - 1) ((n - k0) / 64)) (t.routeRing r.ring)))))) ∧
    (s.plays r = false ∨ s.countAt r n ≠ n ∨ r.cycleStart n ≠ n ∨ r.under = none ∨ (∃ k0, r.under = some k0 ∧ n ≤ k0) ∨
        (s.memActive = false ∧ ∃ j < 16, s.needsFifo r (n + j) = true) → exec (.stimUnderrunEnd k) s = .next (s.keep s)) ∧
    (s.plays r = true → r.under = none → s.frameLine r e 0 ≤ l → i < (s.seqEntry e).len → s.framePoison r e i = true → l ∉ r.seen →
      exec (.stimPoisonLine l) s = .next (s.keep
        (((s.setRun { r with tainted := true, seen := l :: r.seen }).bumpSat F.STM_POISON.V 1).raise 230 l (s.routeRing r.ring)))) ∧
    (s.plays r = false ∨ r.under ≠ none ∨ l < s.frameLine r e 0 ∨ (s.seqEntry e).len ≤ i ∨ s.framePoison r e i = false ∨ l ∈ r.seen →
      exec (.stimPoisonLine l) s = .next (s.keep s)) ∧
    (s.countAt r n = n → s.sounds r o n = true → (code < -8191 ∨ 8191 < code) →
      exec (.stimSaturation o k) s = .next (s.keep (s.raiseOnce (if o.val = 0 then F.STM_STAT.SAT0 else F.STM_STAT.SAT1) 231 o (s.routeRing r.ring)))) ∧
    (s.countAt r n ≠ n ∨ s.sounds r o n = false ∨ (-8191 ≤ code ∧ code ≤ 8191) → exec (.stimSaturation o k) s = .next (s.keep s)) ∧
    (s.sounds r o n = true → s.soOut o n = clampInt (-8191) 8191 code) ∧ (s.sounds r o n = false → s.soOut o n = s.soIdle o)) ∧
  (∀ (s u v : State) (r : StimRun) (code k st : Nat) (last : Word),
      (((s.underrunOver r k).abortDesc (r.acting.map (·.1))).abortDesc (r.jump.map (·.1))).lastEntry r = (last, u) →
      (if code = 0 ∧ r.tainted = true then 10 else code) = st →
      (((((({ u with stm := { u.stm with run := none } }).setReg64 R.STM_SCOUNT_LO k).setFld F.STM_STAT.STATE 0).setFld F.STM_STAT.LOOP_DEPTH 0).setFld F.STM_STAT.CALL_DEPTH 0).setFlag F.STM_STAT.DUAL false).setFlag (F.MEM_PT_CFG.IN_USE r.part) false = v →
      (∀ d, (v.raise 225 st (s.routeRing r.ring)).descOf r.seq = some d → s.stimEnd r code k =
      ((v.raise 225 st (s.routeRing r.ring)).completeCode d st
        [lo32 k, hi32 k, u.reg R.STM_HELD, u.reg R.STM_POISON, u.reg R.STM_REACT_TAKEN, last]).flushRefused d.ring 8) ∧
    ((v.raise 225 st (s.routeRing r.ring)).descOf r.seq = none → s.stimEnd r code k = v.raise 225 st (s.routeRing r.ring)))

/-- A timing-set load or a start of the wrong owner, form, sets, partition or time completes with its status; good
sets are stored and shown valid; an accepted start enters LOADING with counters cleared. The first period, once due,
shows PLAYING, timing set 0, the time and E232. At a vector boundary the vector's periods count and its edges set the
pins; the run then ends, or its next vector begins with its timing set, a refused one counting with E235. A stop or go
acts by state; under-runs and poison lines set their flags, counts and events. The end reports counts, frees the
partition, and the pins idle. Whole next states. -/
def Obligations.PatternRuns : Prop :=
  (∀ (s u : State) (r : Fin 64) (d : Desc) (w : List Word) (sets : List Nat) (part : Nat → List Word) (bad : Bool),
      s.starts r 0x51 d = true →
      s.begin r d = u →
      bitsSet (d.begun.f 2 0 16) 16 = sets ∧ (fun (i : Nat) => (List.range 64).map (fun j => dwAt w (64 * i + j))) = part →
      (!(d.begun.reservedClear 2 [(2, 0xFFFF), (8, 0xFFFFFFFF), (9, 0xFFFFFFFF)]) || d.begun.haddrBad || sets.isEmpty || (List.range sets.length).any (fun i => tsetBad (part i))) = bad →
      (u.patForeign d.begun = true → exec (.patTsetLoad r w) s = .next (s.keep (u.finish d.begun .badDescriptor []))) ∧
    (u.patForeign d.begun = false → u.patState ≠ 0 → exec (.patTsetLoad r w) s = .next (s.keep
      ((u.raise 229 0x200 (u.routeRing d.ring)).finish d.begun .refusedPlaying []))) ∧
    (u.patForeign d.begun = false → u.patState = 0 → bad = true → exec (.patTsetLoad r w) s = .next (s.keep
      (u.finish d.begun .badDescriptor []))) ∧
    (∀ v, u.patForeign d.begun = false → u.patState = 0 → bad = false →
      sets.zipIdx.foldl (fun t e => t.setRegs (R.PAT_TS e.1 0) (part e.2)) u = v → exec (.patTsetLoad r w) s = .next (s.keep
        ((v.setReg R.PAT_TSVALID (v.reg R.PAT_TSVALID ||| BitVec.ofNat 32 (d.begun.f 2 0 16))).finish d.begun .ok
          [BitVec.ofNat 32 (d.begun.f 2 0 16)])))) ∧
  (∀ (s u v : State) (r : Fin 64) (d : Desc) (x : PatRun),
      s.starts r 0x52 d = true →
      s.begin r d = u →
      ({ seq := d.seq, ring := d.ring, part := d.begun.f 2 0 4, first := d.begun.f 3 0 31, count := d.begun.n 4, loops := d.begun.f 5 0 16, start := d.begun.f 2 8 3, line := d.begun.f 2 12 2, scount := dw64 d.begun.dw 6 } : PatRun) = x →
      (((u.setPat x).setFld F.PAT_STAT2.STATE 1).setReg R.PAT_HELD 0).setReg R.PAT_POISON 0 = v →
      (∀ st, u.patStatus d.begun = some st → exec (.patStart r) s = .next (s.keep (u.finish d.begun st []))) ∧
    (u.patStatus d.begun = none → exec (.patStart r) s = .next (s.keep
      ((((v.setReg R.PAT_TSREFUSED 0).setReg R.PAT_UNDERRUNS 0).setReg64 R.PAT_VCOUNT_LO 0).setFlag (F.MEM_PT_CFG.IN_USE x.part) true)))) ∧
  (∀ (s u : State) (ofs x : Nat) (ph : Fin 16) (a : Int) (r : PatRun),
      s.runs = true →
      s.pat.run = some r ∧ s.patOfs r ofs = x ∧ -((x * 2 ^ 24 * s.dacFcw * 100000000 : Nat) : Int) = a →
      ((s.setFld F.PAT_STAT2.STATE 3).setFld F.PAT_STAT.TS 0).setTime R.PAT_START_TIME_0 (s.instant x) = u →
      (s.patState = 2 → s.patDue r = true → exec (.patFirstPeriod ofs ph) s = .next (s.keep
      ((u.vectorBegin { r with acc := a, phase := s.patPhase r ph } 0 s.dacFcw).raise 232
        (match s.descOf r.seq with | some d => d.tag.toNat | none => 0) (s.routeRing r.ring)))) ∧
    (s.patState ≠ 2 ∨ s.patDue r = false → exec (.patFirstPeriod ofs ph) s = .next (s.keep s)) ∧
    (r.start = 0 → s.patDue r = s.firstDue 0 r.relAt) ∧
    (r.start ≠ 0 → r.start ≠ 4 → s.patDue r = (r.released && s.firstDue r.start r.relAt)) ∧
    (r.start = 4 → s.patDue r = (r.released || s.stimCrosses r.scount))) ∧
  (∀ (s u v : State) (r r1 r2 r3 : PatRun) (wrap ov : Bool),
      s.runs = true →
      (s.pat.run = some r ∧ s.patState = 3 ∧ (∀ e, r.ending = some e → r.base + s.vectorLen r < e.count)) →
      s.vectorDone r r.reps 0 s.dacFcw = (u, r1) ∧ (r1.vec + 1 == r1.count) = wrap →
      (if wrap then { r1 with pass := r1.pass + 1 } else r1) = r2 ∧ u.patResume r2 = (v, r3) →
      (wrap && r2.pass == r2.loops && r2.loops != 0) = ov →
      (ov = true → exec .patVectorBoundary s = .next (s.keep (u.setPat (r2.cause 1 Status.ok.code r2.base (r2.base - 1))))) ∧
    (ov = false → r2.stop = true → exec .patVectorBoundary s = .next (s.keep (u.setPat (r2.cause 2 Status.ok.code r2.base (r2.base - 1))))) ∧
    (ov = false → r2.stop = false → exec .patVectorBoundary s = .next (s.keep
      (v.vectorBegin r3 (if wrap then 0 else r3.vec + 1) s.dacFcw)))) ∧
  (∀ (s : State) (ofs l : Nat) (ph : Fin 16) (r : PatRun),
      s.runs = true →
      (s.pat.run = none → exec (.patFirstPeriod ofs ph) s = .next (s.keep s) ∧ exec .patVectorBoundary s = .next (s.keep s) ∧
      exec .patUnderrunStart s = .next (s.keep s) ∧ exec .patUnderrunEnd s = .next (s.keep s) ∧ exec (.patPoisonLine l) s = .next (s.keep s)) ∧
    (s.pat.run = some r → s.patState ≠ 3 ∨ (∃ e, r.ending = some e ∧ e.count ≤ r.base + s.vectorLen r) →
      exec .patVectorBoundary s = .next (s.keep s))) ∧
  (∀ (s u z : State) (r x : PatRun) (i fcw t n : Nat) (odd : Bool),
      ((dwAt (s.vector r i) 2 &&& 0xFFF0#32) != 0 || dwAt (s.vector r i) 3 != 0) = odd ∧ getBits (dwAt (s.vector r i) 2) 0 4 = t →
      s.vectorReps r i = (n, z) ∧ ({ r with vec := i, reps := n, noted := r.notedAt i } : PatRun) = x →
      (if odd && !r.rsvd then (z.setPat { x with quiet := false, missed := false, rsvd := r.rsvd || odd }).setFlag F.PAT_STAT.RSVD_SEEN true else z.setPat { x with quiet := false, missed := false, rsvd := r.rsvd || odd }) = u →
      (s.flag F.PAT_STAT.UNDERRUN = true → s.vectorBegin r i fcw = z.setPat { x with quiet := true, missed := true }) ∧
    (s.flag F.PAT_STAT.UNDERRUN = false → s.vectorPoison r i = true → s.vectorBegin r i fcw = z.setPat { x with quiet := true, missed := false }) ∧
    (s.flag F.PAT_STAT.UNDERRUN = false → s.vectorPoison r i = false → u.tsGood t fcw = true → s.vectorBegin r i fcw = u.setFld F.PAT_STAT.TS t) ∧
    (s.flag F.PAT_STAT.UNDERRUN = false → s.vectorPoison r i = false → u.tsGood t fcw = false → s.vectorBegin r i fcw =
      (u.bump R.PAT_TSREFUSED).raise 235 t (s.routeRing r.ring)) ∧
    (s.vectorPoison r i = false → n = getBits (dwAt (s.vector r i) 2) 16 16 + 1 ∧ z = s) ∧
    (∀ w y, s.vectorPoison r i = true → s.draw 16 = (w, y) → n = w.toNat + 1 ∧ z = y)) ∧
  (∀ (s u : State) (r : Fin 64) (d : Desc) (n : Nat) (bad : Bool),
      s.starts r 0x53 d = true →
      s.begin r d = u →
      u.patBad d.begun [(2, 1)] = bad →
      (bad = true → exec (.patStop r n) s = .next (s.keep (u.finish d.begun .badDescriptor []))) ∧
    (bad = false → u.pat.run = none → exec (.patStop r n) s = .next (s.keep (u.finish d.begun .ok [0]))) ∧
    (∀ x, bad = false → u.pat.run = some x → d.begun.f 2 0 1 = 1 → exec (.patStop r n) s = .next (s.keep
      ((u.patHalt x 3 Status.truncated.code n).finish d.begun .ok [1]))) ∧
    (∀ x, bad = false → u.pat.run = some x → d.begun.f 2 0 1 ≠ 1 → u.patState ≠ 3 → exec (.patStop r n) s = .next (s.keep
      ((u.patEnd x Status.ok.code).finish d.begun .ok [1]))) ∧
    (∀ x, bad = false → u.pat.run = some x → d.begun.f 2 0 1 ≠ 1 → u.patState = 3 → exec (.patStop r n) s = .next (s.keep
      ((u.setPat { x with stop := true }).finish d.begun .ok [1])))) ∧
  (∀ (s u : State) (x y : PatRun) (rank code count k n p : Nat),
      s.vectorDone x ((count - x.base) / s.periodLen) ((count - x.base) % s.periodLen) s.dacFcw = (u, y) →
      s.pat.run = some x ∧ x.base + min (s.vectorLen x) (131072 * max n (x.acc / (2 ^ 96 : Nat)).toNat) = p →
      s.patCut x code count = (u.setPat y).patEnd y code ∧ (x.ending = none → s.patOver = s) ∧
    (∀ e, x.ending = some e → s.patOver = s.patCut x e.code e.count) ∧
    (s.patState ≠ 3 → s.patHalt x rank code n = s.patEnd x code) ∧
    (s.patState = 3 → s.patHalt x rank code n =
      s.setPat (x.cause rank code ((16 * ((p / 131072 + x.phase) / 16 + 1) - x.phase) * 131072) p)) ∧
    (x.ending = none → x.cause rank code count k = { x with ending := some ⟨(k / 131072 + x.phase) / 16, rank, code, count⟩ }) ∧
    (∀ e, x.ending = some e → (k / 131072 + x.phase) / 16 < e.cycle ∨ ((k / 131072 + x.phase) / 16 = e.cycle ∧ e.rank < rank) →
      x.cause rank code count k = { x with ending := some ⟨(k / 131072 + x.phase) / 16, rank, code, count⟩ }) ∧
    (∀ e, x.ending = some e → e.cycle < (k / 131072 + x.phase) / 16 ∨ ((k / 131072 + x.phase) / 16 = e.cycle ∧ rank ≤ e.rank) →
      x.cause rank code count k = x)) ∧
  (∀ (s u : State) (r : Fin 64) (d : Desc) (bad : Bool),
      s.starts r 0x54 d = true →
      s.begin r d = u →
      u.patBad d.begun [] = bad →
      (bad = true → exec (.patGo r) s = .next (s.keep (u.finish d.begun .badDescriptor []))) ∧
    (bad = false → u.pat.run = none → exec (.patGo r) s = .next (s.keep (u.finish d.begun .ok [0]))) ∧
    (∀ x, bad = false → u.pat.run = some x → u.patState = 2 → x.start = 3 → x.released = false → exec (.patGo r) s = .next (s.keep
      ((u.setPat { x with released := true, relAt := u.time.elapsed }).finish d.begun .ok [1]))) ∧
    (∀ x, bad = false → u.pat.run = some x → u.patState = 1 → x.start = 3 → x.released = false → exec (.patGo r) s = .next (s.keep
      ((u.setFlag F.PAT_STAT.MISSED_RELEASE true).finish d.begun .ok [0]))) ∧
    (∀ x, bad = false → u.pat.run = some x → (x.start ≠ 3 ∨ x.released = true) → exec (.patGo r) s = .next (s.keep (u.finish d.begun .ok [0])))) ∧
  (∀ (s : State) (r : PatRun) (l a : Nat),
      s.runs = true →
      s.pat.run = some r ∧ s.ptBase r.part + r.first + r.vec / 2 = a →
      (s.patState = 3 → r.ending = none → s.flag F.PAT_STAT.UNDERRUN = false → s.fetchKept = false → exec .patUnderrunStart s = .next (s.keep
        ((s.setPat { r with tainted := true, held := 0 }).setFlag F.PAT_STAT.UNDERRUN true))) ∧
    (s.patState ≠ 3 ∨ r.ending ≠ none ∨ s.flag F.PAT_STAT.UNDERRUN = true ∨ s.fetchKept = true → exec .patUnderrunStart s = .next (s.keep s)) ∧
    (s.flag F.PAT_STAT.UNDERRUN = true → s.memActive = true → exec .patUnderrunEnd s = .next (s.keep (s.setPat { r with caught := true }))) ∧
    (s.flag F.PAT_STAT.UNDERRUN = false ∨ s.memActive = false → exec .patUnderrunEnd s = .next (s.keep s)) ∧
    (s.patState = 3 → r.quiet = true → r.missed = false → r.noted ≠ some a → exec (.patPoisonLine a) s = .next (s.keep
        (((s.setPat { r with tainted := true, noted := some a }).bumpSat F.PAT_POISON.V 1).raise 236 a (s.routeRing r.ring)))) ∧
    (s.patState ≠ 3 ∨ r.quiet = false ∨ r.missed = true ∨ l ≠ a ∨ r.noted = some l → exec (.patPoisonLine l) s = .next (s.keep s)) ∧
    (r.caught = false → s.patResume r = (s, r)) ∧
    (r.caught = true → s.flag F.PAT_STAT.UNDERRUN = true → s.patResume r =
        ((((s.setFlag F.PAT_STAT.UNDERRUN false).setFlag F.PAT_STAT.UNDERRUN_SEEN true).bump R.PAT_UNDERRUNS).raise 234 r.held
          (s.routeRing r.ring), { r with caught := false, held := 0 }))) ∧
  (∀ (s u v : State) (r : PatRun) (code st : Nat),
      s.patUnderOver r = u ∧ (if code = 0 ∧ r.tainted = true then 10 else code) = st →
      ((if ((({ u with pat := { u.pat with run := none } }).setFld F.PAT_STAT2.STATE 0).clk.stimOn) then (({ u with pat := { u.pat with run := none } }).setFld F.PAT_STAT2.STATE 0).patIdle else ({ u with pat := { u.pat with run := none } }).setFld F.PAT_STAT2.STATE 0).setFlag (F.MEM_PT_CFG.IN_USE r.part) false).raise 233 st (s.routeRing r.ring) = v →
      (∀ d, v.descOf r.seq = some d → s.patEnd r code = (v.completeCode d st
        [u.reg R.PAT_VCOUNT_LO, u.reg R.PAT_VCOUNT_HI, u.reg R.PAT_HELD, u.reg R.PAT_POISON, u.reg R.PAT_TSREFUSED,
          BitVec.ofNat 32 r.pass]).flushRefused d.ring 8) ∧
    (v.descOf r.seq = none → s.patEnd r code = v) ∧
    s.patIdle = { s with pat := { s.pat with on := bitsOf ((List.range 32).filter (fun p => Nat.blt (driveCode [s.reg R.PAT_IDLE_LO, s.reg R.PAT_IDLE_HI] p) 2)), high := bitsOf ((List.range 32).filter (fun p => driveCode [s.reg R.PAT_IDLE_LO, s.reg R.PAT_IDLE_HI] p == 1)) } })
end

