-- ==== Sys2Proof/Laws/Bits.lean ====
section
/-!
SUPPORT. Reading and writing fields of a word.
-/
namespace Sys2Proof.Machine

theorem getBits_lt (v : Word) (lo w : Nat) : getBits v lo w < 2 ^ w := (v.extractLsb' lo w).isLt

theorem testBit_mask (lo w i : Nat) : Nat.testBit ((2 ^ w - 1) * 2 ^ lo) i = (decide (lo ≤ i) && decide (i < lo + w)) := by
  rw [Nat.mul_comm, Nat.testBit_two_pow_mul, Nat.testBit_two_pow_sub_one]
  by_cases h : lo ≤ i
  · simp only [h, decide_true, Bool.true_and, decide_eq_decide]; omega
  · simp [h]

theorem getLsbD_maskBits (lo w i : Nat) :
    (maskBits lo w).getLsbD i = (decide (i < 32) && decide (lo ≤ i) && decide (i < lo + w)) := by
  rw [maskBits, BitVec.getLsbD_ofNat, testBit_mask, Bool.and_assoc]

/-- One bit of a word whose field has been written. -/
theorem getLsbD_putBits (v : Word) (lo w x i : Nat) :
    (putBits v lo w x).getLsbD i
      = (decide (i < 32) && (if lo ≤ i ∧ i < lo + w then Nat.testBit x (i - lo) else v.getLsbD i)) := by
  have hx : Nat.testBit (x % 2 ^ w * 2 ^ lo) i = (decide (lo ≤ i) && (decide (i < lo + w) && Nat.testBit x (i - lo))) := by
    rw [Nat.mul_comm, Nat.testBit_two_pow_mul, Nat.testBit_mod_two_pow]
    by_cases h : lo ≤ i
    · have : (i - lo < w) ↔ (i < lo + w) := by omega
      simp [h, this]
    · simp [h]
  simp only [putBits, BitVec.getLsbD_or, BitVec.getLsbD_and, BitVec.getLsbD_not, getLsbD_maskBits, BitVec.getLsbD_ofNat, hx]
  by_cases h32 : i < 32
  · by_cases h1 : lo ≤ i <;> by_cases h2 : i < lo + w <;> simp [h32, h1, h2]
  · simp [h32, BitVec.getLsbD_of_ge v i (by omega)]

/-- A field reads the value written to it. -/
theorem getBits_putBits_self (v : Word) (lo w x : Nat) (h : lo + w ≤ 32) :
    getBits (putBits v lo w x) lo w = x % 2 ^ w := by
  apply Nat.eq_of_testBit_eq
  intro i
  rw [getBits, BitVec.testBit_toNat, BitVec.getLsbD_extractLsb', getLsbD_putBits, Nat.testBit_mod_two_pow]
  by_cases hi : i < w
  · have h1 : lo + i < 32 := by omega
    have h2 : lo ≤ lo + i ∧ lo + i < lo + w := by omega
    rw [if_pos h2]; simp [hi, h1]
  · simp [hi]

/-- A field disjoint from the one written keeps its value. -/
theorem getBits_putBits_ne (v : Word) (lo w x lo' w' : Nat) (h : lo' + w' ≤ lo ∨ lo + w ≤ lo') :
    getBits (putBits v lo w x) lo' w' = getBits v lo' w' := by
  apply Nat.eq_of_testBit_eq
  intro i
  rw [getBits, getBits, BitVec.testBit_toNat, BitVec.testBit_toNat, BitVec.getLsbD_extractLsb', BitVec.getLsbD_extractLsb',
    getLsbD_putBits]
  by_cases hi : i < w'
  · have h2 : ¬ (lo ≤ lo' + i ∧ lo' + i < lo + w) := by omega
    rw [if_neg h2]
    by_cases h32 : lo' + i < 32
    · simp [h32]
    · simp [h32, BitVec.getLsbD_of_ge v (lo' + i) (by omega)]
  · simp [hi]

end Sys2Proof.Machine
end

