-- ==== Sys2Proof/Laws/SMap.lean ====
section
/-!
SUPPORT. The laws of the sparse maps: reading after a write, and the canonical form that every write keeps.
-/
namespace Sys2Proof.Machine

variable {α : Type}

theorem SMap.get_erase_self (d : Nat → α) (m : SMap α) (k : Nat) : SMap.get d (SMap.erase m k) k = d k := by
  induction m with
  | nil => rfl
  | cons e r ih => rcases e with ⟨j, v⟩; by_cases h : j = k <;> simp [SMap.erase, SMap.get, h, ih]

theorem SMap.get_erase_ne (d : Nat → α) (m : SMap α) {k i : Nat} (h : i ≠ k) :
    SMap.get d (SMap.erase m k) i = SMap.get d m i := by
  induction m with
  | nil => rfl
  | cons e r ih =>
    rcases e with ⟨j, v⟩
    by_cases hk : j = k
    · subst hk; simp [SMap.erase, SMap.get, ih, Ne.symm h]
    · simp [SMap.erase, SMap.get, hk, ih]

theorem SMap.get_insert_self (d : Nat → α) (m : SMap α) (k : Nat) (v : α)
    (hk : ∀ e ∈ m, e.1 ≠ k) : SMap.get d (SMap.insert m k v) k = v := by
  induction m with
  | nil => simp [SMap.insert, SMap.get]
  | cons e r ih =>
    rcases e with ⟨j, u⟩
    have hj : j ≠ k := hk (j, u) (by simp)
    by_cases h : k < j
    · simp [SMap.insert, SMap.get, h]
    · simp only [SMap.insert, h, if_false, SMap.get, hj]
      exact ih (fun e he => hk e (by simp [he]))

theorem SMap.get_insert_ne (d : Nat → α) (m : SMap α) {k i : Nat} (v : α) (h : i ≠ k) :
    SMap.get d (SMap.insert m k v) i = SMap.get d m i := by
  induction m with
  | nil => simp [SMap.insert, SMap.get, Ne.symm h]
  | cons e r ih =>
    rcases e with ⟨j, u⟩
    by_cases hk : k < j
    · simp [SMap.insert, SMap.get, hk, Ne.symm h]
    · simp [SMap.insert, SMap.get, hk, ih]

theorem SMap.erase_keys (m : SMap α) (k : Nat) : ∀ e ∈ SMap.erase m k, e.1 ≠ k := by
  induction m with
  | nil => simp [SMap.erase]
  | cons e r ih =>
    rcases e with ⟨j, v⟩
    by_cases h : j = k
    · simpa [SMap.erase, h] using ih
    · intro x hx
      simp only [SMap.erase, h, if_false, List.mem_cons] at hx
      rcases hx with rfl | hx
      · exact h
      · exact ih x hx

/-- A read after a write: the value written at its key, and everywhere else what was there. -/
theorem SMap.get_set [DecidableEq α] (d : Nat → α) (m : SMap α) (k i : Nat) (v : α) :
    SMap.get d (SMap.set d m k v) i = if i = k then v else SMap.get d m i := by
  unfold SMap.set
  by_cases hv : v = d k
  · by_cases h : i = k
    · subst h; simp [hv, SMap.get_erase_self]
    · simp [hv, h, SMap.get_erase_ne d m h]
  · by_cases h : i = k
    · subst h; simp [hv, SMap.get_insert_self d _ i v (SMap.erase_keys m i)]
    · simp [hv, h, SMap.get_insert_ne d _ v h, SMap.get_erase_ne d m h]

@[simp] theorem SMap.get_set_self [DecidableEq α] (d : Nat → α) (m : SMap α) (k : Nat) (v : α) :
    SMap.get d (SMap.set d m k v) k = v := by simp [SMap.get_set]

theorem SMap.get_set_ne [DecidableEq α] (d : Nat → α) (m : SMap α) {k i : Nat} (v : α) (h : i ≠ k) :
    SMap.get d (SMap.set d m k v) i = SMap.get d m i := by simp [SMap.get_set, h]

theorem SMap.above_erase {k : Nat} (m : SMap α) (i : Nat) (h : SMap.above k m = true) :
    SMap.above k (SMap.erase m i) = true := by
  induction m with
  | nil => rfl
  | cons e r ih =>
    rcases e with ⟨j, v⟩
    simp only [SMap.above, List.all_cons, Bool.and_eq_true] at h
    by_cases hj : j = i
    · simpa [SMap.erase, hj] using ih h.2
    · simp only [SMap.erase, hj, if_false, SMap.above, List.all_cons, Bool.and_eq_true]
      exact ⟨h.1, ih h.2⟩

theorem SMap.above_insert {k : Nat} (m : SMap α) (i : Nat) (v : α) (hi : k < i) (h : SMap.above k m = true) :
    SMap.above k (SMap.insert m i v) = true := by
  induction m with
  | nil => simp [SMap.insert, SMap.above, hi]
  | cons e r ih =>
    rcases e with ⟨j, u⟩
    simp only [SMap.above, List.all_cons, Bool.and_eq_true] at h
    by_cases hj : i < j
    · simp only [SMap.insert, hj, if_true, SMap.above, List.all_cons, Bool.and_eq_true, decide_eq_true_eq]
      exact ⟨hi, by simpa using h.1, h.2⟩
    · simp only [SMap.insert, hj, if_false, SMap.above, List.all_cons, Bool.and_eq_true]
      exact ⟨h.1, ih h.2⟩

theorem SMap.wf_erase [DecidableEq α] {d : Nat → α} (m : SMap α) (k : Nat) (h : SMap.wf d m = true) :
    SMap.wf d (SMap.erase m k) = true := by
  induction m with
  | nil => rfl
  | cons e r ih =>
    rcases e with ⟨j, v⟩
    simp only [SMap.wf, Bool.and_eq_true] at h
    by_cases hj : j = k
    · simpa [SMap.erase, hj] using ih h.2
    · simp only [SMap.erase, hj, if_false, SMap.wf, Bool.and_eq_true]
      exact ⟨⟨SMap.above_erase r k h.1.1, h.1.2⟩, ih h.2⟩

theorem SMap.above_mono {j k : Nat} (m : SMap α) (hjk : j < k) (h : SMap.above k m = true) :
    SMap.above j m = true := by
  simp only [SMap.above, List.all_eq_true, decide_eq_true_eq] at h ⊢
  exact fun e he => Nat.lt_trans hjk (h e he)

theorem SMap.wf_insert [DecidableEq α] {d : Nat → α} (m : SMap α) (k : Nat) (v : α) (hv : v ≠ d k)
    (hk : ∀ e ∈ m, e.1 ≠ k) (h : SMap.wf d m = true) : SMap.wf d (SMap.insert m k v) = true := by
  induction m with
  | nil => simp [SMap.insert, SMap.wf, SMap.above, hv]
  | cons e r ih =>
    rcases e with ⟨j, u⟩
    have hj : j ≠ k := hk (j, u) (by simp)
    have h' := h
    simp only [SMap.wf, Bool.and_eq_true] at h
    by_cases hlt : k < j
    · simp only [SMap.insert, hlt, if_true]
      have ha : SMap.above k ((j, u) :: r) = true := by
        have := SMap.above_mono r hlt h.1.1
        simp only [SMap.above, List.all_cons, Bool.and_eq_true, decide_eq_true_eq] at this ⊢
        exact ⟨hlt, this⟩
      rw [SMap.wf, ha, h']
      simp [hv]
    · simp only [SMap.insert, hlt, if_false, SMap.wf, Bool.and_eq_true]
      exact ⟨⟨SMap.above_insert r k v (by omega) h.1.1, h.1.2⟩, ih (fun e he => hk e (by simp [he])) h.2⟩

/-- Every write keeps the canonical form. -/
theorem SMap.wf_set [DecidableEq α] {d : Nat → α} (m : SMap α) (k : Nat) (v : α) (h : SMap.wf d m = true) :
    SMap.wf d (SMap.set d m k v) = true := by
  unfold SMap.set
  split
  · exact SMap.wf_erase m k h
  · exact SMap.wf_insert _ k v (by assumption) (SMap.erase_keys m k) (SMap.wf_erase m k h)

/-- So does a run of writes. -/
theorem SMap.wf_setList [DecidableEq α] {d : Nat → α} (l : List α) (m : SMap α) (k : Nat) (h : SMap.wf d m = true) :
    SMap.wf d (SMap.setList d m k l) = true := by
  induction l generalizing m k with
  | nil => exact h
  | cons v l ih => exact ih _ _ (SMap.wf_set m k v h)

/-- A part of a canonical map picked by its keys or values is canonical. -/
theorem SMap.wf_filter [DecidableEq α] {d : Nat → α} (m : SMap α) (p : Nat × α → Bool) (h : SMap.wf d m = true) :
    SMap.wf d (m.filter p) = true := by
  induction m with
  | nil => rfl
  | cons e r ih =>
    rcases e with ⟨j, v⟩
    simp only [SMap.wf, Bool.and_eq_true] at h
    by_cases hp : p (j, v) = true
    · have ha : SMap.above j (r.filter p) = true := by
        have h1 := h.1.1
        simp only [SMap.above, List.all_eq_true, decide_eq_true_eq, List.mem_filter] at h1 ⊢
        exact fun e he => h1 e he.1
      rw [List.filter_cons_of_pos hp, SMap.wf, ha, ih h.2, h.1.2]; rfl
    · rw [List.filter_cons_of_neg hp]; exact ih h.2

theorem SMap.get_filter (d : Nat → α) (p : Nat → Bool) (m : SMap α) (k : Nat) :
    SMap.get d (m.filter (fun e => !(p e.1))) k = if p k then d k else SMap.get d m k := by
  induction m with
  | nil => simp [SMap.get]
  | cons e r ih =>
    obtain ⟨j, v⟩ := e
    by_cases hj : p j = true
    · rw [List.filter_cons_of_neg (by simp [hj]), ih]
      by_cases h : j = k
      · subst h; simp [hj]
      · simp [SMap.get, h]
    · rw [List.filter_cons_of_pos (by simp [hj])]
      by_cases h : j = k
      · subst h; simp [SMap.get, hj]
      · simp [SMap.get, h, ih]

/-- A read after a run of writes: inside the run the value written, outside it what was there. -/
theorem SMap.get_setList [DecidableEq α] (d : Nat → α) (l : List α) (m : SMap α) (k i : Nat) :
    SMap.get d (SMap.setList d m k l) i
      = if k ≤ i ∧ i < k + l.length then l.getD (i - k) (d i) else SMap.get d m i := by
  induction l generalizing m k with
  | nil => simp [SMap.setList]
  | cons v l ih =>
    rw [SMap.setList, ih]
    by_cases h1 : i = k
    · subst h1; simp
    · by_cases h2 : k + 1 ≤ i ∧ i < k + 1 + l.length
      · have h3 : k ≤ i ∧ i < k + (v :: l).length := by simp; omega
        have h4 : i - k = (i - (k + 1)) + 1 := by omega
        rw [if_pos h2, if_pos h3, h4]; rfl
      · have h3 : ¬ (k ≤ i ∧ i < k + (v :: l).length) := by simp; omega
        rw [if_neg h2, if_neg h3, SMap.get_set_ne d m v h1]

end Sys2Proof.Machine
end

