-- ==== Sys2Proof/Laws/Ops.lean ====
section
/-!
SUPPORT. What the named operations over the state do, each said once: a register and a field after a write, what a
write leaves alone, and the shape of a command's answer.
-/
namespace Sys2Proof.Machine

/-- Two fields have no bit in common. -/
def Fld.apart (f g : Fld) : Prop := f.off ≠ g.off ∨ f.lo + f.width ≤ g.lo ∨ g.lo + g.width ≤ f.lo

/-- The field lies within its register. -/
def Fld.fits (f : Fld) : Prop := f.lo + f.width ≤ 32

theorem State.reg_setReg (s : State) (o i : Nat) (v : Word) : (s.setReg o v).reg i = if i = o then v else s.reg i :=
  SMap.get_set regReset s.regs o i v

@[simp] theorem State.reg_setReg_self (s : State) (o : Nat) (v : Word) : (s.setReg o v).reg o = v := by
  simp [State.reg_setReg]

theorem State.reg_setReg_ne (s : State) {o i : Nat} (v : Word) (h : i ≠ o) : (s.setReg o v).reg i = s.reg i := by
  simp [State.reg_setReg, h]

theorem State.reg_setFld_ne (s : State) {f : Fld} {i : Nat} (x : Nat) (h : i ≠ f.off) : (s.setFld f x).reg i = s.reg i :=
  State.reg_setReg_ne s _ h

theorem State.reg_setFlag_ne (s : State) {f : Fld} {i : Nat} (b : Bool) (h : i ≠ f.off) : (s.setFlag f b).reg i = s.reg i :=
  State.reg_setFld_ne s _ h

/-- A field reads the low bits of what was written to it. -/
theorem State.fld_setFld_self (s : State) (f : Fld) (x : Nat) (h : f.fits) : (s.setFld f x).fld f = x % 2 ^ f.width := by
  simp [State.fld, State.setFld, getBits_putBits_self _ _ _ _ h]

/-- A field apart from the one written keeps its value. -/
theorem State.fld_setFld_ne (s : State) (f g : Fld) (x : Nat) (h : f.apart g) : (s.setFld g x).fld f = s.fld f := by
  by_cases ho : f.off = g.off
  · rcases h with h | h
    · exact absurd ho h
    · rw [State.fld, State.setFld, ho, State.reg_setReg_self, getBits_putBits_ne _ _ _ _ _ _ h, State.fld, ho]
  · rw [State.fld, State.reg_setFld_ne s x ho, State.fld]

theorem State.flag_setFlag_self (s : State) (f : Fld) (b : Bool) (h : f.fits) (hw : f.width = 1) :
    (s.setFlag f b).flag f = b := by
  rw [State.flag, State.setFlag, State.fld_setFld_self s f _ h, hw]; cases b <;> rfl

theorem State.flag_setFlag_ne (s : State) (f g : Fld) (b : Bool) (h : f.apart g) : (s.setFlag g b).flag f = s.flag f := by
  rw [State.flag, State.setFlag, State.fld_setFld_ne s f g _ h, State.flag]

theorem State.flag_setFld_ne (s : State) (f g : Fld) (x : Nat) (h : f.apart g) : (s.setFld g x).flag f = s.flag f := by
  rw [State.flag, State.fld_setFld_ne s f g x h, State.flag]

theorem State.fld_setFlag_ne (s : State) (f g : Fld) (b : Bool) (h : f.apart g) : (s.setFlag g b).fld f = s.fld f :=
  State.fld_setFld_ne s f g _ h

theorem State.fld_setReg_ne (s : State) (f : Fld) {o : Nat} (v : Word) (h : f.off ≠ o) : (s.setReg o v).fld f = s.fld f := by
  rw [State.fld, State.reg_setReg_ne s v h, State.fld]

theorem State.flag_setReg_ne (s : State) (f : Fld) {o : Nat} (v : Word) (h : f.off ≠ o) : (s.setReg o v).flag f = s.flag f := by
  rw [State.flag, State.fld_setReg_ne s f v h, State.flag]

theorem State.reg_bumpBy_self (s : State) (o n : Nat) : (s.bumpBy o n).reg o = s.reg o + BitVec.ofNat 32 n :=
  State.reg_setReg_self s o _

theorem State.reg_bumpBy_ne (s : State) {o i : Nat} (n : Nat) (h : i ≠ o) : (s.bumpBy o n).reg i = s.reg i :=
  State.reg_setReg_ne s _ h

theorem State.reg_bump_self (s : State) (o : Nat) : (s.bump o).reg o = s.reg o + 1 := State.reg_setReg_self s o _

theorem State.reg_bump_ne (s : State) {o i : Nat} (h : i ≠ o) : (s.bump o).reg i = s.reg i := State.reg_setReg_ne s _ h

theorem State.setFld_eq (s : State) (f : Fld) (x : Nat) :
    s.setFld f x = { s with regs := (s.setFld f x).regs } := rfl

/-- A register map in canonical form stays so. -/
theorem State.regs_wf_setReg (s : State) (o : Nat) (v : Word) (h : SMap.wf regReset s.regs = true) :
    SMap.wf regReset (s.setReg o v).regs = true := SMap.wf_set s.regs o v h

/-- The answer of a command of a running module. -/
theorem State.act_running (s : State) (f : State → State) (h : s.runs = true) : s.act f = .next (s.keep (f s)) := by
  have hp : s.phase = .running := by simpa [State.runs] using h
  simp [State.act, State.whileRunning, State.keep, hp]

/-- A module that does not run answers every command of this kind with the state as it is. -/
theorem State.act_not_running (s : State) (f : State → State) (h : s.runs = false) : s.act f = .next s := by
  have hp : s.phase ≠ .running := by simpa [State.runs] using h
  rcases hph : s.phase with _ | _ | _ <;> simp_all [State.act, State.whileRunning]

/-- It always answers a next state, with the queue and the phase as they were. -/
theorem State.act_next (s : State) (f : State → State) :
    ∃ t, s.act f = .next t ∧ t.pending = s.pending ∧ t.phase = s.phase := by
  refine ⟨s.whileRunning f, rfl, ?_⟩
  unfold State.whileRunning
  split <;> simp_all

end Sys2Proof.Machine
end

