-- ==== Sys2Proof/Laws/State.lean ====
section
/-!
SUPPORT. One lemma per field per update: what an operation on registers, on the queue's state or on one block leaves as it
was. All are true by unfolding, so that no later proof unfolds a record update.
-/
namespace Sys2Proof.Machine

variable (s : State)

@[simp] theorem State.setReg_phase (o : Nat) (v : Word) : (s.setReg o v).phase = s.phase := rfl
@[simp] theorem State.setReg_time (o : Nat) (v : Word) : (s.setReg o v).time = s.time := rfl
@[simp] theorem State.setReg_hif (o : Nat) (v : Word) : (s.setReg o v).hif = s.hif := rfl
@[simp] theorem State.setReg_evt (o : Nat) (v : Word) : (s.setReg o v).evt = s.evt := rfl
@[simp] theorem State.setReg_hlth (o : Nat) (v : Word) : (s.setReg o v).hlth = s.hlth := rfl
@[simp] theorem State.setReg_inp (o : Nat) (v : Word) : (s.setReg o v).inp = s.inp := rfl
@[simp] theorem State.setReg_clk (o : Nat) (v : Word) : (s.setReg o v).clk = s.clk := rfl
@[simp] theorem State.setReg_cnv (o : Nat) (v : Word) : (s.setReg o v).cnv = s.cnv := rfl
@[simp] theorem State.setReg_cal (o : Nat) (v : Word) : (s.setReg o v).cal = s.cal := rfl
@[simp] theorem State.setReg_dec (o : Nat) (v : Word) : (s.setReg o v).dec = s.dec := rfl
@[simp] theorem State.setReg_trg (o : Nat) (v : Word) : (s.setReg o v).trg = s.trg := rfl
@[simp] theorem State.setReg_acq (o : Nat) (v : Word) : (s.setReg o v).acq = s.acq := rfl
@[simp] theorem State.setReg_pan (o : Nat) (v : Word) : (s.setReg o v).pan = s.pan := rfl
@[simp] theorem State.setReg_mem (o : Nat) (v : Word) : (s.setReg o v).mem = s.mem := rfl
@[simp] theorem State.setReg_peer (o : Nat) (v : Word) : (s.setReg o v).peer = s.peer := rfl
@[simp] theorem State.setReg_pair (o : Nat) (v : Word) : (s.setReg o v).pair = s.pair := rfl
@[simp] theorem State.setReg_stm (o : Nat) (v : Word) : (s.setReg o v).stm = s.stm := rfl
@[simp] theorem State.setReg_pat (o : Nat) (v : Word) : (s.setReg o v).pat = s.pat := rfl
@[simp] theorem State.setReg_cfg (o : Nat) (v : Word) : (s.setReg o v).cfg = s.cfg := rfl
@[simp] theorem State.setReg_fresh (o : Nat) (v : Word) : (s.setReg o v).fresh = s.fresh := rfl
@[simp] theorem State.setReg_pending (o : Nat) (v : Word) : (s.setReg o v).pending = s.pending := rfl

@[simp] theorem State.setFld_phase (f : Fld) (x : Nat) : (s.setFld f x).phase = s.phase := rfl
@[simp] theorem State.setFld_time (f : Fld) (x : Nat) : (s.setFld f x).time = s.time := rfl
@[simp] theorem State.setFld_hif (f : Fld) (x : Nat) : (s.setFld f x).hif = s.hif := rfl
@[simp] theorem State.setFld_evt (f : Fld) (x : Nat) : (s.setFld f x).evt = s.evt := rfl
@[simp] theorem State.setFld_hlth (f : Fld) (x : Nat) : (s.setFld f x).hlth = s.hlth := rfl
@[simp] theorem State.setFld_inp (f : Fld) (x : Nat) : (s.setFld f x).inp = s.inp := rfl
@[simp] theorem State.setFld_clk (f : Fld) (x : Nat) : (s.setFld f x).clk = s.clk := rfl
@[simp] theorem State.setFld_cnv (f : Fld) (x : Nat) : (s.setFld f x).cnv = s.cnv := rfl
@[simp] theorem State.setFld_cal (f : Fld) (x : Nat) : (s.setFld f x).cal = s.cal := rfl
@[simp] theorem State.setFld_dec (f : Fld) (x : Nat) : (s.setFld f x).dec = s.dec := rfl
@[simp] theorem State.setFld_trg (f : Fld) (x : Nat) : (s.setFld f x).trg = s.trg := rfl
@[simp] theorem State.setFld_acq (f : Fld) (x : Nat) : (s.setFld f x).acq = s.acq := rfl
@[simp] theorem State.setFld_pan (f : Fld) (x : Nat) : (s.setFld f x).pan = s.pan := rfl
@[simp] theorem State.setFld_mem (f : Fld) (x : Nat) : (s.setFld f x).mem = s.mem := rfl
@[simp] theorem State.setFld_peer (f : Fld) (x : Nat) : (s.setFld f x).peer = s.peer := rfl
@[simp] theorem State.setFld_pair (f : Fld) (x : Nat) : (s.setFld f x).pair = s.pair := rfl
@[simp] theorem State.setFld_stm (f : Fld) (x : Nat) : (s.setFld f x).stm = s.stm := rfl
@[simp] theorem State.setFld_pat (f : Fld) (x : Nat) : (s.setFld f x).pat = s.pat := rfl
@[simp] theorem State.setFld_cfg (f : Fld) (x : Nat) : (s.setFld f x).cfg = s.cfg := rfl
@[simp] theorem State.setFld_fresh (f : Fld) (x : Nat) : (s.setFld f x).fresh = s.fresh := rfl
@[simp] theorem State.setFld_pending (f : Fld) (x : Nat) : (s.setFld f x).pending = s.pending := rfl

@[simp] theorem State.setFlag_phase (f : Fld) (b : Bool) : (s.setFlag f b).phase = s.phase := rfl
@[simp] theorem State.setFlag_time (f : Fld) (b : Bool) : (s.setFlag f b).time = s.time := rfl
@[simp] theorem State.setFlag_hif (f : Fld) (b : Bool) : (s.setFlag f b).hif = s.hif := rfl
@[simp] theorem State.setFlag_evt (f : Fld) (b : Bool) : (s.setFlag f b).evt = s.evt := rfl
@[simp] theorem State.setFlag_hlth (f : Fld) (b : Bool) : (s.setFlag f b).hlth = s.hlth := rfl
@[simp] theorem State.setFlag_inp (f : Fld) (b : Bool) : (s.setFlag f b).inp = s.inp := rfl
@[simp] theorem State.setFlag_clk (f : Fld) (b : Bool) : (s.setFlag f b).clk = s.clk := rfl
@[simp] theorem State.setFlag_cnv (f : Fld) (b : Bool) : (s.setFlag f b).cnv = s.cnv := rfl
@[simp] theorem State.setFlag_cal (f : Fld) (b : Bool) : (s.setFlag f b).cal = s.cal := rfl
@[simp] theorem State.setFlag_dec (f : Fld) (b : Bool) : (s.setFlag f b).dec = s.dec := rfl
@[simp] theorem State.setFlag_trg (f : Fld) (b : Bool) : (s.setFlag f b).trg = s.trg := rfl
@[simp] theorem State.setFlag_acq (f : Fld) (b : Bool) : (s.setFlag f b).acq = s.acq := rfl
@[simp] theorem State.setFlag_pan (f : Fld) (b : Bool) : (s.setFlag f b).pan = s.pan := rfl
@[simp] theorem State.setFlag_mem (f : Fld) (b : Bool) : (s.setFlag f b).mem = s.mem := rfl
@[simp] theorem State.setFlag_peer (f : Fld) (b : Bool) : (s.setFlag f b).peer = s.peer := rfl
@[simp] theorem State.setFlag_pair (f : Fld) (b : Bool) : (s.setFlag f b).pair = s.pair := rfl
@[simp] theorem State.setFlag_stm (f : Fld) (b : Bool) : (s.setFlag f b).stm = s.stm := rfl
@[simp] theorem State.setFlag_pat (f : Fld) (b : Bool) : (s.setFlag f b).pat = s.pat := rfl
@[simp] theorem State.setFlag_cfg (f : Fld) (b : Bool) : (s.setFlag f b).cfg = s.cfg := rfl
@[simp] theorem State.setFlag_fresh (f : Fld) (b : Bool) : (s.setFlag f b).fresh = s.fresh := rfl
@[simp] theorem State.setFlag_pending (f : Fld) (b : Bool) : (s.setFlag f b).pending = s.pending := rfl

@[simp] theorem State.bumpBy_phase (o n : Nat) : (s.bumpBy o n).phase = s.phase := rfl
@[simp] theorem State.bumpBy_time (o n : Nat) : (s.bumpBy o n).time = s.time := rfl
@[simp] theorem State.bumpBy_hif (o n : Nat) : (s.bumpBy o n).hif = s.hif := rfl
@[simp] theorem State.bumpBy_evt (o n : Nat) : (s.bumpBy o n).evt = s.evt := rfl
@[simp] theorem State.bumpBy_hlth (o n : Nat) : (s.bumpBy o n).hlth = s.hlth := rfl
@[simp] theorem State.bumpBy_inp (o n : Nat) : (s.bumpBy o n).inp = s.inp := rfl
@[simp] theorem State.bumpBy_clk (o n : Nat) : (s.bumpBy o n).clk = s.clk := rfl
@[simp] theorem State.bumpBy_cnv (o n : Nat) : (s.bumpBy o n).cnv = s.cnv := rfl
@[simp] theorem State.bumpBy_cal (o n : Nat) : (s.bumpBy o n).cal = s.cal := rfl
@[simp] theorem State.bumpBy_dec (o n : Nat) : (s.bumpBy o n).dec = s.dec := rfl
@[simp] theorem State.bumpBy_trg (o n : Nat) : (s.bumpBy o n).trg = s.trg := rfl
@[simp] theorem State.bumpBy_acq (o n : Nat) : (s.bumpBy o n).acq = s.acq := rfl
@[simp] theorem State.bumpBy_pan (o n : Nat) : (s.bumpBy o n).pan = s.pan := rfl
@[simp] theorem State.bumpBy_mem (o n : Nat) : (s.bumpBy o n).mem = s.mem := rfl
@[simp] theorem State.bumpBy_peer (o n : Nat) : (s.bumpBy o n).peer = s.peer := rfl
@[simp] theorem State.bumpBy_pair (o n : Nat) : (s.bumpBy o n).pair = s.pair := rfl
@[simp] theorem State.bumpBy_stm (o n : Nat) : (s.bumpBy o n).stm = s.stm := rfl
@[simp] theorem State.bumpBy_pat (o n : Nat) : (s.bumpBy o n).pat = s.pat := rfl
@[simp] theorem State.bumpBy_cfg (o n : Nat) : (s.bumpBy o n).cfg = s.cfg := rfl
@[simp] theorem State.bumpBy_fresh (o n : Nat) : (s.bumpBy o n).fresh = s.fresh := rfl
@[simp] theorem State.bumpBy_pending (o n : Nat) : (s.bumpBy o n).pending = s.pending := rfl

@[simp] theorem State.bump_phase (o : Nat) : (s.bump o).phase = s.phase := rfl
@[simp] theorem State.bump_time (o : Nat) : (s.bump o).time = s.time := rfl
@[simp] theorem State.bump_hif (o : Nat) : (s.bump o).hif = s.hif := rfl
@[simp] theorem State.bump_evt (o : Nat) : (s.bump o).evt = s.evt := rfl
@[simp] theorem State.bump_hlth (o : Nat) : (s.bump o).hlth = s.hlth := rfl
@[simp] theorem State.bump_inp (o : Nat) : (s.bump o).inp = s.inp := rfl
@[simp] theorem State.bump_clk (o : Nat) : (s.bump o).clk = s.clk := rfl
@[simp] theorem State.bump_cnv (o : Nat) : (s.bump o).cnv = s.cnv := rfl
@[simp] theorem State.bump_cal (o : Nat) : (s.bump o).cal = s.cal := rfl
@[simp] theorem State.bump_dec (o : Nat) : (s.bump o).dec = s.dec := rfl
@[simp] theorem State.bump_trg (o : Nat) : (s.bump o).trg = s.trg := rfl
@[simp] theorem State.bump_acq (o : Nat) : (s.bump o).acq = s.acq := rfl
@[simp] theorem State.bump_pan (o : Nat) : (s.bump o).pan = s.pan := rfl
@[simp] theorem State.bump_mem (o : Nat) : (s.bump o).mem = s.mem := rfl
@[simp] theorem State.bump_peer (o : Nat) : (s.bump o).peer = s.peer := rfl
@[simp] theorem State.bump_pair (o : Nat) : (s.bump o).pair = s.pair := rfl
@[simp] theorem State.bump_stm (o : Nat) : (s.bump o).stm = s.stm := rfl
@[simp] theorem State.bump_pat (o : Nat) : (s.bump o).pat = s.pat := rfl
@[simp] theorem State.bump_cfg (o : Nat) : (s.bump o).cfg = s.cfg := rfl
@[simp] theorem State.bump_fresh (o : Nat) : (s.bump o).fresh = s.fresh := rfl
@[simp] theorem State.bump_pending (o : Nat) : (s.bump o).pending = s.pending := rfl

@[simp] theorem State.bumpSat_phase (f : Fld) (n : Nat) : (s.bumpSat f n).phase = s.phase := rfl
@[simp] theorem State.bumpSat_time (f : Fld) (n : Nat) : (s.bumpSat f n).time = s.time := rfl
@[simp] theorem State.bumpSat_hif (f : Fld) (n : Nat) : (s.bumpSat f n).hif = s.hif := rfl
@[simp] theorem State.bumpSat_evt (f : Fld) (n : Nat) : (s.bumpSat f n).evt = s.evt := rfl
@[simp] theorem State.bumpSat_hlth (f : Fld) (n : Nat) : (s.bumpSat f n).hlth = s.hlth := rfl
@[simp] theorem State.bumpSat_inp (f : Fld) (n : Nat) : (s.bumpSat f n).inp = s.inp := rfl
@[simp] theorem State.bumpSat_clk (f : Fld) (n : Nat) : (s.bumpSat f n).clk = s.clk := rfl
@[simp] theorem State.bumpSat_cnv (f : Fld) (n : Nat) : (s.bumpSat f n).cnv = s.cnv := rfl
@[simp] theorem State.bumpSat_cal (f : Fld) (n : Nat) : (s.bumpSat f n).cal = s.cal := rfl
@[simp] theorem State.bumpSat_dec (f : Fld) (n : Nat) : (s.bumpSat f n).dec = s.dec := rfl
@[simp] theorem State.bumpSat_trg (f : Fld) (n : Nat) : (s.bumpSat f n).trg = s.trg := rfl
@[simp] theorem State.bumpSat_acq (f : Fld) (n : Nat) : (s.bumpSat f n).acq = s.acq := rfl
@[simp] theorem State.bumpSat_pan (f : Fld) (n : Nat) : (s.bumpSat f n).pan = s.pan := rfl
@[simp] theorem State.bumpSat_mem (f : Fld) (n : Nat) : (s.bumpSat f n).mem = s.mem := rfl
@[simp] theorem State.bumpSat_peer (f : Fld) (n : Nat) : (s.bumpSat f n).peer = s.peer := rfl
@[simp] theorem State.bumpSat_pair (f : Fld) (n : Nat) : (s.bumpSat f n).pair = s.pair := rfl
@[simp] theorem State.bumpSat_stm (f : Fld) (n : Nat) : (s.bumpSat f n).stm = s.stm := rfl
@[simp] theorem State.bumpSat_pat (f : Fld) (n : Nat) : (s.bumpSat f n).pat = s.pat := rfl
@[simp] theorem State.bumpSat_cfg (f : Fld) (n : Nat) : (s.bumpSat f n).cfg = s.cfg := rfl
@[simp] theorem State.bumpSat_fresh (f : Fld) (n : Nat) : (s.bumpSat f n).fresh = s.fresh := rfl
@[simp] theorem State.bumpSat_pending (f : Fld) (n : Nat) : (s.bumpSat f n).pending = s.pending := rfl

@[simp] theorem State.setReg64_phase (o x : Nat) : (s.setReg64 o x).phase = s.phase := rfl
@[simp] theorem State.setReg64_time (o x : Nat) : (s.setReg64 o x).time = s.time := rfl
@[simp] theorem State.setReg64_hif (o x : Nat) : (s.setReg64 o x).hif = s.hif := rfl
@[simp] theorem State.setReg64_evt (o x : Nat) : (s.setReg64 o x).evt = s.evt := rfl
@[simp] theorem State.setReg64_hlth (o x : Nat) : (s.setReg64 o x).hlth = s.hlth := rfl
@[simp] theorem State.setReg64_inp (o x : Nat) : (s.setReg64 o x).inp = s.inp := rfl
@[simp] theorem State.setReg64_clk (o x : Nat) : (s.setReg64 o x).clk = s.clk := rfl
@[simp] theorem State.setReg64_cnv (o x : Nat) : (s.setReg64 o x).cnv = s.cnv := rfl
@[simp] theorem State.setReg64_cal (o x : Nat) : (s.setReg64 o x).cal = s.cal := rfl
@[simp] theorem State.setReg64_dec (o x : Nat) : (s.setReg64 o x).dec = s.dec := rfl
@[simp] theorem State.setReg64_trg (o x : Nat) : (s.setReg64 o x).trg = s.trg := rfl
@[simp] theorem State.setReg64_acq (o x : Nat) : (s.setReg64 o x).acq = s.acq := rfl
@[simp] theorem State.setReg64_pan (o x : Nat) : (s.setReg64 o x).pan = s.pan := rfl
@[simp] theorem State.setReg64_mem (o x : Nat) : (s.setReg64 o x).mem = s.mem := rfl
@[simp] theorem State.setReg64_peer (o x : Nat) : (s.setReg64 o x).peer = s.peer := rfl
@[simp] theorem State.setReg64_pair (o x : Nat) : (s.setReg64 o x).pair = s.pair := rfl
@[simp] theorem State.setReg64_stm (o x : Nat) : (s.setReg64 o x).stm = s.stm := rfl
@[simp] theorem State.setReg64_pat (o x : Nat) : (s.setReg64 o x).pat = s.pat := rfl
@[simp] theorem State.setReg64_cfg (o x : Nat) : (s.setReg64 o x).cfg = s.cfg := rfl
@[simp] theorem State.setReg64_fresh (o x : Nat) : (s.setReg64 o x).fresh = s.fresh := rfl
@[simp] theorem State.setReg64_pending (o x : Nat) : (s.setReg64 o x).pending = s.pending := rfl

@[simp] theorem State.keep_regs (t : State) : (s.keep t).regs = t.regs := rfl
@[simp] theorem State.keep_phase (t : State) : (s.keep t).phase = s.phase := rfl
@[simp] theorem State.keep_time (t : State) : (s.keep t).time = t.time := rfl
@[simp] theorem State.keep_hif (t : State) : (s.keep t).hif = t.hif := rfl
@[simp] theorem State.keep_evt (t : State) : (s.keep t).evt = t.evt := rfl
@[simp] theorem State.keep_hlth (t : State) : (s.keep t).hlth = t.hlth := rfl
@[simp] theorem State.keep_inp (t : State) : (s.keep t).inp = t.inp := rfl
@[simp] theorem State.keep_clk (t : State) : (s.keep t).clk = t.clk := rfl
@[simp] theorem State.keep_cnv (t : State) : (s.keep t).cnv = t.cnv := rfl
@[simp] theorem State.keep_cal (t : State) : (s.keep t).cal = t.cal := rfl
@[simp] theorem State.keep_dec (t : State) : (s.keep t).dec = t.dec := rfl
@[simp] theorem State.keep_trg (t : State) : (s.keep t).trg = t.trg := rfl
@[simp] theorem State.keep_acq (t : State) : (s.keep t).acq = t.acq := rfl
@[simp] theorem State.keep_pan (t : State) : (s.keep t).pan = t.pan := rfl
@[simp] theorem State.keep_mem (t : State) : (s.keep t).mem = t.mem := rfl
@[simp] theorem State.keep_peer (t : State) : (s.keep t).peer = t.peer := rfl
@[simp] theorem State.keep_pair (t : State) : (s.keep t).pair = t.pair := rfl
@[simp] theorem State.keep_stm (t : State) : (s.keep t).stm = t.stm := rfl
@[simp] theorem State.keep_pat (t : State) : (s.keep t).pat = t.pat := rfl
@[simp] theorem State.keep_cfg (t : State) : (s.keep t).cfg = t.cfg := rfl
@[simp] theorem State.keep_fresh (t : State) : (s.keep t).fresh = t.fresh := rfl
@[simp] theorem State.keep_pending (t : State) : (s.keep t).pending = s.pending := rfl
@[simp] theorem State.keep_reg (t : State) (o : Nat) : (s.keep t).reg o = t.reg o := rfl
@[simp] theorem State.keep_fld (t : State) (f : Fld) : (s.keep t).fld f = t.fld f := rfl
@[simp] theorem State.keep_flag (t : State) (f : Fld) : (s.keep t).flag f = t.flag f := rfl
@[simp] theorem State.keep_sfld (t : State) (f : Fld) : (s.keep t).sfld f = t.sfld f := rfl
@[simp] theorem State.keep_byteAt (t : State) (a : Nat) : (s.keep t).byteAt a = t.byteAt a := rfl
@[simp] theorem State.keep_seen (t : State) (e : Nat) : (s.keep t).seen e = t.seen e := rfl
@[simp] theorem State.keep_now (t : State)  : (s.keep t).now = t.now := rfl

@[simp] theorem State.setCtx_regs (n : Nat) (c : Ctx) : (s.setCtx n c).regs = s.regs := rfl
@[simp] theorem State.setCtx_phase (n : Nat) (c : Ctx) : (s.setCtx n c).phase = s.phase := rfl
@[simp] theorem State.setCtx_time (n : Nat) (c : Ctx) : (s.setCtx n c).time = s.time := rfl
@[simp] theorem State.setCtx_hif (n : Nat) (c : Ctx) : (s.setCtx n c).hif = s.hif := rfl
@[simp] theorem State.setCtx_evt (n : Nat) (c : Ctx) : (s.setCtx n c).evt = s.evt := rfl
@[simp] theorem State.setCtx_hlth (n : Nat) (c : Ctx) : (s.setCtx n c).hlth = s.hlth := rfl
@[simp] theorem State.setCtx_inp (n : Nat) (c : Ctx) : (s.setCtx n c).inp = s.inp := rfl
@[simp] theorem State.setCtx_clk (n : Nat) (c : Ctx) : (s.setCtx n c).clk = s.clk := rfl
@[simp] theorem State.setCtx_cnv (n : Nat) (c : Ctx) : (s.setCtx n c).cnv = s.cnv := rfl
@[simp] theorem State.setCtx_cal (n : Nat) (c : Ctx) : (s.setCtx n c).cal = s.cal := rfl
@[simp] theorem State.setCtx_dec (n : Nat) (c : Ctx) : (s.setCtx n c).dec = s.dec := rfl
@[simp] theorem State.setCtx_trg (n : Nat) (c : Ctx) : (s.setCtx n c).trg = s.trg := rfl
@[simp] theorem State.setCtx_pan (n : Nat) (c : Ctx) : (s.setCtx n c).pan = s.pan := rfl
@[simp] theorem State.setCtx_mem (n : Nat) (c : Ctx) : (s.setCtx n c).mem = s.mem := rfl
@[simp] theorem State.setCtx_peer (n : Nat) (c : Ctx) : (s.setCtx n c).peer = s.peer := rfl
@[simp] theorem State.setCtx_pair (n : Nat) (c : Ctx) : (s.setCtx n c).pair = s.pair := rfl
@[simp] theorem State.setCtx_stm (n : Nat) (c : Ctx) : (s.setCtx n c).stm = s.stm := rfl
@[simp] theorem State.setCtx_pat (n : Nat) (c : Ctx) : (s.setCtx n c).pat = s.pat := rfl
@[simp] theorem State.setCtx_cfg (n : Nat) (c : Ctx) : (s.setCtx n c).cfg = s.cfg := rfl
@[simp] theorem State.setCtx_fresh (n : Nat) (c : Ctx) : (s.setCtx n c).fresh = s.fresh := rfl
@[simp] theorem State.setCtx_pending (n : Nat) (c : Ctx) : (s.setCtx n c).pending = s.pending := rfl
@[simp] theorem State.setCtx_reg (n : Nat) (c : Ctx) (o : Nat) : (s.setCtx n c).reg o = s.reg o := rfl
@[simp] theorem State.setCtx_fld (n : Nat) (c : Ctx) (q : Fld) : (s.setCtx n c).fld q = s.fld q := rfl
@[simp] theorem State.setCtx_flag (n : Nat) (c : Ctx) (q : Fld) : (s.setCtx n c).flag q = s.flag q := rfl

@[simp] theorem State.setGang_regs (n : Nat) (g : Option Gang) : (s.setGang n g).regs = s.regs := rfl
@[simp] theorem State.setGang_phase (n : Nat) (g : Option Gang) : (s.setGang n g).phase = s.phase := rfl
@[simp] theorem State.setGang_time (n : Nat) (g : Option Gang) : (s.setGang n g).time = s.time := rfl
@[simp] theorem State.setGang_hif (n : Nat) (g : Option Gang) : (s.setGang n g).hif = s.hif := rfl
@[simp] theorem State.setGang_evt (n : Nat) (g : Option Gang) : (s.setGang n g).evt = s.evt := rfl
@[simp] theorem State.setGang_hlth (n : Nat) (g : Option Gang) : (s.setGang n g).hlth = s.hlth := rfl
@[simp] theorem State.setGang_inp (n : Nat) (g : Option Gang) : (s.setGang n g).inp = s.inp := rfl
@[simp] theorem State.setGang_clk (n : Nat) (g : Option Gang) : (s.setGang n g).clk = s.clk := rfl
@[simp] theorem State.setGang_cnv (n : Nat) (g : Option Gang) : (s.setGang n g).cnv = s.cnv := rfl
@[simp] theorem State.setGang_cal (n : Nat) (g : Option Gang) : (s.setGang n g).cal = s.cal := rfl
@[simp] theorem State.setGang_dec (n : Nat) (g : Option Gang) : (s.setGang n g).dec = s.dec := rfl
@[simp] theorem State.setGang_trg (n : Nat) (g : Option Gang) : (s.setGang n g).trg = s.trg := rfl
@[simp] theorem State.setGang_acq (n : Nat) (g : Option Gang) : (s.setGang n g).acq = s.acq := rfl
@[simp] theorem State.setGang_mem (n : Nat) (g : Option Gang) : (s.setGang n g).mem = s.mem := rfl
@[simp] theorem State.setGang_peer (n : Nat) (g : Option Gang) : (s.setGang n g).peer = s.peer := rfl
@[simp] theorem State.setGang_pair (n : Nat) (g : Option Gang) : (s.setGang n g).pair = s.pair := rfl
@[simp] theorem State.setGang_stm (n : Nat) (g : Option Gang) : (s.setGang n g).stm = s.stm := rfl
@[simp] theorem State.setGang_pat (n : Nat) (g : Option Gang) : (s.setGang n g).pat = s.pat := rfl
@[simp] theorem State.setGang_cfg (n : Nat) (g : Option Gang) : (s.setGang n g).cfg = s.cfg := rfl
@[simp] theorem State.setGang_fresh (n : Nat) (g : Option Gang) : (s.setGang n g).fresh = s.fresh := rfl
@[simp] theorem State.setGang_pending (n : Nat) (g : Option Gang) : (s.setGang n g).pending = s.pending := rfl
@[simp] theorem State.setGang_reg (n : Nat) (g : Option Gang) (o : Nat) : (s.setGang n g).reg o = s.reg o := rfl
@[simp] theorem State.setGang_fld (n : Nat) (g : Option Gang) (q : Fld) : (s.setGang n g).fld q = s.fld q := rfl
@[simp] theorem State.setGang_flag (n : Nat) (g : Option Gang) (q : Fld) : (s.setGang n g).flag q = s.flag q := rfl

@[simp] theorem State.post_regs (f a : Nat) (l : List Word) : (s.post f a l).regs = s.regs := rfl
@[simp] theorem State.post_phase (f a : Nat) (l : List Word) : (s.post f a l).phase = s.phase := rfl
@[simp] theorem State.post_time (f a : Nat) (l : List Word) : (s.post f a l).time = s.time := rfl
@[simp] theorem State.post_evt (f a : Nat) (l : List Word) : (s.post f a l).evt = s.evt := rfl
@[simp] theorem State.post_hlth (f a : Nat) (l : List Word) : (s.post f a l).hlth = s.hlth := rfl
@[simp] theorem State.post_inp (f a : Nat) (l : List Word) : (s.post f a l).inp = s.inp := rfl
@[simp] theorem State.post_clk (f a : Nat) (l : List Word) : (s.post f a l).clk = s.clk := rfl
@[simp] theorem State.post_cnv (f a : Nat) (l : List Word) : (s.post f a l).cnv = s.cnv := rfl
@[simp] theorem State.post_cal (f a : Nat) (l : List Word) : (s.post f a l).cal = s.cal := rfl
@[simp] theorem State.post_dec (f a : Nat) (l : List Word) : (s.post f a l).dec = s.dec := rfl
@[simp] theorem State.post_trg (f a : Nat) (l : List Word) : (s.post f a l).trg = s.trg := rfl
@[simp] theorem State.post_acq (f a : Nat) (l : List Word) : (s.post f a l).acq = s.acq := rfl
@[simp] theorem State.post_pan (f a : Nat) (l : List Word) : (s.post f a l).pan = s.pan := rfl
@[simp] theorem State.post_mem (f a : Nat) (l : List Word) : (s.post f a l).mem = s.mem := rfl
@[simp] theorem State.post_peer (f a : Nat) (l : List Word) : (s.post f a l).peer = s.peer := rfl
@[simp] theorem State.post_pair (f a : Nat) (l : List Word) : (s.post f a l).pair = s.pair := rfl
@[simp] theorem State.post_stm (f a : Nat) (l : List Word) : (s.post f a l).stm = s.stm := rfl
@[simp] theorem State.post_pat (f a : Nat) (l : List Word) : (s.post f a l).pat = s.pat := rfl
@[simp] theorem State.post_cfg (f a : Nat) (l : List Word) : (s.post f a l).cfg = s.cfg := rfl
@[simp] theorem State.post_fresh (f a : Nat) (l : List Word) : (s.post f a l).fresh = s.fresh := rfl
@[simp] theorem State.post_pending (f a : Nat) (l : List Word) : (s.post f a l).pending = s.pending := rfl
@[simp] theorem State.post_reg (f a : Nat) (l : List Word) (o : Nat) : (s.post f a l).reg o = s.reg o := rfl
@[simp] theorem State.post_fld (f a : Nat) (l : List Word) (q : Fld) : (s.post f a l).fld q = s.fld q := rfl
@[simp] theorem State.post_flag (f a : Nat) (l : List Word) (q : Fld) : (s.post f a l).flag q = s.flag q := rfl

@[simp] theorem State.tell_regs (m : PairMsg) : (s.tell m).regs = s.regs := rfl
@[simp] theorem State.tell_phase (m : PairMsg) : (s.tell m).phase = s.phase := rfl
@[simp] theorem State.tell_time (m : PairMsg) : (s.tell m).time = s.time := rfl
@[simp] theorem State.tell_hif (m : PairMsg) : (s.tell m).hif = s.hif := rfl
@[simp] theorem State.tell_evt (m : PairMsg) : (s.tell m).evt = s.evt := rfl
@[simp] theorem State.tell_hlth (m : PairMsg) : (s.tell m).hlth = s.hlth := rfl
@[simp] theorem State.tell_inp (m : PairMsg) : (s.tell m).inp = s.inp := rfl
@[simp] theorem State.tell_clk (m : PairMsg) : (s.tell m).clk = s.clk := rfl
@[simp] theorem State.tell_cnv (m : PairMsg) : (s.tell m).cnv = s.cnv := rfl
@[simp] theorem State.tell_cal (m : PairMsg) : (s.tell m).cal = s.cal := rfl
@[simp] theorem State.tell_dec (m : PairMsg) : (s.tell m).dec = s.dec := rfl
@[simp] theorem State.tell_trg (m : PairMsg) : (s.tell m).trg = s.trg := rfl
@[simp] theorem State.tell_acq (m : PairMsg) : (s.tell m).acq = s.acq := rfl
@[simp] theorem State.tell_pan (m : PairMsg) : (s.tell m).pan = s.pan := rfl
@[simp] theorem State.tell_mem (m : PairMsg) : (s.tell m).mem = s.mem := rfl
@[simp] theorem State.tell_peer (m : PairMsg) : (s.tell m).peer = s.peer := rfl
@[simp] theorem State.tell_stm (m : PairMsg) : (s.tell m).stm = s.stm := rfl
@[simp] theorem State.tell_pat (m : PairMsg) : (s.tell m).pat = s.pat := rfl
@[simp] theorem State.tell_cfg (m : PairMsg) : (s.tell m).cfg = s.cfg := rfl
@[simp] theorem State.tell_fresh (m : PairMsg) : (s.tell m).fresh = s.fresh := rfl
@[simp] theorem State.tell_pending (m : PairMsg) : (s.tell m).pending = s.pending := rfl
@[simp] theorem State.tell_reg (m : PairMsg) (o : Nat) : (s.tell m).reg o = s.reg o := rfl
@[simp] theorem State.tell_fld (m : PairMsg) (q : Fld) : (s.tell m).fld q = s.fld q := rfl
@[simp] theorem State.tell_flag (m : PairMsg) (q : Fld) : (s.tell m).flag q = s.flag q := rfl

@[simp] theorem State.setBank_regs (b : Nat) (x : Bank) : (s.setBank b x).regs = s.regs := rfl
@[simp] theorem State.setBank_phase (b : Nat) (x : Bank) : (s.setBank b x).phase = s.phase := rfl
@[simp] theorem State.setBank_time (b : Nat) (x : Bank) : (s.setBank b x).time = s.time := rfl
@[simp] theorem State.setBank_hif (b : Nat) (x : Bank) : (s.setBank b x).hif = s.hif := rfl
@[simp] theorem State.setBank_evt (b : Nat) (x : Bank) : (s.setBank b x).evt = s.evt := rfl
@[simp] theorem State.setBank_hlth (b : Nat) (x : Bank) : (s.setBank b x).hlth = s.hlth := rfl
@[simp] theorem State.setBank_inp (b : Nat) (x : Bank) : (s.setBank b x).inp = s.inp := rfl
@[simp] theorem State.setBank_clk (b : Nat) (x : Bank) : (s.setBank b x).clk = s.clk := rfl
@[simp] theorem State.setBank_cal (b : Nat) (x : Bank) : (s.setBank b x).cal = s.cal := rfl
@[simp] theorem State.setBank_dec (b : Nat) (x : Bank) : (s.setBank b x).dec = s.dec := rfl
@[simp] theorem State.setBank_trg (b : Nat) (x : Bank) : (s.setBank b x).trg = s.trg := rfl
@[simp] theorem State.setBank_acq (b : Nat) (x : Bank) : (s.setBank b x).acq = s.acq := rfl
@[simp] theorem State.setBank_pan (b : Nat) (x : Bank) : (s.setBank b x).pan = s.pan := rfl
@[simp] theorem State.setBank_mem (b : Nat) (x : Bank) : (s.setBank b x).mem = s.mem := rfl
@[simp] theorem State.setBank_peer (b : Nat) (x : Bank) : (s.setBank b x).peer = s.peer := rfl
@[simp] theorem State.setBank_pair (b : Nat) (x : Bank) : (s.setBank b x).pair = s.pair := rfl
@[simp] theorem State.setBank_stm (b : Nat) (x : Bank) : (s.setBank b x).stm = s.stm := rfl
@[simp] theorem State.setBank_pat (b : Nat) (x : Bank) : (s.setBank b x).pat = s.pat := rfl
@[simp] theorem State.setBank_cfg (b : Nat) (x : Bank) : (s.setBank b x).cfg = s.cfg := rfl
@[simp] theorem State.setBank_fresh (b : Nat) (x : Bank) : (s.setBank b x).fresh = s.fresh := rfl
@[simp] theorem State.setBank_pending (b : Nat) (x : Bank) : (s.setBank b x).pending = s.pending := rfl
@[simp] theorem State.setBank_reg (b : Nat) (x : Bank) (o : Nat) : (s.setBank b x).reg o = s.reg o := rfl
@[simp] theorem State.setBank_fld (b : Nat) (x : Bank) (q : Fld) : (s.setBank b x).fld q = s.fld q := rfl
@[simp] theorem State.setBank_flag (b : Nat) (x : Bank) (q : Fld) : (s.setBank b x).flag q = s.flag q := rfl

@[simp] theorem State.setGauge_regs (g : Nat) (x : Gauge) : (s.setGauge g x).regs = s.regs := rfl
@[simp] theorem State.setGauge_phase (g : Nat) (x : Gauge) : (s.setGauge g x).phase = s.phase := rfl
@[simp] theorem State.setGauge_time (g : Nat) (x : Gauge) : (s.setGauge g x).time = s.time := rfl
@[simp] theorem State.setGauge_hif (g : Nat) (x : Gauge) : (s.setGauge g x).hif = s.hif := rfl
@[simp] theorem State.setGauge_evt (g : Nat) (x : Gauge) : (s.setGauge g x).evt = s.evt := rfl
@[simp] theorem State.setGauge_hlth (g : Nat) (x : Gauge) : (s.setGauge g x).hlth = s.hlth := rfl
@[simp] theorem State.setGauge_inp (g : Nat) (x : Gauge) : (s.setGauge g x).inp = s.inp := rfl
@[simp] theorem State.setGauge_clk (g : Nat) (x : Gauge) : (s.setGauge g x).clk = s.clk := rfl
@[simp] theorem State.setGauge_cal (g : Nat) (x : Gauge) : (s.setGauge g x).cal = s.cal := rfl
@[simp] theorem State.setGauge_dec (g : Nat) (x : Gauge) : (s.setGauge g x).dec = s.dec := rfl
@[simp] theorem State.setGauge_trg (g : Nat) (x : Gauge) : (s.setGauge g x).trg = s.trg := rfl
@[simp] theorem State.setGauge_acq (g : Nat) (x : Gauge) : (s.setGauge g x).acq = s.acq := rfl
@[simp] theorem State.setGauge_pan (g : Nat) (x : Gauge) : (s.setGauge g x).pan = s.pan := rfl
@[simp] theorem State.setGauge_mem (g : Nat) (x : Gauge) : (s.setGauge g x).mem = s.mem := rfl
@[simp] theorem State.setGauge_peer (g : Nat) (x : Gauge) : (s.setGauge g x).peer = s.peer := rfl
@[simp] theorem State.setGauge_pair (g : Nat) (x : Gauge) : (s.setGauge g x).pair = s.pair := rfl
@[simp] theorem State.setGauge_stm (g : Nat) (x : Gauge) : (s.setGauge g x).stm = s.stm := rfl
@[simp] theorem State.setGauge_pat (g : Nat) (x : Gauge) : (s.setGauge g x).pat = s.pat := rfl
@[simp] theorem State.setGauge_cfg (g : Nat) (x : Gauge) : (s.setGauge g x).cfg = s.cfg := rfl
@[simp] theorem State.setGauge_fresh (g : Nat) (x : Gauge) : (s.setGauge g x).fresh = s.fresh := rfl
@[simp] theorem State.setGauge_pending (g : Nat) (x : Gauge) : (s.setGauge g x).pending = s.pending := rfl
@[simp] theorem State.setGauge_reg (g : Nat) (x : Gauge) (o : Nat) : (s.setGauge g x).reg o = s.reg o := rfl
@[simp] theorem State.setGauge_fld (g : Nat) (x : Gauge) (q : Fld) : (s.setGauge g x).fld q = s.fld q := rfl
@[simp] theorem State.setGauge_flag (g : Nat) (x : Gauge) (q : Fld) : (s.setGauge g x).flag q = s.flag q := rfl

@[simp] theorem State.setLoop_regs (l : Nat) (x : LoopSt) : (s.setLoop l x).regs = s.regs := rfl
@[simp] theorem State.setLoop_phase (l : Nat) (x : LoopSt) : (s.setLoop l x).phase = s.phase := rfl
@[simp] theorem State.setLoop_time (l : Nat) (x : LoopSt) : (s.setLoop l x).time = s.time := rfl
@[simp] theorem State.setLoop_hif (l : Nat) (x : LoopSt) : (s.setLoop l x).hif = s.hif := rfl
@[simp] theorem State.setLoop_evt (l : Nat) (x : LoopSt) : (s.setLoop l x).evt = s.evt := rfl
@[simp] theorem State.setLoop_hlth (l : Nat) (x : LoopSt) : (s.setLoop l x).hlth = s.hlth := rfl
@[simp] theorem State.setLoop_inp (l : Nat) (x : LoopSt) : (s.setLoop l x).inp = s.inp := rfl
@[simp] theorem State.setLoop_cnv (l : Nat) (x : LoopSt) : (s.setLoop l x).cnv = s.cnv := rfl
@[simp] theorem State.setLoop_cal (l : Nat) (x : LoopSt) : (s.setLoop l x).cal = s.cal := rfl
@[simp] theorem State.setLoop_dec (l : Nat) (x : LoopSt) : (s.setLoop l x).dec = s.dec := rfl
@[simp] theorem State.setLoop_trg (l : Nat) (x : LoopSt) : (s.setLoop l x).trg = s.trg := rfl
@[simp] theorem State.setLoop_acq (l : Nat) (x : LoopSt) : (s.setLoop l x).acq = s.acq := rfl
@[simp] theorem State.setLoop_pan (l : Nat) (x : LoopSt) : (s.setLoop l x).pan = s.pan := rfl
@[simp] theorem State.setLoop_mem (l : Nat) (x : LoopSt) : (s.setLoop l x).mem = s.mem := rfl
@[simp] theorem State.setLoop_peer (l : Nat) (x : LoopSt) : (s.setLoop l x).peer = s.peer := rfl
@[simp] theorem State.setLoop_pair (l : Nat) (x : LoopSt) : (s.setLoop l x).pair = s.pair := rfl
@[simp] theorem State.setLoop_stm (l : Nat) (x : LoopSt) : (s.setLoop l x).stm = s.stm := rfl
@[simp] theorem State.setLoop_pat (l : Nat) (x : LoopSt) : (s.setLoop l x).pat = s.pat := rfl
@[simp] theorem State.setLoop_cfg (l : Nat) (x : LoopSt) : (s.setLoop l x).cfg = s.cfg := rfl
@[simp] theorem State.setLoop_fresh (l : Nat) (x : LoopSt) : (s.setLoop l x).fresh = s.fresh := rfl
@[simp] theorem State.setLoop_pending (l : Nat) (x : LoopSt) : (s.setLoop l x).pending = s.pending := rfl
@[simp] theorem State.setLoop_reg (l : Nat) (x : LoopSt) (o : Nat) : (s.setLoop l x).reg o = s.reg o := rfl
@[simp] theorem State.setLoop_fld (l : Nat) (x : LoopSt) (q : Fld) : (s.setLoop l x).fld q = s.fld q := rfl
@[simp] theorem State.setLoop_flag (l : Nat) (x : LoopSt) (q : Fld) : (s.setLoop l x).flag q = s.flag q := rfl

@[simp] theorem State.setDet_regs (k : Nat) (d : DetSt) : (s.setDet k d).regs = s.regs := rfl
@[simp] theorem State.setDet_phase (k : Nat) (d : DetSt) : (s.setDet k d).phase = s.phase := rfl
@[simp] theorem State.setDet_time (k : Nat) (d : DetSt) : (s.setDet k d).time = s.time := rfl
@[simp] theorem State.setDet_hif (k : Nat) (d : DetSt) : (s.setDet k d).hif = s.hif := rfl
@[simp] theorem State.setDet_evt (k : Nat) (d : DetSt) : (s.setDet k d).evt = s.evt := rfl
@[simp] theorem State.setDet_hlth (k : Nat) (d : DetSt) : (s.setDet k d).hlth = s.hlth := rfl
@[simp] theorem State.setDet_inp (k : Nat) (d : DetSt) : (s.setDet k d).inp = s.inp := rfl
@[simp] theorem State.setDet_clk (k : Nat) (d : DetSt) : (s.setDet k d).clk = s.clk := rfl
@[simp] theorem State.setDet_cnv (k : Nat) (d : DetSt) : (s.setDet k d).cnv = s.cnv := rfl
@[simp] theorem State.setDet_cal (k : Nat) (d : DetSt) : (s.setDet k d).cal = s.cal := rfl
@[simp] theorem State.setDet_dec (k : Nat) (d : DetSt) : (s.setDet k d).dec = s.dec := rfl
@[simp] theorem State.setDet_acq (k : Nat) (d : DetSt) : (s.setDet k d).acq = s.acq := rfl
@[simp] theorem State.setDet_pan (k : Nat) (d : DetSt) : (s.setDet k d).pan = s.pan := rfl
@[simp] theorem State.setDet_mem (k : Nat) (d : DetSt) : (s.setDet k d).mem = s.mem := rfl
@[simp] theorem State.setDet_peer (k : Nat) (d : DetSt) : (s.setDet k d).peer = s.peer := rfl
@[simp] theorem State.setDet_pair (k : Nat) (d : DetSt) : (s.setDet k d).pair = s.pair := rfl
@[simp] theorem State.setDet_stm (k : Nat) (d : DetSt) : (s.setDet k d).stm = s.stm := rfl
@[simp] theorem State.setDet_pat (k : Nat) (d : DetSt) : (s.setDet k d).pat = s.pat := rfl
@[simp] theorem State.setDet_cfg (k : Nat) (d : DetSt) : (s.setDet k d).cfg = s.cfg := rfl
@[simp] theorem State.setDet_fresh (k : Nat) (d : DetSt) : (s.setDet k d).fresh = s.fresh := rfl
@[simp] theorem State.setDet_pending (k : Nat) (d : DetSt) : (s.setDet k d).pending = s.pending := rfl
@[simp] theorem State.setDet_reg (k : Nat) (d : DetSt) (o : Nat) : (s.setDet k d).reg o = s.reg o := rfl
@[simp] theorem State.setDet_fld (k : Nat) (d : DetSt) (q : Fld) : (s.setDet k d).fld q = s.fld q := rfl
@[simp] theorem State.setDet_flag (k : Nat) (d : DetSt) (q : Fld) : (s.setDet k d).flag q = s.flag q := rfl

@[simp] theorem State.setFades_regs (n : Nat) (l : List Fade) : (s.setFades n l).regs = s.regs := rfl
@[simp] theorem State.setFades_phase (n : Nat) (l : List Fade) : (s.setFades n l).phase = s.phase := rfl
@[simp] theorem State.setFades_time (n : Nat) (l : List Fade) : (s.setFades n l).time = s.time := rfl
@[simp] theorem State.setFades_hif (n : Nat) (l : List Fade) : (s.setFades n l).hif = s.hif := rfl
@[simp] theorem State.setFades_evt (n : Nat) (l : List Fade) : (s.setFades n l).evt = s.evt := rfl
@[simp] theorem State.setFades_hlth (n : Nat) (l : List Fade) : (s.setFades n l).hlth = s.hlth := rfl
@[simp] theorem State.setFades_inp (n : Nat) (l : List Fade) : (s.setFades n l).inp = s.inp := rfl
@[simp] theorem State.setFades_clk (n : Nat) (l : List Fade) : (s.setFades n l).clk = s.clk := rfl
@[simp] theorem State.setFades_cnv (n : Nat) (l : List Fade) : (s.setFades n l).cnv = s.cnv := rfl
@[simp] theorem State.setFades_cal (n : Nat) (l : List Fade) : (s.setFades n l).cal = s.cal := rfl
@[simp] theorem State.setFades_trg (n : Nat) (l : List Fade) : (s.setFades n l).trg = s.trg := rfl
@[simp] theorem State.setFades_acq (n : Nat) (l : List Fade) : (s.setFades n l).acq = s.acq := rfl
@[simp] theorem State.setFades_pan (n : Nat) (l : List Fade) : (s.setFades n l).pan = s.pan := rfl
@[simp] theorem State.setFades_mem (n : Nat) (l : List Fade) : (s.setFades n l).mem = s.mem := rfl
@[simp] theorem State.setFades_peer (n : Nat) (l : List Fade) : (s.setFades n l).peer = s.peer := rfl
@[simp] theorem State.setFades_pair (n : Nat) (l : List Fade) : (s.setFades n l).pair = s.pair := rfl
@[simp] theorem State.setFades_stm (n : Nat) (l : List Fade) : (s.setFades n l).stm = s.stm := rfl
@[simp] theorem State.setFades_pat (n : Nat) (l : List Fade) : (s.setFades n l).pat = s.pat := rfl
@[simp] theorem State.setFades_cfg (n : Nat) (l : List Fade) : (s.setFades n l).cfg = s.cfg := rfl
@[simp] theorem State.setFades_fresh (n : Nat) (l : List Fade) : (s.setFades n l).fresh = s.fresh := rfl
@[simp] theorem State.setFades_pending (n : Nat) (l : List Fade) : (s.setFades n l).pending = s.pending := rfl
@[simp] theorem State.setFades_reg (n : Nat) (l : List Fade) (o : Nat) : (s.setFades n l).reg o = s.reg o := rfl
@[simp] theorem State.setFades_fld (n : Nat) (l : List Fade) (q : Fld) : (s.setFades n l).fld q = s.fld q := rfl
@[simp] theorem State.setFades_flag (n : Nat) (l : List Fade) (q : Fld) : (s.setFades n l).flag q = s.flag q := rfl

@[simp] theorem State.setPat_regs (r : PatRun) : (s.setPat r).regs = s.regs := rfl
@[simp] theorem State.setPat_phase (r : PatRun) : (s.setPat r).phase = s.phase := rfl
@[simp] theorem State.setPat_time (r : PatRun) : (s.setPat r).time = s.time := rfl
@[simp] theorem State.setPat_hif (r : PatRun) : (s.setPat r).hif = s.hif := rfl
@[simp] theorem State.setPat_evt (r : PatRun) : (s.setPat r).evt = s.evt := rfl
@[simp] theorem State.setPat_hlth (r : PatRun) : (s.setPat r).hlth = s.hlth := rfl
@[simp] theorem State.setPat_inp (r : PatRun) : (s.setPat r).inp = s.inp := rfl
@[simp] theorem State.setPat_clk (r : PatRun) : (s.setPat r).clk = s.clk := rfl
@[simp] theorem State.setPat_cnv (r : PatRun) : (s.setPat r).cnv = s.cnv := rfl
@[simp] theorem State.setPat_cal (r : PatRun) : (s.setPat r).cal = s.cal := rfl
@[simp] theorem State.setPat_dec (r : PatRun) : (s.setPat r).dec = s.dec := rfl
@[simp] theorem State.setPat_trg (r : PatRun) : (s.setPat r).trg = s.trg := rfl
@[simp] theorem State.setPat_acq (r : PatRun) : (s.setPat r).acq = s.acq := rfl
@[simp] theorem State.setPat_pan (r : PatRun) : (s.setPat r).pan = s.pan := rfl
@[simp] theorem State.setPat_mem (r : PatRun) : (s.setPat r).mem = s.mem := rfl
@[simp] theorem State.setPat_peer (r : PatRun) : (s.setPat r).peer = s.peer := rfl
@[simp] theorem State.setPat_pair (r : PatRun) : (s.setPat r).pair = s.pair := rfl
@[simp] theorem State.setPat_stm (r : PatRun) : (s.setPat r).stm = s.stm := rfl
@[simp] theorem State.setPat_cfg (r : PatRun) : (s.setPat r).cfg = s.cfg := rfl
@[simp] theorem State.setPat_fresh (r : PatRun) : (s.setPat r).fresh = s.fresh := rfl
@[simp] theorem State.setPat_pending (r : PatRun) : (s.setPat r).pending = s.pending := rfl
@[simp] theorem State.setPat_reg (r : PatRun) (o : Nat) : (s.setPat r).reg o = s.reg o := rfl
@[simp] theorem State.setPat_fld (r : PatRun) (q : Fld) : (s.setPat r).fld q = s.fld q := rfl
@[simp] theorem State.setPat_flag (r : PatRun) (q : Fld) : (s.setPat r).flag q = s.flag q := rfl

@[simp] theorem State.setRun_regs (r : StimRun) : (s.setRun r).regs = s.regs := rfl
@[simp] theorem State.setRun_phase (r : StimRun) : (s.setRun r).phase = s.phase := rfl
@[simp] theorem State.setRun_time (r : StimRun) : (s.setRun r).time = s.time := rfl
@[simp] theorem State.setRun_hif (r : StimRun) : (s.setRun r).hif = s.hif := rfl
@[simp] theorem State.setRun_evt (r : StimRun) : (s.setRun r).evt = s.evt := rfl
@[simp] theorem State.setRun_hlth (r : StimRun) : (s.setRun r).hlth = s.hlth := rfl
@[simp] theorem State.setRun_inp (r : StimRun) : (s.setRun r).inp = s.inp := rfl
@[simp] theorem State.setRun_clk (r : StimRun) : (s.setRun r).clk = s.clk := rfl
@[simp] theorem State.setRun_cnv (r : StimRun) : (s.setRun r).cnv = s.cnv := rfl
@[simp] theorem State.setRun_cal (r : StimRun) : (s.setRun r).cal = s.cal := rfl
@[simp] theorem State.setRun_dec (r : StimRun) : (s.setRun r).dec = s.dec := rfl
@[simp] theorem State.setRun_trg (r : StimRun) : (s.setRun r).trg = s.trg := rfl
@[simp] theorem State.setRun_acq (r : StimRun) : (s.setRun r).acq = s.acq := rfl
@[simp] theorem State.setRun_pan (r : StimRun) : (s.setRun r).pan = s.pan := rfl
@[simp] theorem State.setRun_mem (r : StimRun) : (s.setRun r).mem = s.mem := rfl
@[simp] theorem State.setRun_peer (r : StimRun) : (s.setRun r).peer = s.peer := rfl
@[simp] theorem State.setRun_pair (r : StimRun) : (s.setRun r).pair = s.pair := rfl
@[simp] theorem State.setRun_pat (r : StimRun) : (s.setRun r).pat = s.pat := rfl
@[simp] theorem State.setRun_cfg (r : StimRun) : (s.setRun r).cfg = s.cfg := rfl
@[simp] theorem State.setRun_fresh (r : StimRun) : (s.setRun r).fresh = s.fresh := rfl
@[simp] theorem State.setRun_pending (r : StimRun) : (s.setRun r).pending = s.pending := rfl
@[simp] theorem State.setRun_reg (r : StimRun) (o : Nat) : (s.setRun r).reg o = s.reg o := rfl
@[simp] theorem State.setRun_fld (r : StimRun) (q : Fld) : (s.setRun r).fld q = s.fld q := rfl
@[simp] theorem State.setRun_flag (r : StimRun) (q : Fld) : (s.setRun r).flag q = s.flag q := rfl

@[simp] theorem State.setMemClock_regs (c : MemClock) (n : Option MemClock) : (s.setMemClock c n).regs = s.regs := rfl
@[simp] theorem State.setMemClock_phase (c : MemClock) (n : Option MemClock) : (s.setMemClock c n).phase = s.phase := rfl
@[simp] theorem State.setMemClock_time (c : MemClock) (n : Option MemClock) : (s.setMemClock c n).time = s.time := rfl
@[simp] theorem State.setMemClock_hif (c : MemClock) (n : Option MemClock) : (s.setMemClock c n).hif = s.hif := rfl
@[simp] theorem State.setMemClock_evt (c : MemClock) (n : Option MemClock) : (s.setMemClock c n).evt = s.evt := rfl
@[simp] theorem State.setMemClock_hlth (c : MemClock) (n : Option MemClock) : (s.setMemClock c n).hlth = s.hlth := rfl
@[simp] theorem State.setMemClock_inp (c : MemClock) (n : Option MemClock) : (s.setMemClock c n).inp = s.inp := rfl
@[simp] theorem State.setMemClock_cnv (c : MemClock) (n : Option MemClock) : (s.setMemClock c n).cnv = s.cnv := rfl
@[simp] theorem State.setMemClock_cal (c : MemClock) (n : Option MemClock) : (s.setMemClock c n).cal = s.cal := rfl
@[simp] theorem State.setMemClock_dec (c : MemClock) (n : Option MemClock) : (s.setMemClock c n).dec = s.dec := rfl
@[simp] theorem State.setMemClock_trg (c : MemClock) (n : Option MemClock) : (s.setMemClock c n).trg = s.trg := rfl
@[simp] theorem State.setMemClock_acq (c : MemClock) (n : Option MemClock) : (s.setMemClock c n).acq = s.acq := rfl
@[simp] theorem State.setMemClock_pan (c : MemClock) (n : Option MemClock) : (s.setMemClock c n).pan = s.pan := rfl
@[simp] theorem State.setMemClock_mem (c : MemClock) (n : Option MemClock) : (s.setMemClock c n).mem = s.mem := rfl
@[simp] theorem State.setMemClock_peer (c : MemClock) (n : Option MemClock) : (s.setMemClock c n).peer = s.peer := rfl
@[simp] theorem State.setMemClock_pair (c : MemClock) (n : Option MemClock) : (s.setMemClock c n).pair = s.pair := rfl
@[simp] theorem State.setMemClock_stm (c : MemClock) (n : Option MemClock) : (s.setMemClock c n).stm = s.stm := rfl
@[simp] theorem State.setMemClock_pat (c : MemClock) (n : Option MemClock) : (s.setMemClock c n).pat = s.pat := rfl
@[simp] theorem State.setMemClock_cfg (c : MemClock) (n : Option MemClock) : (s.setMemClock c n).cfg = s.cfg := rfl
@[simp] theorem State.setMemClock_fresh (c : MemClock) (n : Option MemClock) : (s.setMemClock c n).fresh = s.fresh := rfl
@[simp] theorem State.setMemClock_pending (c : MemClock) (n : Option MemClock) : (s.setMemClock c n).pending = s.pending := rfl
@[simp] theorem State.setMemClock_reg (c : MemClock) (n : Option MemClock) (o : Nat) : (s.setMemClock c n).reg o = s.reg o := rfl
@[simp] theorem State.setMemClock_fld (c : MemClock) (n : Option MemClock) (q : Fld) : (s.setMemClock c n).fld q = s.fld q := rfl
@[simp] theorem State.setMemClock_flag (c : MemClock) (n : Option MemClock) (q : Fld) : (s.setMemClock c n).flag q = s.flag q := rfl

theorem State.ctx_setCtx (n i : Nat) (c : Ctx) : (s.setCtx n c).ctx i = if i = n then c else s.ctx i :=
  SMap.get_set _ _ _ _ _
@[simp] theorem State.ctx_setCtx_self (n : Nat) (c : Ctx) : (s.setCtx n c).ctx n = c := SMap.get_set_self _ _ _ _

theorem State.gang_setGang (n i : Nat) (g : Option Gang) : (s.setGang n g).gang i = if i = n then g else s.gang i :=
  SMap.get_set _ _ _ _ _
@[simp] theorem State.gang_setGang_self (n : Nat) (g : Option Gang) : (s.setGang n g).gang n = g := SMap.get_set_self _ _ _ _

theorem State.bank_setBank (n i : Nat) (x : Bank) : (s.setBank n x).bank i = if i = n then x else s.bank i :=
  SMap.get_set _ _ _ _ _
@[simp] theorem State.bank_setBank_self (n : Nat) (x : Bank) : (s.setBank n x).bank n = x := SMap.get_set_self _ _ _ _

theorem State.gauge_setGauge (n i : Nat) (x : Gauge) : (s.setGauge n x).gauge i = if i = n then x else s.gauge i :=
  SMap.get_set _ _ _ _ _
@[simp] theorem State.gauge_setGauge_self (n : Nat) (x : Gauge) : (s.setGauge n x).gauge n = x := SMap.get_set_self _ _ _ _

theorem State.loop_setLoop (n i : Nat) (x : LoopSt) : (s.setLoop n x).loop i = if i = n then x else s.loop i :=
  SMap.get_set _ _ _ _ _
@[simp] theorem State.loop_setLoop_self (n : Nat) (x : LoopSt) : (s.setLoop n x).loop n = x := SMap.get_set_self _ _ _ _

theorem State.det_setDet (n i : Nat) (x : DetSt) : (s.setDet n x).det i = if i = n then x else s.det i :=
  SMap.get_set _ _ _ _ _
@[simp] theorem State.det_setDet_self (n : Nat) (x : DetSt) : (s.setDet n x).det n = x := SMap.get_set_self _ _ _ _

@[simp] theorem State.reg_with_phase (x : Phase) (o : Nat) : State.reg { s with phase := x } o = s.reg o := rfl
@[simp] theorem State.fld_with_phase (x : Phase) (f : Fld) : State.fld { s with phase := x } f = s.fld f := rfl
@[simp] theorem State.flag_with_phase (x : Phase) (f : Fld) : State.flag { s with phase := x } f = s.flag f := rfl
@[simp] theorem State.reg_with_time (x : TimeSt) (o : Nat) : State.reg { s with time := x } o = s.reg o := rfl
@[simp] theorem State.fld_with_time (x : TimeSt) (f : Fld) : State.fld { s with time := x } f = s.fld f := rfl
@[simp] theorem State.flag_with_time (x : TimeSt) (f : Fld) : State.flag { s with time := x } f = s.flag f := rfl
@[simp] theorem State.reg_with_hif (x : HifSt) (o : Nat) : State.reg { s with hif := x } o = s.reg o := rfl
@[simp] theorem State.fld_with_hif (x : HifSt) (f : Fld) : State.fld { s with hif := x } f = s.fld f := rfl
@[simp] theorem State.flag_with_hif (x : HifSt) (f : Fld) : State.flag { s with hif := x } f = s.flag f := rfl
@[simp] theorem State.reg_with_evt (x : EvtSt) (o : Nat) : State.reg { s with evt := x } o = s.reg o := rfl
@[simp] theorem State.fld_with_evt (x : EvtSt) (f : Fld) : State.fld { s with evt := x } f = s.fld f := rfl
@[simp] theorem State.flag_with_evt (x : EvtSt) (f : Fld) : State.flag { s with evt := x } f = s.flag f := rfl
@[simp] theorem State.reg_with_hlth (x : HlthSt) (o : Nat) : State.reg { s with hlth := x } o = s.reg o := rfl
@[simp] theorem State.fld_with_hlth (x : HlthSt) (f : Fld) : State.fld { s with hlth := x } f = s.fld f := rfl
@[simp] theorem State.flag_with_hlth (x : HlthSt) (f : Fld) : State.flag { s with hlth := x } f = s.flag f := rfl
@[simp] theorem State.reg_with_inp (x : InpSt) (o : Nat) : State.reg { s with inp := x } o = s.reg o := rfl
@[simp] theorem State.fld_with_inp (x : InpSt) (f : Fld) : State.fld { s with inp := x } f = s.fld f := rfl
@[simp] theorem State.flag_with_inp (x : InpSt) (f : Fld) : State.flag { s with inp := x } f = s.flag f := rfl
@[simp] theorem State.reg_with_clk (x : ClkSt) (o : Nat) : State.reg { s with clk := x } o = s.reg o := rfl
@[simp] theorem State.fld_with_clk (x : ClkSt) (f : Fld) : State.fld { s with clk := x } f = s.fld f := rfl
@[simp] theorem State.flag_with_clk (x : ClkSt) (f : Fld) : State.flag { s with clk := x } f = s.flag f := rfl
@[simp] theorem State.reg_with_cnv (x : CnvSt) (o : Nat) : State.reg { s with cnv := x } o = s.reg o := rfl
@[simp] theorem State.fld_with_cnv (x : CnvSt) (f : Fld) : State.fld { s with cnv := x } f = s.fld f := rfl
@[simp] theorem State.flag_with_cnv (x : CnvSt) (f : Fld) : State.flag { s with cnv := x } f = s.flag f := rfl
@[simp] theorem State.reg_with_cal (x : CalSt) (o : Nat) : State.reg { s with cal := x } o = s.reg o := rfl
@[simp] theorem State.fld_with_cal (x : CalSt) (f : Fld) : State.fld { s with cal := x } f = s.fld f := rfl
@[simp] theorem State.flag_with_cal (x : CalSt) (f : Fld) : State.flag { s with cal := x } f = s.flag f := rfl
@[simp] theorem State.reg_with_dec (x : DecSt) (o : Nat) : State.reg { s with dec := x } o = s.reg o := rfl
@[simp] theorem State.fld_with_dec (x : DecSt) (f : Fld) : State.fld { s with dec := x } f = s.fld f := rfl
@[simp] theorem State.flag_with_dec (x : DecSt) (f : Fld) : State.flag { s with dec := x } f = s.flag f := rfl
@[simp] theorem State.reg_with_trg (x : TrgSt) (o : Nat) : State.reg { s with trg := x } o = s.reg o := rfl
@[simp] theorem State.fld_with_trg (x : TrgSt) (f : Fld) : State.fld { s with trg := x } f = s.fld f := rfl
@[simp] theorem State.flag_with_trg (x : TrgSt) (f : Fld) : State.flag { s with trg := x } f = s.flag f := rfl
@[simp] theorem State.reg_with_acq (x : AcqSt) (o : Nat) : State.reg { s with acq := x } o = s.reg o := rfl
@[simp] theorem State.fld_with_acq (x : AcqSt) (f : Fld) : State.fld { s with acq := x } f = s.fld f := rfl
@[simp] theorem State.flag_with_acq (x : AcqSt) (f : Fld) : State.flag { s with acq := x } f = s.flag f := rfl
@[simp] theorem State.reg_with_pan (x : PanSt) (o : Nat) : State.reg { s with pan := x } o = s.reg o := rfl
@[simp] theorem State.fld_with_pan (x : PanSt) (f : Fld) : State.fld { s with pan := x } f = s.fld f := rfl
@[simp] theorem State.flag_with_pan (x : PanSt) (f : Fld) : State.flag { s with pan := x } f = s.flag f := rfl
@[simp] theorem State.reg_with_mem (x : MemSt) (o : Nat) : State.reg { s with mem := x } o = s.reg o := rfl
@[simp] theorem State.fld_with_mem (x : MemSt) (f : Fld) : State.fld { s with mem := x } f = s.fld f := rfl
@[simp] theorem State.flag_with_mem (x : MemSt) (f : Fld) : State.flag { s with mem := x } f = s.flag f := rfl
@[simp] theorem State.reg_with_peer (x : PeerSt) (o : Nat) : State.reg { s with peer := x } o = s.reg o := rfl
@[simp] theorem State.fld_with_peer (x : PeerSt) (f : Fld) : State.fld { s with peer := x } f = s.fld f := rfl
@[simp] theorem State.flag_with_peer (x : PeerSt) (f : Fld) : State.flag { s with peer := x } f = s.flag f := rfl
@[simp] theorem State.reg_with_pair (x : PairSt) (o : Nat) : State.reg { s with pair := x } o = s.reg o := rfl
@[simp] theorem State.fld_with_pair (x : PairSt) (f : Fld) : State.fld { s with pair := x } f = s.fld f := rfl
@[simp] theorem State.flag_with_pair (x : PairSt) (f : Fld) : State.flag { s with pair := x } f = s.flag f := rfl
@[simp] theorem State.reg_with_stm (x : StmSt) (o : Nat) : State.reg { s with stm := x } o = s.reg o := rfl
@[simp] theorem State.fld_with_stm (x : StmSt) (f : Fld) : State.fld { s with stm := x } f = s.fld f := rfl
@[simp] theorem State.flag_with_stm (x : StmSt) (f : Fld) : State.flag { s with stm := x } f = s.flag f := rfl
@[simp] theorem State.reg_with_pat (x : PatSt) (o : Nat) : State.reg { s with pat := x } o = s.reg o := rfl
@[simp] theorem State.fld_with_pat (x : PatSt) (f : Fld) : State.fld { s with pat := x } f = s.fld f := rfl
@[simp] theorem State.flag_with_pat (x : PatSt) (f : Fld) : State.flag { s with pat := x } f = s.flag f := rfl
@[simp] theorem State.reg_with_cfg (x : CfgSt) (o : Nat) : State.reg { s with cfg := x } o = s.reg o := rfl
@[simp] theorem State.fld_with_cfg (x : CfgSt) (f : Fld) : State.fld { s with cfg := x } f = s.fld f := rfl
@[simp] theorem State.flag_with_cfg (x : CfgSt) (f : Fld) : State.flag { s with cfg := x } f = s.flag f := rfl
@[simp] theorem State.reg_with_fresh (x : Nat) (o : Nat) : State.reg { s with fresh := x } o = s.reg o := rfl
@[simp] theorem State.fld_with_fresh (x : Nat) (f : Fld) : State.fld { s with fresh := x } f = s.fld f := rfl
@[simp] theorem State.flag_with_fresh (x : Nat) (f : Fld) : State.flag { s with fresh := x } f = s.flag f := rfl
@[simp] theorem State.reg_with_pending (x : List Instr) (o : Nat) : State.reg { s with pending := x } o = s.reg o := rfl
@[simp] theorem State.fld_with_pending (x : List Instr) (f : Fld) : State.fld { s with pending := x } f = s.fld f := rfl
@[simp] theorem State.flag_with_pending (x : List Instr) (f : Fld) : State.flag { s with pending := x } f = s.flag f := rfl

end Sys2Proof.Machine
end

