-- ==== Sys2Proof/Laws/Events.lean ====
section
/-!
SUPPORT. What raising an event and handling a fault do, each said once: which registers they touch, that the event's SEEN bit
is set, and that every other block is as it was.
-/
namespace Sys2Proof.Machine

variable (s : State)

theorem State.enqueue_fold_ind {P : State → Prop} (f : State → Nat → EvRec) (l : List Nat) (h : P s)
    (hs : ∀ t r, P t → P (t.enqueue r)) : P (l.foldl (fun t x => t.enqueue (f t x)) s) := by
  induction l generalizing s with
  | nil => exact h
  | cons x l ih => exact ih _ (hs _ _ h)

theorem State.reg_enqueue (r : EvRec) {o : Nat} (h : o ≠ R.EVT_QLOST) : (s.enqueue r).reg o = s.reg o := by
  unfold State.enqueue
  dsimp only
  repeat' split
  all_goals first | exact State.reg_setReg_ne s _ h | rfl

@[simp] theorem State.enqueue_phase (r : EvRec) : (s.enqueue r).phase = s.phase := by
  unfold State.enqueue; dsimp only; repeat' split
  all_goals exact State.bump_phase s R.EVT_QLOST
@[simp] theorem State.enqueue_time (r : EvRec) : (s.enqueue r).time = s.time := by
  unfold State.enqueue; dsimp only; repeat' split
  all_goals exact State.bump_time s R.EVT_QLOST
@[simp] theorem State.enqueue_hif (r : EvRec) : (s.enqueue r).hif = s.hif := by
  unfold State.enqueue; dsimp only; repeat' split
  all_goals exact State.bump_hif s R.EVT_QLOST
@[simp] theorem State.enqueue_hlth (r : EvRec) : (s.enqueue r).hlth = s.hlth := by
  unfold State.enqueue; dsimp only; repeat' split
  all_goals exact State.bump_hlth s R.EVT_QLOST
@[simp] theorem State.enqueue_inp (r : EvRec) : (s.enqueue r).inp = s.inp := by
  unfold State.enqueue; dsimp only; repeat' split
  all_goals exact State.bump_inp s R.EVT_QLOST
@[simp] theorem State.enqueue_clk (r : EvRec) : (s.enqueue r).clk = s.clk := by
  unfold State.enqueue; dsimp only; repeat' split
  all_goals exact State.bump_clk s R.EVT_QLOST
@[simp] theorem State.enqueue_cnv (r : EvRec) : (s.enqueue r).cnv = s.cnv := by
  unfold State.enqueue; dsimp only; repeat' split
  all_goals exact State.bump_cnv s R.EVT_QLOST
@[simp] theorem State.enqueue_cal (r : EvRec) : (s.enqueue r).cal = s.cal := by
  unfold State.enqueue; dsimp only; repeat' split
  all_goals exact State.bump_cal s R.EVT_QLOST
@[simp] theorem State.enqueue_dec (r : EvRec) : (s.enqueue r).dec = s.dec := by
  unfold State.enqueue; dsimp only; repeat' split
  all_goals exact State.bump_dec s R.EVT_QLOST
@[simp] theorem State.enqueue_trg (r : EvRec) : (s.enqueue r).trg = s.trg := by
  unfold State.enqueue; dsimp only; repeat' split
  all_goals exact State.bump_trg s R.EVT_QLOST
@[simp] theorem State.enqueue_acq (r : EvRec) : (s.enqueue r).acq = s.acq := by
  unfold State.enqueue; dsimp only; repeat' split
  all_goals exact State.bump_acq s R.EVT_QLOST
@[simp] theorem State.enqueue_pan (r : EvRec) : (s.enqueue r).pan = s.pan := by
  unfold State.enqueue; dsimp only; repeat' split
  all_goals exact State.bump_pan s R.EVT_QLOST
@[simp] theorem State.enqueue_mem (r : EvRec) : (s.enqueue r).mem = s.mem := by
  unfold State.enqueue; dsimp only; repeat' split
  all_goals exact State.bump_mem s R.EVT_QLOST
@[simp] theorem State.enqueue_peer (r : EvRec) : (s.enqueue r).peer = s.peer := by
  unfold State.enqueue; dsimp only; repeat' split
  all_goals exact State.bump_peer s R.EVT_QLOST
@[simp] theorem State.enqueue_pair (r : EvRec) : (s.enqueue r).pair = s.pair := by
  unfold State.enqueue; dsimp only; repeat' split
  all_goals exact State.bump_pair s R.EVT_QLOST
@[simp] theorem State.enqueue_stm (r : EvRec) : (s.enqueue r).stm = s.stm := by
  unfold State.enqueue; dsimp only; repeat' split
  all_goals exact State.bump_stm s R.EVT_QLOST
@[simp] theorem State.enqueue_pat (r : EvRec) : (s.enqueue r).pat = s.pat := by
  unfold State.enqueue; dsimp only; repeat' split
  all_goals exact State.bump_pat s R.EVT_QLOST
@[simp] theorem State.enqueue_cfg (r : EvRec) : (s.enqueue r).cfg = s.cfg := by
  unfold State.enqueue; dsimp only; repeat' split
  all_goals exact State.bump_cfg s R.EVT_QLOST
@[simp] theorem State.enqueue_fresh (r : EvRec) : (s.enqueue r).fresh = s.fresh := by
  unfold State.enqueue; dsimp only; repeat' split
  all_goals exact State.bump_fresh s R.EVT_QLOST
@[simp] theorem State.enqueue_pending (r : EvRec) : (s.enqueue r).pending = s.pending := by
  unfold State.enqueue; dsimp only; repeat' split
  all_goals exact State.bump_pending s R.EVT_QLOST

theorem State.reg_raiseX (e q : Nat) (l : List Nat) (x : Option Nat) {o : Nat} (h1 : o ≠ R.EVT_SEEN (e / 32))
    (h2 : o ≠ R.EVT_QLOST) : (s.raiseX e q l x).reg o = s.reg o := by
  have h0 : (s.setFlag (seenBit e) true).reg o = s.reg o := State.reg_setFlag_ne s true h1
  unfold State.raiseX
  dsimp only
  split
  · exact State.enqueue_fold_ind (P := fun t => t.reg o = s.reg o) _ _ _ h0
      (fun t r ht => by rw [State.reg_enqueue t r h2, ht])
  · exact h0

theorem State.reg_raise (e q : Nat) (l : List Nat) {o : Nat} (h1 : o ≠ R.EVT_SEEN (e / 32)) (h2 : o ≠ R.EVT_QLOST) :
    (s.raise e q l).reg o = s.reg o := State.reg_raiseX s e q l none h1 h2

theorem State.fld_raise (e q : Nat) (l : List Nat) {f : Fld} (h1 : f.off ≠ R.EVT_SEEN (e / 32))
    (h2 : f.off ≠ R.EVT_QLOST) : (s.raise e q l).fld f = s.fld f := by
  rw [State.fld, State.reg_raise s e q l h1 h2, State.fld]

theorem State.flag_raise (e q : Nat) (l : List Nat) {f : Fld} (h1 : f.off ≠ R.EVT_SEEN (e / 32))
    (h2 : f.off ≠ R.EVT_QLOST) : (s.raise e q l).flag f = s.flag f := by
  rw [State.flag, State.fld_raise s e q l h1 h2, State.flag]

/-- The event's SEEN bit is set (R413). -/
theorem State.seen_raiseX (e q : Nat) (l : List Nat) (x : Option Nat) : (s.raiseX e q l x).seen e = true := by
  have hb : (seenBit e).fits := by simp only [Fld.fits]; omega
  have h0 : (s.setFlag (seenBit e) true).seen e = true := State.flag_setFlag_self s (seenBit e) true hb rfl
  unfold State.raiseX
  dsimp only
  split
  · refine State.enqueue_fold_ind (P := fun t => t.seen e = true) _ _ _ h0 (fun t r ht => ?_)
    have hq : (seenBit e).off ≠ R.EVT_QLOST := by show R.EVT_SEEN (e / 32) ≠ R.EVT_QLOST; unfold R.EVT_SEEN R.EVT_QLOST; omega
    rw [State.seen, State.flag, State.fld, State.reg_enqueue t r hq]
    exact ht
  · exact h0

@[simp] theorem State.seen_raise (e q : Nat) (l : List Nat) : (s.raise e q l).seen e = true :=
  State.seen_raiseX s e q l none

@[simp] theorem State.seen_raisePF (e q : Nat) : (s.raisePF e q).seen e = true := State.seen_raise s e q routePF

theorem State.reg_raiseOnce (f : Fld) (e q : Nat) (l : List Nat) {o : Nat} (h0 : o ≠ f.off) (h1 : o ≠ R.EVT_SEEN (e / 32))
    (h2 : o ≠ R.EVT_QLOST) : (s.raiseOnce f e q l).reg o = s.reg o := by
  unfold State.raiseOnce
  by_cases h : s.flag f = true
  · rw [if_pos h]
  · rw [if_neg h, State.reg_raise _ e q l h1 h2, State.reg_setFlag_ne s true h0]

/-- The status bit is set, whether or not the event arises again. -/
theorem State.flag_raiseOnce (f : Fld) (e q : Nat) (l : List Nat) (hf : f.fits) (hw : f.width = 1)
    (h1 : f.off ≠ R.EVT_SEEN (e / 32)) (h2 : f.off ≠ R.EVT_QLOST) : (s.raiseOnce f e q l).flag f = true := by
  unfold State.raiseOnce
  by_cases h : s.flag f = true
  · rw [if_pos h, h]
  · rw [if_neg h, State.flag_raise _ e q l h1 h2, State.flag_setFlag_self s f true hf hw]

/-- Raising an event changes registers and the event unit only. -/
theorem State.raiseX_eq (e q : Nat) (l : List Nat) (x : Option Nat) :
    s.raiseX e q l x = { s with regs := (s.raiseX e q l x).regs, evt := (s.raiseX e q l x).evt } := by
  have key : ∀ t : State, t = { s with regs := t.regs, evt := t.evt } →
      ∀ r, t.enqueue r = { s with regs := (t.enqueue r).regs, evt := (t.enqueue r).evt } := by
    intro t ht r
    rw [ht]
    unfold State.enqueue
    dsimp only
    generalize (if r.event = 1 then 256 else 255) = n
    split <;> rfl
  unfold State.raiseX
  dsimp only
  split
  · exact State.enqueue_fold_ind (P := fun t => t = { s with regs := t.regs, evt := t.evt }) _ _ _ rfl
      (fun t r ht => key t ht r)
  · rfl

@[simp] theorem State.raiseX_phase (e q : Nat) (l : List Nat) (x : Option Nat) : (s.raiseX e q l x).phase = s.phase :=
  (congrArg State.phase (State.raiseX_eq s e q l x)).trans rfl
@[simp] theorem State.raise_phase (e q : Nat) (l : List Nat) : (s.raise e q l).phase = s.phase := State.raiseX_phase s e q l none
@[simp] theorem State.raisePF_phase (e q : Nat) : (s.raisePF e q).phase = s.phase := State.raise_phase s e q routePF
@[simp] theorem State.raiseX_time (e q : Nat) (l : List Nat) (x : Option Nat) : (s.raiseX e q l x).time = s.time :=
  (congrArg State.time (State.raiseX_eq s e q l x)).trans rfl
@[simp] theorem State.raise_time (e q : Nat) (l : List Nat) : (s.raise e q l).time = s.time := State.raiseX_time s e q l none
@[simp] theorem State.raisePF_time (e q : Nat) : (s.raisePF e q).time = s.time := State.raise_time s e q routePF
@[simp] theorem State.raiseX_hif (e q : Nat) (l : List Nat) (x : Option Nat) : (s.raiseX e q l x).hif = s.hif :=
  (congrArg State.hif (State.raiseX_eq s e q l x)).trans rfl
@[simp] theorem State.raise_hif (e q : Nat) (l : List Nat) : (s.raise e q l).hif = s.hif := State.raiseX_hif s e q l none
@[simp] theorem State.raisePF_hif (e q : Nat) : (s.raisePF e q).hif = s.hif := State.raise_hif s e q routePF
@[simp] theorem State.raiseX_hlth (e q : Nat) (l : List Nat) (x : Option Nat) : (s.raiseX e q l x).hlth = s.hlth :=
  (congrArg State.hlth (State.raiseX_eq s e q l x)).trans rfl
@[simp] theorem State.raise_hlth (e q : Nat) (l : List Nat) : (s.raise e q l).hlth = s.hlth := State.raiseX_hlth s e q l none
@[simp] theorem State.raisePF_hlth (e q : Nat) : (s.raisePF e q).hlth = s.hlth := State.raise_hlth s e q routePF
@[simp] theorem State.raiseX_inp (e q : Nat) (l : List Nat) (x : Option Nat) : (s.raiseX e q l x).inp = s.inp :=
  (congrArg State.inp (State.raiseX_eq s e q l x)).trans rfl
@[simp] theorem State.raise_inp (e q : Nat) (l : List Nat) : (s.raise e q l).inp = s.inp := State.raiseX_inp s e q l none
@[simp] theorem State.raisePF_inp (e q : Nat) : (s.raisePF e q).inp = s.inp := State.raise_inp s e q routePF
@[simp] theorem State.raiseX_clk (e q : Nat) (l : List Nat) (x : Option Nat) : (s.raiseX e q l x).clk = s.clk :=
  (congrArg State.clk (State.raiseX_eq s e q l x)).trans rfl
@[simp] theorem State.raise_clk (e q : Nat) (l : List Nat) : (s.raise e q l).clk = s.clk := State.raiseX_clk s e q l none
@[simp] theorem State.raisePF_clk (e q : Nat) : (s.raisePF e q).clk = s.clk := State.raise_clk s e q routePF
@[simp] theorem State.raiseX_cnv (e q : Nat) (l : List Nat) (x : Option Nat) : (s.raiseX e q l x).cnv = s.cnv :=
  (congrArg State.cnv (State.raiseX_eq s e q l x)).trans rfl
@[simp] theorem State.raise_cnv (e q : Nat) (l : List Nat) : (s.raise e q l).cnv = s.cnv := State.raiseX_cnv s e q l none
@[simp] theorem State.raisePF_cnv (e q : Nat) : (s.raisePF e q).cnv = s.cnv := State.raise_cnv s e q routePF
@[simp] theorem State.raiseX_cal (e q : Nat) (l : List Nat) (x : Option Nat) : (s.raiseX e q l x).cal = s.cal :=
  (congrArg State.cal (State.raiseX_eq s e q l x)).trans rfl
@[simp] theorem State.raise_cal (e q : Nat) (l : List Nat) : (s.raise e q l).cal = s.cal := State.raiseX_cal s e q l none
@[simp] theorem State.raisePF_cal (e q : Nat) : (s.raisePF e q).cal = s.cal := State.raise_cal s e q routePF
@[simp] theorem State.raiseX_dec (e q : Nat) (l : List Nat) (x : Option Nat) : (s.raiseX e q l x).dec = s.dec :=
  (congrArg State.dec (State.raiseX_eq s e q l x)).trans rfl
@[simp] theorem State.raise_dec (e q : Nat) (l : List Nat) : (s.raise e q l).dec = s.dec := State.raiseX_dec s e q l none
@[simp] theorem State.raisePF_dec (e q : Nat) : (s.raisePF e q).dec = s.dec := State.raise_dec s e q routePF
@[simp] theorem State.raiseX_trg (e q : Nat) (l : List Nat) (x : Option Nat) : (s.raiseX e q l x).trg = s.trg :=
  (congrArg State.trg (State.raiseX_eq s e q l x)).trans rfl
@[simp] theorem State.raise_trg (e q : Nat) (l : List Nat) : (s.raise e q l).trg = s.trg := State.raiseX_trg s e q l none
@[simp] theorem State.raisePF_trg (e q : Nat) : (s.raisePF e q).trg = s.trg := State.raise_trg s e q routePF
@[simp] theorem State.raiseX_acq (e q : Nat) (l : List Nat) (x : Option Nat) : (s.raiseX e q l x).acq = s.acq :=
  (congrArg State.acq (State.raiseX_eq s e q l x)).trans rfl
@[simp] theorem State.raise_acq (e q : Nat) (l : List Nat) : (s.raise e q l).acq = s.acq := State.raiseX_acq s e q l none
@[simp] theorem State.raisePF_acq (e q : Nat) : (s.raisePF e q).acq = s.acq := State.raise_acq s e q routePF
@[simp] theorem State.raiseX_pan (e q : Nat) (l : List Nat) (x : Option Nat) : (s.raiseX e q l x).pan = s.pan :=
  (congrArg State.pan (State.raiseX_eq s e q l x)).trans rfl
@[simp] theorem State.raise_pan (e q : Nat) (l : List Nat) : (s.raise e q l).pan = s.pan := State.raiseX_pan s e q l none
@[simp] theorem State.raisePF_pan (e q : Nat) : (s.raisePF e q).pan = s.pan := State.raise_pan s e q routePF
@[simp] theorem State.raiseX_mem (e q : Nat) (l : List Nat) (x : Option Nat) : (s.raiseX e q l x).mem = s.mem :=
  (congrArg State.mem (State.raiseX_eq s e q l x)).trans rfl
@[simp] theorem State.raise_mem (e q : Nat) (l : List Nat) : (s.raise e q l).mem = s.mem := State.raiseX_mem s e q l none
@[simp] theorem State.raisePF_mem (e q : Nat) : (s.raisePF e q).mem = s.mem := State.raise_mem s e q routePF
@[simp] theorem State.raiseX_peer (e q : Nat) (l : List Nat) (x : Option Nat) : (s.raiseX e q l x).peer = s.peer :=
  (congrArg State.peer (State.raiseX_eq s e q l x)).trans rfl
@[simp] theorem State.raise_peer (e q : Nat) (l : List Nat) : (s.raise e q l).peer = s.peer := State.raiseX_peer s e q l none
@[simp] theorem State.raisePF_peer (e q : Nat) : (s.raisePF e q).peer = s.peer := State.raise_peer s e q routePF
@[simp] theorem State.raiseX_pair (e q : Nat) (l : List Nat) (x : Option Nat) : (s.raiseX e q l x).pair = s.pair :=
  (congrArg State.pair (State.raiseX_eq s e q l x)).trans rfl
@[simp] theorem State.raise_pair (e q : Nat) (l : List Nat) : (s.raise e q l).pair = s.pair := State.raiseX_pair s e q l none
@[simp] theorem State.raisePF_pair (e q : Nat) : (s.raisePF e q).pair = s.pair := State.raise_pair s e q routePF
@[simp] theorem State.raiseX_stm (e q : Nat) (l : List Nat) (x : Option Nat) : (s.raiseX e q l x).stm = s.stm :=
  (congrArg State.stm (State.raiseX_eq s e q l x)).trans rfl
@[simp] theorem State.raise_stm (e q : Nat) (l : List Nat) : (s.raise e q l).stm = s.stm := State.raiseX_stm s e q l none
@[simp] theorem State.raisePF_stm (e q : Nat) : (s.raisePF e q).stm = s.stm := State.raise_stm s e q routePF
@[simp] theorem State.raiseX_pat (e q : Nat) (l : List Nat) (x : Option Nat) : (s.raiseX e q l x).pat = s.pat :=
  (congrArg State.pat (State.raiseX_eq s e q l x)).trans rfl
@[simp] theorem State.raise_pat (e q : Nat) (l : List Nat) : (s.raise e q l).pat = s.pat := State.raiseX_pat s e q l none
@[simp] theorem State.raisePF_pat (e q : Nat) : (s.raisePF e q).pat = s.pat := State.raise_pat s e q routePF
@[simp] theorem State.raiseX_cfg (e q : Nat) (l : List Nat) (x : Option Nat) : (s.raiseX e q l x).cfg = s.cfg :=
  (congrArg State.cfg (State.raiseX_eq s e q l x)).trans rfl
@[simp] theorem State.raise_cfg (e q : Nat) (l : List Nat) : (s.raise e q l).cfg = s.cfg := State.raiseX_cfg s e q l none
@[simp] theorem State.raisePF_cfg (e q : Nat) : (s.raisePF e q).cfg = s.cfg := State.raise_cfg s e q routePF
@[simp] theorem State.raiseX_fresh (e q : Nat) (l : List Nat) (x : Option Nat) : (s.raiseX e q l x).fresh = s.fresh :=
  (congrArg State.fresh (State.raiseX_eq s e q l x)).trans rfl
@[simp] theorem State.raise_fresh (e q : Nat) (l : List Nat) : (s.raise e q l).fresh = s.fresh := State.raiseX_fresh s e q l none
@[simp] theorem State.raisePF_fresh (e q : Nat) : (s.raisePF e q).fresh = s.fresh := State.raise_fresh s e q routePF
@[simp] theorem State.raiseX_pending (e q : Nat) (l : List Nat) (x : Option Nat) : (s.raiseX e q l x).pending = s.pending :=
  (congrArg State.pending (State.raiseX_eq s e q l x)).trans rfl
@[simp] theorem State.raise_pending (e q : Nat) (l : List Nat) : (s.raise e q l).pending = s.pending := State.raiseX_pending s e q l none
@[simp] theorem State.raisePF_pending (e q : Nat) : (s.raisePF e q).pending = s.pending := State.raise_pending s e q routePF

/-- A record takes a place in the queue while more than one is free (R418). -/
theorem State.enqueue_evt (r : EvRec) (h : s.evt.queue.length < 255) :
    (s.enqueue r).evt = { s.evt with queue := s.evt.queue ++ [r] } := by
  unfold State.enqueue
  have : Nat.ble (if r.event = 1 then 256 else 255) s.evt.queue.length = false := by
    rw [← Bool.not_eq_true, Nat.ble_eq]; split <;> omega
  simp [this]
@[simp] theorem State.healthCount_phase (c : Nat) : (s.healthCount c).phase = s.phase := by
  unfold State.healthCount; dsimp only; split <;> simp
@[simp] theorem State.healthCount_time (c : Nat) : (s.healthCount c).time = s.time := by
  unfold State.healthCount; dsimp only; split <;> simp
@[simp] theorem State.healthCount_hif (c : Nat) : (s.healthCount c).hif = s.hif := by
  unfold State.healthCount; dsimp only; split <;> simp
@[simp] theorem State.healthCount_inp (c : Nat) : (s.healthCount c).inp = s.inp := by
  unfold State.healthCount; dsimp only; split <;> simp
@[simp] theorem State.healthCount_clk (c : Nat) : (s.healthCount c).clk = s.clk := by
  unfold State.healthCount; dsimp only; split <;> simp
@[simp] theorem State.healthCount_cnv (c : Nat) : (s.healthCount c).cnv = s.cnv := by
  unfold State.healthCount; dsimp only; split <;> simp
@[simp] theorem State.healthCount_cal (c : Nat) : (s.healthCount c).cal = s.cal := by
  unfold State.healthCount; dsimp only; split <;> simp
@[simp] theorem State.healthCount_dec (c : Nat) : (s.healthCount c).dec = s.dec := by
  unfold State.healthCount; dsimp only; split <;> simp
@[simp] theorem State.healthCount_trg (c : Nat) : (s.healthCount c).trg = s.trg := by
  unfold State.healthCount; dsimp only; split <;> simp
@[simp] theorem State.healthCount_acq (c : Nat) : (s.healthCount c).acq = s.acq := by
  unfold State.healthCount; dsimp only; split <;> simp
@[simp] theorem State.healthCount_pan (c : Nat) : (s.healthCount c).pan = s.pan := by
  unfold State.healthCount; dsimp only; split <;> simp
@[simp] theorem State.healthCount_mem (c : Nat) : (s.healthCount c).mem = s.mem := by
  unfold State.healthCount; dsimp only; split <;> simp
@[simp] theorem State.healthCount_peer (c : Nat) : (s.healthCount c).peer = s.peer := by
  unfold State.healthCount; dsimp only; split <;> simp
@[simp] theorem State.healthCount_pair (c : Nat) : (s.healthCount c).pair = s.pair := by
  unfold State.healthCount; dsimp only; split <;> simp
@[simp] theorem State.healthCount_stm (c : Nat) : (s.healthCount c).stm = s.stm := by
  unfold State.healthCount; dsimp only; split <;> simp
@[simp] theorem State.healthCount_pat (c : Nat) : (s.healthCount c).pat = s.pat := by
  unfold State.healthCount; dsimp only; split <;> simp
@[simp] theorem State.healthCount_cfg (c : Nat) : (s.healthCount c).cfg = s.cfg := by
  unfold State.healthCount; dsimp only; split <;> simp
@[simp] theorem State.healthCount_fresh (c : Nat) : (s.healthCount c).fresh = s.fresh := by
  unfold State.healthCount; dsimp only; split <;> simp
@[simp] theorem State.healthCount_pending (c : Nat) : (s.healthCount c).pending = s.pending := by
  unfold State.healthCount; dsimp only; split <;> simp
@[simp] theorem State.healthCountOpt_phase (c : Option Nat) : (s.healthCountOpt c).phase = s.phase := by
  unfold State.healthCountOpt; split <;> simp
@[simp] theorem State.healthCountOpt_time (c : Option Nat) : (s.healthCountOpt c).time = s.time := by
  unfold State.healthCountOpt; split <;> simp
@[simp] theorem State.healthCountOpt_hif (c : Option Nat) : (s.healthCountOpt c).hif = s.hif := by
  unfold State.healthCountOpt; split <;> simp
@[simp] theorem State.healthCountOpt_inp (c : Option Nat) : (s.healthCountOpt c).inp = s.inp := by
  unfold State.healthCountOpt; split <;> simp
@[simp] theorem State.healthCountOpt_clk (c : Option Nat) : (s.healthCountOpt c).clk = s.clk := by
  unfold State.healthCountOpt; split <;> simp
@[simp] theorem State.healthCountOpt_cnv (c : Option Nat) : (s.healthCountOpt c).cnv = s.cnv := by
  unfold State.healthCountOpt; split <;> simp
@[simp] theorem State.healthCountOpt_cal (c : Option Nat) : (s.healthCountOpt c).cal = s.cal := by
  unfold State.healthCountOpt; split <;> simp
@[simp] theorem State.healthCountOpt_dec (c : Option Nat) : (s.healthCountOpt c).dec = s.dec := by
  unfold State.healthCountOpt; split <;> simp
@[simp] theorem State.healthCountOpt_trg (c : Option Nat) : (s.healthCountOpt c).trg = s.trg := by
  unfold State.healthCountOpt; split <;> simp
@[simp] theorem State.healthCountOpt_acq (c : Option Nat) : (s.healthCountOpt c).acq = s.acq := by
  unfold State.healthCountOpt; split <;> simp
@[simp] theorem State.healthCountOpt_pan (c : Option Nat) : (s.healthCountOpt c).pan = s.pan := by
  unfold State.healthCountOpt; split <;> simp
@[simp] theorem State.healthCountOpt_mem (c : Option Nat) : (s.healthCountOpt c).mem = s.mem := by
  unfold State.healthCountOpt; split <;> simp
@[simp] theorem State.healthCountOpt_peer (c : Option Nat) : (s.healthCountOpt c).peer = s.peer := by
  unfold State.healthCountOpt; split <;> simp
@[simp] theorem State.healthCountOpt_pair (c : Option Nat) : (s.healthCountOpt c).pair = s.pair := by
  unfold State.healthCountOpt; split <;> simp
@[simp] theorem State.healthCountOpt_stm (c : Option Nat) : (s.healthCountOpt c).stm = s.stm := by
  unfold State.healthCountOpt; split <;> simp
@[simp] theorem State.healthCountOpt_pat (c : Option Nat) : (s.healthCountOpt c).pat = s.pat := by
  unfold State.healthCountOpt; split <;> simp
@[simp] theorem State.healthCountOpt_cfg (c : Option Nat) : (s.healthCountOpt c).cfg = s.cfg := by
  unfold State.healthCountOpt; split <;> simp
@[simp] theorem State.healthCountOpt_fresh (c : Option Nat) : (s.healthCountOpt c).fresh = s.fresh := by
  unfold State.healthCountOpt; split <;> simp
@[simp] theorem State.healthCountOpt_pending (c : Option Nat) : (s.healthCountOpt c).pending = s.pending := by
  unfold State.healthCountOpt; split <;> simp
@[simp] theorem State.logFault_phase (c i : Nat) : (s.logFault c i).phase = s.phase := by
  unfold State.logFault; rfl
@[simp] theorem State.logFault_time (c i : Nat) : (s.logFault c i).time = s.time := by
  unfold State.logFault; rfl
@[simp] theorem State.logFault_hif (c i : Nat) : (s.logFault c i).hif = s.hif := by
  unfold State.logFault; rfl
@[simp] theorem State.logFault_inp (c i : Nat) : (s.logFault c i).inp = s.inp := by
  unfold State.logFault; rfl
@[simp] theorem State.logFault_clk (c i : Nat) : (s.logFault c i).clk = s.clk := by
  unfold State.logFault; rfl
@[simp] theorem State.logFault_cnv (c i : Nat) : (s.logFault c i).cnv = s.cnv := by
  unfold State.logFault; rfl
@[simp] theorem State.logFault_cal (c i : Nat) : (s.logFault c i).cal = s.cal := by
  unfold State.logFault; rfl
@[simp] theorem State.logFault_dec (c i : Nat) : (s.logFault c i).dec = s.dec := by
  unfold State.logFault; rfl
@[simp] theorem State.logFault_trg (c i : Nat) : (s.logFault c i).trg = s.trg := by
  unfold State.logFault; rfl
@[simp] theorem State.logFault_acq (c i : Nat) : (s.logFault c i).acq = s.acq := by
  unfold State.logFault; rfl
@[simp] theorem State.logFault_pan (c i : Nat) : (s.logFault c i).pan = s.pan := by
  unfold State.logFault; rfl
@[simp] theorem State.logFault_mem (c i : Nat) : (s.logFault c i).mem = s.mem := by
  unfold State.logFault; rfl
@[simp] theorem State.logFault_peer (c i : Nat) : (s.logFault c i).peer = s.peer := by
  unfold State.logFault; rfl
@[simp] theorem State.logFault_pair (c i : Nat) : (s.logFault c i).pair = s.pair := by
  unfold State.logFault; rfl
@[simp] theorem State.logFault_stm (c i : Nat) : (s.logFault c i).stm = s.stm := by
  unfold State.logFault; rfl
@[simp] theorem State.logFault_pat (c i : Nat) : (s.logFault c i).pat = s.pat := by
  unfold State.logFault; rfl
@[simp] theorem State.logFault_cfg (c i : Nat) : (s.logFault c i).cfg = s.cfg := by
  unfold State.logFault; rfl
@[simp] theorem State.logFault_fresh (c i : Nat) : (s.logFault c i).fresh = s.fresh := by
  unfold State.logFault; rfl
@[simp] theorem State.logFault_pending (c i : Nat) : (s.logFault c i).pending = s.pending := by
  unfold State.logFault; rfl
@[simp] theorem State.fault_phase (c i : Nat) : (s.fault c i).phase = s.phase := by
  unfold State.fault; dsimp only; split <;> simp
@[simp] theorem State.fault_time (c i : Nat) : (s.fault c i).time = s.time := by
  unfold State.fault; dsimp only; split <;> simp
@[simp] theorem State.fault_hif (c i : Nat) : (s.fault c i).hif = s.hif := by
  unfold State.fault; dsimp only; split <;> simp
@[simp] theorem State.fault_inp (c i : Nat) : (s.fault c i).inp = s.inp := by
  unfold State.fault; dsimp only; split <;> simp
@[simp] theorem State.fault_clk (c i : Nat) : (s.fault c i).clk = s.clk := by
  unfold State.fault; dsimp only; split <;> simp
@[simp] theorem State.fault_cnv (c i : Nat) : (s.fault c i).cnv = s.cnv := by
  unfold State.fault; dsimp only; split <;> simp
@[simp] theorem State.fault_cal (c i : Nat) : (s.fault c i).cal = s.cal := by
  unfold State.fault; dsimp only; split <;> simp
@[simp] theorem State.fault_dec (c i : Nat) : (s.fault c i).dec = s.dec := by
  unfold State.fault; dsimp only; split <;> simp
@[simp] theorem State.fault_trg (c i : Nat) : (s.fault c i).trg = s.trg := by
  unfold State.fault; dsimp only; split <;> simp
@[simp] theorem State.fault_acq (c i : Nat) : (s.fault c i).acq = s.acq := by
  unfold State.fault; dsimp only; split <;> simp
@[simp] theorem State.fault_pan (c i : Nat) : (s.fault c i).pan = s.pan := by
  unfold State.fault; dsimp only; split <;> simp
@[simp] theorem State.fault_mem (c i : Nat) : (s.fault c i).mem = s.mem := by
  unfold State.fault; dsimp only; split <;> simp
@[simp] theorem State.fault_peer (c i : Nat) : (s.fault c i).peer = s.peer := by
  unfold State.fault; dsimp only; split <;> simp
@[simp] theorem State.fault_pair (c i : Nat) : (s.fault c i).pair = s.pair := by
  unfold State.fault; dsimp only; split <;> simp
@[simp] theorem State.fault_stm (c i : Nat) : (s.fault c i).stm = s.stm := by
  unfold State.fault; dsimp only; split <;> simp
@[simp] theorem State.fault_pat (c i : Nat) : (s.fault c i).pat = s.pat := by
  unfold State.fault; dsimp only; split <;> simp
@[simp] theorem State.fault_cfg (c i : Nat) : (s.fault c i).cfg = s.cfg := by
  unfold State.fault; dsimp only; split <;> simp
@[simp] theorem State.fault_fresh (c i : Nat) : (s.fault c i).fresh = s.fresh := by
  unfold State.fault; dsimp only; split <;> simp
@[simp] theorem State.fault_pending (c i : Nat) : (s.fault c i).pending = s.pending := by
  unfold State.fault; dsimp only; split <;> simp

theorem State.reg_raisePF (e q : Nat) {o : Nat} (h1 : o ≠ R.EVT_SEEN (e / 32)) (h2 : o ≠ R.EVT_QLOST) :
    (s.raisePF e q).reg o = s.reg o := State.reg_raise s e q routePF h1 h2

theorem State.reg_raisePF_out (e q : Nat) {o : Nat} (he : e < 1024) (h : faultOffset o = false) :
    (s.raisePF e q).reg o = s.reg o := by
  apply State.reg_raisePF
  · intro ho; subst ho
    have : faultOffset (R.EVT_SEEN (e / 32)) = true := by
      simp only [faultOffset, Nat.ble_eq, Nat.blt_eq, Bool.or_eq_true, Bool.and_eq_true]; unfold R.EVT_SEEN; omega
    simp [this] at h
  · intro ho; subst ho; revert h; decide

theorem State.reg_setReg_out (o i : Nat) (v : Word) (h : faultOffset i = false) (ho : faultOffset o = true) :
    (s.setReg o v).reg i = s.reg i := by
  apply State.reg_setReg_ne; rintro rfl; simp [ho] at h

theorem State.reg_healthCount (c : Nat) {o : Nat} (hc : c < 16) (h : faultOffset o = false) :
    (s.healthCount c).reg o = s.reg o := by
  have hb : faultOffset (R.HLTH_CNT c) = true := by
    simp only [faultOffset, Nat.ble_eq, Nat.blt_eq, Bool.or_eq_true, Bool.and_eq_true]; unfold R.HLTH_CNT; omega
  have h1 : (s.bump (R.HLTH_CNT c)).reg o = s.reg o := State.reg_setReg_out s _ o _ h hb
  unfold State.healthCount
  dsimp only
  split
  · rw [State.reg_raisePF_out _ _ _ (by omega) h]; exact h1
  · exact h1

theorem faultCounter_lt (code c : Nat) (h : faultCounter code = some c) : c < 16 := by
  unfold faultCounter at h
  split at h <;> first | (injection h with h; omega) | cases h

theorem State.reg_healthCountOpt (code : Nat) {o : Nat} (h : faultOffset o = false) :
    (s.healthCountOpt (faultCounter code)).reg o = s.reg o := by
  rcases hc : faultCounter code with _ | c
  · rfl
  · exact State.reg_healthCount s c (faultCounter_lt code c hc) h

/-- A fault changes registers of the event unit and of the health block only. -/
theorem State.reg_fault (code inst : Nat) {o : Nat} (h : faultOffset o = false) :
    (s.fault code inst).reg o = s.reg o := by
  have hlog : ∀ t : State, (t.logFault code inst).reg o = t.reg o := by
    intro t
    have he : t.fld F.HLTH_FLOGPTR.V < 16 := getBits_lt _ _ _
    have hset : ∀ (u : State) (i : Nat) (v : Word), faultOffset i = true → (u.setReg i v).reg o = u.reg o :=
      fun u i v hi => State.reg_setReg_out u i o v h hi
    unfold State.logFault
    dsimp only [State.setFld, State.setRegs, eventTime]
    rw [hset, hset, hset, hset, hset]
    all_goals
      simp only [faultOffset, Nat.ble_eq, Nat.blt_eq, Bool.or_eq_true, Bool.and_eq_true]
      simp only [R.HLTH_FLOG, R.HLTH_FLOGPTR]; omega
  unfold State.fault
  dsimp only
  rw [hlog]
  split
  · rw [State.reg_healthCountOpt _ _ h, State.reg_raisePF_out _ _ _ (by omega) h]
  · rw [State.setFlag, State.setFld, State.reg_setReg_out _ _ _ _ h (by rfl), State.reg_healthCountOpt _ _ h,
      State.reg_healthCount _ _ (by omega) h, State.reg_raisePF_out _ _ _ (by omega) h]

@[simp] theorem State.raiseOnce_phase (b : Fld) (e q : Nat) (l : List Nat) : (s.raiseOnce b e q l).phase = s.phase := by
  unfold State.raiseOnce; split <;> simp
@[simp] theorem State.raiseOnce_time (b : Fld) (e q : Nat) (l : List Nat) : (s.raiseOnce b e q l).time = s.time := by
  unfold State.raiseOnce; split <;> simp
@[simp] theorem State.raiseOnce_hif (b : Fld) (e q : Nat) (l : List Nat) : (s.raiseOnce b e q l).hif = s.hif := by
  unfold State.raiseOnce; split <;> simp
@[simp] theorem State.raiseOnce_hlth (b : Fld) (e q : Nat) (l : List Nat) : (s.raiseOnce b e q l).hlth = s.hlth := by
  unfold State.raiseOnce; split <;> simp
@[simp] theorem State.raiseOnce_inp (b : Fld) (e q : Nat) (l : List Nat) : (s.raiseOnce b e q l).inp = s.inp := by
  unfold State.raiseOnce; split <;> simp
@[simp] theorem State.raiseOnce_clk (b : Fld) (e q : Nat) (l : List Nat) : (s.raiseOnce b e q l).clk = s.clk := by
  unfold State.raiseOnce; split <;> simp
@[simp] theorem State.raiseOnce_cnv (b : Fld) (e q : Nat) (l : List Nat) : (s.raiseOnce b e q l).cnv = s.cnv := by
  unfold State.raiseOnce; split <;> simp
@[simp] theorem State.raiseOnce_cal (b : Fld) (e q : Nat) (l : List Nat) : (s.raiseOnce b e q l).cal = s.cal := by
  unfold State.raiseOnce; split <;> simp
@[simp] theorem State.raiseOnce_dec (b : Fld) (e q : Nat) (l : List Nat) : (s.raiseOnce b e q l).dec = s.dec := by
  unfold State.raiseOnce; split <;> simp
@[simp] theorem State.raiseOnce_trg (b : Fld) (e q : Nat) (l : List Nat) : (s.raiseOnce b e q l).trg = s.trg := by
  unfold State.raiseOnce; split <;> simp
@[simp] theorem State.raiseOnce_acq (b : Fld) (e q : Nat) (l : List Nat) : (s.raiseOnce b e q l).acq = s.acq := by
  unfold State.raiseOnce; split <;> simp
@[simp] theorem State.raiseOnce_pan (b : Fld) (e q : Nat) (l : List Nat) : (s.raiseOnce b e q l).pan = s.pan := by
  unfold State.raiseOnce; split <;> simp
@[simp] theorem State.raiseOnce_mem (b : Fld) (e q : Nat) (l : List Nat) : (s.raiseOnce b e q l).mem = s.mem := by
  unfold State.raiseOnce; split <;> simp
@[simp] theorem State.raiseOnce_peer (b : Fld) (e q : Nat) (l : List Nat) : (s.raiseOnce b e q l).peer = s.peer := by
  unfold State.raiseOnce; split <;> simp
@[simp] theorem State.raiseOnce_pair (b : Fld) (e q : Nat) (l : List Nat) : (s.raiseOnce b e q l).pair = s.pair := by
  unfold State.raiseOnce; split <;> simp
@[simp] theorem State.raiseOnce_stm (b : Fld) (e q : Nat) (l : List Nat) : (s.raiseOnce b e q l).stm = s.stm := by
  unfold State.raiseOnce; split <;> simp
@[simp] theorem State.raiseOnce_pat (b : Fld) (e q : Nat) (l : List Nat) : (s.raiseOnce b e q l).pat = s.pat := by
  unfold State.raiseOnce; split <;> simp
@[simp] theorem State.raiseOnce_cfg (b : Fld) (e q : Nat) (l : List Nat) : (s.raiseOnce b e q l).cfg = s.cfg := by
  unfold State.raiseOnce; split <;> simp
@[simp] theorem State.raiseOnce_fresh (b : Fld) (e q : Nat) (l : List Nat) : (s.raiseOnce b e q l).fresh = s.fresh := by
  unfold State.raiseOnce; split <;> simp
@[simp] theorem State.raiseOnce_pending (b : Fld) (e q : Nat) (l : List Nat) : (s.raiseOnce b e q l).pending = s.pending := by
  unfold State.raiseOnce; split <;> simp

end Sys2Proof.Machine
end

