-- ==== Sys2Proof/Laws/Memory.lean ====
section
/-!
SUPPORT. Capture memory: the locations of lines are distinct, what a byte reads after each operation that writes memory, and
the canonical form that all of them keep.
-/
namespace Sys2Proof.Machine

/-- XOR with the same number loses nothing. -/
theorem xor_mod_cancel {a b h n : Nat} (ha : a < 2 ^ n) (hb : b < 2 ^ n)
    (e : (a ^^^ h) % 2 ^ n = (b ^^^ h) % 2 ^ n) : a = b := by
  rw [Nat.xor_mod_two_pow, Nat.xor_mod_two_pow, Nat.mod_eq_of_lt ha, Nat.mod_eq_of_lt hb] at e
  have h2 := congrArg (fun x => x ^^^ h % 2 ^ n) e
  simpa [Nat.xor_assoc] using h2

variable (s : State)

/-- Two lines never share a location (R348). -/
theorem State.place_inj {l m : Nat} (e : s.place l = s.place m) : l = m := by
  unfold State.place lineCol at e
  have a1 := Nat.mod_lt (s.bkOf l) (show 0 < 2 ^ 4 by decide)
  have a2 := Nat.mod_lt (s.bkOf m) (show 0 < 2 ^ 4 by decide)
  have a3 := Nat.mod_lt (s.pcOf l) (show 0 < 2 ^ 6 by decide)
  have a4 := Nat.mod_lt (s.pcOf m) (show 0 < 2 ^ 6 by decide)
  have h15 : l / 2 ^ 15 = m / 2 ^ 15 := by omega
  have hb : s.bkOf l % 2 ^ 4 = s.bkOf m % 2 ^ 4 := by omega
  have hc : l / 2 ^ 6 % 2 ^ 5 = m / 2 ^ 6 % 2 ^ 5 := by omega
  have hp : s.pcOf l % 2 ^ 6 = s.pcOf m % 2 ^ 6 := by omega
  have hbk : l / 2 ^ 11 % 2 ^ 4 = m / 2 ^ 11 % 2 ^ 4 := by
    unfold State.bkOf at hb
    rw [h15] at hb
    exact xor_mod_cancel (Nat.mod_lt _ (by decide)) (Nat.mod_lt _ (by decide)) hb
  have h11 : l / 2 ^ 11 = m / 2 ^ 11 := by omega
  have hpc : l % 2 ^ 6 = m % 2 ^ 6 := by
    unfold State.pcOf at hp
    rw [h11] at hp
    exact xor_mod_cancel (Nat.mod_lt _ (by decide)) (Nat.mod_lt _ (by decide)) hp
  omega

/-- Two bytes never share a location. -/
theorem State.loc_inj {a b : Nat} (e : s.loc a = s.loc b) : a = b := by
  unfold State.loc at e
  have h := State.place_inj s (l := a / 32) (m := b / 32) (by omega)
  omega

/-- A byte after values have been written to the distinct places of consecutive keys. -/
theorem get_setPlaces (f : Nat → Nat) (hf : ∀ a b, f a = f b → a = b) (l : List Byte) (m : SMap Byte) (k i : Nat) :
    SMap.get memByte (setPlaces f m k l) (f i)
      = if k ≤ i ∧ i < k + l.length then l.getD (i - k) 0 else SMap.get memByte m (f i) := by
  induction l generalizing m k with
  | nil => simp [setPlaces]
  | cons v l ih =>
    rw [setPlaces, ih]
    by_cases h1 : i = k
    · subst h1; simp
    · by_cases h2 : k + 1 ≤ i ∧ i < k + 1 + l.length
      · have h3 : k ≤ i ∧ i < k + (v :: l).length := by simp; omega
        have h4 : i - k = (i - (k + 1)) + 1 := by omega
        rw [if_pos h2, if_pos h3, h4]; rfl
      · have h3 : ¬ (k ≤ i ∧ i < k + (v :: l).length) := by simp; omega
        rw [if_neg h2, if_neg h3, SMap.get_set_ne memByte m v (fun h => h1 (hf i k h))]

theorem wf_setPlaces (f : Nat → Nat) (l : List Byte) (m : SMap Byte) (k : Nat) (h : Memory.wf m = true) :
    Memory.wf (setPlaces f m k l) = true := by
  induction l generalizing m k with
  | nil => exact h
  | cons v l ih => exact ih _ _ (SMap.wf_set m (f k) v h)

theorem State.showOcc_mem : s.showOcc.mem = s.mem := by
  unfold State.showOcc; dsimp only; split <;> simp

theorem State.showOcc_eq : s.showOcc = { s with regs := s.showOcc.regs } := by
  unfold State.showOcc; dsimp only; split <;> rfl

theorem State.buffer_bytes (l p : Nat) : (s.buffer l p).mem.bytes = s.mem.bytes := by
  unfold State.buffer; split
  · rw [State.showOcc_mem]
  · rfl

theorem State.buffer_poison (l p : Nat) : (s.buffer l p).mem.poison = s.mem.poison := by
  unfold State.buffer; split
  · rw [State.showOcc_mem]
  · rfl

/-- Entering the write buffer moves only the registers that show its occupancy. -/
theorem State.buffer_reg (l p o : Nat) (h : o ≠ R.MEM_WB_OCC) (h2 : o ≠ R.MEM_WB_PEAK) : (s.buffer l p).reg o = s.reg o := by
  unfold State.buffer; split
  · unfold State.showOcc; dsimp only; split
    · rw [State.reg_setFld_ne, State.reg_setFld_ne]; rfl
      · exact h
      · exact h2
    · rw [State.reg_setFld_ne]; rfl
      exact h
  · rfl

/-- Where bytes lie depends on the hash masks alone (R348). -/
theorem State.loc_congr {s t : State} (h1 : ∀ k < 6, t.reg (R.MEM_HASH_PC k) = s.reg (R.MEM_HASH_PC k))
    (h2 : ∀ j < 4, t.reg (R.MEM_HASH_BK j) = s.reg (R.MEM_HASH_BK j)) (a : Nat) : t.loc a = s.loc a := by
  have p1 : ∀ h, t.pcHash h = s.pcHash h := fun h => by
    unfold State.pcHash State.fld
    exact congrArg bitsOf (List.filter_congr (fun k hk => by rw [h1 k (List.mem_range.1 hk)]))
  have p2 : ∀ g, t.bkHash g = s.bkHash g := fun g => by
    unfold State.bkHash State.fld
    exact congrArg bitsOf (List.filter_congr (fun k hk => by rw [h2 k (List.mem_range.1 hk)]))
  simp only [State.loc, State.place, State.pcOf, State.bkOf, p1, p2]

theorem State.buffer_loc (l p a : Nat) : (s.buffer l p).loc a = s.loc a := by
  refine State.loc_congr (fun k hk => State.buffer_reg s l p _ ?_ ?_) (fun k hk => State.buffer_reg s l p _ ?_ ?_) a <;>
  · intro h
    simp only [R.MEM_HASH_PC, R.MEM_HASH_BK, R.MEM_WB_OCC, R.MEM_WB_PEAK] at h
    omega

/-- Entering the write buffer changes no byte. -/
theorem State.byteAt_buffer (l p a : Nat) : (s.buffer l p).byteAt a = s.byteAt a := by
  rw [State.byteAt, State.buffer_bytes, State.buffer_loc, State.byteAt]

theorem State.buffers_bytes (ls : List Nat) (p : Nat) :
    (ls.foldl (fun t l => t.buffer l p) s).mem.bytes = s.mem.bytes := by
  induction ls generalizing s with
  | nil => rfl
  | cons l ls ih => rw [List.foldl_cons, ih, State.buffer_bytes]

theorem State.byteAt_buffers (ls : List Nat) (p a : Nat) :
    (ls.foldl (fun t l => t.buffer l p) s).byteAt a = s.byteAt a := by
  induction ls generalizing s with
  | nil => rfl
  | cons l ls ih => rw [List.foldl_cons, ih, State.byteAt_buffer]

/-- The bytes put at consecutive addresses, and every other byte as it was. -/
theorem State.byteAt_putBytes (a : Nat) (b : List Byte) (i : Nat) :
    (s.putBytes a b).byteAt i = if a ≤ i ∧ i < a + b.length then b.getD (i - a) 0 else s.byteAt i :=
  get_setPlaces s.loc (fun _ _ e => State.loc_inj s e) b s.mem.bytes a i

theorem State.byteAt_putBytes_out (a : Nat) (b : List Byte) (i : Nat) (h : ¬ (a ≤ i ∧ i < a + b.length)) :
    (s.putBytes a b).byteAt i = s.byteAt i := by rw [State.byteAt_putBytes, if_neg h]

theorem State.wf_putBytes (a : Nat) (b : List Byte) (h : Memory.wf s.mem.bytes = true) :
    Memory.wf (s.putBytes a b).mem.bytes = true := wf_setPlaces s.loc b s.mem.bytes a h

/-- A line written reads the bytes of its number, and every other byte as it was. -/
theorem State.byteAt_writeLine (p l x i : Nat) (h : l < memLines) :
    (s.writeLine p l x).byteAt i
      = if 32 * l ≤ i ∧ i < 32 * l + (natBytes x 32).length then (natBytes x 32).getD (i - 32 * l) 0 else s.byteAt i := by
  unfold State.writeLine
  rw [if_neg (by omega), State.byteAt_buffer]
  exact State.byteAt_putBytes s (32 * l) (natBytes x 32) i

theorem State.writeLine_poison (p l x : Nat) (h : l < memLines) :
    (s.writeLine p l x).mem.poison = s.mem.poison.filter (fun e => e != s.place l) := by
  unfold State.writeLine
  rw [if_neg (by omega), State.buffer_poison]; rfl

theorem State.wf_writeLine (p l x : Nat) (h : Memory.wf s.mem.bytes = true) :
    Memory.wf (s.writeLine p l x).mem.bytes = true := by
  unfold State.writeLine
  split
  · exact h
  · rw [State.buffer_bytes]; exact State.wf_putBytes s _ _ h

theorem State.wf_writeLines (p l : Nat) (xs : List Nat) (h : Memory.wf s.mem.bytes = true) :
    Memory.wf (s.writeLines p l xs).mem.bytes = true := by
  induction xs generalizing s l with
  | nil => exact h
  | cons x xs ih => exact ih _ _ (State.wf_writeLine s p l x h)

/-- A bulk write's bytes, and every other byte as it was. -/
theorem State.byteAt_bulkWrite (w : BulkWrite) (i : Nat) :
    (s.bulkWrite w).byteAt i
      = if w.addr ≤ i ∧ i < w.addr + w.bytes.length then w.bytes.getD (i - w.addr) 0 else s.byteAt i := by
  unfold State.bulkWrite
  dsimp only
  split
  · rw [if_neg (by omega)]
  · rw [State.byteAt_buffers]
    exact State.byteAt_putBytes s w.addr w.bytes i

theorem State.wf_bulkWrite (w : BulkWrite) (h : Memory.wf s.mem.bytes = true) :
    Memory.wf (s.bulkWrite w).mem.bytes = true := by
  unfold State.bulkWrite
  dsimp only
  split
  · exact h
  · rw [State.buffers_bytes]; exact State.wf_putBytes s _ _ h

/-- Letting the bulk writes that wait into the buffer keeps memory in its canonical form. -/
theorem State.wf_admitBulk (n : Nat) (h : Memory.wf s.mem.bytes = true) :
    Memory.wf (s.admitBulk n).mem.bytes = true := by
  induction n generalizing s with
  | zero => exact h
  | succ n ih =>
    rw [State.admitBulk]
    split
    · split
      · exact ih _ (State.wf_bulkWrite _ _ h)
      · exact h
    · exact h

end Sys2Proof.Machine
end

