-- ==== Sys2Proof/Laws/Acquisition.lean ====
section
/-!
SUPPORT. Contexts, wide registers and lines: what a context reads after an update, and what writing a line leaves alone.
-/
namespace Sys2Proof.Machine

variable (s : State)

@[simp] theorem State.setCtx_byteAt (n : Nat) (c : Ctx) (a : Nat) : (s.setCtx n c).byteAt a = s.byteAt a := rfl

theorem State.ctx_setCtx_ne {n m : Nat} (c : Ctx) (h : m ≠ n) : (s.setCtx n c).ctx m = s.ctx m :=
  SMap.get_set_ne _ _ c h

/-- Two registers read back the low 64 bits written to them (R107). -/
theorem State.reg64_setReg64_self (o x : Nat) : (s.setReg64 o x).reg64 o = x % 2 ^ 64 := by
  simp only [State.setReg64, State.reg64, State.reg_setReg_self]
  rw [State.reg_setReg_ne _ _ (by omega), State.reg_setReg_self]
  simp only [lo32, hi32, BitVec.toNat_ofNat]
  omega

theorem State.reg_setReg64_ne {o i : Nat} (x : Nat) (h1 : i ≠ o) (h2 : i ≠ o + 4) :
    (s.setReg64 o x).reg i = s.reg i := by
  rw [State.setReg64, State.reg_setReg_ne _ _ h2, State.reg_setReg_ne _ _ h1]

theorem natBytes_length (n x : Nat) : (natBytes x n).length = n := by
  induction n generalizing x with
  | zero => rfl
  | succ n ih => simp [natBytes, ih]

theorem natBytes_getD (n x i : Nat) (h : i < n) : (natBytes x n).getD i 0 = BitVec.ofNat 8 (x / 256 ^ i) := by
  induction n generalizing x i with
  | zero => omega
  | succ n ih =>
    cases i with
    | zero => simp [natBytes]
    | succ i =>
      simp only [natBytes, List.getD_cons_succ]
      rw [ih _ _ (by omega), Nat.div_div_eq_div_mul, pow_succ, Nat.mul_comm]

/-- Writing a line changes no byte outside it. -/
theorem State.byteAt_writeLine_out (p l x i : Nat) (h : i < 32 * l ∨ 32 * l + 32 ≤ i) :
    (s.writeLine p l x).byteAt i = s.byteAt i := by
  by_cases hl : l < memLines
  · rw [State.byteAt_writeLine _ _ _ _ _ hl, if_neg (by rw [natBytes_length]; omega)]
  · unfold State.writeLine; rw [if_pos (by omega)]

/-- A line that has been written reads its number, byte by byte. -/
theorem State.byteAt_writeLine_in (p l x i : Nat) (hl : l < memLines) (h : i < 32) :
    (s.writeLine p l x).byteAt (32 * l + i) = BitVec.ofNat 8 (x / 256 ^ i) := by
  rw [State.byteAt_writeLine _ _ _ _ _ hl, if_pos (by rw [natBytes_length]; omega), Nat.add_sub_cancel_left]
  exact natBytes_getD 32 x i h

theorem State.buffer_acq (l p : Nat) : (s.buffer l p).acq = s.acq := by
  unfold State.buffer
  split
  · rw [State.showOcc_eq]
  · rfl

theorem State.writeLine_acq (p l x : Nat) : (s.writeLine p l x).acq = s.acq := by
  unfold State.writeLine
  split
  · rfl
  · rw [State.buffer_acq]; rfl

theorem State.ctx_writeLine (p l x n : Nat) : (s.writeLine p l x).ctx n = s.ctx n := by
  rw [State.ctx, State.writeLine_acq, State.ctx]

/-- Writing a line changes the occupancy registers only. -/
theorem State.reg_writeLine (p l x : Nat) {o : Nat} (h1 : o ≠ R.MEM_WB_OCC) (h2 : o ≠ R.MEM_WB_PEAK) :
    (s.writeLine p l x).reg o = s.reg o := by
  unfold State.writeLine
  split
  · rfl
  · rw [State.buffer_reg _ _ _ _ h1 h2]; rfl

/-- Raising an event moves no byte. -/
theorem State.byteAt_raise (e q : Nat) (l : List Nat) (a : Nat) (he : e < 288) : (s.raise e q l).byteAt a = s.byteAt a := by
  rw [State.byteAt, State.byteAt, State.raise_mem]
  refine congrArg _ ?_
  refine State.loc_congr (fun k hk => State.reg_raise s e q l ?_ ?_) (fun k hk => State.reg_raise s e q l ?_ ?_) a <;>
  · intro h
    simp only [R.MEM_HASH_PC, R.MEM_HASH_BK, R.EVT_SEEN, R.EVT_QLOST] at h
    omega

/-- Filling a log touches no byte of memory. -/
theorem State.byteAt_logFilled (n a : Nat) : (s.logFilled n).byteAt a = s.byteAt a := by
  have key : (s.setFlag (F.TRG_AC_STAT.LOG_FULL n) true).byteAt a = s.byteAt a := by
    show SMap.get memByte s.mem.bytes (State.loc _ a) = _
    refine congrArg _ ?_
    refine State.loc_congr (fun k hk => State.reg_setFlag_ne s _ ?_) (fun k hk => State.reg_setFlag_ne s _ ?_) a <;>
    · intro h
      simp only [R.MEM_HASH_PC, R.MEM_HASH_BK, R.TRG_AC_STAT] at h
      omega
  unfold State.logFilled
  dsimp only
  split
  · rfl
  · split
    · exact key
    · rw [State.byteAt_raise _ _ _ _ _ (by decide)]; exact key

/-- Hearing words puts them on record and changes nothing else (R23). -/
theorem State.hear_eq (n i : Nat) (w : BitVec 16) : ∃ d, (s.hear n i w).2 = { s with dec := d } := by
  unfold State.hear; split
  · exact ⟨s.dec, rfl⟩
  · exact ⟨_, rfl⟩

theorem State.hearAll_eq (n i : Nat) (l : List (BitVec 16)) : ∃ d, (s.hearAll n i l).2 = { s with dec := d } := by
  induction l generalizing s i with
  | nil => exact ⟨s.dec, rfl⟩
  | cons w l ih =>
    obtain ⟨d, h⟩ := State.hear_eq s n i w
    obtain ⟨e, h2⟩ := ih (s.hear n i w).2 (i + 1)
    refine ⟨e, ?_⟩
    show ((s.hear n i w).2.hearAll n (i + 1) l).2 = _
    rw [h2, h]

end Sys2Proof.Machine
end

