-- ==== Sys2Proof/Laws/Rings.lean ====
section
/-!
SUPPORT. What starting a descriptor does, and what a completion leaves alone.
-/
namespace Sys2Proof.Machine

theorem State.starts_runs {s : State} {r op : Nat} {d : Desc} (h : s.starts r op d = true) : s.runs = true := by
  simp only [State.starts, Bool.and_eq_true] at h; exact h.1.1.1

/-- The ring's next descriptor starts: it counts as started in the state that its effect begins from (R389). -/
theorem State.startNext_eq {s : State} {r op : Nat} {d : Desc} (h : s.starts r op d = true) :
    s.startNext r op = some (d.begun, s.begin r d) := by
  simp only [State.starts, Bool.and_eq_true, beq_iff_eq] at h
  obtain ⟨⟨⟨_, h1⟩, h2⟩, h3⟩ := h
  simp [State.startNext, h1, h2, h3]

theorem State.withStart_eq {s : State} {r op : Nat} {d : Desc} (f : Desc → State → State) (h : s.starts r op d = true) :
    s.withStart r op f = f d.begun (s.begin r d) := by
  rw [State.withStart, State.startNext_eq h]

/-- The answer of a descriptor's command. -/
theorem State.act_start {s : State} {r op : Nat} {d : Desc} (f : Desc → State → State) (h : s.starts r op d = true) :
    s.act (fun t => t.withStart r op f) = .next (s.keep (f d.begun (s.begin r d))) := by
  rw [State.act_running s _ (State.starts_runs h), State.withStart_eq f h]

end Sys2Proof.Machine
end

