-- ==== Sys2Proof/Laws/Completion.lean ====
section
/-!
SUPPORT. What writing a completion may change: registers of the host interface, the rings and the event unit.
-/
namespace Sys2Proof.Machine

/-- What the host interface holds besides its completion queues is the same. -/
def hifSame (h g : HifSt) : Prop := h.harvests = g.harvests ∧ h.releases = g.releases ∧ h.bar4 = g.bar4 ∧ h.reads = g.reads ∧ h.linkUp = g.linkUp ∧ h.busMaster = g.busMaster ∧ h.sqTail = g.sqTail ∧ h.cqHead = g.cqHead
/-- From s to t nothing changes but registers of the HIF and of event 41, what the rings hold, and the event unit; no
descriptor becomes outstanding. -/
structure RingsOnly (s t : State) : Prop where
  rest : { t with regs := s.regs, hif := s.hif, evt := s.evt } = s
  regs : ∀ o, hifOffset o = false → o ∉ evtRegs 41 → t.reg o = s.reg o
  hif : hifSame t.hif s.hif
  descs : ∀ e ∈ t.hif.descs, e ∈ s.hif.descs

theorem RingsOnly.refl (s : State) : RingsOnly s s := ⟨rfl, fun _ _ _ => rfl, ⟨rfl,rfl,rfl,rfl,rfl,rfl,rfl,rfl⟩, fun _ h => h⟩
theorem RingsOnly.trans {s t u : State} (a : RingsOnly s t) (b : RingsOnly t u) : RingsOnly s u := by
  refine ⟨?_, fun o h1 h2 => (b.regs o h1 h2).trans (a.regs o h1 h2), ?_, fun e h => a.descs e (b.descs e h)⟩
  · have h1 := a.rest; have h2 := b.rest
    rw [← h1, ← h2]
  · have h1 := a.hif; have h2 := b.hif; simp_all [hifSame]
theorem RingsOnly.setReg (s : State) {o : Nat} (v : Word) (h : hifOffset o = true) : RingsOnly s (s.setReg o v) := by
  refine ⟨rfl, fun i h1 _ => State.reg_setReg_ne s v ?_, ⟨rfl,rfl,rfl,rfl,rfl,rfl,rfl,rfl⟩, fun _ h => h⟩
  rintro rfl; simp_all
theorem RingsOnly.setFld (s : State) (f : Fld) (x : Nat) (h : hifOffset f.off = true) : RingsOnly s (s.setFld f x) := RingsOnly.setReg s _ h
theorem RingsOnly.setFlag (s : State) (f : Fld) (x : Bool) (h : hifOffset f.off = true) : RingsOnly s (s.setFlag f x) := RingsOnly.setReg s _ h
theorem RingsOnly.bump (s : State) {o : Nat} (h : hifOffset o = true) : RingsOnly s (s.bump o) := RingsOnly.setReg s _ h
theorem RingsOnly.raise (s : State) (q : Nat) (l : List Nat) : RingsOnly s (s.raise 41 q l) := by
  have e := State.raiseX_eq s 41 q l none
  refine ⟨?_, fun o _ h => State.reg_raise s 41 q l ?_ ?_, ?_, ?_⟩
  · show ({ s.raiseX 41 q l none with regs := s.regs, hif := s.hif, evt := s.evt } : State) = s
    rw [e]
  · rintro rfl; simp [evtRegs] at h
  · rintro rfl; simp [evtRegs] at h
  · show hifSame (s.raiseX 41 q l none).hif s.hif
    rw [e]; simp [hifSame]
  · show ∀ e ∈ (s.raiseX 41 q l none).hif.descs, _
    rw [e]; exact fun _ h => h
theorem RingsOnly.raiseOnce (s : State) (f : Fld) (q : Nat) (l : List Nat) (hf : hifOffset f.off = true) : RingsOnly s (s.raiseOnce f 41 q l) := by
  unfold State.raiseOnce; split
  · exact RingsOnly.refl s
  · exact (RingsOnly.setFlag s _ _ hf).trans (RingsOnly.raise _ _ _)
theorem hifOffset_ringStat {r : Nat} (hr : r < 64) : hifOffset (R.HIF_RING_STAT r) = true := by
  simp [hifOffset, R.HIF_RING_STAT, Nat.blt]; omega
theorem hifOffset_ringPtr {r : Nat} (hr : r < 64) : hifOffset (R.HIF_RING_PTR r) = true := by
  simp [hifOffset, R.HIF_RING_PTR, Nat.blt]; omega
theorem hifOffset_ringDone {r : Nat} (hr : r < 64) : hifOffset (R.HIF_RING_DONE r) = true := by
  simp [hifOffset, R.HIF_RING_DONE, Nat.blt]; omega
theorem RingsOnly.of_hif (s : State) (h : HifSt) (a : hifSame h s.hif) (b : ∀ e ∈ h.descs, e ∈ s.hif.descs) : RingsOnly s { s with hif := h } :=
  ⟨rfl, fun _ _ _ => rfl, a, b⟩
theorem RingsOnly.advanceCq (s : State) (r n : Nat) (hr : r < 64) : RingsOnly s (s.advanceCq r n) := by
  unfold State.advanceCq
  refine RingsOnly.trans (t := if s.ringSize r ≤ s.fld (F.HIF_RING_PTR.CQ_TAIL r) + n then (s.setFld (F.HIF_RING_PTR.CQ_TAIL r) ((s.fld (F.HIF_RING_PTR.CQ_TAIL r) + n) % s.ringSize r)).setFld (F.HIF_RING_STAT.PHASE r) (1 - s.fld (F.HIF_RING_STAT.PHASE r)) else s.setFld (F.HIF_RING_PTR.CQ_TAIL r) ((s.fld (F.HIF_RING_PTR.CQ_TAIL r) + n) % s.ringSize r)) ?_ ?_
  · split
    · exact (RingsOnly.setFld s _ _ (hifOffset_ringPtr hr)).trans (RingsOnly.setFld _ _ _ (hifOffset_ringStat hr))
    · exact RingsOnly.setFld s _ _ (hifOffset_ringPtr hr)
  · exact RingsOnly.of_hif _ _ ⟨rfl,rfl,rfl,rfl,rfl,rfl,rfl,rfl⟩ (fun _ h => h)
theorem RingsOnly.signal (s : State) (r : Nat) (hr : r < 64) : RingsOnly s (s.signal r) := by
  unfold State.signal; dsimp only
  generalize (if s.ringOwner r = 0 then 63 else 7) = k
  split
  · exact RingsOnly.raiseOnce s (F.HIF_RING_STAT.VEC_ERR r) _ _ (hifOffset_ringStat hr)
  · exact RingsOnly.of_hif _ _ ⟨rfl,rfl,rfl,rfl,rfl,rfl,rfl,rfl⟩ (fun _ h => h)
theorem RingsOnly.cover (s : State) (r : Nat) (b : Bool) (hr : r < 64) : RingsOnly s (s.cover r b) := by
  unfold State.cover
  extract_lets n _ s1
  have h1 : RingsOnly s s1 := RingsOnly.of_hif _ _ ⟨rfl,rfl,rfl,rfl,rfl,rfl,rfl,rfl⟩ (fun _ h => h)
  split
  · exact h1.trans (RingsOnly.signal _ r hr)
  · exact h1
theorem RingsOnly.post (s : State) (f a : Nat) (d : List Word) : RingsOnly s (s.post f a d) :=
  RingsOnly.of_hif _ _ ⟨rfl,rfl,rfl,rfl,rfl,rfl,rfl,rfl⟩ (fun _ h => h)
theorem RingsOnly.writeCompletion (s : State) (w : Waiting) (hr : w.ring < 64) : RingsOnly s (s.writeCompletion w) := by
  unfold State.writeCompletion; dsimp only
  refine RingsOnly.trans ?_ (RingsOnly.cover _ _ _ hr)
  refine RingsOnly.trans ?_ (RingsOnly.bump _ (hifOffset_ringDone hr))
  refine RingsOnly.trans ?_ (RingsOnly.advanceCq _ _ _ hr)
  refine RingsOnly.trans ?_ (RingsOnly.post _ _ _ _)
  split
  · exact (RingsOnly.post _ _ _ _).trans (RingsOnly.post _ _ _ _)
  · exact RingsOnly.post _ _ _ _

end Sys2Proof.Machine
end

