-- ==== Sys2Proof/Laws/Converter.lean ====
section
/-!
SUPPORT. The gauges' sweeps: starting or resuming a sweep changes the converter's own state and CNV_GAUGE_STAT, nothing else.
-/
namespace Sys2Proof.Machine

variable (s : State)

/-- `t` is `s` but for the converter's own state and CNV_GAUGE_STAT. -/
def SweepOnly (s t : State) : Prop :=
  t = { s with regs := t.regs, cnv := t.cnv } ∧ ∀ o, o ≠ R.CNV_GAUGE_STAT → t.reg o = s.reg o

theorem SweepOnly.refl : SweepOnly s s := ⟨rfl, fun _ _ => rfl⟩

theorem SweepOnly.trans {s t u : State} (a : SweepOnly s t) (b : SweepOnly t u) : SweepOnly s u := by
  refine ⟨?_, fun o h => (b.2 o h).trans (a.2 o h)⟩
  rw [b.1, a.1]

theorem SweepOnly.setGauge (g : Nat) (x : Gauge) : SweepOnly s (s.setGauge g x) := ⟨rfl, fun _ _ => rfl⟩

theorem SweepOnly.visit (g x frame : Nat) (extra : Bool) : SweepOnly s (s.visit g x frame extra) := by
  unfold State.visit
  exact (SweepOnly.setGauge s g _).trans ⟨rfl, fun o h => State.reg_setFld_ne _ _ h⟩

theorem SweepOnly.sweepFrom (g x frame : Nat) : SweepOnly s (s.sweepFrom g x frame) := by
  unfold State.sweepFrom
  dsimp only
  split
  · exact (SweepOnly.setGauge s g _).trans (SweepOnly.visit _ g _ frame true)
  · split
    · exact (SweepOnly.setGauge s g _).trans (SweepOnly.visit _ g _ frame false)
    · exact SweepOnly.setGauge s g _

theorem SweepOnly.wakeSweep (g frame : Nat) : SweepOnly s (s.wakeSweep g frame) := by
  unfold State.wakeSweep
  split
  · exact SweepOnly.sweepFrom s g _ frame
  · exact SweepOnly.refl s

/-- Waking the sweeps touches CNV_GAUGE_STAT and the converter's own state only (R135). -/
theorem SweepOnly.wakeSweeps : SweepOnly s s.wakeSweeps := by
  unfold State.wakeSweeps State.each
  generalize List.range 4 = l
  induction l generalizing s with
  | nil => exact SweepOnly.refl s
  | cons g l ih => exact (SweepOnly.wakeSweep s g _).trans (ih _)

theorem State.reg_wakeSweeps {o : Nat} (h : o ≠ R.CNV_GAUGE_STAT) : s.wakeSweeps.reg o = s.reg o :=
  (SweepOnly.wakeSweeps s).2 o h

theorem State.wakeSweeps_eq : s.wakeSweeps = { s with regs := s.wakeSweeps.regs, cnv := s.wakeSweeps.cnv } :=
  (SweepOnly.wakeSweeps s).1

/-- A bit put into a mask is read back. -/
theorem natBit_putBit_self (m i : Nat) (b : Bool) : natBit (putBit m i b) i = b := by
  have h2 : 0 < 2 ^ i := Nat.two_pow_pos i
  unfold putBit
  split <;> rename_i h <;> cases b <;> simp only [natBit, Bool.false_eq_true, if_true, if_false, beq_iff_eq,
    beq_eq_false_iff_ne, ne_eq] at h ⊢
  · have : 2 ^ i ≤ m := by
      apply Nat.le_of_not_lt; intro hl; rw [Nat.div_eq_of_lt hl] at h; omega
    have e : (m - 2 ^ i) / 2 ^ i = m / 2 ^ i - 1 := by
      have := Nat.sub_mul_div m (2 ^ i) 1; rwa [Nat.mul_one] at this
    omega
  · exact h
  · exact h
  · rw [Nat.add_div_right _ h2]; omega

end Sys2Proof.Machine
end

