-- ==== Sys2Proof/Laws/RingControl.lean ====
section
/-!
SUPPORT. What a reset of the host interface leaves: the registers of HIF, and all others.
-/
namespace Sys2Proof.Machine

theorem State.reg_hifReset_in (s : State) (lost : Bool) {o : Nat} (h : hifOffset o = true) (h' : o ≠ R.HIF_STAT) :
    (s.hifReset lost).reg o = regReset o := by
  unfold State.hifReset
  dsimp only
  show (State.setFlag _ _ _).reg o = _
  rw [State.reg_setFlag_ne _ _ h']
  show SMap.get regReset _ o = _
  rw [SMap.get_filter, if_pos h]

theorem State.reg_hifReset_out (s : State) (lost : Bool) {o : Nat} (h : hifOffset o = false) :
    (s.hifReset lost).reg o = s.reg o := by
  have h' : o ≠ R.HIF_STAT := by rintro rfl; cases h
  unfold State.hifReset
  dsimp only
  show (State.setFlag _ _ _).reg o = _
  rw [State.reg_setFlag_ne _ _ h']
  show SMap.get regReset _ o = _
  rw [SMap.get_filter, if_neg (by rw [h]; simp)]
  rfl

theorem State.flag_hifReset_lost (s : State) (lost : Bool) : (s.hifReset lost).flag F.HIF_STAT.LINK_LOST = lost := by
  unfold State.hifReset
  dsimp only
  show (State.setFlag _ _ _).flag _ = _
  rw [State.flag_setFlag_self _ _ _ (by simp [Fld.fits]) rfl]

end Sys2Proof.Machine
end

