-- ==== Sys2Proof/Tests/Slice0.lean ====
section
/-!
SUPPORT. Tests: the ill-formed commands that Instr.wf refuses, the worked examples of the spec, and for every statement with
hypotheses a state and operands that meet them all.
-/
namespace Sys2Proof.Tests
open Sys2Proof Sys2Proof.Machine
set_option Elab.async false
set_option linter.unusedVariables false

/-- Each check of Instr.wf refuses a command that fails it. -/
def illFormed : List Instr := [
  .hbmBootTrainingDone (2 ^ 64),
  .registerWrite 0 2 4 0,
  .registerWrite 0 0x1000000 4 0,
  .registerWrite 0 0 3 0,
  .wideValueRead 0 4 8,
  .monitorWindowEnd [],
  .gaugeBlockEnd 0 (List.replicate 4097 ⟨0, 0⟩),
  .fallbackBlockEnd 0 (List.replicate 4097 ⟨0, 0⟩),
  .gaugeWindowEnd 0 [0, 0],
  .cnvRetire 104,
  .cnvReadmit 127,
  .fgTrimSearchDone 0 [(108, 0)],
  .fgRelease 0 [⟨108, [0, 0, 0, 0, 0]⟩],
  .fgRelease 0 [⟨0, [0]⟩],
  .detectorFiring 0 [[0, 0, 0]],
  .panSelftestComplete 0 [],
  .loadOffsetRetrain [],
  .hbmEccCorrected captureLines 0 0 0,
  .hbmEccUncorrectable captureLines 0 0 0,
  .bar4Read 2 1,
  .bar4Read 0 0,
  .bar4Write 0 [],
  .descriptorFetch 0 false [],
  .rollFrameRx [],
  .trigFrameRx [0],
  .leaveFrameRx [],
  .pairBlockRx [],
  .lineMsgRx (2 ^ 256) false,
  .samplesMsgRx 0 [] [],
  .stimPoisonLine captureLines,
  .patPoisonLine captureLines,
  .commitWriteDone [(0x40000, 0)],
  .pushWriteDone [(0x40000, 0)],
  .fwUpdateWriteDone [(0x100000, 0)],
  .linePacked 0 true [[], [], [], [], []],
  .linePacked 0 false [[[0]]]]
theorem test_wf_refuses : illFormed.all (fun c => !c.wf) = true := by decide +kernel
theorem test_wf_admits : [Instr.registerWrite 0 8 8 0, .cnvRetire 103, .bar4Read 4 1, .descriptorFetch 3 true [],
  .gaugeWindowEnd 0 [0, 0, 0, 0, 0]].all Instr.wf = true := by decide +kernel

/-- No word of the table spells a command (log entry 1). -/
theorem test_decode : decodeTableWord 32 0xFFFFFFFF = none := by decide +kernel

/-- The state from which most of the witnesses are built: reset. -/
def w0 : State := {}
/-- The banks and the stacks have started. -/
def wUp : State := w0.setFld F.CFG_STAT.STEP 6
/-- The stacks are active. -/
def wMem : State := wUp.setFlag F.MEM_STAT.ACTIVE true
/-- SAMPLE runs and the index counts. -/
def wRun : State := wUp.setFlag F.TIME_STAT.IDX_FROZEN false
/-- Context 0 is armed by ACQ_STREAM with TRIG_EN and captures input 0. -/
def wArmed : State :=
  (({ wRun with acq := { ctxs := [(0, { phase := .armed, streaming := true, dw := [0, 0, 0x20000] })] } }).setFlag
    (F.ACQ_AC_STAT.ARMED 0) true).setFld (F.ACQ_AC_STAT.INPUTS 0) 1
/-- A descriptor that a ring has fetched and that has not started. -/
def descAt (r : Nat) (dw : List Word) : Desc := ⟨r, 0, dw, false, none⟩
/-- A state with such a descriptor. -/
def withD (s : State) (r : Nat) (dw : List Word) : State := { s with hif := { s.hif with descs := [descAt r dw] } }

/-- A stimulus sequence, a pattern run and a join request. -/
def stim0 : StimRun := { seq := 0, ring := 5, part := 0, start := 0, line := 0 }
def pat0 : PatRun := { seq := 0, ring := 5, part := 0, first := 0, count := 1, loops := 1, start := 0, line := 0, scount := 0 }
def joinReq0 : JoinReq := ⟨false, false, 0, 0, 0, 0, 0, 0, 0⟩
/-- SAMPLE, STIM and the stacks run, out of bypass. -/
def wLive : State :=
  { (wRun.setFlag F.MEM_STAT.ACTIVE true).setFlag F.CLK_STAT.BYPASS false with clk := { stimOn := true } }
/-- A valid partition of `len` units of 2,048 lines. -/
def part (s : State) (k ty base len : Nat) : State :=
  ((s.setReg (R.MEM_PT_CFG k) (0x80000000#32 ||| BitVec.ofNat 32 ty)).setFld (F.MEM_PT_BASE.BASE k) base).setFld
    (F.MEM_PT_LEN.LEN k) len
/-- Context 0 is enabled and may be armed: a detector is named, the references are ready, partitions 0 to 3 serve. -/
def wArm : State :=
  ((((part (part (part (part wLive 0 0 0 1) 1 2 1 1) 2 1 2 1) 3 3 3 1).setFlag (F.ACQ_AC_CTL.EN 0) true).setReg
    (R.TRG_AC_STG_ADV 0 0) 1).setFld F.INP_REF_STAT.READY 15)
/-- The module leads a twin of the paired form. -/
def wLead : State := wLive.setFld F.PAIR_STAT.ROLE 1
/-- A table of one entry and a partition for it; a valid timing set and a partition for a pattern. -/
def wStim : State :=
  ((((part wLive 0 4 0 1).setFld F.STM_SEQ_LEN.V 1).setReg (R.STM_SEQ 0 0) 0x80000000).setReg (R.STM_SEQ 0 1) 512).setFlag
    (F.CLK_SYN_STAT.LOCKED 3) true
def wPat : State :=
  ((part wLive 0 5 0 1).setReg R.PAT_TSVALID 1).setFlag (F.CLK_SYN_STAT.LOCKED 3) true
/-- The smallest configuration image and firmware image, with their check words. -/
def image0 : List Byte :=
  let b := [0x534C4153#32, 1, 68, 1].flatMap wordBytes ++ List.replicate 48 0
  b ++ wordBytes (crc32c b)
def firmware0 : List Byte :=
  let b := [0x57464153#32, 1, 36, 1].flatMap wordBytes ++ List.replicate 16 0
  b ++ wordBytes (crc32c b)
/-- A seated module with partner entry 3 for identity 0, and a frame of each type. -/
def wPeer : State :=
  ((wUp.setFld F.PEER_STAT.STATE 2).setFlag F.PEER_CTL.EN true).setReg (R.PARTNER 3 0) 0x80000000
def frame0 (type : Nat) : List Byte := frameBytes type 3 4 (List.replicate 16 0)


/-- The state after a command. -/
def ran (c : Instr) (s : State) : State :=
  match exec c s with
  | .next t => t
  | _ => w0

/-! One test per worked example of the spec: the expected value of each stands in the example its comment names. -/

-- Ch. 23, worked example: the offsets that follow from the index.
theorem test_offsets : [R.TRG_AC_STG_ADV 2 2, R.TRG_AC_STG_CTL 2 2, R.TRG_AC_STG_DMAX 2 2, R.CNV_FAULT_IDX_LO 5,
    (F.CORR_3.RAMPING 1 60).off - 12, R.TRG_LAUNCH_DLY 3] =
    [0xE0A60, 0xE0A68, 0xE0A70, 0x801B0, 0x830BC0, 0xE0C4C] := by decide +kernel

-- Ch. 23: TRG_AC2_STG3_CTL and _DMAX before the writes; 0x000E_0C50 is listed nowhere.
theorem test_index_resets : [w0.reg 0xE0A68, w0.reg 0xE0A70, w0.reg 0xE0C50] = [1, 0xFFFFFFFF, 0] := by decide +kernel

-- Ch. 23: the write of TRG_AC2_STG3_ADV through REGISTER_WRITE, with AC2 idle.
theorem test_register_write :
    (ran (.registerWrite 0 0xE0A60 4 0x20) wUp).reg 0xE0A60 = 0x20 := by decide +kernel

-- Ch. 14: MEM_XLATE_OUT of three lines under the reset masks.
theorem test_xlate : [w0.xlate 0x12345678, w0.xlate 0x123456B8, w0.xlate 0x12345E78] =
    [0x2468C90C, 0x2468D10C, 0x2468C98D] := by decide +kernel

-- Ch. 04: three edges of the PPS servo.
theorem test_servo : ([3300, 3094, 2901].foldl (fun (a : List (Int × Int) × State) e =>
      let t := a.2.servo e
      (a.1 ++ [(t.time.servoF, t.sfld F.TIME_RATE_ADJ.V)], t)) ([], wUp)).1 =
    [(-206, -3506), (-399, -3493), (-580, -3481)] := by decide +kernel

-- Ch. 04: the increment of one core cycle at the nominal rate.
theorem test_increment : tideInc 0 110 0 = 13415813872 := by decide +kernel

-- Ch. 03: 10.0 GHz lies in entry 11 of the band table of SYN_A.
theorem test_band_entry : bandEntry 0 (100 * 2 ^ 32) = 11 := by decide +kernel

-- Ch. 06: taps, u, y and two points of a ramp of slice P20.
theorem test_taps : corrTaps 800 250 (samplePeriod 110 0 0 192) = [0, 14, -129, 642, 65548, -656, 130, -14] := by
  decide +kernel
theorem test_correction : corrU 132710 3146 500 = 126414 ∧
    corrOutput 500 126414 [0, 14, -129, 642, 65548, -656, 130, -14]
      ((List.range 8).map (fun k => some (126414 + 640 * ((k : Int) - 4)))) = 7900 := by decide +kernel
theorem test_ramp : rampValue 132710 132697 1024 = 132707 ∧ rampValue 3146 3170 1024 = 3152 := by decide +kernel

-- Ch. 07: halfway through a raised-cosine fade each coefficient lies halfway between the banks.
theorem test_fade : fadeWeight 1 2048 4096 = 32768 := by decide +kernel

-- Ch. 08: two crossing instants of LO = 6,554, in 1/16 sample past the base index.
theorem test_crossings : crossInstant 2 6554 5000 9000 = 16 + 6 ∧ crossInstant 7 6554 8000 4000 = 96 + 5 := by decide +kernel

-- Ch. 09: instants of the completions at 5,030, 5,947 and 7,712, and the log entries 0 and 2.
theorem test_instants : [crossTrigger 5030 0 (-2000) 6000, crossTrigger 5947 0 (-3000) 1000, crossTrigger 7712 0 (-500) 1500] =
    [(5029, 256), (5946, 768), (7711, 256)] := by decide +kernel
theorem test_log_entries : (Completion.entry ⟨0, 5030, 5029, 256, 8, false⟩ .accepted 0,
      Completion.entry ⟨0, 7712, 7711, 256, 8, false⟩ .held 0) =
    ([0x13A5, 0, 0x40000008, 0], [0x1E1F, 0, 0x40200008, 0]) := by decide +kernel

-- Ch. 11: SL of 4,000 + 12,000 samples, the remainder slot, and f_0 of A = 960,000,000.
theorem test_slots : (Ctx.slotLines { dw := [0, 0, 0x11, 0x02100000, 4000, 12000, 1000] },
    rawSlot 763904 763 1001 1001, firstLine 960000000) = (763, 141, 960000006) := by decide +kernel

-- Ch. 12: the STEP record of tick 25.
theorem test_sluice_record : sluiceRecord 0 604500096 0 1 0 13750004 = [0x2407F080, 0, 0x00300100, 0x00D1CEF4] := by
  decide +kernel

-- Ch. 13: point 3,000, row 143 of gang B lies in PAN6, bank 24, cell 3,983.
theorem test_pan_place : cellPlace { code := 2, dw := [0x1224, 0xFFFFFC18, 10000, 1, 0x1000, 0x0806E000], bufs := [(0, { dw := [0x1224, 0xFFFFFC18, 10000, 1, 0x1000, 0x0806E000] })] } false 4 6 24 3983 =
    (0, 3000 * 256 + 143) := by decide +kernel

-- Ch. 20: the PP16 word of TS0 is ordered, and drives high from 250 ps to 750 ps; TS0 is legal at 16.0 GS/s.
theorem test_pin_edges : pinOrdered 0x10602000 = true ∧ pinEdges 0x10602000 1 = [32, 96] := by decide +kernel

-- Ch. 22: the age weights of 95 and 75 degrees.
theorem test_age : (ageWeight 95, ageWeight 75) = (92682, 23170) := by decide +kernel

-- Ch. 04: T(c) of the reported core cycle plus 128 of its 192 samples, truncated to 2^-40 s, is fraction 0x00_1000_0215.
theorem test_strobe_time : ({ wRun.setInc with time := { tide := (0x6B49D205 * 2 ^ 40 + 0x10000000) * 2 ^ 24, idx := 39999999936 } }).tideOf
    40000000064 = 0x6B49D205 * 2 ^ 40 + 0x10000215 := by decide +kernel

-- Ch. 05: the registers of B3 after the repair of P45.
def bank3 : State :=
  (((wRun.setReg (R.CNV_MAP_LO 3) 0x7653210C).setReg (R.CNV_MAP_HI 3) 0x1104BA98).setFlag F.INP_MODE_STAT.CAL_SETTLED true).setBank 3
    { target := 5, epochAt := some 1000, maps := [⟨1000, 17, [12, 0, 1, 2, 3, 5, 6, 7, 8, 9, 10, 11]⟩] }
def at504160 (s : State) : State := { s with time := { s.time with cycle := 504160, frames := 1008320, idx := 192 * 504160 } }
def repaired : State :=
  ran (.epochOpen 3 false) (at504160 ((bank3.makeSuspect 45 false 131 96006195 1004159).declareFault 45 1008255 false))
theorem test_repair : [0x80160, 0x80164, 0x8016C, 0x80170, 0x80174, 0x80178, 0x8017C].map repaired.reg =
    [0x7453210C, 0x120FBA98, 0x000A0040, 0x05B8F033, 0, 0x05C50833, 0] := by decide +kernel

-- Ch. 08: the runt on IN1, qualified by the level of XT0, fires at index 1,000,000,007.
def runtState : State :=
  let s := ({ wRun with inp := { wRun.inp with route := 2 }, time := { wRun.time with idx := 999999984 + 48 * 53 } }).setFld F.INP_MODE_STAT.ACTIVE_MODE 2
  let s1 := (s.setFlag (F.TRG_XLEVEL.LEVEL.bit 0) true).setDet 1 { cfg := [0x86080000, 0, 0x100, 0, 0xFFFFFFFF, 0, 0, 0] }
  s1.setDet 0 { cfg := [0xC2010301, 0x6666199A, 0x28F, 0x16, 0xD3, 0, 0, 0] }
def runtWords : List (List (BitVec 16)) :=
  (List.replicate 16 0 ++ [2000, 5000, 9000, 15000, 18000, 14000, 8000, 4000] ++ List.replicate 24 0).map (fun x => [0, x, 0, 0])
theorem test_runt : (let t := ran (.detectorFiring 999999984 runtWords) runtState
    (t.reg (R.TRG_TD_COUNT 0), t.reg (R.TRG_TD_LAST_IDX_LO 0), t.trg.fires.map (fun f => (f.det, f.idx)))) =
    (1, 0x3B9ACA07, [(0, 1000000007), (1, 0)].take 1) := by decide +kernel

-- Ch. 11: the bounds of segments 0 and 1, and START of segment 1.
def segState (k f : Nat) : State :=
  let s := (((part wRun 0 0 0 373).setReg (R.ACQ_AC_SLOT 0) 763).setReg (R.ACQ_AC_NSLOT 0) 1001)
  s.setCtx 0 { phase := .armed, dw := [0x00200001, 0, 0x11, 0x02100000, 4000, 12000, 1000], opened := k, f := f }
theorem test_segments : (segState 0 960000006).segBounds 0 960001000 = (960000006, 960012999, false) ∧
    (segState 1 960013005).segBounds 0 960020000 = (960016000, 960031999, false) ∧
    (segState 1 960013005).rawLineOf 0 1 960013005 960016000 = 905 := by decide +kernel

-- Ch. 17: dwords 0 and 3 to 6 of the receive-ring entry of A's trigger, from the sender's entry 1.
theorem test_receive_entry : (let e := wUp.brxEntry (some 1) (TrigFrame.payload ⟨0x10004000000000, 300, 0, 0, 17⟩)
    (dwAt e 0, (e.drop 3).take 4)) = (0x012C0001, [0, 0x00100040, 0, 17]) := by decide +kernel

-- Ch. 18: D_L is 66 core cycles at the nominal rate and 24 at 1.00 GS/s (40 × 100 MHz over 4).
theorem test_pair_delay : (wUp.dL, ({ wUp with clk := { fcwInt := 80, div := 3 } }).dL) = (66, 24) := by decide +kernel

-- Ch. 09: kinds, counters and the four log entries of the worked example.
def seqState : State :=
  let s := { (part (part wRun 0 0 0 1) 2 3 2 1).setFlag (F.ACQ_AC_STAT.ARMED 0) true with
    acq := { ctxs := [(0, { phase := .armed, dw := [0x00200001, 0, 0x11, 0x02100000, 0, 2000, 4], f := 21, parts := [0, 1, 2] })] } }
  let s1 := ((s.setReg (R.ACQ_AC_SLOT 0) 97).setReg (R.ACQ_AC_NSLOT 0) 21).setReg (R.TRG_AC_SEQ 0) 0x00030011
  let s2 := ([(0xE0804, 0xBB8), (0xE0820, 4), (0xE0828, 1), (0xE0840, 8), (0xE0848, 0x40000001), (0xE084C, 0), (0xE0850, 0x40)] :
    List (Nat × Word)).foldl (fun t e => t.setReg e.1 e.2) s1
  { s2 with trg := { s2.trg with fires := [⟨2, 5000, 4999, 0⟩, ⟨3, 5000, 4999, 0⟩, ⟨3, 5030, 5029, 256⟩, ⟨2, 5900, 5899, 0⟩,
    ⟨3, 5947, 5946, 768⟩, ⟨2, 6100, 6099, 0⟩, ⟨3, 6200, 6199, 0⟩, ⟨2, 7700, 7699, 0⟩, ⟨3, 7712, 7711, 256⟩, ⟨2, 9000, 8999, 0⟩,
    ⟨3, 9010, 9009, 512⟩] } }
def seqEnd : State := [5000, 5030, 5900, 5947, 6100, 6165, 6200, 7700, 7712, 9000, 9010].foldl
  (fun t i => ran (.sequencerDecision 0 i) t) seqState
theorem test_sequence : ([R.TRG_AC_OVERLAP 0, R.TRG_AC_TIMEOUTS 0, R.TRG_AC_HELD 0, R.TRG_AC_COMPL 0].map seqEnd.reg,
    seqEnd.trg.log.map (·.dw)) = ([1, 1, 1, 4], [[0x13A5, 0, 0x40000008, 0], [0x173A, 0, 0xC0100008, 0],
      [0x1E1F, 0, 0x40200008, 0], [0x2331, 0, 0x80000008, 1]]) := by decide +kernel

-- Ch. 19: the two reactive bursts: the second event, on a decision sample, is taken one boundary later.
def burstState : State :=
  let s := ({ wLive with trg := { reacts := [⟨0, 0, 0, 0, 0⟩, ⟨0, 1, 1, 1, 0⟩] }, stm := { run := some { stim0 with frames := 1001472, loops := [(0, none)] } } }.setFld
    F.STM_STAT.STATE 3).setFld F.STM_SEQ_LEN.V 2
  (s.setFlag F.STM_STAT.DUAL true).setRegs (R.STM_SEQ 0 0) [0, 0x400, 0x00420000, 0x00010000, 0x80000080, 0x1000, 0x00010000, 0]
def bursts : List Instr := [.reactiveEventPresent 0 1000704, .stimDecisionSample, .stimSegmentBoundary 0, .stimDecisionSample,
  .stimSegmentBoundary 0, .reactiveEventPresent 0 1006208, .stimDecisionSample, .stimSegmentBoundary 0, .stimDecisionSample,
  .stimSegmentBoundary 0]
theorem test_bursts : ([1, 3, 5, 8, 10].map (fun n => let t := (bursts.take n).foldl (fun u c => ran c u) burstState
      (t.fld F.STM_ENTRY.V, t.reg64 R.STM_SCOUNT_LO, t.reg R.STM_REACT_TAKEN, t.reg R.STM_REACT_DROP))) =
    [(0, 0, 0, 0), (1, 1001472, 1, 0), (0, 1005568, 1, 0), (0, 1006592, 1, 0), (1, 1007616, 2, 0)] := by decide +kernel

-- Ch. 21, Table 21.10: start-up with an erased flash ends READY at step 6 with CFG_DEFAULTED, the controller halted.
def blankStart : State :=
  [Instr.startupFlashReadDone, .bandTrialEnd 0 [0], .bandTrialEnd 2 [0]].foldl (fun t c => ran c t) w0
/-- All but the last of the 1,024 good comparisons of SYN_A and SYN_M have passed. -/
def nearLock : State := [0, 2].foldl (fun t l => t.setLoop l { t.loop l with good := 1023 }) blankStart
def aligned : State :=
  [Instr.loopLocked 0 [0] 0 0, .loopLocked 2 [0] 0 0, .startupLockDone 100].foldl (fun t c => ran c t) nearLock
/-- 42 ms and some more after RST_N rose. -/
def started : State :=
  ran (.hbmBootTrainingDone 0) { aligned with time := { aligned.time with elapsed := 2 ^ 64 * 425 / 10000 } }
theorem test_start_up : (started.reg R.CFG_STAT, started.reg R.CFG_BOOT_MS) = (0x86010000, 42) := by decide +kernel

/-! For each statement with hypotheses, a state and operands that meet all of them together. -/

theorem test_witness_StepRunsFront_1 :
    ∃ (s : State) (c : Instr) (rest : List Instr),
      s.pending = c :: rest :=
  ⟨{ w0 with pending := [.inputOverrange 0] }, .inputOverrange 0, [], by decide +kernel⟩

theorem test_witness_StepRunsFront_2 :
    ∃ (s : State),
      s.pending = [] :=
  ⟨w0, by decide +kernel⟩

theorem test_witness_QueueInOrder_2 :
    ∃ (s : State) (n : Nat),
      n ≤ s.pending.length :=
  ⟨w0, 0, by decide +kernel⟩

theorem test_witness_PhaseRules_1 :
    ∃ (s : State) (c : Instr),
      s.phase ≠ .running ∧
      (c ≠ .rstNAssert ∧ ∀ b, c ≠ .rstNRise b) :=
  ⟨{ w0 with phase := .held }, .thermalShutdown, by decide +kernel, by decide +kernel⟩

theorem test_witness_PhaseRules_2 :
    ∃ (s t : State) (c : Instr),
      exec c s = .next t ∧
      (c ≠ .rstNAssert ∧ c ≠ .thermalShutdown ∧ ∀ b, c ≠ .rstNRise b) :=
  ⟨w0, _, .inputOverload 1, rfl, by simp, by simp, by simp⟩

theorem test_witness_PhaseRules_3 :
    ∃ (s t : State),
      (s.cfg.job = none ∧ t.cfg.job = none) ∧
      (s.cfg.flash = t.cfg.flash ∧ s.fresh = t.fresh ∧ s.pending = t.pending) ∧
      (s.hif.msix = t.hif.msix ∧ s.hif.writes = t.hif.writes ∧ s.hif.reads = t.hif.reads) :=
  ⟨w0, wArmed, by decide +kernel, by decide +kernel, by decide +kernel⟩

theorem test_witness_StoppedStaysSound_1 :
    ∃ (s t : State),
      s.sound ∧
      step s = .next t :=
  ⟨{ w0 with pending := [.rstNAssert] }, _, trivial, rfl⟩

theorem test_witness_InputsAndReferences_1 :
    ∃ (s : State) (n : Fin 4),
      s.runs = true ∧
      sampledIn s.inp.route n = true ∧
      s.flag (F.INP_STAT.OVR.bit n) = false :=
  ⟨wUp, 0, by decide +kernel, by decide +kernel, by decide +kernel⟩

theorem test_witness_InputsAndReferences_2 :
    ∃ (s : State) (n : Fin 4),
      s.runs = true ∧
      s.flag (F.INP_STAT.OVR.bit n) = true :=
  ⟨wUp.setFlag (F.INP_STAT.OVR.bit 2) true, 2, by decide +kernel, by decide +kernel⟩

theorem test_witness_InputsAndReferences_3 :
    ∃ (s : State) (n : Fin 4),
      s.runs = true :=
  ⟨wUp, 2, by decide +kernel⟩

theorem test_witness_InputsAndReferences_4 :
    ∃ (s : State) (n : Fin 4) (v : Word),
      s.runs = true ∧
      s.captured n = false :=
  ⟨wUp, 1, 5, by decide +kernel, by decide +kernel⟩

theorem test_witness_InputsAndReferences_5 :
    ∃ (s : State) (n : Fin 4) (v : Word),
      s.runs = true ∧
      s.captured n = true :=
  ⟨wArmed, 0, 5, by decide +kernel, by decide +kernel⟩

theorem test_witness_InputsAndReferences_6 :
    ∃ (s : State) (n : Fin 4),
      s.runs = true :=
  ⟨wUp, 3, by decide +kernel⟩

theorem test_witness_InputsAndReferences_7 :
    ∃ (s : State) (v : Word),
      s.runs = true :=
  ⟨wUp, 5, by decide +kernel⟩

theorem test_witness_InputsAndReferences_8 :
    ∃ (s : State) (v : Word) (k : Fin 4),
      s.flag (F.INP_REF_CTL.EN.bit k) = false ∧
      getBits v k 1 = 1 :=
  ⟨wUp, 2, 1, by decide +kernel, by decide +kernel⟩

theorem test_witness_InputsAndReferences_9 :
    ∃ (s : State) (v : Word) (k : Fin 4),
      s.flag (F.INP_REF_CTL.EN.bit k) = true ∧
      getBits v k 1 = 0 ∧
      (List.range 4).any (fun n => s.captured n && refServes s.inp.route k n) = true :=
  ⟨wArmed.setFlag (F.INP_REF_CTL.EN.bit 0) true, 0, 0, by decide +kernel, by decide +kernel, by decide +kernel⟩

theorem test_witness_InputsAndReferences_10 :
    ∃ (s : State) (v : Word) (k : Fin 4),
      s.flag (F.INP_REF_CTL.EN.bit k) = true ∧
      getBits v k 1 = 0 ∧
      (List.range 4).any (fun n => s.captured n && refServes s.inp.route k n) = false :=
  ⟨wUp.setFlag (F.INP_REF_CTL.EN.bit 1) true, 0, 1, by decide +kernel, by decide +kernel, by decide +kernel⟩

theorem test_witness_InputsAndReferences_11 :
    ∃ (s : State) (v : Word),
      s.runs = true :=
  ⟨wUp, 9, by decide +kernel⟩

theorem test_witness_InputsAndReferences_12 :
    ∃ (s : State) (k : Fin 4) (x : Int),
      s.runs = true ∧
      natBit s.inp.settling k = true :=
  ⟨{ wUp with inp := { settling := 2 } }, 1, 0, by decide +kernel, by decide +kernel⟩

theorem test_witness_InputsAndReferences_13 :
    ∃ (s : State) (k : Fin 4) (x : Int),
      s.runs = true ∧
      (s.flag (F.INP_REF_STAT.READY.bit k) = true ∧ s.refInBand k x = false) :=
  ⟨wUp.setFlag (F.INP_REF_STAT.READY.bit 1) true, 1, 60, by decide +kernel, by decide +kernel⟩

theorem test_witness_InputsAndReferences_14 :
    ∃ (s : State) (k : Fin 4) (x : Int),
      s.runs = true ∧
      s.flag (F.INP_REF_CTL.EN.bit k) = true ∧
      (natBit s.inp.settling k = false ∧ s.refInBand k x = true) :=
  ⟨wUp.setFlag (F.INP_REF_CTL.EN.bit 1) true, 1, 20, by decide +kernel, by decide +kernel, by decide +kernel⟩

theorem test_witness_MonitorOutputs_1 :
    ∃ (s : State) (a b c d : MonWindow),
      s.runs = true :=
  ⟨wUp, ⟨[3], false⟩, ⟨[3], false⟩, ⟨[3], false⟩, ⟨[3], false⟩, by decide +kernel⟩

theorem test_witness_MonitorOutputs_3 :
    ∃ (s : State) (n : Fin 4) (w : MonWindow),
      windowCodes w ≠ [] :=
  ⟨wUp, 0, ⟨[3], false⟩, by decide +kernel⟩

theorem test_witness_ModeChange_1 :
    ∃ (s : State) (v : Word),
      s.runs = true ∧
      (s.anyArmed = false ∧ s.flag F.INP_MODE_STAT.CHANGING = false ∧ s.fld F.CAL_STAT.FG_ACTIVE = 0 ∧ getBits v 0 2 ≠ 3) :=
  ⟨w0, 1, by decide +kernel, by decide +kernel⟩

theorem test_witness_ModeChange_2 :
    ∃ (s : State) (v : Word),
      s.runs = true ∧
      (s.anyArmed = true ∨ s.flag F.INP_MODE_STAT.CHANGING = true ∨ s.fld F.CAL_STAT.FG_ACTIVE ≠ 0 ∨ getBits v 0 2 = 3) :=
  ⟨w0, 3, by decide +kernel, by decide +kernel⟩

theorem test_witness_ModeChange_3 :
    ∃ (s : State),
      s.runs = true ∧
      s.flag F.INP_MODE_STAT.CHANGING = true ∧
      s.inp.routed = false ∧
      s.frozen = false :=
  ⟨(wRun.setFlag F.INP_MODE_STAT.CHANGING true), by decide +kernel, by decide +kernel, by decide +kernel, by decide +kernel⟩

theorem test_witness_ModeChange_4 :
    ∃ (s : State),
      s.runs = true :=
  ⟨w0, by decide +kernel⟩

theorem test_witness_ModeChange_5 :
    ∃ (s : State),
      s.runs = true ∧
      s.flag F.INP_MODE_STAT.CHANGING = true ∧
      s.inp.routed = true ∧
      s.frozen = false :=
  ⟨({ wRun.setFlag F.INP_MODE_STAT.CHANGING true with inp := { routed := true } }), by decide +kernel, by decide +kernel, by decide +kernel, by decide +kernel⟩

theorem test_witness_FixedCrossings_1 :
    ∃ (s : State) (x : Fin 12) (u : State),
      s.runs = true ∧
      (s.setFlag ⟨R.GLB_XSTAT, x, 1⟩ true).raisePF 12 x = u :=
  ⟨w0, 8, _, by decide +kernel, rfl⟩

theorem test_witness_FixedCrossings_2 :
    ∃ (s : State) (b : Fin 8),
      s.runs = true ∧
      s.bankInUse b = false :=
  ⟨w0, 3, by decide +kernel, by decide +kernel⟩

theorem test_witness_FixedCrossings_3 :
    ∃ (s : State) (b : Fin 8),
      s.runs = true ∧
      s.bankInUse b = true :=
  ⟨wArmed, 0, by decide +kernel, by decide +kernel⟩

theorem test_witness_FixedCrossings_4 :
    ∃ (s : State),
      s.runs = true ∧
      s.inp.x2Slipped = true :=
  ⟨{ inp := { x2Slipped := true } }, by decide +kernel, by decide +kernel⟩

theorem test_witness_FixedCrossings_5 :
    ∃ (s : State),
      s.runs = true :=
  ⟨w0, by decide +kernel⟩

theorem test_witness_FixedCrossings_6 :
    ∃ (s : State),
      s.runs = true ∧
      s.stimState = 0 :=
  ⟨w0, by decide +kernel, by decide +kernel⟩

theorem test_witness_PpsEdge_1 :
    ∃ (s : State) (ago edge : Nat) (u : State),
      s.runs = true ∧
      (s.isFollower = false ∧ s.flag F.TIME_CTL.PPS_EN = true ∧ s.time.x6sSlipped = false) ∧
      s.edgeDropped ago = false ∧
      (((s.now : Int) - (ago : Int)) % (2 ^ 80 : Nat)).toNat = edge ∧
      s.setFld F.TIME_PPS_ERR.V (pattern 32 (clampInt (-(2 ^ 31 : Nat)) ((2 ^ 31 : Nat) - 1) (s.ppsError edge))) = u :=
  ⟨w0.setFlag F.TIME_CTL.PPS_EN true, 0, 0, _, by decide +kernel, by decide +kernel, by decide +kernel, by decide +kernel, rfl⟩

theorem test_witness_PpsEdge_2 :
    ∃ (s : State) (ago : Nat),
      s.runs = true ∧
      (s.isFollower = true ∨ s.flag F.TIME_CTL.PPS_EN = false ∨ s.time.x6sSlipped = true ∨ s.edgeDropped ago = true) :=
  ⟨w0, 5, by decide +kernel, by decide +kernel⟩

theorem test_witness_PpsEdge_3 :
    ∃ (s : State) (ago : Nat) (g : OldGrid),
      s.time.oldGrid = some g :=
  ⟨{ w0 with time := { oldGrid := some ⟨0, 0, 0, true⟩ } }, 3, _, rfl⟩

theorem test_witness_PpsEdge_4 :
    ∃ (s : State),
      s.runs = true ∧
      (s.isFollower = true ∨ s.flag F.TIME_CTL.PPS_EN = false ∨ s.time.stepped = false) :=
  ⟨w0, by decide +kernel, by decide +kernel⟩

theorem test_witness_PpsEdge_5 :
    ∃ (s : State) (u : State),
      s.runs = true ∧
      (s.isFollower = false ∧ s.flag F.TIME_CTL.PPS_EN = true ∧ s.time.stepped = true) ∧
      { s with time := { s.time with goodEdges := 0, expected := (s.time.expected + 2 ^ 40) % 2 ^ 80 } } = u :=
  ⟨{ w0.setFlag F.TIME_CTL.PPS_EN true with time := { stepped := true } }, _, by decide +kernel, by decide +kernel, rfl⟩

theorem test_witness_ServoAtAnEdge_1 :
    ∃ (s : State) (e f : Int),
      s.isLeader = false ∧
      signed 32 (pattern 32 (s.time.servoF - ashr e 4)) = f :=
  ⟨w0, 0, 0, by decide +kernel, by decide +kernel⟩

theorem test_witness_TimeControl_1 :
    ∃ (s : State) (v : Word) (u : State),
      s.runs = true ∧
      (s.setFld F.TIME_CTL.PPS_EN (getBits v 0 1)).setFld F.TIME_CTL.SERVO_HOLD (getBits v 1 1) = u :=
  ⟨w0, 1, _, by decide +kernel, rfl⟩

theorem test_witness_TimeControl_2 :
    ∃ (s : State),
      s.runs = true ∧
      s.flag F.TIME_SYNC_CTL.EN = true :=
  ⟨w0.setFlag F.TIME_SYNC_CTL.EN true, by decide +kernel, by decide +kernel⟩

theorem test_witness_TimeControl_3 :
    ∃ (s : State),
      s.runs = true ∧
      s.flag F.TIME_SYNC_CTL.EN = false :=
  ⟨w0, by decide +kernel, by decide +kernel⟩

theorem test_witness_TimeControl_4 :
    ∃ (s : State) (v : Word),
      s.runs = true :=
  ⟨w0, 0x80000000#32, by decide +kernel⟩

theorem test_witness_TimeControl_5_0 :
    ∃ (s : State) (x : SyncWait) (rest : List SyncWait) (gap : Nat) (p : BitVec 64) (u : State),
      s.runs = true ∧
      s.time.syncs = x :: rest ∧
      s.passed x.start (nanos (40 + 10 * s.fld F.TIME_SYNC_CTL.DELAY)) = true ∧
      { s with time := { s.time with syncs := rest } } = u ∧
      x.soft = false ∧
      s.flag F.TIME_SYNC_CTL.EN = false :=
  ⟨{ w0 with time := { syncs := [⟨false, false, 0⟩], elapsed := 2 ^ 64 } }, ⟨false, false, 0⟩, [], 0, 0, _, by decide +kernel, by decide +kernel, by decide +kernel, rfl, by decide +kernel, by decide +kernel⟩

theorem test_witness_TimeControl_5_1 :
    ∃ (s : State) (x : SyncWait) (rest : List SyncWait) (gap : Nat) (p : BitVec 64) (u : State),
      s.runs = true ∧
      s.time.syncs = x :: rest ∧
      s.passed x.start (nanos (40 + 10 * s.fld F.TIME_SYNC_CTL.DELAY)) = true ∧
      { s with time := { s.time with syncs := rest } } = u ∧
      ((x.soft = true ∨ s.flag F.TIME_SYNC_CTL.EN = true)) ∧
      s.syncCause x ≠ 0 :=
  ⟨{ w0 with time := { syncs := [⟨true, false, 0⟩], elapsed := 2 ^ 64 } }, ⟨true, false, 0⟩, [], 0, 0, _, by decide +kernel, by decide +kernel, by decide +kernel, rfl, Or.inl rfl, by decide +kernel⟩

theorem test_witness_TimeControl_5_2 :
    ∃ (s : State) (x : SyncWait) (rest : List SyncWait) (gap : Nat) (p : BitVec 64) (u : State),
      s.runs = true ∧
      s.time.syncs = x :: rest ∧
      s.passed x.start (nanos (40 + 10 * s.fld F.TIME_SYNC_CTL.DELAY)) = true ∧
      { s with time := { s.time with syncs := rest } } = u ∧
      ((x.soft = true ∨ s.flag F.TIME_SYNC_CTL.EN = true)) ∧
      s.syncCause x = 0 :=
  ⟨{ w0.setFlag F.CLK_STAT.BYPASS false with time := { syncs := [⟨true, false, 0⟩], elapsed := 2 ^ 64 } }, ⟨true, false, 0⟩, [], 0, 0, _, by decide +kernel, by decide +kernel, by decide +kernel, rfl, Or.inl rfl, by decide +kernel⟩

theorem test_witness_TimeControl_6 :
    ∃ (s : State) (gap : Nat) (p : BitVec 64),
      s.runs = true ∧
      s.syncDue = false :=
  ⟨w0, 0, 0, by decide +kernel, by decide +kernel⟩

theorem test_witness_TimeControl_7 :
    ∃ (s : State),
      (s.anyArmed = true ∨ s.joined = true) :=
  ⟨wArmed, by decide +kernel⟩

theorem test_witness_LockAttempts_1 :
    ∃ (s u : State) (l : Fin 4) (errs : List Int) (b : Nat) (r : List Nat),
      s.runs = true ∧
      (s.searching l = true ∧ s.clk.refLost = false) ∧
      s.loopRun l errs = u ∧
      (u.loop l).trials = b :: r :=
  ⟨w0.startLock 0, _, 0, [], _, _, by decide +kernel, by decide +kernel, rfl, rfl⟩

theorem test_witness_LockAttempts_2 :
    ∃ (s : State) (l : Fin 4),
      s.runs = true ∧
      ((s.loop l).retry = true ∧ s.clk.refLost = false) :=
  ⟨w0.setLoop 1 { retry := true }, 1, by decide +kernel, by decide +kernel⟩

theorem test_witness_LockAttempts_4 :
    ∃ (s u : State) (l : Fin 4) (errs : List Int) (ppm : Int) (gap : Nat),
      s.runs = true ∧
      (s.searching l = true ∧ s.clk.refLost = false) ∧
      ((s.loopRun l errs).freqRead l (some ppm)).setFlag (F.CLK_SYN_STAT.FREQ_OK l) (Nat.ble ppm.natAbs 200) = u :=
  ⟨w0.startLock 0, _, 0, [], 3, 0, by decide +kernel, by decide +kernel, rfl⟩

theorem test_witness_LockAttempts_5 :
    ∃ (u v : State) (l : Fin 4) (gap band : Nat),
      ((u.loop l).fit = some band ∧ u.searching l = true) ∧
      (u.flag (F.CLK_SYN_STAT.PH_OK l) = true ∧ u.flag (F.CLK_SYN_STAT.FREQ_OK l) = true) ∧
      u.lockedNow l band = v ∧
      v.flag (F.CLK_SYN_STAT.HOLDOVER l) = false :=
  ⟨((w0.startLock 0).setLoop 0 { fit := some 5 }).setFlag (F.CLK_SYN_STAT.PH_OK 0) true |>.setFlag (F.CLK_SYN_STAT.FREQ_OK 0) true, _, 0, 0, 5, by decide +kernel, by decide +kernel, rfl, by decide +kernel⟩

theorem test_witness_LockAttempts_6 :
    ∃ (u : State) (l : Fin 4) (gap : Nat),
      ((u.loop l).fit = none ∨ u.searching l = false ∨ u.flag (F.CLK_SYN_STAT.PH_OK l) = false ∨ u.flag (F.CLK_SYN_STAT.FREQ_OK l) = false) :=
  ⟨w0, 0, 0, by decide +kernel⟩

theorem test_witness_LoopTrips_1_2 :
    ∃ (s u : State) (l : Fin 4) (x : Trip) (gap k n cause : Nat),
      s.runs = true ∧
      (s.locked l = true ∧ s.clk.refLost = false) ∧
      (s.loopRun l x.errs).freqRead l x.ppm = u ∧
      (u.tripCause l x = cause ∧ cause ≠ 0) ∧
      (l = 0 ∨ l = 1) ∧
      (u.tripLoop l cause).flag F.CLK_STAT.BYPASS = false ∧
      (l : Nat) = u.activeLoop :=
  ⟨(w0.setFlag (F.CLK_SYN_STAT.LOCKED 0) true).setFlag F.CLK_STAT.BYPASS false, _, 0, ⟨some 0, [], none⟩, 0, 0, 0, 2, by decide +kernel, by decide +kernel, rfl, by decide +kernel, by decide +kernel, by decide +kernel, by decide +kernel⟩

theorem test_witness_LoopTrips_2 :
    ∃ (s u t : State) (l : Fin 4) (x y : Trip) (gap k n cause c : Nat),
      s.runs = true ∧
      (s.locked l = true ∧ s.clk.refLost = false) ∧
      (s.loopRun l x.errs).freqRead l x.ppm = u ∧
      (u.tripCause l x = cause ∧ cause ≠ 0 ∧ (l = 0 ∨ l = 1)) ∧
      ((u.tripLoop l cause).loopRun (1 - l) y.errs).freqRead (1 - l) y.ppm = t ∧
      (t.locked (1 - l) = true ∧ t.tripCause (1 - l) y = c ∧ c ≠ 0) ∧
      (t.tripLoop (1 - l) c).flag F.CLK_STAT.BYPASS = false :=
  ⟨((w0.setFlag (F.CLK_SYN_STAT.LOCKED 0) true).setFlag (F.CLK_SYN_STAT.LOCKED 1) true).setFlag F.CLK_STAT.BYPASS false, _, _, 0, ⟨some 0, [], none⟩, ⟨some 0, [], none⟩, 0, 0, 0, 2, 2, by decide +kernel, by decide +kernel, rfl, by decide +kernel, rfl, by decide +kernel, by decide +kernel⟩

theorem test_witness_LoopTrips_3 :
    ∃ (s u : State) (l : Fin 4) (x : Trip) (o : Option Trip) (gap k n : Nat),
      s.runs = true ∧
      (s.locked l = true ∧ s.clk.refLost = false) ∧
      (s.loopRun l x.errs).freqRead l x.ppm = u ∧
      u.tripCause l x = 0 :=
  ⟨w0.setFlag (F.CLK_SYN_STAT.LOCKED 0) true, _, 0, ⟨none, [], none⟩, none, 0, 0, 0, by decide +kernel, by decide +kernel, rfl, by decide +kernel⟩

theorem test_witness_LoopTrips_6 :
    ∃ (s : State) (diffs : List Int) (r : LoopSt × Bool),
      s.runs = true ∧
      (s.locked s.standbyLoop = true ∧ s.flag F.CLK_STAT.BYPASS = false ∧ s.clk.refLost = false) ∧
      diffs.foldl (trackStep (s.loopCtl s.standbyLoop).ki) (s.loop s.standbyLoop, s.flag (F.CLK_SYN_STAT.TRACKED s.standbyLoop)) = r :=
  ⟨(w0.setFlag (F.CLK_SYN_STAT.LOCKED 1) true).setFlag F.CLK_STAT.BYPASS false, [3], _, by decide +kernel, by decide +kernel, rfl⟩

theorem test_witness_LoopTrips_8 :
    ∃ (s : State),
      s.runs = true :=
  ⟨w0, by decide +kernel⟩

theorem test_witness_ClockCommands_1_0 :
    ∃ (s u : State) (v : Word) (c : Instr),
      (s.runs = true ∧ (c = .clkSwap v ∨ c = .clkMemReturn v)) ∧
      s.setFlag F.CLK_CTL.MEM_AUTO (getBits v 8 1 == 1) = u ∧
      getBits v 0 1 = 1 ∧
      u.anyArmed = false ∧
      u.flag F.CLK_STAT.STBY_READY = true :=
  ⟨w0.setFlag F.CLK_STAT.STBY_READY true, _, 1, .clkSwap 1, ⟨by decide +kernel, Or.inl rfl⟩, rfl, by decide +kernel, by decide +kernel, by decide +kernel⟩

theorem test_witness_ClockCommands_4 :
    ∃ (s : State),
      s.runs = true :=
  ⟨w0, by decide +kernel⟩

theorem test_witness_ClockCommands_5 :
    ∃ (s : State),
      s.runs = true :=
  ⟨{ clk := { memNext := some .synM } }, by decide +kernel⟩

theorem test_witness_ClockCommands_6 :
    ∃ (s : State) (v : Word) (gap : Nat),
      s.runs = true ∧
      (getBits v 0 1 = 1 ∧ s.anyArmed = false ∧ s.flag F.CLK_STAT.RATE_CHANGING = false) ∧
      (s.flag F.INP_MODE_STAT.CHANGING = false ∧ s.joined = false ∧ s.fld F.CAL_STAT.FG_ACTIVE = 0) :=
  ⟨w0, 1, 0, by decide +kernel, by decide +kernel, by decide +kernel⟩

theorem test_witness_ClockCommands_7 :
    ∃ (s : State) (v : Word) (gap : Nat),
      s.runs = true ∧
      (getBits v 0 1 = 0 ∨ s.anyArmed = true ∨ s.flag F.CLK_STAT.RATE_CHANGING = true ∨
    s.flag F.INP_MODE_STAT.CHANGING = true ∨ s.joined = true ∨ s.fld F.CAL_STAT.FG_ACTIVE ≠ 0) :=
  ⟨w0, 0, 0, by decide +kernel, Or.inl (by decide)⟩

theorem test_witness_ClockCommands_8 :
    ∃ (s : State) (v : Word),
      s.runs = true ∧
      (getBits v 0 1 = 1 ∧ s.stimState = 0) :=
  ⟨w0, 1, by decide +kernel, by decide +kernel⟩

theorem test_witness_ReferenceLoss_1 :
    ∃ (s : State),
      s.runs = true :=
  ⟨w0, by decide +kernel⟩

theorem test_witness_ReferenceLoss_2 :
    ∃ (s u : State),
      s.runs = true ∧
      (((((s.refMissing.setFlag F.CLK_STAT.REF_ABSENT true).setReg (R.CLK_SYN_FREQ 0) 0x8000).setReg (R.CLK_SYN_FREQ 1) 0x8000).setReg (R.CLK_SYN_FREQ 2) 0x8000).setReg (R.CLK_SYN_FREQ 3) 0x8000).setFlag F.PEER_STAT.SILENT true = u :=
  ⟨w0, _, by decide +kernel, rfl⟩

theorem test_witness_ReferenceLoss_3 :
    ∃ (s : State),
      s.runs = true ∧
      s.clk.refLost = true :=
  ⟨{ clk := { refLost := true } }, by decide +kernel, by decide +kernel⟩

theorem test_witness_ReferenceLoss_4 :
    ∃ (s : State) (l : Fin 4) (errs : List Int),
      s.runs = true ∧
      (s.flag (F.CLK_SYN_STAT.HOLDOVER l) = true ∧ s.clk.refLost = false) :=
  ⟨w0.setFlag (F.CLK_SYN_STAT.HOLDOVER 1) true, 1, [], by decide +kernel, by decide +kernel⟩

theorem test_witness_ReferenceLoss_5 :
    ∃ (s t u : State) (l : Fin 4) (errs : List Int),
      s.loopRun l errs = t ∧
      (t.setLoop l { t.loop l with bad := 0 }).setFlag (F.CLK_SYN_STAT.HOLDOVER l) false = u :=
  ⟨(w0.setFlag (F.CLK_SYN_STAT.HOLDOVER 1) true).setLoop 1 { good := 1024 }, _, _, 1, [], rfl, rfl⟩

theorem test_witness_ReferenceLoss_6 :
    ∃ (s : State) (r : RampGen) (c : Nat) (clamped : Bool),
      s.runs = true ∧
      s.clk.ramp = some r ∧
      s.passed r.since (s.rampDuration r.seg * 184467440737) = true ∧
      s.rampAt r.seg r.base (s.rampDuration r.seg) = (c, clamped) :=
  ⟨{ clk := { ramp := some ⟨0, 160 * 2 ^ 32, 0⟩, lockFcw := 160 * 2 ^ 32 }, time := { elapsed := 2 ^ 64 } }, ⟨0, 160 * 2 ^ 32, 0⟩, _, _, by decide +kernel, rfl, by decide +kernel, rfl⟩

theorem test_witness_ReferenceLoss_7 :
    ∃ (s : State),
      s.runs = true ∧
      s.rampDue = false :=
  ⟨w0, by decide +kernel, by decide +kernel⟩

theorem test_witness_GaugeChecks_1 :
    ∃ (s : State) (g : Fin 4) (l : List Strobe) (p f0 : Nat) (c : List (Int × Int)),
      s.runs = true ∧
      ((s.gauge g).slice = some p ∧ s.blockRuns g l = true) ∧
      (s.gaugeComps g p l = c ∧ c.length = (s.gauge g).block.m) ∧
      (s.gauge g).block.last 16 l.length = f0 :=
  ⟨{ ((w0.setGauge 1 { slice := some 30 }).setFlag F.TIME_STAT.IDX_FROZEN false) with time := { frames := 4094 } }, 1, List.replicate 256 ⟨0, 0⟩, 30, _, _, by decide +kernel, by decide +kernel, ⟨rfl, by decide +kernel⟩, rfl⟩

theorem test_witness_GaugeChecks_3 :
    ∃ (s : State) (g : Fin 4) (p f0 first : Nat) (k : Block) (c : List (Int × Int)) (u : State),
      s.makeSuspect p false (exceed k c) first f0 = u ∧
      (blockFails k c = true ∧ s.suspect p = false ∧ k.confirm = true) :=
  ⟨w0, 0, 3, 0, 0, { chk := 0x10106, thr := 0xFFFF0000 }, [(5, 0)], _, rfl, by decide +kernel⟩

theorem test_witness_GaugeChecks_4 :
    ∃ (s : State) (u : Fin 12) (p : Nat) (l : List Strobe),
      s.runs = true ∧
      (u < 4 ∧ (s.gauge u).slice = some p ∧ s.blockRuns u l = true) ∧
      (l.length = 4 * (s.gauge u).block.m ∧ (s.gaugeComps u p l).length < (s.gauge u).block.m) :=
  ⟨{ ((w0.setGauge 2 { slice := some 60 }).setFlag F.TIME_STAT.IDX_FROZEN false) with time := { frames := 16382 } }, 2, 60, List.replicate 1024 ⟨2047, 0⟩, by decide +kernel, by decide +kernel, by decide +kernel⟩

theorem test_witness_GaugeChecks_5 :
    ∃ (s : State) (b : Fin 8) (u : Fin 12) (l : List Strobe),
      s.runs = true ∧
      ((u : Nat) = b + 4 ∧ s.fbRuns b l = true) ∧
      (l.length = 4 * (s.bank b).fbBlock.m ∧ (s.fbComps b l).length < (s.bank b).fbBlock.m) :=
  ⟨{ ((wRun.setFlag (⟨R.CNV_GAUGE_STAT, 15, 1⟩) true).setBank 3 { fbOn := true }) with time := { frames := 1022 } }, 3, 7, List.replicate 1024 ⟨2047, 0⟩, by decide +kernel, by decide +kernel, by decide +kernel⟩

theorem test_witness_GaugeChecks_6 :
    ∃ (s : State) (b : Fin 8) (l : List Strobe) (c : List (Int × Int)) (p f0 : Nat) (t u : State),
      s.runs = true ∧
      (s.fbRuns b l = true ∧ s.fbSlice b = p ∧ (s.bank b).fbBlock.last 1 l.length = f0) ∧
      (s.fbComps b l = c ∧ c.length = (s.bank b).fbBlock.m) ∧
      s.blockStats p 1 (s.bank b).fbBlock c = t ∧
      (if blockFails (s.bank b).fbBlock c then t.fbFail b p (exceed (s.bank b).fbBlock c) f0 else t) = u :=
  ⟨{ ((wRun.setFlag (⟨R.CNV_GAUGE_STAT, 15, 1⟩) true).setBank 3 { fbOn := true }) with time := { frames := 254 } }, 3, List.replicate 256 ⟨0, 0⟩, _, _, _, _, _, by decide +kernel, ⟨by decide +kernel, rfl, rfl⟩, ⟨rfl, by decide +kernel⟩, rfl, rfl⟩

theorem test_witness_GaugeChecks_7 :
    ∃ (s : State) (b p exc f0 : Nat) (x : Bank) (t : State),
      s.bank b = x ∧
      s.setBank b { x with fbFailed := putBit x.fbFailed x.fbPos true } = t :=
  ⟨w0, 1, 13, 0, 0, _, _, rfl, rfl⟩

theorem test_witness_GaugeChecks_8 :
    ∃ (s : State) (g : Fin 4),
      s.runs = true :=
  ⟨wRun, 0, by decide +kernel⟩

theorem test_witness_GaugeChecks_10 :
    ∃ (s : State) (g : Fin 4) (ladder : List Int),
      s.runs = true ∧
      (s.flag (windowFld g) = true ∧ (s.gauge g).winEnd ≤ s.time.cycle + 1) :=
  ⟨w0.setFlag (windowFld 2) true, 2, [0, 0, 0, 0, 0], by decide +kernel, by decide +kernel⟩

theorem test_witness_SliceMaps_1_0 :
    ∃ (s : State) (b : Fin 8) (f : Nat),
      s.runs = true ∧
      (s.bank b).dwellOver = some f ∧
      s.rotPaused b = false ∧
      f ≤ s.frameNow true + 1 :=
  ⟨(wRun.setFlag (F.CNV_BANK_CTL.ROT_EN 0) true).setBank 0 { dwellFrom := some 0, dwell := 0 }, 0, 1, by decide +kernel, by decide +kernel, by decide +kernel, by decide +kernel⟩

theorem test_witness_SliceMaps_2 :
    ∃ (x : Bank) (a : Nat),
      x.dwellFrom = some a :=
  ⟨{ dwellFrom := some 3 }, 3, rfl⟩

theorem test_witness_SliceMaps_3 :
    ∃ (s : State) (b : Fin 8) (odd : Bool) (c : Change),
      s.runs = true ∧
      s.frozen = false ∧
      (s.bank b).epochAt.all (fun e => Nat.ble (e + 64) (s.frameNow odd)) = true ∧
      (firstDue (s.bank b).changes = some c ∧ c.earliest ≤ s.frameNow odd) :=
  ⟨wRun.setBank 2 { changes := [⟨4, 12, some 30, 0, 0, false⟩] }, 2, false, ⟨4, 12, some 30, 0, 0, false⟩, by decide +kernel, by decide +kernel, by decide +kernel, by decide +kernel⟩

theorem test_witness_SliceMaps_4 :
    ∃ (s : State) (b : Fin 8) (odd : Bool) (f : Nat),
      s.runs = true ∧
      (s.frozen = false ∧ (s.bank b).changes = []) ∧
      (s.bank b).epochAt.all (fun e => Nat.ble (e + 64) (s.frameNow odd)) = true ∧
      ((s.bank b).rotDue = some f ∧ f ≤ s.frameNow odd ∧ s.rotPaused b = false ∧ s.suspect (13 * b + s.spare b) = false) ∧
      (s.blockOn b (13 * b + s.spare b) (s.frameNow odd) = false ∧ s.blockOn b (13 * b + s.pos b (s.bank b).target) (s.frameNow odd) = false) :=
  ⟨(wRun.setFlag (F.CNV_BANK_CTL.ROT_EN 0) true).setBank 0 { rotDue := some 0 }, 0, false, 0, by decide +kernel, by decide +kernel, by decide +kernel, by decide +kernel, by decide +kernel⟩

theorem test_witness_SliceMaps_6 :
    ∃ (s : State) (p : BitVec 7),
      s.runs = true ∧
      s.reachable R.CNV_CMD = true ∧
      (p.toNat < 104 ∧ s.retired p.toNat = false) :=
  ⟨wUp, 17, by decide +kernel, by decide +kernel, by decide +kernel⟩

theorem test_witness_SliceMaps_7_0 :
    ∃ (s : State) (p : BitVec 7),
      s.runs = true ∧
      s.reachable R.CNV_CMD = true ∧
      (p.toNat < 104 ∧ s.retired p.toNat = true) ∧
      s.bankInUse (p.toNat / 13) = false ∧
      s.hasSpare (p.toNat / 13) = false :=
  ⟨(wUp.setFld (F.CNV_MAP_HI.SPARE 1) 15).setFld (F.CNV_BANK_STAT.RETIRED 1) 0x10, 17, by decide +kernel, by decide +kernel, by decide +kernel, by decide +kernel, by decide +kernel⟩

theorem test_witness_SliceMaps_8 :
    ∃ (s : State) (p : BitVec 7),
      s.runs = true ∧
      s.reachable R.CNV_CMD = true ∧
      104 ≤ p.toNat :=
  ⟨wUp, 120, by decide +kernel, by decide +kernel, by decide +kernel⟩

theorem test_witness_CorrectionSets_1 :
    ∃ (s : State) (u : Fin 112) (v x : Word),
      s.runs = true ∧
      s.reachable (trimOff u) = true ∧
      trimMerge u (trimFields u) (s.reg (trimOff u)) v = x :=
  ⟨wUp, 3, 0xFFFFFFFF#32, _, by decide +kernel, by decide +kernel, rfl⟩

theorem test_witness_CorrectionSets_3 :
    ∃ (s : State) (m : Fin 3) (p : Fin 104),
      s.runs = true ∧
      s.reachable (R.CORR_3 m p) = true :=
  ⟨wUp, 1, 20, by decide +kernel, by decide +kernel⟩

theorem test_witness_CorrectionSets_4 :
    ∃ (s : State) (f : Fin 9) (m : Fin 3) (p : Fin 104),
      s.runs = true ∧
      f ≠ 0 :=
  ⟨w0, 1, 0, 0, by decide +kernel, by decide +kernel⟩

theorem test_witness_CorrectionSets_5 :
    ∃ (s : State) (p : Fin 104) (f : Fin 4),
      s.runs = true :=
  ⟨w0, 0, 0, by decide +kernel⟩

theorem test_witness_CalibrationRuns_1 :
    ∃ (s u : State) (n : Fin 4) (words : List (BitVec 16)) (m : NbStats),
      s.runs = true ∧
      (s.frozen = false ∧ sampledIn s.inp.route n = true ∧ natBit (s.fld F.CAL_STAT.FG_ACTIVE) n = false) ∧
      (s.inCycle (s.nbLast n) = true ∧ s.nbStats n words = m) ∧
      (if nbStarved m then s.nbStarve n else { s.nbTargets n (s.nbLast n) m with cal := { (s.nbTargets n (s.nbLast n) m).cal with starved := SMap.set zero (s.nbTargets n (s.nbLast n) m).cal.starved n 0 } }) = u :=
  ⟨{ wRun with time := { frames := 2 ^ 20 - 1 } }, _, 0, [], _, by decide +kernel, by decide +kernel, ⟨by decide +kernel, rfl⟩, rfl⟩

theorem test_witness_CalibrationRuns_2 :
    ∃ (s : State) (n : Fin 4) (words : List (BitVec 16)),
      s.runs = true ∧
      (s.frozen = true ∨ sampledIn s.inp.route n = false ∨ natBit (s.fld F.CAL_STAT.FG_ACTIVE) n = true ∨ s.inCycle (s.nbLast n) = false) :=
  ⟨wUp, 0, [], by decide +kernel, by decide +kernel⟩

theorem test_witness_CalibrationRuns_4 :
    ∃ (s : State) (b : Fin 8) (l : List ShStrobe),
      s.runs = true ∧
      (s.frozen = false ∧ s.inCycle (s.shLast b) = true) :=
  ⟨{ wRun with time := { frames := 2 ^ 20 - 1 } }, 0, [], by decide +kernel, by decide +kernel⟩

theorem test_witness_CalibrationRuns_5 :
    ∃ (s : State) (b f p : Nat) (m : ShStats) (skew bw : Int),
      13 * b + s.spare b = p ∧
      s.corrApplied s.inp.route p 2 f + roundRat (m.dz1 / m.z1z1 * s.samplePeriod * 16) = skew ∧
      s.corrApplied s.inp.route p 3 f - roundRat (m.dz2 / m.z2z2 * (s.samplePeriod * s.samplePeriod) / 4) = bw :=
  ⟨wRun, 0, 0, _, ⟨0, 0, 0, 0, 0⟩, _, _, rfl, rfl, rfl⟩

theorem test_witness_CalibrationRuns_6_0 :
    ∃ (s : State),
      s.runs = true ∧
      s.converged = true ∧
      s.flag F.INP_MODE_STAT.CAL_SETTLED = false :=
  ⟨{ wUp with cal := { gaugeEsts := (List.range 104).map (fun p => (p, 8)), nbEnds := [(0, 64), (1, 64), (2, 64), (3, 64)] } }, by decide +kernel, by decide +kernel, by decide +kernel⟩

theorem test_witness_CalibrationRuns_7_0 :
    ∃ (s u : State) (r : Fin 64) (d : Desc),
      s.starts r 0x61 d = true ∧
      s.begin r d = u ∧
      u.fgValid d.begun = true ∧
      u.fgBusy (d.begun.f 2 0 4) = false :=
  ⟨withD wLive 0 [0xF0061, 7, 1], _, 0, descAt 0 [0xF0061, 7, 1], by decide +kernel, rfl, by decide +kernel, by decide +kernel⟩

theorem test_witness_CalibrationRuns_8 :
    ∃ (s u : State) (r : Fin 64) (x : FgRun) (trims : List (Nat × Word)),
      s.runs = true ∧
      (s.fgOf r = some x ∧ x.search = true) ∧
      trims.foldl (fun t e => t.searchSet x.inputs e) s = u :=
  ⟨{ cal := { fg := [⟨0, 5, 1, true, 0⟩] } }, _, 5, ⟨0, 5, 1, true, 0⟩, [], by decide +kernel, by decide +kernel, rfl⟩

theorem test_witness_CalibrationRuns_9 :
    ∃ (s u : State) (r : Fin 64) (x : FgRun) (ladders : List Ladder),
      s.runs = true ∧
      (s.fgOf r = some x ∧ x.search = false) ∧
      (ladders.foldl (fun t l => t.ladderSet x.inputs l) s).fgOver x = u :=
  ⟨{ cal := { fg := [⟨0, 5, 1, false, 0⟩] } }, _, 5, ⟨0, 5, 1, false, 0⟩, [], by decide +kernel, by decide +kernel, rfl⟩

theorem test_witness_EqualiserAndPaths_1 :
    ∃ (s u : State) (n : Fin 4) (k : Fin 2) (t : Fin 128) (v : Word),
      s.runs = true ∧
      s.reachable (R.EQ_COEFF (2 * n.val + k.val) t) = true ∧
      s.settleFade n = u :=
  ⟨wUp, _, 2, 1, 64, 5, by decide +kernel, by decide +kernel, rfl⟩

theorem test_witness_EqualiserAndPaths_2_5 :
    ∃ (s u : State) (n : Fin 4) (v : Word) (k : Nat),
      s.runs = true ∧
      s.reachable (R.EQ_SWAP n) = true ∧
      (getBits v 31 1 = 1 ∧ getBits v 0 1 = k) ∧
      s.settleFade n = u ∧
      u.flag (F.EQ_STAT.FADING n) = false ∧
      u.fld (F.EQ_STAT.ACTIVE n) ≠ k ∧
      u.eqWaits = false :=
  ⟨wLive, _, 2, 0x80000001, 1, by decide +kernel, by decide +kernel, by decide +kernel, rfl, by decide +kernel, by decide +kernel, by decide +kernel⟩

theorem test_witness_EqualiserAndPaths_3 :
    ∃ (s : State) (n : Fin 4) (v : Word),
      s.runs = true ∧
      getBits v 31 1 = 0 :=
  ⟨wUp, 2, 1, by decide +kernel, by decide +kernel⟩

theorem test_witness_EqualiserAndPaths_6 :
    ∃ (s : State) (n : Fin 4),
      s.runs = true :=
  ⟨wUp, 1, by decide +kernel⟩

theorem test_witness_EqualiserAndPaths_7 :
    ∃ (s u : State) (n : Fin 4) (v : Word),
      s.runs = true ∧
      s.reachable (R.EQ_DELAY n) = true ∧
      ((s.setDelay n (getBits v 0 13) (getBits v 16 8)).markLate n).recomputeDT.showDets = u :=
  ⟨wUp, _, 1, 7, by decide +kernel, by decide +kernel, rfl⟩

theorem test_witness_EqualiserAndPaths_8 :
    ∃ (s : State) (n : Fin 4) (x y i : Nat),
      (x < 8192 ∧ y < 256) :=
  ⟨wUp, 0, 5, 1, 8, by decide +kernel⟩

theorem test_witness_EqualiserAndPaths_9_2 :
    ∃ (s : State) (reg : Fin 20) (v : Word), ∃ k n,
      s.runs = true ∧
      s.reachable (pathOff reg) = true ∧
      s.pathHeld reg = false ∧
      s.regPath reg = some (k, n) :=
  ⟨wUp, 3, 2, .cic, 0, by decide +kernel, by decide +kernel, by decide +kernel, by decide +kernel⟩

theorem test_witness_EqualiserAndPaths_10 :
    ∃ (s u : State) (k : PathKind) (n off i j : Nat) (v : Word) (old new : PathSet),
      (s.tapNext (s.pathInput k n s.time.idx) = i ∧ s.pathAt k n (i - 1) = old) ∧
      ((s.dropWaiting k n i).plainWrite off v = u ∧ u.pathRegs k n = new) ∧
      gridFrom s.p0 (2 ^ max (old.exp k) (new.exp k)) i = j :=
  ⟨wUp, _, .cic, 0, 0, _, _, 7, _, _, ⟨rfl, rfl⟩, ⟨rfl, rfl⟩, rfl⟩

theorem test_witness_EqualiserAndPaths_12 :
    ∃ (p0 i r count : Nat) (w : Bool),
      (0 < r ∧ 0 < count) :=
  ⟨3, 5, 4, 3, false, by decide +kernel⟩

theorem test_witness_SaturatedSum_1 :
    ∃ (s : State) (n : Fin 4),
      s.runs = true :=
  ⟨wUp, 3, by decide +kernel⟩

theorem test_witness_SaturatedSum_2 :
    ∃ (s : State) (n : Fin 4),
      sampledIn s.inp.route n = true :=
  ⟨wUp, 0, by decide +kernel⟩

theorem test_witness_DecimatedOutputs_1 :
    ∃ (p0 r i : Nat),
      0 < r :=
  ⟨3, 4, 10, by decide +kernel⟩

theorem test_witness_DecimatedOutputs_3 :
    ∃ (l : List Int) (x : Int),
      x ∈ l ∧
      (-32768 < x ∧ x < 32768) ∧
      (∀ y ∈ l, -32768 ≤ y ∧ y < 32768) :=
  ⟨[5, -7], -7, by decide, by decide, by decide⟩

theorem test_witness_DecimatedOutputs_4 :
    ∃ (s : State) (k : PathKind) (n e lab : Nat) (l : List Int),
      (k = .cic ∨ k = .ma0 ∨ k = .ma1) :=
  ⟨wUp, .cic, 0, 1, 0, [], by decide +kernel⟩

theorem test_witness_ComparatorRule_1 :
    ∃ (v h x : Int) (c : Cmp),
      0 ≤ h :=
  ⟨5, 1, 6, {}, by decide +kernel⟩

theorem test_witness_DetectorWords_1_0 :
    ∃ (s : State) (first : BitVec 64) (obs : List (List (BitVec 16))),
      s.runs = true ∧
      s.frozen = false :=
  ⟨wRun, 0, [], by decide +kernel, by decide +kernel⟩

theorem test_witness_DetectorWords_2 :
    ∃ (s u v : State) (k : Fin 16) (d : DetSt),
      s.runs = true ∧
      (s.reachable (R.TRG_TD_APPLY k) = true ∧ s.isFollower = false) ∧
      (s.detUsed k = false ∨ cfgFixed (dwAt (s.detStaged k) 0) = cfgFixed ((s.applied k).w 0)) ∧
      { cfg := s.detStaged k, fifth := Nat.ble 4 ((List.range 16).filter (fun j => j != k.val && (s.applied j).en && (s.applied j).remote)).length } = d ∧
      ((s.detFrom k (s.applyIdx d) d).setReg64 (R.TRG_TD_APPLY_IDX_LO k) (s.applyIdx d)).showDets = u ∧
      (if u.isLeader && d.remote && u.detReason k == 0 then u.tell (.config (.detector k (s.detStaged k))) else u) = v :=
  ⟨wUp, _, _, 3, _, by decide +kernel, by decide +kernel, by decide +kernel, rfl, rfl, rfl⟩

theorem test_witness_DetectorWords_3 :
    ∃ (s : State) (k : Fin 16),
      s.runs = true ∧
      s.reachable (R.TRG_TD_APPLY k) = true :=
  ⟨wUp, 3, by decide +kernel, by decide +kernel⟩

theorem test_witness_DetectorWords_4 :
    ∃ (s : State) (n : Fin 4) (v : Word) (u : State),
      s.runs = true ∧
      s.reachable (R.TRG_PTH n) = true ∧
      s.setReg (R.TRG_PTH n) v = u :=
  ⟨wUp, 2, 9, _, by decide +kernel, by decide +kernel, rfl⟩

theorem test_witness_DetectorWords_5 :
    ∃ (s : State) (n : Fin 4) (r : Fin 23) (v : Word),
      s.runs = true ∧
      s.reachable (seqReg n r) = true :=
  ⟨wUp, 2, 9, 1, by decide +kernel, by decide +kernel⟩

theorem test_witness_SequencerDecisions_1 :
    ∃ (s : State) (n : Fin 4) (j : BitVec 64) (r : SeqStep) (u : State),
      s.runs = true ∧
      (s.armed n = true ∧ (s.ctx n).trigEn = true ∧ s.decides j.toNat = true) ∧
      (s.ctx n).seqNext ≤ j.toNat ∧
      s.seqRun n j.toNat (bitsOf ((s.trg.fires.filter (fun f => f.idx == j.toNat)).map (·.det))) 8 (s.ctx n) 0 = r ∧
      ((s.setCtx n { r.ctx with seqNext := j.toNat + 1 }).bumpBy (R.TRG_AC_TIMEOUTS n) r.timeouts).bumpBy (R.TRG_AC_RESETS n) r.resets = u :=
  ⟨wArmed, 0, 200, _, _, by decide +kernel, by decide +kernel, by decide +kernel, rfl, rfl⟩

theorem test_witness_SequencerDecisions_2 :
    ∃ (s : State) (n : Fin 4) (j : BitVec 64),
      s.runs = true ∧
      (s.armed n = false ∨ (s.ctx n).trigEn = false ∨ s.decides j.toNat = false ∨ j.toNat < (s.ctx n).seqNext) :=
  ⟨wUp, 0, 9, by decide +kernel, by decide +kernel⟩

theorem test_witness_OutputPulses_1 :
    ∃ (s u : State) (l : Fin 13) (rising : Bool) (ago t : Nat),
      s.runs = true ∧
      s.lineEdge l rising ago = (u, true) ∧
      (((s.now : Int) + fsTime (-((ago * 8000 : Nat) : Rat))) % (2 ^ 80 : Nat)).toNat = t :=
  ⟨wRun, _, 2, true, 0, _, by decide +kernel, by rfl, rfl⟩

theorem test_witness_OutputPulses_2 :
    ∃ (s u : State) (l : Fin 13) (rising : Bool) (ago : Nat),
      s.runs = true ∧
      s.lineEdge l rising ago = (u, false) :=
  ⟨wUp.setFlag F.TIME_STAT.IDX_FROZEN true, _, 2, true, 0, by decide +kernel, rfl⟩

theorem test_witness_OutputPulses_3_2 :
    ∃ (s u : State) (l : Fin 13) (p : Pulse),
      s.runs = true ∧
      s.trg.pulses.find? (fun p => p.line == l.val && p.phase == .due && s.passed p.ripe 0) = some p ∧
      { s with trg := { s.trg with pulses := s.trg.pulses.erase p } } = u ∧
      s.frozen = false ∧
      ((l.val < 4 ∨ s.outDriven l = true)) ∧
      u.trg.pulses.any (fun q => q.line == l.val && q.phase != .due && Nat.blt p.start (q.stop + nsTime 2)) = false :=
  ⟨{ wRun with trg := { pulses := [⟨2, 5, 0, .due, true, 0⟩] } }, _, 2, ⟨2, 5, 0, .due, true, 0⟩, by decide +kernel, by decide +kernel, rfl, by decide +kernel, Or.inl (by decide), by decide +kernel⟩

theorem test_witness_OutputPulses_4 :
    ∃ (s : State) (l : Fin 13),
      s.runs = true ∧
      s.trg.pulses.find? (fun p => p.line == l.val && p.phase == .due && s.passed p.ripe 0) = none :=
  ⟨wUp, 2, by decide +kernel, by decide +kernel⟩

theorem test_witness_OutputPulses_5 :
    ∃ (s : State) (l : Fin 13),
      s.runs = true :=
  ⟨wUp, 2, by decide +kernel⟩

theorem test_witness_OutputPulses_6 :
    ∃ (s : State) (l : Fin 4) (p : BitVec 64) (x : Reactive),
      s.runs = true ∧
      s.trg.reacts.find? (fun x => x.line == l.val && s.passed x.ripe 0) = some x :=
  ⟨{ wUp with trg := { reacts := [⟨1, 0, 0, 0, 0⟩] } }, 1, 7, ⟨1, 0, 0, 0, 0⟩, by decide +kernel, by decide +kernel⟩

theorem test_witness_OutputPulses_7 :
    ∃ (s : State) (l : Fin 4) (p : BitVec 64),
      s.runs = true ∧
      s.trg.reacts.find? (fun x => x.line == l.val && s.passed x.ripe 0) = none :=
  ⟨wUp, 1, 7, by decide +kernel, by decide +kernel⟩

theorem test_witness_SkewCalibration_1_2 :
    ∃ (s u : State) (r : Fin 64) (d : Desc) (bad : Bool),
      s.starts r 0x62 d = true ∧
      s.begin r d = u ∧
      (d.begun.context != 15 || !(d.begun.reservedClear 2 [(2, 0xF), (3, 0xFFFF)]) || d.begun.f 2 0 4 == 0 || !((inputsOf (d.begun.f 2 0 4)).all (sampledIn u.inp.route)) || u.ringOwner d.begun.ring != 0) = bad ∧
      bad = false ∧
      u.fgBusy (d.begun.f 2 0 4) = false :=
  ⟨withD wLive 0 [0xF0062, 7, 1, 1], _, 0, descAt 0 [0xF0062, 7, 1, 1], _, by decide +kernel, rfl, rfl, by decide +kernel, by decide +kernel⟩

theorem test_witness_SkewCalibration_2 :
    ∃ (s t u : State) (r : Fin 64) (x : SkewRun) (steps : List (List SkewStep)) (vals : List (List Rat)),
      s.runs = true ∧
      s.trg.skew.find? (fun x => x.ring == r.val) = some x ∧
      s.skewAll x.inputs x.steps steps = (vals, t) ∧
      ({ t with trg := { t.trg with skew := t.trg.skew.filter (fun y => y.seq != x.seq) } }).inject x.inputs false = u :=
  ⟨{ wUp with trg := { skew := [⟨0, 5, 1, 1⟩] } }, _, _, 5, ⟨0, 5, 1, 1⟩, [], _, by decide +kernel, by decide +kernel, rfl, rfl⟩

theorem test_witness_SkewCalibration_3 :
    ∃ (s : State) (r : Fin 64) (steps : List (List SkewStep)),
      s.runs = true ∧
      s.trg.skew.find? (fun x => x.ring == r.val) = none :=
  ⟨wUp, 5, [], by decide +kernel, by decide +kernel⟩

theorem test_witness_SkewCalibration_4 :
    ∃ (s : State) (n j : Nat) (words : List Int) (xp x : Int),
      upCrossing s.skewHyst 0 0 false words = some (j, xp, x) :=
  ⟨wUp, 0, 1, [-2000, 100], -2000, 100, by
    have h1 : wUp.skewHyst = stepAmpl 0x1000000 / 20 := by rfl
    have h : wUp.skewHyst < 2000 := by
      rw [h1]
      norm_num [stepAmpl, show getBits (0x1000000 : Word) 0 1 = 0 from by decide]
    simp [upCrossing]
    exact h⟩

theorem test_witness_TriggerLog_1 :
    ∃ (s u : State) (e : LogEntry) (l : List LogEntry) (q a : Nat),
      s.runs = true ∧
      s.popFrom s.trg.log [] = some (e, l) ∧
      s.reg64 (R.TRG_AC_LOG_COUNT_LO e.ctx) = q ∧
      ((s.ctx e.ctx).streaming = true ∨ s.flag (F.TRG_AC_SEQ.LOG_WRAP e.ctx) = true ∨ q < 2 * s.ptLen (s.ctx e.ctx).logPart) ∧
      32 * (s.ptBase (s.ctx e.ctx).logPart + q % (2 * s.ptLen (s.ctx e.ctx).logPart) / 2) + 16 * (q % 2) = a ∧
      (({ s with trg := { s.trg with log := l } }).putBytes a (wordsBytes e.dw)).buffer (a / 32) 1 = u :=
  ⟨{ wUp with trg := { log := [⟨0, [1, 2, 3, 4]⟩] }, acq := { ctxs := [(0, { streaming := false })] } }.setFlag (F.TRG_AC_SEQ.LOG_WRAP 0) true, _, ⟨0, [1, 2, 3, 4]⟩, [], _, _, by decide +kernel, by decide +kernel, rfl, by decide +kernel, rfl, rfl⟩

theorem test_witness_TriggerLog_2 :
    ∃ (s : State) (e : LogEntry) (l : List LogEntry),
      s.runs = true ∧
      s.popFrom s.trg.log [] = some (e, l) ∧
      (s.ctx e.ctx).streaming = false ∧
      s.flag (F.TRG_AC_SEQ.LOG_WRAP e.ctx) = false ∧
      2 * s.ptLen (s.ctx e.ctx).logPart ≤ s.reg64 (R.TRG_AC_LOG_COUNT_LO e.ctx) :=
  ⟨{ wUp with trg := { log := [⟨0, [1, 2, 3, 4]⟩] } }, ⟨0, [1, 2, 3, 4]⟩, [], by decide +kernel, by decide +kernel, by decide +kernel, by decide +kernel, by decide +kernel⟩

theorem test_witness_TriggerLog_4 :
    ∃ (s : State),
      s.runs = true ∧
      s.popFrom s.trg.log [] = none :=
  ⟨wUp, by decide +kernel, by decide +kernel⟩

theorem test_witness_SymbolTrigger_1 :
    ∃ (s u : State) (i : Nat),
      s.runs = true ∧
      s.reachable R.SYM_APPLY = true ∧
      (symKey s.symStaged = symKey s.trg.sym ∨ s.symUsed = false) ∧
      s.tapNext (getBits (s.reg R.SYM_CTL) 28 2) = i ∧
      s.symTake i (symKey s.symStaged != symKey s.trg.sym) = u :=
  ⟨wUp, _, _, by decide +kernel, by decide +kernel, by decide +kernel, rfl, rfl⟩

theorem test_witness_SymbolTrigger_2 :
    ∃ (s : State),
      s.runs = true ∧
      s.reachable R.SYM_APPLY = true ∧
      (symKey s.symStaged ≠ symKey s.trg.sym ∧ s.symUsed = true) :=
  ⟨({ wArmed with trg := { sym := [0x80000000#32] } } : State).setReg (R.TRG_AC_STG_ADV 0 0) 0x10000#32, by decide +kernel, by decide +kernel, by decide +kernel⟩

theorem test_witness_SymbolTrigger_5_0 :
    ∃ (s : State), ∃ l,
      s.runs = true ∧
      s.trg.symLoop = some l ∧
      s.flag F.SYM_STAT.LOCKED = false ∧
      s.symMayLock l = true :=
  ⟨{ wLive with trg := { sym := [0x80000000, 0x04000000, 0xC000, 0, 0x4000, 1], symLoop := some { centre := 0, ui := 0, recs := List.replicate 4096 ⟨some 0, 0x4000000⟩ } } }, _, by decide +kernel, rfl, by decide +kernel, by decide +kernel⟩

theorem test_witness_SymbolTrigger_7_0 :
    ∃ (s : State), ∃ l,
      s.runs = true ∧
      s.trg.symLoop = some l ∧
      s.flag F.SYM_STAT.LOCKED = true ∧
      s.symTrips l ≠ 0 :=
  ⟨{ wUp.setFlag F.SYM_STAT.LOCKED true with trg := { symLoop := some { centre := 0, ui := 0, recs := List.replicate 256 ⟨none, 0x4000000⟩ } } }, _, by decide +kernel, rfl, by decide +kernel, by decide +kernel⟩

theorem test_witness_SymbolTrigger_8 :
    ∃ (s : State),
      s.runs = true :=
  ⟨wUp, by decide +kernel⟩

theorem test_witness_SymbolDecisions_1_0 :
    ∃ (s : State) (first : BitVec 64) (words : List (BitVec 16)),
      s.runs = true ∧
      s.frozen = false ∧
      s.symIdle = false :=
  ⟨{ wLive.setFlag F.SYM_STAT.LOCKED true with trg := { sym := [0x80000000, 0x04000000, 0xC000, 0, 0x4000, 1] } }, 0, [], by decide +kernel, by decide +kernel, by decide +kernel⟩

theorem test_witness_SymbolDecisions_3 :
    ∃ (w : List Word) (y : Int),
      (symThr w 0 ≤ symThr w 1 ∧ symThr w 1 ≤ symThr w 2) :=
  ⟨[0x1000000], 5, by decide +kernel⟩

theorem test_witness_SymbolDecisions_4 :
    ∃ (s u : State) (l : SymLoop),
      s.runs = true ∧
      (s.flag F.SYM_STAT.LOCKED = true ∧ s.trg.symLoop = some l ∧ 65536 ≤ l.count) ∧
      (s.each (List.range 4) (fun t k => (t.setFld (F.SYM_LVL.SEQ k) (s.fld (F.SYM_LVL.SEQ 0) + 1)).setFld (F.SYM_LVL.MEAN k) (levelMean (l.levels.getD k (0, 0))))).setSymLoop (some { l with count := 0, levels := [(0, 0), (0, 0), (0, 0), (0, 0)] }) = u :=
  ⟨{ wUp.setFlag F.SYM_STAT.LOCKED true with trg := { symLoop := some { centre := 0, ui := 0, count := 65536 } } }, _, { centre := 0, ui := 0, count := 65536 }, by decide +kernel, by decide +kernel, rfl⟩

theorem test_witness_SymbolDecisions_5 :
    ∃ (s : State),
      s.runs = true :=
  ⟨wUp, by decide +kernel⟩

theorem test_witness_Arming_1_1 :
    ∃ (s u : State) (r : Fin 64) (d : Desc) (strm : Bool) (c : Ctx),
      s.starts r (if strm then 0x03 else 0x01) d = true ∧
      s.begin r d = u ∧
      { u.ctx d.begun.context with phase := .pending, stops := [], req := some ⟨strm, d.seq, d.ring, d.dw, (match Ctx.armAt { streaming := strm, dw := d.dw } with | some i => decide (i < u.time.idx) | none => false), none⟩ } = c ∧
      u.armStatus d.begun c.asked = none ∧
      u.joined = false :=
  ⟨withD wArm 0 [0x1, 0, 0x11, 0x00100000, 0, 21, 1], _, 0, descAt 0 [0x1, 0, 0x11, 0x00100000, 0, 21, 1], false, _, by decide +kernel, rfl, rfl, by decide +kernel, by decide +kernel⟩

theorem test_witness_Arming_1_1b :
    ∃ (s u : State) (r : Fin 64) (d : Desc) (strm : Bool) (c : Ctx),
      s.starts r (if strm then 0x03 else 0x01) d = true ∧
      s.begin r d = u ∧
      { u.ctx d.begun.context with phase := .pending, stops := [], req := some ⟨strm, d.seq, d.ring, d.dw, (match Ctx.armAt { streaming := strm, dw := d.dw } with | some i => decide (i < u.time.idx) | none => false), none⟩ } = c ∧
      u.armStatus d.begun c.asked = none ∧
      u.joined = false :=
  ⟨withD wArm 0 [0x3, 0, 0x11, 0x03000002], _, 0, descAt 0 [0x3, 0, 0x11, 0x03000002], true, _, by decide +kernel, rfl, rfl, by decide +kernel, by decide +kernel⟩

theorem test_witness_Arming_2 :
    ∃ (s : State) (d : Desc) (c : Ctx) (bad compat : Bool),
      (if c.streaming then s.streamBad d c else s.armBad d c) = bad ∧
      (s.compat && (s.seqNames d.context 16 || s.usesTwin d.context)) = compat :=
  ⟨wUp, descAt 0 [1], {}, _, _, rfl, rfl⟩

theorem test_witness_Arming_3_0 :
    ∃ (s : State) (n : Fin 4),
      s.runs = true ∧
      s.armDue n = true :=
  ⟨{ wLive with acq := { ctxs := [(2, { phase := .pending })] } }, 2, by decide +kernel, by decide +kernel⟩

theorem test_witness_SegmentsAndEntries_1 :
    ∃ (s u v w : State) (n : Fin 4) (g : Seg) (rest : List Seg),
      s.runs = true ∧
      ((s.ctx n).segs = g :: rest ∧ s.segPacked n g = true) ∧
      (({ s with acq := { s.acq with queue := s.acq.queue ++ [IdxItem.mk n (s.segEntries n g (State.segStatus (s.ctx n) g))] } }).setCtx n { s.ctx n with segs := rest, entries := (s.ctx n).entries + (s.segEntries n g (State.segStatus (s.ctx n) g)).length, closed := (s.ctx n).closed + 1, degr := (s.ctx n).degr.filter (fun e => Nat.blt g.last (e.lab + (e.count - 1) * e.ratio)), dlines := (s.ctx n).dlines.filter (fun l => Nat.blt g.last (l.lab + (l.count - 1) * l.ratio)) }).setFlag (F.ACQ_AC_STAT.SEG_OPEN n) (!rest.isEmpty) = u ∧
      u.setFld (F.ACQ_AC_SEGS.V n) (u.fld (F.ACQ_AC_SEGS.V n) + 1) = v ∧
      (if State.segStatus (s.ctx n) g == .ok then v else (v.bump (R.ACQ_AC_NONOK n)).raise 162 (n + 2 ^ 16 * (State.segStatus (s.ctx n) g).code) (v.routeCtx n)).notify n = w :=
  ⟨{ wUp with acq := { ctxs := [(1, { segs := [⟨0, 0, 0, 0, 1, 0, 5, false, false, none⟩] })] } }, _, _, _, 1, ⟨0, 0, 0, 0, 1, 0, 5, false, false, none⟩, [], by decide +kernel, by decide +kernel, rfl, rfl, rfl⟩

theorem test_witness_SegmentsAndEntries_2 :
    ∃ (s : State) (n : Fin 4),
      s.runs = true ∧
      ((s.ctx n).segs = [] ∨ ∃ g l, (s.ctx n).segs = g :: l ∧ s.segPacked n g = false) :=
  ⟨wUp, 0, by decide +kernel, Or.inl (by decide +kernel)⟩

theorem test_witness_SegmentsAndEntries_3 :
    ∃ (s u : State) (x : IdxItem) (r : List IdxItem) (e : Nat × Nat) (l : List (Nat × Nat)),
      s.runs = true ∧
      (s.acq.queue = x :: r ∧ x.lines = e :: l ∧ s.tailsWait = false) ∧
      { s with acq := { s.acq with queue := if l.isEmpty then r else { x with lines := l } :: r } } = u :=
  ⟨{ wUp with acq := { queue := [⟨0, [(5, 9)]⟩] } }, _, ⟨0, [(5, 9)]⟩, [], (5, 9), [], by decide +kernel, by decide +kernel, rfl⟩

theorem test_witness_SegmentsAndEntries_4 :
    ∃ (s : State),
      s.runs = true :=
  ⟨wUp, by decide +kernel⟩

theorem test_witness_SegmentsAndEntries_5 :
    ∃ (s : State) (n : Nat) (row e cyc : Nat),
      (s.ctx n).ending = some (row, e, cyc) :=
  ⟨{ wUp with acq := { ctxs := [(1, { ending := some (0, 5, 0) })] } }, 1, 0, 5, 0, by decide +kernel⟩

theorem test_witness_AcquisitionStops_1_2 :
    ∃ (s u : State) (r : Fin 64) (d : Desc),
      s.starts r 0x02 d = true ∧
      s.begin r d = u ∧
      (d.begun.context < 4 ∧ d.begun.reservedClear 2 [(2, 1)] = true) ∧
      (u.ctx d.begun.context).phase = .armed ∧
      u.fld (F.ACQ_AC_STAT.OWNER d.begun.context) = u.ringOwner d.ring :=
  ⟨withD wArmed 0 [0x2], _, 0, descAt 0 [0x2], by decide +kernel, rfl, by decide +kernel, by decide +kernel, by decide +kernel⟩

theorem test_witness_AcquisitionStops_2 :
    ∃ (s : State) (r : Fin 64) (d : Desc),
      s.starts r 0x02 d = true ∧
      (4 ≤ d.begun.context ∨ d.begun.reservedClear 2 [(2, 1)] = false) :=
  ⟨withD wUp 0 [0x40002], 0, descAt 0 [0x40002], by decide +kernel, by decide +kernel⟩

theorem test_witness_AcquisitionStops_3 :
    ∃ (s u : State) (n : Fin 4),
      s.runs = true ∧
      s.reachable (R.ACQ_AC_CTL n) = true ∧
      s.plainWrite (R.ACQ_AC_CTL n) (s.reg (R.ACQ_AC_CTL n) &&& 0xFFFFFFFE#32) = u :=
  ⟨wUp, _, 1, by decide +kernel, by decide +kernel, rfl⟩

theorem test_witness_AcquisitionStops_4_0 :
    ∃ (s : State),
      s.runs = true ∧
      53248 ≤ s.occupancy :=
  ⟨{ wUp with mem := { slots := List.replicate 3328 ⟨0, [], false⟩ } }, by decide +kernel, by decide +kernel⟩

theorem test_witness_LinesPacked_1 :
    ∃ (s : State) (n : Fin 4) (dec : Bool) (data : List (List (List (BitVec 16)))),
      s.runs = true :=
  ⟨wUp, 2, false, [], by decide +kernel⟩

theorem test_witness_LinesPacked_2 :
    ∃ (s : State) (n : Fin 4) (k f : Nat) (data : List (List (List (BitVec 16)))),
      s.runs = true ∧
      (s.packAllowed n false = true ∧ (s.ctx n).streaming = false ∧ (s.ctx n).ending = none) ∧
      (s.ctx n).slotOf (s.ctx n).next = some (k, f) :=
  ⟨{ wUp.setFlag (F.ACQ_AC_STAT.ARMED 0) true with acq := { ctxs := [(0, { dw := [0, 0, 0x11] })] } }, 0, 0, 0, [], by decide +kernel, by decide +kernel, by decide +kernel⟩

theorem test_witness_SluiceAndGaps_1 :
    ∃ (s u v : State) (n : Fin 4),
      s.runs = true ∧
      (s.armed n = true ∧ (s.ctx n).ending = none ∧ s.frozen = false) ∧
      ((s.ctx n).streaming = true ∨ (s.ctx n).decEn = true) ∧
      s.setCtx n { s.ctx n with prevFill := if (s.ctx n).streaming then s.maxFill n else 0, prevOcc := s.occupancy, maxSaid := (s.ctx n).maxSaid && Nat.ble (s.fld (F.ACQ_AC_SLU_THR.HI n)) (s.pressure n) } = u ∧
      u.setFlag (F.ACQ_AC_SLU_STAT.AT_MAX n) false = v :=
  ⟨{ wRun.setFlag (F.ACQ_AC_STAT.ARMED 1) true with acq := { ctxs := [(1, { streaming := true })] } }, _, _, 1, by decide +kernel, by decide +kernel, by decide +kernel, rfl, rfl⟩

theorem test_witness_SluiceAndGaps_2 :
    ∃ (s : State) (n : Fin 4),
      s.runs = true ∧
      (s.armed n = false ∨ (s.ctx n).ending.isSome = true ∨ s.frozen = true ∨ ((s.ctx n).streaming = false ∧ (s.ctx n).decEn = false)) :=
  ⟨wUp, 1, by decide +kernel, by decide +kernel⟩

theorem test_witness_SluiceAndGaps_4 :
    ∃ (s u v : State) (n : Fin 4) (q : StepReq) (l : List StepReq) (old new : Nat),
      s.runs = true ∧
      ((s.ctx n).stepReq = q :: l ∧ s.armed n = true ∧ s.stepReady n q.pos = true) ∧
      (s.step n = old ∧ (if q.up then old + 1 else old - 1) = new) ∧
      ((((s.sluLog n q.pos 0 new old).setFld (F.ACQ_AC_SLU_STAT.STEP n) new).bump (R.ACQ_AC_SLU_CHANGES n)).setCtx n { ((s.sluLog n q.pos 0 new old).setFld (F.ACQ_AC_SLU_STAT.STEP n) new).ctx n with stepReq := l, rateBit := true, lowTicks := 0, lastStep := some q.pos }) = u ∧
      (match u.decPath (s.ctx n) with | some (.cic, ins) => u.each ins (fun t m => t.restart false q.pos .cic m) | _ => u) = v :=
  ⟨{ wRun.setFlag (F.ACQ_AC_STAT.ARMED 1) true with acq := { ctxs := [(1, { stepReq := [⟨true, 0, 0⟩] })] } }, _, _, 1, ⟨true, 0, 0⟩, [], _, _, by decide +kernel, by decide +kernel, ⟨rfl, rfl⟩, rfl, rfl⟩

theorem test_witness_SluiceAndGaps_5 :
    ∃ (s : State) (n : Fin 4),
      s.runs = true :=
  ⟨wUp, 1, by decide +kernel⟩

theorem test_witness_SluiceAndGaps_6_0 :
    ∃ (s : State) (n : Fin 4),
      s.runs = true ∧
      s.armed n = true ∧
      s.gapOpen n = false ∧
      s.streamFull n = true :=
  ⟨{ wRun.setFlag (F.ACQ_AC_STAT.ARMED 1) true with acq := { ctxs := [(1, { streaming := true })] } }, 1, by decide +kernel, by decide +kernel, by decide +kernel, by decide +kernel⟩

theorem test_witness_SluiceAndGaps_7_0 :
    ∃ (s : State) (n : Fin 4), ∃ i sec,
      s.runs = true ∧
      s.armed n = true ∧
      (s.ctx n).streaming = true ∧
      s.flag (F.ACQ_AC_SLU_CTL.SEC_REC n) = true ∧
      s.frozen = false ∧
      64 ≤ s.logFree n ∧
      s.secondStrobe = some (i, sec) :=
  ⟨{ (((part wRun 0 3 0 1).setReg R.TIME_INC_LO 0x6DF37F67).setFlag (F.ACQ_AC_STAT.ARMED 1) true).setFlag (F.ACQ_AC_SLU_CTL.SEC_REC 1) true with acq := { ctxs := [(1, { streaming := true })] }, time := { tide := 2 ^ 64, idx := 192 } }, 1, 192, 1, by decide +kernel, by decide +kernel, by decide +kernel, by decide +kernel, by decide +kernel, by decide +kernel, by decide +kernel⟩

theorem test_witness_SluiceAndGaps_8 :
    ∃ (s t u : State) (n i : Nat),
      (((s.pushLog n (sluiceRecord n i 1 (s.step n) (s.step n) (s.lineCount n)) true).setFlag (F.ACQ_AC_SLU_STAT.GAP_OPEN n) true).setFlag (F.ACQ_AC_SLU_STAT.GAP_SEEN n) true).bump (R.ACQ_AC_GAPS n) = t ∧
      (t.setCtx n { t.ctx n with gapStart := i, lowTicks := 0, phases := [] }).raise 166 n (t.routeCtx n) = u :=
  ⟨wUp, _, _, 1, 5, rfl, rfl⟩

theorem test_witness_HarvestsAndReleases_1_2 :
    ∃ (s u : State) (r : Fin 64) (d : Desc) (k : Nat) (h : Harvest),
      s.starts r 0x20 d = true ∧
      s.begin r d = u ∧
      d.begun.f 2 0 4 = k ∧
      (⟨d.seq, d.ring, .range, 0, k, 0, d.begun.f 5 0 31, d.begun.f 6 0 31, false, false, dw64 d.dw 8, u.ptBase k + d.begun.f 3 0 31, u.regionLen d.begun⟩ : Harvest) = h ∧
      rangeBad d.begun 0 = false ∧
      u.ptValid k = true ∧
      u.regionBad d.begun = false ∧
      u.ptType k ≠ 6 ∧
      u.ptOwner k = u.ringOwner d.ring :=
  ⟨withD (part wUp 3 0 0 1) 0 [0xF0020, 0, 3, 0, 16, 0, 1], _, 0, descAt 0 [0xF0020, 0, 3, 0, 16, 0, 1], _, _, by decide +kernel, rfl, rfl, rfl, by decide +kernel, by decide +kernel, by decide +kernel, by decide +kernel, by decide +kernel⟩

theorem test_witness_HarvestsAndReleases_2_2 :
    ∃ (s u : State) (r : Fin 64) (d : Desc) (h : Harvest),
      s.starts r 0x21 d = true ∧
      s.begin r d = u ∧
      (⟨d.seq, d.ring, .stream, d.begun.context, d.begun.f 2 0 5, (u.ctx d.begun.context).arms, 0, d.begun.n 3, true, false, dw64 d.dw 8, (u.targetSpan d.begun.context (d.begun.f 2 0 5)).1, (u.targetSpan d.begun.context (d.begun.f 2 0 5)).2⟩ : Harvest) = h ∧
      u.streamHarvBad d.begun = false ∧
      d.begun.f 2 8 1 ≠ 1 :=
  ⟨withD { wRun with acq := { ctxs := [(0, { streaming := true, dw := [0, 0, 0x11] })] } } 0 [0x21, 0, 0, 1], _, 0, descAt 0 [0x21, 0, 0, 1], _, by decide +kernel, rfl, rfl, by decide +kernel, by decide +kernel⟩

theorem test_witness_HarvestsAndReleases_4_0 :
    ∃ (s : State) (r : Fin 64), ∃ h,
      s.runs = true ∧
      s.hif.harvests.find? (fun h => h.ring == r.val && h.waits) = some h :=
  ⟨{ wUp with hif := { harvests := [⟨0, 5, .stream, 0, 0, 0, 0, 1, true, false, 0, 0, 1⟩] } }, 5, ⟨0, 5, .stream, 0, 0, 0, 0, 1, true, false, 0, 0, 1⟩, by decide +kernel, by decide +kernel⟩

theorem test_witness_HarvestsAndReleases_5_0 :
    ∃ (s u : State) (r : Fin 64) (h : Harvest) (d : Desc),
      s.runs = true ∧
      s.pairDrain s.pair.lines.length = u ∧
      (u.hif.harvests.find? (fun h => h.ring == r.val && !h.waits && h.kind != .pair) = some h ∧ u.descOf h.seq = some d) ∧
      u.memActive = true ∧
      u.busMasterOn (u.ringOwner r) = true ∧
      u.harvFirst h = true ∧
      u.readsWait (· == .harvest h.seq) = false :=
  ⟨{ wMem with hif := { busMaster := [0], descs := [descAt 5 [0x20]], harvests := [⟨0, 5, .range, 0, 0, 0, 0, 1, false, false, 0, 0, 1⟩] } }, _, 5, ⟨0, 5, .range, 0, 0, 0, 0, 1, false, false, 0, 0, 1⟩, descAt 5 [0x20], by decide +kernel, rfl, by decide +kernel, by decide +kernel, by decide +kernel, by decide +kernel, by decide +kernel⟩

theorem test_witness_HarvestsAndReleases_6 :
    ∃ (s u : State) (r : Fin 64),
      s.runs = true ∧
      s.pairDrain s.pair.lines.length = u ∧
      u.hif.harvests.find? (fun h => h.ring == r.val && !h.waits && h.kind != .pair) = none :=
  ⟨wUp, _, 5, by decide +kernel, rfl, by decide +kernel⟩

theorem test_witness_HarvestsAndReleases_7 :
    ∃ (s u : State) (r : Fin 64) (d : Desc),
      s.starts r 0x04 d = true ∧
      s.begin r d = u :=
  ⟨withD wUp 5 [0x4], _, 5, descAt 5 [0x4], by decide +kernel, rfl⟩

theorem test_witness_HarvestsAndReleases_8_0 :
    ∃ (s : State) (r : Fin 64), ∃ h d,
      s.runs = true ∧
      s.hif.harvests.find? (fun h => h.ring == r.val && !h.waits && h.kind != .pair) = some h ∧
      s.descOf h.seq = some d ∧
      s.touchesPeer h.haddr h.bytes = true :=
  ⟨{ wUp.setFlag (F.PEER_P2P_BASE_LO.EN 0) true with hif := { descs := [descAt 5 [0x20]], harvests := [⟨0, 5, .range, 0, 0, 0, 0, 1, false, false, 0, 0, 1⟩] } }, 5, ⟨0, 5, .range, 0, 0, 0, 0, 1, false, false, 0, 0, 1⟩, descAt 5 [0x20], by decide +kernel, by decide +kernel, by decide +kernel, by decide +kernel⟩

theorem test_witness_PanDescriptors_1_1 :
    ∃ (s u : State) (r : Fin 64) (d : Desc) (f code : Nat),
      s.starts r 0x31 d = true ∧
      s.begin r d = u ∧
      (d.begun.f 2 0 3 = f ∧ d.begun.f 2 4 2 = code) ∧
      u.attachStatus d.begun = none ∧
      u.gang f = none :=
  ⟨withD w0 5 [0x31, 0, 0, 0, 48, 192], _, 5, descAt 5 [0x31, 0, 0, 0, 48, 192], _, _, by decide +kernel, rfl, ⟨rfl, rfl⟩, by decide +kernel, by decide +kernel⟩

theorem test_witness_PanDescriptors_2_1 :
    ∃ (s u : State) (r : Fin 64) (d : Desc) (f : Nat) (bad : Bool), ∃ g b,
      s.starts r 0x32 d = true ∧
      s.begin r d = u ∧
      d.begun.f 2 0 3 = f ∧
      (!(d.begun.reservedClear 2 [(2, 0x37)]) || u.gangBad d.begun f (d.begun.f 2 4 2) || d.begun.context != 15) = bad ∧
      bad = false ∧
      u.namedGang f (d.begun.f 2 4 2) = some g ∧
      u.filling f = some b :=
  ⟨withD (({ w0 with pan := { gangs := [(0, some {})] } } : State).setFld (F.PAN_STAT.BUF0 0) 1) 5 [0xF0032], _, 5, descAt 5 [0xF0032], _, _, {}, 0, by decide +kernel, rfl, rfl, rfl, by decide +kernel, by decide +kernel, by decide +kernel⟩

theorem test_witness_PanDescriptors_3_2 :
    ∃ (s u : State) (r : Fin 64) (d : Desc) (f : Nat) (bad : Bool), ∃ g,
      s.starts r 0x34 d = true ∧
      s.begin r d = u ∧
      d.begun.f 2 0 3 = f ∧
      (!(d.begun.reservedClear 2 [(2, 0x37)]) || u.gangBad d.begun f (d.begun.f 2 4 2) || d.begun.context != 15) = bad ∧
      bad = false ∧
      u.namedGang f (d.begun.f 2 4 2) = some g :=
  ⟨{ withD w0 5 [0xF0034] with pan := { gangs := [(0, some {})] } }, _, 5, descAt 5 [0xF0034], _, _, {}, by decide +kernel, rfl, rfl, rfl, by decide +kernel, by decide +kernel⟩

theorem test_witness_PanDescriptors_4_2 :
    ∃ (s u : State) (r : Fin 64) (d : Desc) (f code : Nat) (bad : Bool), ∃ g,
      s.starts r 0x33 d = true ∧
      s.begin r d = u ∧
      (d.begun.f 2 0 3 = f ∧ d.begun.f 2 4 2 = code) ∧
      (!(d.begun.reservedClear 2 [(2, 0x337), (4, 0xFFFFFFFF), (5, 0xFFFFFFFF), (6, 0xFFFFFFFF)]) || u.gangBad d.begun f code || d.begun.context != 15 || dw64 d.begun.dw 4 % 64 != 0) = bad ∧
      bad = false ∧
      u.namedGang f code = some g ∧
      ((d.begun.f 2 8 1 ≠ 1 ∨ asgPing g.dw = true)) ∧
      (if u.bufState f (d.begun.f 2 8 1) = 0 then { g.buf (d.begun.f 2 8 1) with dw := g.dw } else g.buf (d.begun.f 2 8 1)).bytes ≤ d.begun.n 6 :=
  ⟨withD (({ w0 with pan := { gangs := [(0, some {})] } } : State).setFld (F.PAN_STAT.BUF0 0) 3) 5 [0xF0033, 0, 0, 0, 0, 0, 0x40], _, 5, descAt 5 [0xF0033, 0, 0, 0, 0, 0, 0x40], _, _, _, {}, by decide +kernel, rfl, ⟨rfl, rfl⟩, rfl, by decide +kernel, by decide +kernel, by decide +kernel, by decide +kernel⟩

theorem test_witness_PanDescriptors_5_2 :
    ∃ (s u : State) (r : Fin 64) (d : Desc) (f : Nat) (bad : Bool), ∃ g,
      s.starts r 0x35 d = true ∧
      s.begin r d = u ∧
      d.begun.f 2 0 3 = f ∧
      (!(d.begun.reservedClear 2 [(2, 0x137)]) || u.gangBad d.begun f (d.begun.f 2 4 2) || d.begun.context != 15) = bad ∧
      bad = false ∧
      u.namedGang f (d.begun.f 2 4 2) = some g ∧
      u.bufBusy f (d.begun.f 2 4 2) (d.begun.f 2 8 1) = false :=
  ⟨withD (({ w0 with pan := { gangs := [(0, some {})] } } : State).setFld (F.PAN_STAT.BUF0 0) 3) 5 [0xF0035], _, 5, descAt 5 [0xF0035], _, _, {}, by decide +kernel, rfl, rfl, rfl, by decide +kernel, by decide +kernel, by decide +kernel⟩

theorem test_witness_PanDescriptors_6 :
    ∃ (s u : State) (r : Fin 64) (d : Desc) (pans : List Nat) (bad : Bool),
      s.starts r 0x36 d = true ∧
      s.begin r d = u ∧
      bitsSet (d.begun.f 2 0 8) 8 = pans ∧
      (!(d.begun.reservedClear 2 [(2, 0xFF)]) || d.begun.context != 15 || u.ringOwner d.ring != 0) = bad :=
  ⟨withD w0 5 [0xF0036, 0, 3], _, 5, descAt 5 [0xF0036, 0, 3], _, _, by decide +kernel, rfl, rfl, rfl⟩

theorem test_witness_PanPasses_1 :
    ∃ (s : State) (f : Fin 8) (ws : List (BitVec 16)) (g : Gang) (p : Pass) (rest : List Pass),
      s.runs = true ∧
      (s.gang f = some g ∧ g.passes = p :: rest) :=
  ⟨{ w0 with pan := { gangs := [(3, some { passes := [⟨0, 9⟩] })] } }, 3, [], { passes := [⟨0, 9⟩] }, ⟨0, 9⟩, [], by decide +kernel, by decide +kernel⟩

theorem test_witness_PanPasses_2 :
    ∃ (s t : State) (f n : Nat) (p : Pass) (ws : List (BitVec 16)) (g : Gang) (l : List Int),
      s.gang f = some g ∧
      s.passWords (g.buf p.buf).dw p.t 0 n ws = (l, t) :=
  ⟨{ w0 with pan := { gangs := [(3, some {})] } }, _, 3, 0, ⟨0, 9⟩, [], {}, _, by decide +kernel, rfl⟩

theorem test_witness_PanPasses_3 :
    ∃ (s : State) (f : Nat) (g : Gang),
      s.gang f = some g :=
  ⟨{ w0 with pan := { gangs := [(3, some {})] } }, 3, {}, by decide +kernel⟩

theorem test_witness_PanPasses_4 :
    ∃ (s : State) (f : Fin 8) (ws : List (BitVec 16)),
      s.runs = true ∧
      (s.gang f = none ∨ ∃ g, s.gang f = some g ∧ g.passes = []) :=
  ⟨w0, 3, [], by decide +kernel, Or.inl (by decide +kernel)⟩

theorem test_witness_PanPasses_6 :
    ∃ (s u : State) (r : Fin 64) (d : Desc) (f b : Nat) (g : Gang) (clear : Bool) (data : List Word),
      s.runs = true ∧
      (s.running r 0x33 = some d ∧ s.gangWhere (fun g => g.harvests.any (fun e => e.1 == d.seq)) = some (f, g)) ∧
      g.harvests.find? (fun e => e.1 == d.seq) = some (d.seq, b, clear) ∧
      (g.buf b).header f g.code b ++ (g.buf b).cellList = data ∧
      ((((s.postData (s.ringOwner r) (dw64 d.dw 4) data).flushReads (s.ringOwner r) (dw64 d.dw 4) (4 * data.length)).setGang f (some { g with harvests := g.harvests.filter (fun e => e.1 != d.seq) })).finish d .ok [BitVec.ofNat 32 (g.buf b).bytes]) = u :=
  ⟨{ w0 with hif := { busMaster := [0], descs := [(descAt 5 [0xF0033]).begun] }, pan := { gangs := [(0, some { harvests := [(0, 0, true)] })] } }, _, 5, (descAt 5 [0xF0033]).begun, 0, 0, { harvests := [(0, 0, true)] }, true, _, by decide +kernel, by decide +kernel, by decide +kernel, rfl, rfl⟩

theorem test_witness_PanPasses_7 :
    ∃ (s : State) (r : Fin 64),
      s.runs = true ∧
      s.running r 0x33 = none :=
  ⟨w0, 5, by decide +kernel, by decide +kernel⟩

theorem test_witness_PanPasses_8 :
    ∃ (s : State) (r : Fin 64) (d : Desc) (f b q : Nat) (g : Gang),
      s.runs = true ∧
      (s.running r 0x35 = some d ∧ s.gangWhere (fun g => g.clears.any (fun e => e.1 == d.seq)) = some (f, g)) ∧
      g.clears.find? (fun e => e.1 == d.seq) = some (q, b) :=
  ⟨{ w0 with hif := { descs := [(descAt 5 [0xF0035]).begun] }, pan := { gangs := [(0, some { clears := [(0, 0)] })] } }, 5, (descAt 5 [0xF0035]).begun, 0, 0, 0, { clears := [(0, 0)] }, by decide +kernel, by decide +kernel, by decide +kernel⟩

theorem test_witness_PanPasses_9 :
    ∃ (s : State) (r : Fin 64) (fails : List Nat) (q rg m : Nat),
      s.runs = true ∧
      s.pan.tests.find? (fun e => e.2.1 == r.val) = some (q, rg, m) :=
  ⟨{ w0 with pan := { tests := [(0, 5, 3)] } }, 5, [], 0, 5, 3, by decide +kernel, by decide +kernel⟩

theorem test_witness_PanPasses_10_1 :
    ∃ (s u : State) (k : Fin 8) (bank : Fin 48) (cell : Fin 43692) (dbl : Bool), ∃ f g b c,
      s.runs = true ∧
      (if dbl then (((s.bumpSat (F.PAN_ECC.UNCORR k) 1).setFlag (F.PAN_FLAGS.ECC_UNC k) true).raise 194 (k + 8 * bank) (s.routeGang k)).fault 0x010F k else ((s.bumpSat (F.PAN_ECC.CORR k) 1).setFlag (F.PAN_FLAGS.ECC_CORR k) true).fault 0x0009 k) = u ∧
      u.gangOf k = some (f, g) ∧
      cellPlace g (u.splitBanks f g) f k bank cell = (b, c) :=
  ⟨{ w0 with pan := { gangs := [(3, some {})] } }, _, 3, 5, 7, true, 3, {}, 0, 341, by decide +kernel, rfl, by decide +kernel, by decide +kernel⟩

theorem test_witness_MemoryConfiguration_1 :
    ∃ (s : State) (j : Fin 10) (v : Word),
      s.runs = true ∧
      s.reachable (hashFld j).off = true :=
  ⟨wUp, 3, 9, by decide +kernel, by decide +kernel⟩

theorem test_witness_MemoryConfiguration_2 :
    ∃ (s u : State) (k : Fin 16) (r : Fin 3) (v : Word) (good : Bool),
      s.runs = true ∧
      s.reachable (R.MEM_PT_BASE k) = true ∧
      s.plainWrite (R.MEM_PT_BASE k + 4 * r.val) v = u ∧
      s.ptGood k (u.ptBase k) (u.ptLen k) (u.reg (R.MEM_PT_CFG k)).toNat = good :=
  ⟨wUp, _, 3, 0, 9, _, by decide +kernel, by decide +kernel, rfl, rfl⟩

theorem test_witness_MemoryConfiguration_3 :
    ∃ (s u : State) (p : Fin 8) (m : Option Nat),
      s.runs = true ∧
      (s.setFlag (F.MEM_PORT_STAT.PANIC p) true).bump (R.MEM_PORT_PANICS p) = u :=
  ⟨wUp, _, 3, none, by decide +kernel, rfl⟩

theorem test_witness_MemoryConfiguration_4_0 :
    ∃ (s : State) (pc : Fin 64) (wait : Nat) (ov rt anyp idle due : Option Nat) (round : Option (Nat × State)) (busy : List Nat),
      s.runs = true ∧
      (List.range 48).find? (fun b => Nat.blt (s.fld (limitFld (pc.val / 32))) (s.refCount pc b)) = ov ∧
      (s.firstPort ((s.portsFor pc).filter (fun p => Nat.blt p 4 && s.panics p)) = rt ∧ s.firstPort ((s.portsFor pc).filter s.panics) = anyp) ∧
      (s.bufferedLines.map (·.1) ++ s.mem.reads.map (·.line)).filterMap (fun l => if s.pcOf l == pc.val then some (s.bank48 l) else none) = busy ∧
      ((List.range 48).find? (fun b => s.refCount pc b != 0 && !(busy.contains b)) = idle ∧ (List.range 48).find? (fun b => s.refCount pc b != 0) = due) ∧
      s.roundPort pc (s.portsFor pc) = round ∧
      s.clk.memNext = none ∧
      s.memActive = true :=
  ⟨{ wMem with mem := { refBase := [(0, 20)] } }, 3, 7, some 0, none, none, some 0, some 0, none, _, by decide +kernel, by decide +kernel, by decide +kernel, rfl, by decide +kernel, by decide +kernel, by decide +kernel, by decide +kernel⟩

theorem test_witness_MemoryConfiguration_5 :
    ∃ (s : State) (pc p wait : Nat) (slots : List WbSlot) (e : Nat × Nat),
      (s.waitingLines pc).find? (fun e => e.2 == p) = some e ∧
      (s.mem.slots.foldl (fun (a : List WbSlot × Bool) x => if !a.2 && x.group == e.1 / 16 && x.lines.contains (e.1 % 16, p) then (a.1 ++ [{ x with lines := x.lines.filter (fun y => y != (e.1 % 16, p)), draining := true }], true) else (a.1 ++ [x], a.2)) ([], false)).1.filter (fun x => !x.lines.isEmpty) = slots :=
  ⟨{ wUp with mem := { slots := [⟨0, [(3, 1)], false⟩] } }, 3, 1, 7, _, (3, 1), by decide +kernel, rfl⟩

theorem test_witness_MemoryConfiguration_6 :
    ∃ (s : State) (pc p wait : Nat) (r : MemRead),
      (s.waitingLines pc).find? (fun e => e.2 == p) = none ∧
      (s.waitingReads pc).find? (fun r => r.port == p) = some r :=
  ⟨{ wUp with mem := { reads := [⟨4, 3, .harvest 0⟩] } }, 3, 4, 7, ⟨4, 3, .harvest 0⟩, by decide +kernel, by decide +kernel⟩

theorem test_witness_RefreshAndTraining_1_0 :
    ∃ (s u : State) (k : Fin 2),
      s.runs = true ∧
      { s with mem := { s.mem with refBase := SMap.set zero s.mem.refBase k (SMap.get zero s.mem.refBase k + 1) } } = u ∧
      s.memActive = true :=
  ⟨wMem, _, 1, by decide +kernel, rfl, by decide +kernel⟩

theorem test_witness_RefreshAndTraining_2 :
    ∃ (s u : State) (k : Fin 2) (x : BitVec 8),
      s.runs = true ∧
      s.setFld (tempFld k) x.toNat = u :=
  ⟨wUp, _, 1, 9, by decide +kernel, rfl⟩

theorem test_witness_RefreshAndTraining_3_0 :
    ∃ (s : State) (idle : Bool),
      s.runs = true ∧
      (s.flag F.MEM_CTL.SR_AUTO && s.memActive && !s.anyArmed && !s.playing && !s.memRequested && !(s.flag F.CLK_STAT.RATE_CHANGING)) = idle ∧
      idle = true :=
  ⟨wLive.setFlag F.MEM_CTL.SR_AUTO true, _, by decide +kernel, rfl, by decide +kernel⟩

theorem test_witness_RefreshAndTraining_4_0 :
    ∃ (s : State),
      s.runs = true ∧
      s.flag F.MEM_STAT.SR = true ∧
      s.flag F.MEM_STAT.SR_FAULT = false :=
  ⟨wUp.setFlag F.MEM_STAT.SR true, by decide +kernel, by decide +kernel, by decide +kernel⟩

theorem test_witness_RefreshAndTraining_5 :
    ∃ (s u v : State) (found : Option Int) (pc : Nat),
      s.runs = true ∧
      (s.canTrain = true ∧ s.flag F.MEM_CTL.RETRAIN_EN = true ∧ s.mem.offsetPc = none) ∧
      (s.mem.trnPc.getD s.nextPc = pc ∧ s.stepWaits pc = false) ∧
      (if s.mem.trnPc.isNone && pc == s.fld F.MEM_TRN_STAT.NEXT_PC then s.setFld F.MEM_TRN_STAT.NEXT_PC (pc + 1) else s) = u ∧
      (match found with | some x => (({ u with mem := { u.mem with trnPc := some pc, trnStep := s.mem.trnStep + 1 } }).testLine pc s.mem.trnStep).trainSet pc s.mem.trnStep x | none => (({ u with mem := { u.mem with trnPc := some pc, trnStep := s.mem.trnStep + 1 } }).testLine pc s.mem.trnStep).trainFail pc) = v :=
  ⟨((wUp.setFlag F.MEM_STAT.ACTIVE true).setFlag F.MEM_CTL.RETRAIN_EN true).setReg (R.MEM_PT_CFG 0) 0x80000006#32, _, _, none, _, by decide +kernel, by decide +kernel, ⟨rfl, by decide +kernel⟩, rfl, rfl⟩

theorem test_witness_RefreshAndTraining_6 :
    ∃ (s : State) (found : Option Int) (l : List (Option Int)),
      s.runs = true :=
  ⟨wUp, none, [], by decide +kernel⟩

theorem test_witness_RefreshAndTraining_7 :
    ∃ (s u : State) (found : List (Option Int)) (pc : Nat),
      s.runs = true ∧
      (s.mem.offsetPc = some pc ∧ s.canTrain = true) ∧
      (s.each (List.range 32) (fun t c => match found.getD c none with | some x => (t.testLine pc c).offsetSet pc c x | none => (t.testLine pc c).trainFail pc)).trainDone pc = u :=
  ⟨{ (wUp.setFlag F.MEM_STAT.ACTIVE true).setReg (R.MEM_PT_CFG 0) 0x80000006#32 with mem := { offsetPc := some 5 } }, _, [], 5, by decide +kernel, by decide +kernel, rfl⟩

theorem test_witness_RefreshAndTraining_8 :
    ∃ (s u v w : State) (l : Nat) (p : Fin 8) (wd : Fin 4) (sy : BitVec 8),
      s.runs = true ∧
      l < memLines ∧
      (s.bumpSat F.MEM_ECC_CE.V 1).eccLog false l p wd sy.toNat = u ∧
      (if (match u.mem.eccAt with | some t => decide (t + millisecond ≤ u.time.elapsed) | none => true) then ({ u with mem := { u.mem with eccAt := some u.time.elapsed } }).raisePF 196 l else u) = v ∧
      v.fault 0x0007 (s.pcOf l) = w :=
  ⟨wUp, _, _, _, 5, 1, 2, 3, by decide +kernel, by decide +kernel, rfl, rfl, rfl⟩

theorem test_witness_RefreshAndTraining_9 :
    ∃ (s u : State) (l : Nat) (p : Fin 8) (wd : Fin 4) (sy : BitVec 8),
      s.runs = true ∧
      l < memLines ∧
      ((s.bumpSat F.MEM_ECC_UE.V 1).raisePF 197 l).eccLog true l p wd sy.toNat = u :=
  ⟨wUp, _, 5, 1, 2, 3, by decide +kernel, by decide +kernel, rfl⟩

theorem test_witness_CaptureMemoryLines_1 :
    ∃ (s : State) (p l x : Nat),
      l < memLines :=
  ⟨wUp, 1, 5, 9, by decide +kernel⟩

theorem test_witness_LinkAndWindow_1_0 :
    ∃ (s u : State) (p : BitVec 64) (n : Nat),
      s.runs = true ∧
      (s.ringsLost p.toNat n []).hifReset true = u ∧
      s.hif.linkUp = true :=
  ⟨{ wUp with hif := { linkUp := true } }, _, 0, 0, by decide +kernel, rfl, by decide +kernel⟩

theorem test_witness_LinkAndWindow_2 :
    ∃ (s u v : State) (sp : Fin 16) (w : Fin 32),
      s.runs = true ∧
      ((if s.hif.linkUp = false ∧ s.flag F.HIF_STAT.LINK_LOST = true then s.hifReset true else s) = u) ∧
      ({ u with hif := { u.hif with linkUp := true } }) = v :=
  ⟨wUp, _, _, 4, 8, by decide +kernel, rfl, rfl⟩

theorem test_witness_LinkAndWindow_3 :
    ∃ (s u : State),
      s.runs = true ∧
      (s.ringsLost 0 0 [0x42, 0x52]).hifReset true = u :=
  ⟨wUp, _, by decide +kernel, rfl⟩

theorem test_witness_LinkAndWindow_4 :
    ∃ (s u : State) (f v : Fin 9),
      s.runs = true ∧
      { s with hif := { s.hif with numVfs := if s.flag F.GLB_STAT.COMPAT_BALL then 0 else v } } = u :=
  ⟨wUp, _, 1, 2, by decide +kernel, rfl⟩

theorem test_witness_LinkAndWindow_5_1 :
    ∃ (s u : State) (f : Fin 9) (p : BitVec 64) (n : Nat),
      s.runs = true ∧
      (List.range 9).foldl (fun t g => t.funcReset g p.toNat n) s = u ∧
      f.val ≠ 0 ∧
      f.val ≤ s.hif.numVfs ∧
      f.val ∉ s.hif.inFlr :=
  ⟨{ wUp with hif := { numVfs := 2 } }, _, 1, 0, 0, by decide +kernel, rfl, by decide +kernel, by decide +kernel, by decide +kernel⟩

theorem test_witness_LinkAndWindow_6_0 :
    ∃ (s : State) (f : Fin 9),
      s.runs = true ∧
      f.val ∈ s.hif.inFlr :=
  ⟨{ wUp with hif := { inFlr := [3] } }, 3, by decide +kernel, by decide +kernel⟩

theorem test_witness_LinkAndWindow_7_0 :
    ∃ (s t : State) (o n a : Nat) (ls : List Nat),
      s.runs = true ∧
      32 * (s.fld F.HIF_BAR4_BASE.BASE * 2048) + o % 2 ^ 32 / 4 * 4 = a ∧
      (List.range (ceilDiv (a % 32 + 4 * n) 32)).map (· + a / 32) = ls ∧
      { s with mem := { s.mem with reads := s.mem.reads ++ (ls.filter s.hasEntry).map (fun l => ⟨6, l, .bar4 a n⟩) } } = t ∧
      s.memActive = true ∧
      ((∀ l ∈ ls, s.hasEntry l = false)) :=
  ⟨wMem, _, 8, 2, _, _, by decide +kernel, rfl, rfl, rfl, by decide +kernel, by decide +kernel⟩

theorem test_witness_LinkAndWindow_8_2 :
    ∃ (s : State) (o a : Nat) (data b : List Byte),
      s.runs = true ∧
      32 * (s.fld F.HIF_BAR4_BASE.BASE * 2048) + o % 2 ^ 32 = a ∧
      data.take (32 * memLines - a) = b ∧
      b ≠ [] ∧
      s.firstInUse (a / 32) ((a + b.length - 1) / 32 - a / 32 + 1) = none :=
  ⟨wUp, 8, 8, [1], [1], by decide +kernel, by decide +kernel, by decide +kernel, by decide +kernel, by decide +kernel⟩

theorem test_witness_LinkAndWindow_9_0 :
    ∃ (s : State), ∃ a n l,
      s.runs = true ∧
      s.hif.bar4 = (a, n) :: l ∧
      s.flag F.MEM_STAT.SR_FAULT = true :=
  ⟨{ wUp.setFlag F.MEM_STAT.SR_FAULT true with hif := { bar4 := [(0, 1)] } }, 0, 1, [], by decide +kernel, by decide +kernel, by decide +kernel⟩

theorem test_witness_DescriptorRings_1_0 :
    ∃ (s u : State) (f : Fin 9) (r : Fin 64) (v w : Word),
      s.runs = true ∧
      s.ringValue f r (v ||| 0x80000000#32) = w ∧
      ((f.val = 0 ∨ f.val = s.ringOwner r) ∧ s.ringEn r = false) ∧
      ((((s.plainWrite (R.HIF_RING_CTL r) w).setReg (R.HIF_RING_PTR r) 0).setFlag (F.HIF_RING_STAT.PHASE r) true).setFlag (F.HIF_RING_STAT.FETCH_ERR r) false).setFlag (F.HIF_RING_STAT.RUNNING r) true = u ∧
      getBits w 30 1 = 0 ∧
      s.enableRefused r w = false :=
  ⟨wUp.setFlag F.CFG_STAT.READY true, _, 0, 3, 0, _, by decide +kernel, rfl, by decide +kernel, rfl, by decide +kernel, by decide +kernel⟩

theorem test_witness_DescriptorRings_2 :
    ∃ (s : State) (f : Fin 9) (r : Fin 64) (v : Word) (p : BitVec 64) (n : Nat),
      s.runs = true ∧
      (f.val ≠ 0 ∧ f.val ≠ s.ringOwner r) :=
  ⟨wUp, 3, 0, 0, 0, 0, by decide +kernel, by decide +kernel⟩

theorem test_witness_DescriptorRings_3 :
    ∃ (s : State) (f : Fin 9) (r : Fin 64) (y a v : Word) (p : BitVec 64) (n k m : Nat) (c : Instr),
      s.runs = true ∧
      ((c = .ringEnable f r y ∧ a = y ||| 0x80000000#32 ∧ k = 0 ∧ m = 0) ∨ (c = .ringDisable f r y ∧ a = y &&& 0x3FFFFFFF#32 ∧ k = 0 ∧ m = 0) ∨ (c = .ringAbort f r y p n ∧ a = putBits y 30 2 1 ∧ k = p.toNat ∧ m = n)) ∧
      s.ringValue f r a = v ∧
      (f.val = 0 ∨ f.val = s.ringOwner r) :=
  ⟨wUp, 0, 3, 0, _, _, 0, 0, 0, 0, .ringDisable 0 3 0, by decide +kernel, Or.inr (Or.inl ⟨rfl, rfl, rfl, rfl⟩), rfl, Or.inl rfl⟩

theorem test_witness_DescriptorRings_4 :
    ∃ (s u v x : State) (f : Fin 9) (r : Fin 64) (y z : Word) (p : BitVec 64) (n : Nat),
      s.runs = true ∧
      ((f.val = 0 ∨ f.val = s.ringOwner r) ∧ s.ringEn r = true) ∧
      ((s.ringValue f r (y &&& 0x3FFFFFFF#32) ^^^ s.reg (R.HIF_RING_CTL r)) &&& ringSetup) = 0 ∧
      (s.ringValue f r (putBits y 30 2 1) = z ∧ ((z ^^^ s.reg (R.HIF_RING_CTL r)) &&& ringSetup) = 0) ∧
      (((s.plainWrite (R.HIF_RING_CTL r) (s.ringValue f r (y &&& 0x3FFFFFFF#32))).setFlag (F.HIF_RING_STAT.RUNNING r) false).setFlag (F.HIF_RING_STAT.CQ_STALL r) false).setFlag (F.HIF_RING_STAT.DRAINING r) true = u ∧
      (((s.plainWrite (R.HIF_RING_CTL r) z).setFlag (F.HIF_RING_STAT.RUNNING r) false).setFlag (F.HIF_RING_STAT.CQ_STALL r) false).setFlag (F.HIF_RING_STAT.DRAINING r) true = v ∧
      (({ v with hif := { v.hif with abortedRings := if v.hif.abortedRings.contains r.val then v.hif.abortedRings else r.val :: v.hif.abortedRings } }).setFlag (F.HIF_RING_STAT.ABORTING r) true).abortAll r p.toNat n [] = x :=
  ⟨wUp.setReg (R.HIF_RING_CTL 3) 0x80000000#32, _, _, _, 0, 3, 0, _, 0, 0, by decide +kernel, ⟨by decide +kernel, by decide +kernel⟩, by decide +kernel, ⟨rfl, by decide +kernel⟩, rfl, rfl, rfl⟩

theorem test_witness_DescriptorRings_5 :
    ∃ (s : State) (r p n : Nat) (d e : Desc),
      s.descOf d.seq = some e :=
  ⟨withD wUp 5 [0xF0060], 5, 0, 0, descAt 5 [0xF0060], descAt 5 [0xF0060], by decide +kernel⟩

theorem test_witness_DescriptorRings_6_0 :
    ∃ (s u : State) (r : Fin 64),
      s.runs = true ∧
      (s.setFlag (F.HIF_RING_STAT.DRAINING r) false).setFlag (F.HIF_RING_STAT.ABORTING r) false = u ∧
      s.flag (F.HIF_RING_STAT.DRAINING r) = true ∧
      ((∀ d ∈ s.hif.descs, d.ring ≠ r.val)) ∧
      ((∀ w ∈ s.hif.waiting, w.ring ≠ r.val)) :=
  ⟨wUp.setFlag (F.HIF_RING_STAT.DRAINING 3) true, _, 3, by decide +kernel, rfl, by decide +kernel, by decide +kernel, by decide +kernel⟩

theorem test_witness_DescriptorRings_7_0 :
    ∃ (s : State) (f : Fin 9) (r : Fin 64) (v : Word),
      s.runs = true ∧
      f.val = s.ringOwner r ∧
      v.toNat < s.ringSize r ∧
      s.ringType r ≠ 2 ∧
      s.ringEn r = true :=
  ⟨wUp.setReg (R.HIF_RING_CTL 3) 0x80000000, 0, 3, 5, by decide +kernel, by decide +kernel, by decide +kernel, by decide +kernel, by decide +kernel⟩

theorem test_witness_DescriptorRings_8_0 :
    ∃ (s u : State) (f : Fin 9) (r : Fin 64) (v : Word) (n : Nat),
      s.runs = true ∧
      (v.toNat + s.ringSize r - SMap.get zero s.hif.cqHead r) % s.ringSize r = n ∧
      { s with hif := { s.hif with cqHead := SMap.set zero s.hif.cqHead r v.toNat, cqUsed := SMap.set zero s.hif.cqUsed r (SMap.get zero s.hif.cqUsed r - n) } } = u ∧
      f.val = s.ringOwner r ∧
      v.toNat < s.ringSize r ∧
      n ≤ SMap.get zero s.hif.cqUsed r :=
  ⟨wUp, _, 0, 3, 0, _, by decide +kernel, rfl, rfl, by decide +kernel, by decide +kernel, by decide +kernel⟩

theorem test_witness_DescriptorRings_9_3 :
    ∃ (s u v : State) (r : Fin 64) (err : Bool) (ws : List Word) (d : Desc),
      s.runs = true ∧
      ({ ring := r, seq := s.hif.nextSeq, dw := ((ws ++ List.replicate 16 0).take (if s.ringV1 r then 8 else 16) ++ List.replicate 8 0).take 16, started := false, refused := none } : Desc) = d ∧
      (s.setFld (F.HIF_RING_PTR.SQ_HEAD r) ((s.fld (F.HIF_RING_PTR.SQ_HEAD r) + 1) % s.ringSize r)).setFlag (F.HIF_RING_STAT.CQ_STALL r) false = u ∧
      { u with hif := { u.hif with nextSeq := s.hif.nextSeq + 1, descs := s.hif.descs ++ [{ d with refused := s.fetchRefusal r d }] } } = v ∧
      s.mayFetch r = true ∧
      err = false ∧
      s.slotsOf r (getBits (dwAt ws 0) 0 8) ≤ s.cqRoom r :=
  ⟨{ wUp.setReg (R.HIF_RING_CTL 3) 0x80000000 with hif := { sqTail := [(3, 1)], busMaster := [0] } }, _, _, 3, false, [0x260], _, by decide +kernel, rfl, rfl, rfl, by decide +kernel, by decide +kernel, by decide +kernel⟩

theorem test_witness_DescriptorRings_10_0 :
    ∃ (s : State) (r : Fin 64),
      s.runs = true ∧
      s.flag (F.HIF_RING_IRQ.IRQ_EN r) = true ∧
      s.coalDue r = true ∧
      s.busMasterOn (s.ringOwner r) = true ∧
      s.fld (F.HIF_RING_IRQ.VECTOR r) ≤ (if s.ringOwner r = 0 then 63 else 7) :=
  ⟨{ (wUp.setFlag (F.HIF_RING_IRQ.IRQ_EN 5) true).setFld (F.HIF_RING_IRQ.COAL_TIME 5) 1 with hif := { uncovered := [(5, 1)], busMaster := [0] }, time := { elapsed := 2 ^ 64 } }, 5, by decide +kernel, by decide +kernel, by decide +kernel, by decide +kernel, by decide +kernel⟩

theorem test_witness_CompletionFrame_1 :
    ∃ (s : State) (d : Desc) (st : Status) (p : List Word),
      d.ring < 64 :=
  ⟨wUp, descAt 5 [0xF0060], .ok, [], by decide +kernel⟩

theorem test_witness_RingNop_1 :
    ∃ (s : State) (r : Fin 64) (d : Desc),
      s.starts r 0x60 d = true :=
  ⟨withD wUp 5 [0xF0060], 5, descAt 5 [0xF0060], by decide +kernel⟩

theorem test_witness_RingNop_2 :
    ∃ (s : State) (r : Fin 64) (d : Desc),
      s.runs = true ∧
      (s.headOf r = some d ∧ d.fence = true) ∧
      ((∃ e ∈ s.hif.descs, e.ring = r.val ∧ e.seq < d.seq) ∨ (∃ w ∈ s.hif.waiting, w.ring = r.val ∧ w.seq < d.seq)) :=
  ⟨{ wUp with hif := { descs := [⟨5, 0, [0xF0020], true, none⟩, ⟨5, 1, [0xF0160], false, none⟩] } }, 5, ⟨5, 1, [0xF0160], false, none⟩, by decide +kernel, by decide +kernel, by decide +kernel⟩

theorem test_witness_EventsArise_2 :
    ∃ (s u : State) (e q : Nat) (fns : List Nat) (x : Option Nat),
      e < 288 ∧
      s.setFlag (seenBit e) true = u :=
  ⟨wUp, _, 5, 1, [0], none, by decide +kernel, rfl⟩

theorem test_witness_EventsArise_3 :
    ∃ (s : State) (e q : Nat) (fns : List Nat) (x : Option Nat),
      e < 288 :=
  ⟨wUp, 5, 1, [0], none, by decide +kernel⟩

theorem test_witness_EventRecords_1 :
    ∃ (l : List EvRec) (e : EvRec),
      nextRec l = some e :=
  ⟨[⟨5, 0, 9, 0, none, 1⟩, ⟨4, 0, 9, 0, none, 1⟩], ⟨4, 0, 9, 0, none, 1⟩, by decide +kernel⟩

theorem test_witness_EventRecords_2 :
    ∃ (s u : State) (e : EvRec),
      s.runs = true ∧
      (nextRec s.ripe = some e ∧ (e ∈ s.ripe ↔ e ∈ s.evt.queue ∧ e.cycle ≠ s.time.cycle)) ∧
      ({ s with evt := { s.evt with queue := dropFirst e s.evt.queue } }).deliver e = u :=
  ⟨{ wUp with evt := { queue := [⟨4, 0, 9, 0, none, 1⟩] } }, _, ⟨4, 0, 9, 0, none, 1⟩, by decide +kernel, ⟨by decide +kernel, by decide +kernel⟩, rfl⟩

theorem test_witness_EventRecords_3 :
    ∃ (s : State),
      s.runs = true ∧
      (∀ e ∈ s.evt.queue, e.cycle = s.time.cycle) :=
  ⟨wUp, by decide +kernel, by decide +kernel⟩

theorem test_witness_EventRecords_4 :
    ∃ (s u : State) (e : EvRec) (rings : List Nat),
      (s.eventRings e.func (e.event / 32)).filter (fun r => some r != e.excl) = rings ∧
      { (if e.tide < s.evt.lastTide then s.setFlag F.EVT_STAT.REORDER_LATE true else s) with evt := { s.evt with lastTide := e.tide } } = u :=
  ⟨wUp, _, ⟨4, 0, 9, 0, none, 1⟩, _, rfl, rfl⟩

theorem test_witness_EventRecords_5 :
    ∃ (s u v : State) (e : EvRec) (r a : Nat),
      ({ s.bump (R.HIF_RING_LOST r) with evt := { s.evt with lost := SMap.set zero s.evt.lost r (SMap.get zero s.evt.lost r + 1) } } : State) = u ∧
      s.cqSlot r (s.fld (F.HIF_RING_PTR.CQ_TAIL r)) 16 = a ∧
      ({ (s.post (s.ringOwner r) (a + 4) (e.qual :: eventTime e.tide)).post (s.ringOwner r) a [BitVec.ofNat 32 (s.fld (F.HIF_RING_STAT.PHASE r) * 2 ^ 31 + satNat 255 (SMap.get zero s.evt.lost r) * 2 ^ 16 + e.event)] with evt := { s.evt with lost := SMap.set zero s.evt.lost r 0 } } : State) = v :=
  ⟨wUp, _, _, ⟨4, 0, 9, 0, none, 1⟩, 3, _, rfl, rfl, rfl⟩

theorem test_witness_EventRecords_6 :
    ∃ (s u : State) (v : Word),
      s.runs = true ∧
      s.plainWrite R.EVT_TEST (v ||| 0x80000000#32) = u :=
  ⟨wUp, _, 5, by decide +kernel, rfl⟩

theorem test_witness_EventRecords_7 :
    ∃ (s u : State) (code inst : Nat),
      (if code < 0x100 then (s.raisePF 277 code).healthCountOpt (faultCounter code) else (((s.raisePF 278 code).healthCount 15).healthCountOpt (faultCounter code)).setFlag F.HLTH_STAT.OUTSIDE true) = u :=
  ⟨wUp, _, 0x105, 3, rfl⟩

theorem test_witness_RegisterAccesses_1 :
    ∃ (s : State) (f : Fin 9) (o w : Nat) (v : BitVec 64),
      s.runs = true :=
  ⟨wUp, 0, 0, 4, 0, by decide +kernel⟩

theorem test_witness_RegisterAccesses_2 :
    ∃ (s : State) (f o a : Nat) (v : Word),
      s.alias o = a :=
  ⟨wUp, 1, 0, _, 0, rfl⟩

theorem test_witness_RegisterAccesses_3 :
    ∃ (s : State) (o : Nat) (v m c : Word) (row : RegRow),
      regRow o = some row ∧
      BitVec.ofNat 32 (row.rw + (if s.anyArmed then 0 else row.rwl)) = m ∧
      BitVec.ofNat 32 row.w1c = c :=
  ⟨wUp, R.EVT_TEST, 5, _, _, _, rfl, rfl, rfl⟩

theorem test_witness_RegisterAccesses_4 :
    ∃ (s : State) (f : Fin 9) (o w : Nat),
      s.runs = true :=
  ⟨wUp, 0, 0, 4, by decide +kernel⟩

theorem test_witness_RegisterAccesses_5 :
    ∃ (s : State) (f o a : Nat),
      s.alias o = a :=
  ⟨wUp, 0, 0, _, rfl⟩

theorem test_witness_RegisterAccesses_6 :
    ∃ (s : State) (v : Word),
      s.runs = true :=
  ⟨wUp, 1, by decide +kernel⟩

theorem test_witness_ResetAndStartUp_1 :
    ∃ (s t : State),
      (match s.cfg.job with | some j => s.abortJob j | none => s) = t :=
  ⟨wUp, _, rfl⟩

theorem test_witness_ResetAndStartUp_2 :
    ∃ (s u : State),
      ({ s with phase := .running } : State) = u :=
  ⟨{ wUp with phase := .held }, _, rfl⟩

theorem test_witness_ResetAndStartUp_3_0 :
    ∃ (s u v : State) (ref : Word),
      s.runs = true ∧
      s.chooseOnce.slotFlags = u ∧
      (match u.pickSlot with | some k => byteDw (u.slotImage k) 6 &&& 0xF#32 | none => 0) = ref ∧
      (match u.pickSlot with | some k => u.applyImage k | none => u.defaulted) = v ∧
      s.fld F.CFG_STAT.STEP ≤ 1 :=
  ⟨w0, _, _, _, by decide +kernel, rfl, rfl, rfl, by decide +kernel⟩

theorem test_witness_ResetAndStartUp_5_0 :
    ∃ (s : State) (gap : Nat),
      s.runs = true ∧
      s.fld F.CFG_STAT.STEP = 3 ∧
      s.locked 2 = true ∧
      s.locked 0 = true :=
  ⟨((w0.setFld F.CFG_STAT.STEP 3).setFlag (F.CLK_SYN_STAT.LOCKED 2) true).setFlag (F.CLK_SYN_STAT.LOCKED 0) true, 0, by decide +kernel, by decide +kernel, by decide +kernel, by decide +kernel⟩

theorem test_witness_ResetAndStartUp_6_0 :
    ∃ (s u v : State) (failed m16 : Nat),
      s.runs = true ∧
      ((presetPairs (((s.trainResult failed).setFld F.CFG_STAT.STEP 5).memCheck.currentImage)).foldl State.preset ((s.trainResult failed).setFld F.CFG_STAT.STEP 5).memCheck) = u ∧
      ((u.setFld F.CFG_STAT.STEP 6).setFlag F.CFG_STAT.READY true).setReg R.CFG_BOOT_MS (BitVec.ofNat 32 m16) = v ∧
      satNat 0xFFFF (u.time.elapsed * 1000 / 2 ^ 64) = m16 ∧
      s.fld F.CFG_STAT.STEP = 4 :=
  ⟨w0.setFld F.CFG_STAT.STEP 4, _, _, 0, _, by decide +kernel, rfl, rfl, rfl, by decide +kernel⟩

theorem test_witness_ResetAndStartUp_7_1 :
    ∃ (s u : State), ∃ k,
      s.runs = true ∧
      s.chooseOnce = u ∧
      u.cfg.restart = some k :=
  ⟨{ w0 with cfg := { restart := some 1, chosen := true } }, _, 1, by decide +kernel, rfl, by decide +kernel⟩

theorem test_witness_ResetAndStartUp_8_2 :
    ∃ (s u : State) (second other : Bool),
      s.runs = true ∧
      (match s.cfg.wdogAt with | some t => Nat.ble s.time.elapsed (t + 60 * 2 ^ 64) | none => false) = second ∧
      (second && s.bankGood (1 - s.fld F.CFG_STAT.FW_BANK)) = other ∧
      ({ ((s.bump R.CFG_WDOG).raisePF 9 0).fault 0x000C 0 with cfg := { (((s.bump R.CFG_WDOG).raisePF 9 0).fault 0x000C 0).cfg with wdogAt := if second then none else some s.time.elapsed } } : State) = u ∧
      s.flag F.CFG_STAT.FW_RUNNING = true ∧
      other = false :=
  ⟨w0.setFlag F.CFG_STAT.FW_RUNNING true, _, _, _, by decide +kernel, rfl, rfl, rfl, by decide +kernel, by decide +kernel⟩

theorem test_witness_StoredConfiguration_1 :
    ∃ (s u : State) (r : Fin 64) (d : Desc) (bad busy : Bool),
      s.starts r 0x63 d = true ∧
      s.begin r d = u ∧
      cfgBad d.begun [(2, 1)] = bad ∧
      (u.flag F.CFG_STAT.FLASH_BUSY || u.fld F.CAL_STAT.FG_ACTIVE != 0 || u.flag F.INP_MODE_STAT.CHANGING || u.flag F.CLK_STAT.RATE_CHANGING) = busy :=
  ⟨withD wUp 5 [0xF0063], _, 5, descAt 5 [0xF0063], _, _, by decide +kernel, rfl, rfl, rfl⟩

theorem test_witness_StoredConfiguration_2_1 :
    ∃ (s u g v w : State) (bad : List (Nat × Byte)) (j : FlashJob) (pay : List Word),
      s.runs = true ∧
      (s.cfg.job = some j ∧ [BitVec.ofNat 32 j.target, BitVec.ofNat 32 (imageGen j.image), BitVec.ofNat 32 j.image.length] = pay) ∧
      s.endJob.program (slotBase j.target) slotSize (patched j.image bad) = u ∧
      (((u.setFlag (slotOkFld j.target) true).setFld F.CFG_STAT.SLOT j.target).setFlag F.CFG_STAT.CFG_DEFAULTED false).setReg R.CFG_GEN (BitVec.ofNat 32 (imageGen j.image)) = g ∧
      (if u.slotGood j.target then g.raisePF 3 (j.target + 2 ^ 8 * (imageGen j.image % 2 ^ 24)) else ((u.setFlag (slotOkFld j.target) false).raisePF 4 j.target).fault 0x000D j.target) = v ∧
      (if u.slotGood j.target then g.raisePF 5 j.target else ((u.setFlag (slotOkFld j.target) false).raisePF 4 j.target).fault 0x000D j.target) = w ∧
      j.kind = 1 :=
  ⟨{ wUp with cfg := { job := some ⟨1, 0, 0, [], false⟩ } }, _, _, _, _, [], ⟨1, 0, 0, [], false⟩, _, by decide +kernel, ⟨rfl, rfl⟩, rfl, rfl, rfl, rfl, by decide +kernel⟩

theorem test_witness_StoredConfiguration_3_3 :
    ∃ (s u : State) (r : Fin 64) (d : Desc) (image b : List Byte) (n : Nat) (bad : Bool),
      s.starts r 0x64 d = true ∧
      s.begin r d = u ∧
      ((d.begun.n 2 = n) ∧ image.take n = b) ∧
      (cfgBad d.begun ((2, 0xFFFFFFFF) :: haddrMasks) || d.begun.f 8 0 6 != 0 || !(lengthOk n)) = bad ∧
      bad = false ∧
      u.flag F.CFG_STAT.FLASH_BUSY = false ∧
      b.length = n ∧
      imageGood b u.identity = true :=
  ⟨withD wUp 5 [0xF0064, 0, 68], _, 5, descAt 5 [0xF0064, 0, 68], image0, _, _, _, by decide +kernel, rfl, ⟨rfl, rfl⟩, rfl, by decide +kernel, by decide +kernel, by decide +kernel, by decide +kernel⟩

theorem test_witness_StoredConfiguration_4_2 :
    ∃ (s u : State) (r : Fin 64) (d : Desc) (n k : Nat) (bad : Bool),
      s.starts r 0x65 d = true ∧
      s.begin r d = u ∧
      (d.begun.f 2 0 1 = k ∧ min (if lengthOk (u.slotLength k) then u.slotLength k else 64) (d.begun.n 3) = n) ∧
      (cfgBad d.begun ((2, 1) :: (3, 0xFFFFFFFF) :: haddrMasks) || d.begun.f 8 0 6 != 0 || decide (d.begun.n 3 < 64)) = bad ∧
      bad = false ∧
      u.flag F.CFG_STAT.FLASH_BUSY = false :=
  ⟨withD wUp 5 [0xF0065, 0, 0, 64], _, 5, descAt 5 [0xF0065, 0, 0, 64], _, _, _, by decide +kernel, rfl, ⟨rfl, rfl⟩, rfl, by decide +kernel, by decide +kernel⟩

theorem test_witness_StoredConfiguration_5_3 :
    ∃ (s u : State) (r : Fin 64) (d : Desc) (image b : List Byte) (n k : Nat) (bad : Bool),
      s.starts r 0x66 d = true ∧
      s.begin r d = u ∧
      (d.begun.n 3 = n ∧ image.take n = b ∧ u.fld F.CFG_STAT.FW_BANK = k) ∧
      (cfgBad d.begun ((2, 1) :: (3, 0xFFFFFFFF) :: haddrMasks) || d.begun.f 8 0 6 != 0 || Nat.blt bankSize n) = bad ∧
      bad = false ∧
      u.flag F.CFG_STAT.FLASH_BUSY = false ∧
      b.length = n ∧
      firmwareGood b = true :=
  ⟨withD wUp 5 [0xF0066, 0, 0, 36], _, 5, descAt 5 [0xF0066, 0, 0, 36], firmware0, _, _, _, _, by decide +kernel, rfl, ⟨rfl, rfl, rfl⟩, rfl, by decide +kernel, by decide +kernel, by decide +kernel, by decide +kernel⟩

theorem test_witness_StoredConfiguration_6 :
    ∃ (s : State) (bad : List (Nat × Byte)),
      s.runs = true :=
  ⟨w0, [], by decide +kernel⟩

theorem test_witness_StoredConfiguration_7_0 :
    ∃ (s u v : State) (bad : List (Nat × Byte)) (j : FlashJob) (good : Bool), ∃ d,
      s.runs = true ∧
      (s.cfg.job = some j ∧ j.kind = 2) ∧
      (s.endJob.program (bankBase j.target) bankSize (patched j.image bad)).showBankGen j.target = u ∧
      u.bankGood j.target = good ∧
      (if good then (if j.restart then u.restartFw j.target false else u) else (u.raisePF 7 j.target).fault 0x000D j.target) = v ∧
      v.descOf j.seq = some d :=
  ⟨{ withD wUp 5 [0xF0066] with cfg := { job := some ⟨2, 0, 0, [], false⟩ } }, _, _, [], ⟨2, 0, 0, [], false⟩, _, descAt 5 [0xF0066], by decide +kernel, ⟨rfl, rfl⟩, rfl, rfl, rfl, by decide +kernel⟩

theorem test_witness_StoredConfiguration_8_2 :
    ∃ (s u : State) (r : Fin 64) (d : Desc) (k : Nat) (bad : Bool),
      s.starts r 0x67 d = true ∧
      s.begin r d = u ∧
      d.begun.f 2 0 1 = k ∧
      cfgBad d.begun [(2, 1)] = bad ∧
      bad = false ∧
      u.flag F.CFG_STAT.FLASH_BUSY = false ∧
      u.bankGood k = true :=
  ⟨{ withD wUp 5 [0xF0067] with cfg := { flash := firmware0.zipIdx.map (fun e => (bankBase 0 + e.2, e.1)) } }, _, 5, descAt 5 [0xF0067], _, _, by decide +kernel, rfl, rfl, rfl, by decide +kernel, by decide +kernel, by decide +kernel⟩

theorem test_witness_StoredConfiguration_9 :
    ∃ (s : State) (a n i : Nat) (b : List Byte),
      b.length ≤ n :=
  ⟨wUp, 0, 4, 1, [3], by decide +kernel⟩

theorem test_witness_ModuleHealth_1 :
    ∃ (s z u v w : State) (k : Fin 10) (x : BitVec 8) (p : BitVec 64) (n : Nat),
      s.runs = true ∧
      ({ s with hlth := { s.hlth with hottest := some (match s.hlth.hottest with | some y => max y (signed 8 x.toNat) | none => signed 8 x.toNat) } } : State) = z ∧
      (if s.sfld (F.HLTH_TEMP.MAX k) < signed 8 x.toNat then (z.setFld (F.HLTH_TEMP.TEMP k) x.toNat).setFld (F.HLTH_TEMP.MAX k) x.toNat else z.setFld (F.HLTH_TEMP.TEMP k) x.toNat) = u ∧
      u.warnStep k x.toNat = v ∧
      v.critStep k x.toNat p.toNat n = w :=
  ⟨wUp, _, _, _, _, 3, 50, 0, 0, by decide +kernel, rfl, rfl, rfl, rfl⟩

theorem test_witness_ModuleHealth_3 :
    ∃ (s u v : State) (k x p n : Nat),
      (if s.allBelow 100 then { s with hlth := { s.hlth with critSeen := false } } else s) = u ∧
      (((({ u with hlth := { u.hlth with critSeen := true } }).setFlag F.HLTH_STAT.CRIT_SEEN true).raise 273 (k + 2 ^ 8 * x) u.routeAll).fault 0x010D k) = v :=
  ⟨wUp, _, _, 3, 50, 0, 0, rfl, rfl⟩

theorem test_witness_ModuleHealth_5_0 :
    ∃ (s : State),
      s.phase = .running ∧
      s.hlth.shutdownDue = true ∧
      s.passed s.hlth.shutAt (nanos 20000) = true :=
  ⟨{ wUp with hlth := { shutdownDue := true }, time := { elapsed := 2 ^ 64 } }, by decide +kernel, by decide +kernel, by decide +kernel⟩

theorem test_witness_ModuleHealth_6 :
    ∃ (s u : State) (r : Fin 11) (mv : BitVec 16),
      s.runs = true ∧
      (s.setFld (F.HLTH_RAIL.V r) mv.toNat).setFlag (F.HLTH_STAT.RAIL.bit r) (railLow r mv.toNat || railHigh r mv.toNat) = u :=
  ⟨wUp, _, 3, 3300, by decide +kernel, rfl⟩

theorem test_witness_ModuleHealth_7_1 :
    ∃ (s u : State),
      s.runs = true ∧
      (({ s with hlth := { s.hlth with hottest := none, secondAt := s.hlth.secondAt + 2 ^ 64 } } : State).setReg64 R.HLTH_AGE_LO (s.reg64 R.HLTH_AGE_LO + ageWeight s.secondMax)).bumpSat F.HLTH_UPTIME.V 1 = u ∧
      s.passed s.hlth.secondAt (2 ^ 64) = true ∧
      s.secondMax < s.warnLimit :=
  ⟨{ wUp with time := { elapsed := 2 ^ 64 } }, _, by decide +kernel, rfl, by decide +kernel, by decide +kernel⟩

theorem test_witness_ModuleHealth_8_0 :
    ∃ (s : State) (a : BitVec 7),
      s.runs = true ∧
      a.toNat = 0x58 ∧
      s.flag F.CFG_STAT.FW_RUNNING = true :=
  ⟨wUp.setFlag F.CFG_STAT.FW_RUNNING true, 0x58, by decide +kernel, by decide +kernel, by decide +kernel⟩

theorem test_witness_ChassisPeers_1 :
    ∃ (s u : State) (o : Fin 9) (x : Word),
      s.runs = true ∧
      s.plainWrite (outReg o) (x ||| 0x20#32) = u :=
  ⟨wUp, _, 3, 22, by decide +kernel, rfl⟩

theorem test_witness_ChassisPeers_2 :
    ∃ (s u : State) (v : Word),
      s.runs = true ∧
      s.plainWrite R.PEER_CTL v = u :=
  ⟨wUp, _, 1, by decide +kernel, rfl⟩

theorem test_witness_ChassisPeers_3_0 :
    ∃ (s u : State), ∃ k,
      s.runs = true ∧
      s.peerState = 1 ∧
      s.since s.peer.listenAt 8000 = true ∧
      s.freeSeat = some k ∧
      (s.setFld F.PEER_STAT.SEAT k).setFld F.PEER_STAT.STATE 2 = u :=
  ⟨{ wUp.setFld F.PEER_STAT.STATE 1 with time := { elapsed := 2 ^ 64 } }, _, 0, by decide +kernel, by decide +kernel, by decide +kernel, by decide +kernel, rfl⟩

theorem test_witness_ChassisPeers_4_0 :
    ∃ (s u v : State) (live : Bool),
      s.runs = true ∧
      (!(s.flag F.CLK_STAT.REF_ABSENT) && s.peerState == 2 && !s.peer.leaving) = live ∧
      s.sendFrame 0 (s.rollPayload s.rollState) = u ∧
      (s.sendFrame 2 (s.rollPayload 0)).peerOff = v ∧
      live = true ∧
      s.rollDue 0 = true ∧
      s.busFree (if s.rollDue 500 then 4 else 72) = true :=
  ⟨{ wUp.setFld F.PEER_STAT.STATE 2 with time := { elapsed := 2 ^ 64 } }, _, _, _, by decide +kernel, rfl, rfl, rfl, by decide +kernel, by decide +kernel, by decide +kernel⟩

theorem test_witness_ChassisPeers_4_2 :
    ∃ (s u v : State) (live : Bool), ∃ x r,
      s.runs = true ∧
      (!(s.flag F.CLK_STAT.REF_ABSENT) && s.peerState == 2 && !s.peer.leaving) = live ∧
      s.sendFrame 0 (s.rollPayload s.rollState) = u ∧
      (s.sendFrame 2 (s.rollPayload 0)).peerOff = v ∧
      live = true ∧
      s.rollDue 500 = false ∧
      s.busFree 4 = true ∧
      s.peer.txq = x :: r :=
  ⟨{ wUp.setFld F.PEER_STAT.STATE 2 with peer := { txq := [⟨0, 0, 0, 0, 0⟩], rolls := 1000 }, time := { elapsed := 2 ^ 64 } }, _, _, _, ⟨0, 0, 0, 0, 0⟩, [], by decide +kernel, rfl, rfl, rfl, by decide +kernel, by decide +kernel, by decide +kernel, by decide +kernel⟩

theorem test_witness_ChassisPeers_4_4 :
    ∃ (s u v : State) (live : Bool),
      s.runs = true ∧
      (!(s.flag F.CLK_STAT.REF_ABSENT) && s.peerState == 2 && !s.peer.leaving) = live ∧
      s.sendFrame 0 (s.rollPayload s.rollState) = u ∧
      (s.sendFrame 2 (s.rollPayload 0)).peerOff = v ∧
      s.peer.leaving = true ∧
      s.flag F.CLK_STAT.REF_ABSENT = false ∧
      s.busFree 72 = true :=
  ⟨{ wUp with peer := { leaving := true }, time := { elapsed := 2 ^ 64 } }, _, _, _, by decide +kernel, rfl, rfl, rfl, by decide +kernel, by decide +kernel, by decide +kernel⟩

theorem test_witness_ChassisPeers_7_2 :
    ∃ (z s t : State) (b p : List Byte) (h : Nat) (c : Instr),
      z.runs = true ∧
      ({ z with peer := { z.peer with busEnd := z.time.elapsed + 0 * 2 ^ 64 / 1000000000 } } : State).ageAll = s ∧
      c ∈ [.rollFrameRx b, .trigFrameRx b, .leaveFrameRx b, .peerFrameReject b] ∧
      (bytesNat ((b.drop 3).take 2) = h ∧ (b.drop 5).take 16 = p) ∧
      s.bump R.PEER_REJECT = t ∧
      s.peerState ≠ 0 ∧
      s.flag F.PEER_CTL.EN = true ∧
      s.flag F.CLK_STAT.REF_ABSENT = false ∧
      frameGood b = true ∧
      h % 16 = 0 :=
  ⟨wPeer, _, _, frame0 0, _, _, .rollFrameRx (frame0 0), by decide +kernel, rfl, by simp, ⟨rfl, rfl⟩, rfl, by decide +kernel, by decide +kernel, by decide +kernel, by decide +kernel, by decide +kernel⟩

theorem test_witness_ChassisPeers_7_3 :
    ∃ (z s t : State) (b p : List Byte) (h : Nat) (c : Instr),
      z.runs = true ∧
      ({ z with peer := { z.peer with busEnd := z.time.elapsed + 0 * 2 ^ 64 / 1000000000 } } : State).ageAll = s ∧
      c ∈ [.rollFrameRx b, .trigFrameRx b, .leaveFrameRx b, .peerFrameReject b] ∧
      (bytesNat ((b.drop 3).take 2) = h ∧ (b.drop 5).take 16 = p) ∧
      s.bump R.PEER_REJECT = t ∧
      s.peerState ≠ 0 ∧
      s.flag F.PEER_CTL.EN = true ∧
      s.flag F.CLK_STAT.REF_ABSENT = false ∧
      frameGood b = true ∧
      h % 16 = 1 :=
  ⟨wPeer, _, _, frame0 1, _, _, .trigFrameRx (frame0 1), by decide +kernel, rfl, by simp, ⟨rfl, rfl⟩, rfl, by decide +kernel, by decide +kernel, by decide +kernel, by decide +kernel, by decide +kernel⟩

theorem test_witness_ChassisPeers_7_4 :
    ∃ (z s t : State) (b p : List Byte) (h : Nat) (c : Instr), ∃ e,
      z.runs = true ∧
      ({ z with peer := { z.peer with busEnd := z.time.elapsed + 0 * 2 ^ 64 / 1000000000 } } : State).ageAll = s ∧
      c ∈ [.rollFrameRx b, .trigFrameRx b, .leaveFrameRx b, .peerFrameReject b] ∧
      (bytesNat ((b.drop 3).take 2) = h ∧ (b.drop 5).take 16 = p) ∧
      s.bump R.PEER_REJECT = t ∧
      s.peerState ≠ 0 ∧
      s.flag F.PEER_CTL.EN = true ∧
      s.flag F.CLK_STAT.REF_ABSENT = false ∧
      frameGood b = true ∧
      h % 16 = 2 ∧
      s.entryOf (bytesNat (p.take 8)) = some e :=
  ⟨wPeer, _, _, frame0 2, _, _, .leaveFrameRx (frame0 2), 3, by decide +kernel, rfl, by simp, ⟨rfl, rfl⟩, rfl, by decide +kernel, by decide +kernel, by decide +kernel, by decide +kernel, by decide +kernel, by decide +kernel⟩

theorem test_witness_ChassisPeers_7_1 :
    ∃ (z s t : State) (b p : List Byte) (h : Nat) (c : Instr),
      z.runs = true ∧
      ({ z with peer := { z.peer with busEnd := z.time.elapsed + 0 * 2 ^ 64 / 1000000000 } } : State).ageAll = s ∧
      c ∈ [.rollFrameRx b, .trigFrameRx b, .leaveFrameRx b, .peerFrameReject b] ∧
      (bytesNat ((b.drop 3).take 2) = h ∧ (b.drop 5).take 16 = p) ∧
      s.bump R.PEER_REJECT = t ∧
      s.peerState ≠ 0 ∧
      s.flag F.PEER_CTL.EN = true ∧
      s.flag F.CLK_STAT.REF_ABSENT = false ∧
      frameGood b = false :=
  ⟨wPeer, _, _, [], _, _, .peerFrameReject [], by decide +kernel, rfl, by simp, ⟨rfl, rfl⟩, rfl, by decide +kernel, by decide +kernel, by decide +kernel, by decide +kernel⟩

theorem test_witness_ChassisPeers_9 :
    ∃ (s u : State) (seat seq : Nat) (p : List Byte) (e : Option Nat),
      s.entryAt seat = e ∧
      s.noteSeq e seq = u :=
  ⟨wUp, _, 3, 4, [], _, rfl, rfl⟩

theorem test_witness_ChassisPeers_10_0 :
    ∃ (s u : State) (e : Fin 64),
      s.runs = true ∧
      ({ ((s.setReg (R.PARTNER e 0) (putBits (s.reg (R.PARTNER e 0)) 31 1 0)).showPartners).raisePF 257 e with peer := { s.peer with noRoom := [] } } : State) = u ∧
      s.entryValid e = true ∧
      s.since (SMap.get zero s.peer.rollAt e) 8000 = true ∧
      u.peerState ≠ 3 :=
  ⟨{ wUp.setReg (R.PARTNER 3 0) 0x80000000 with time := { elapsed := 2 ^ 64 } }, _, 3, by decide +kernel, rfl, by decide +kernel, by decide +kernel, by decide +kernel⟩

theorem test_witness_PairLink_1 :
    ∃ (s u : State) (b : Bool),
      s.runs = true ∧
      (s.setFlag F.PAIR_STAT.PRESENT b).raisePF 270 (if b then 1 else 0) = u :=
  ⟨wUp, _, true, by decide +kernel, rfl⟩

theorem test_witness_PairLink_2 :
    ∃ (s u : State) (cause : Nat),
      ((((s.setFlag F.PAIR_STAT.LINK_UP false).setFlag F.PAIR_STAT.LOST_SEEN true).bump R.PAIR_LOSSES).raisePF 266 (2 ^ cause)).fault 0x0109 0 = u :=
  ⟨wUp, _, 3, rfl⟩

theorem test_witness_PairLink_3_0 :
    ∃ (s u : State) (id : BitVec 64) (cyc : Nat) (skew : Int) (al : Bool),
      s.runs = true ∧
      (cyc == s.coreNo && decide (4 * ((skew.natAbs : Nat) : Rat) ≤ s.corePeriod)) = al ∧
      (((((s.setFlag F.PAIR_STAT.LINK_UP true).setFlag F.PAIR_STAT.TRAINING false).setFlag F.PAIR_STAT.SPARE_USED false).setFld F.PAIR_STAT.FAILED 15).setFlag F.PAIR_STAT.UNALIGNED (!al)).setReg64 R.PAIR_PARTNER_ID_LO id.toNat = u ∧
      s.flag F.PAIR_STAT.TRAINING = true :=
  ⟨wUp.setFlag F.PAIR_STAT.TRAINING true, _, 0, 0, 0, _, by decide +kernel, rfl, rfl, by decide +kernel⟩

theorem test_witness_PairLink_4_0 :
    ∃ (s : State) (v : Word),
      s.runs = true ∧
      s.flag F.PAIR_STAT.TRAINING = true ∧
      s.since s.pair.trainAt 2000 = true :=
  ⟨{ wUp.setFlag F.PAIR_STAT.TRAINING true with time := { elapsed := 2 ^ 64 } }, 1, by decide +kernel, by decide +kernel, by decide +kernel⟩

theorem test_witness_PairLink_4_2 :
    ∃ (s : State) (v : Word),
      s.runs = true ∧
      s.flag F.PAIR_STAT.LINK_UP = true ∧
      s.since s.pair.blockAt 1 = true :=
  ⟨{ wUp.setFlag F.PAIR_STAT.LINK_UP true with time := { elapsed := 2 ^ 64 } }, 1, by decide +kernel, by decide +kernel, by decide +kernel⟩

theorem test_witness_PairLink_4_4 :
    ∃ (s : State) (v : Word), ∃ t,
      s.runs = true ∧
      s.pair.restAt = some t ∧
      s.since t 1000 = true :=
  ⟨{ wUp with pair := { restAt := some 0 }, time := { elapsed := 2 ^ 64 } }, 1, 0, by decide +kernel, by decide +kernel, by decide +kernel⟩

theorem test_witness_PairLink_5_3 :
    ∃ (z s : State) (ls : List (BitVec 128)) (bad : List Nat),
      z.runs = true ∧
      (List.range 8).filter (fun k => !(laneGood (ls.getD k 0))) = bad ∧
      (if bad.length = 8 then z else { z with pair := { z.pair with blockAt := z.time.elapsed } }) = s ∧
      z.flag F.PAIR_STAT.LINK_UP = true ∧
      bad = [] :=
  ⟨wUp.setFlag F.PAIR_STAT.LINK_UP true, _, [], _, by decide +kernel, rfl, rfl, by decide +kernel, by decide +kernel⟩

theorem test_witness_PairLink_6 :
    ∃ (s u : State) (k : Nat),
      { s.bump (R.PAIR_LANE_ERR k) with pair := { s.pair with errs := (k, s.time.elapsed) :: s.pair.errs.filter (fun e => decide (s.time.elapsed < e.2 + millisecond)) } } = u :=
  ⟨wUp, _, 3, rfl⟩

theorem test_witness_TwinJoining_1_4 :
    ∃ (s u : State) (r : Fin 64) (d : Desc) (bad : Bool),
      (s.starts r 0x70 d = true ∧ s.pair.join = none) ∧
      s.begin r d = u ∧
      (d.begun.context != 15 || !(d.begun.reservedClear 2 [(2, 0x11), (3, 0xFFFF)]) || u.joined) = bad ∧
      bad = false ∧
      u.compat = false ∧
      u.joinBusy = false ∧
      u.flag F.PAIR_STAT.LINK_UP = true :=
  ⟨withD (wUp.setFlag F.PAIR_STAT.LINK_UP true) 5 [0xF0070], _, 5, descAt 5 [0xF0070], _, ⟨by decide +kernel, rfl⟩, rfl, rfl, by decide +kernel, by decide +kernel, by decide +kernel, by decide +kernel⟩

theorem test_witness_TwinJoining_2 :
    ∃ (s : State) (own : JoinRun) (p : JoinReq) (j : Nat),
      (s.pair.join = some own ∧ s.pair.partner = some p ∧ s.joinIndex = j) :=
  ⟨{ wUp with pair := { join := some ⟨0, true, false, 0, 0⟩, partner := some joinReq0 } }, ⟨0, true, false, 0, 0⟩, joinReq0, _, ⟨rfl, rfl, rfl⟩⟩

theorem test_witness_TwinJoining_3_0 :
    ∃ (s : State), ∃ j,
      s.runs = true ∧
      s.pair.join = some j ∧
      s.pair.partner = none ∧
      s.since j.start (1000 * (if j.timeout = 0 then 1000 else j.timeout)) = true :=
  ⟨{ wUp with pair := { join := some ⟨0, true, false, 0, 0⟩ }, time := { elapsed := 2 ^ 64 } }, ⟨0, true, false, 0, 0⟩, by decide +kernel, by decide +kernel, by decide +kernel, by decide +kernel⟩

theorem test_witness_TwinJoining_4_2 :
    ∃ (s u v : State) (own : JoinRun) (p : JoinReq) (j : Nat),
      s.runs = true ∧
      (s.pair.join = some own ∧ s.pair.partner = some p ∧ s.pair.joinAt = some j) ∧
      (s.setFld F.PAIR_STAT.ROLE (if own.leader then 1 else 2)).setFlag F.PAIR_STAT.FORM own.interleave = u ∧
      (if own.leader then u.reseed (u.reg (R.CLK_SYN_SEED 0)) (u.reg (R.CLK_SYN_SEED 1)) else u.reseed p.seedA p.seedB).roleEffect.symRole = v ∧
      j ≤ s.time.idx ∧
      own.interleave = false :=
  ⟨{ wUp with pair := { join := some ⟨0, true, false, 0, 0⟩, partner := some joinReq0, joinAt := some 0 } }, _, _, ⟨0, true, false, 0, 0⟩, joinReq0, 0, by decide +kernel, ⟨rfl, rfl, rfl⟩, rfl, rfl, by decide +kernel, by decide +kernel⟩

theorem test_witness_TwinJoining_5_0 :
    ∃ (s u : State) (x : Int),
      s.runs = true ∧
      { s with pair := { s.pair with offset := x } } = u ∧
      s.isFollower = true ∧
      s.flag F.PAIR_STAT.FORM = true ∧
      u.onTarget = s.flag F.PAIR_STAT.PHASE_OK :=
  ⟨(wUp.setFld F.PAIR_STAT.ROLE 2).setFlag F.PAIR_STAT.FORM true, _, 0, by decide +kernel, rfl, by decide +kernel, by decide +kernel, by decide +kernel⟩

theorem test_witness_TwinJoining_5_1 :
    ∃ (s u : State) (x : Int),
      s.runs = true ∧
      { s with pair := { s.pair with offset := x } } = u ∧
      s.isFollower = true ∧
      s.flag F.PAIR_STAT.FORM = true ∧
      u.onTarget ≠ s.flag F.PAIR_STAT.PHASE_OK :=
  ⟨(wUp.setFld F.PAIR_STAT.ROLE 2).setFlag F.PAIR_STAT.FORM true, _, 30303, by decide +kernel, rfl, by decide +kernel, by decide +kernel, by decide +kernel⟩

theorem test_witness_TwinJoining_6 :
    ∃ (s u : State),
      s.setFlag F.PAIR_STAT.PHASE_OK true = u :=
  ⟨wUp, _, rfl⟩

theorem test_witness_TwinJoining_7_0 :
    ∃ (s u : State) (r : Fin 64) (d : Desc),
      (s.starts r 0x71 d = true ∧ s.pair.split = none) ∧
      s.begin r d = u ∧
      d.begun.context = 15 ∧
      d.begun.reservedClear 2 [] = true ∧
      u.joined = true :=
  ⟨withD wLead 5 [0xF0071], _, 5, descAt 5 [0xF0071], ⟨by decide +kernel, rfl⟩, rfl, by decide +kernel, by decide +kernel, by decide +kernel⟩

theorem test_witness_TwinJoining_8 :
    ∃ (s u : State) (own : Option Nat),
      (if s.pair.ready.isSome || s.anyBusy || s.armUnwritten then s else ({ s with pair := { s.pair with ready := some s.coreNo } }).tell (.control (.splitReady s.coreNo))) = u :=
  ⟨wUp, _, none, rfl⟩

theorem test_witness_TwinJoining_9_2 :
    ∃ (s u : State) (r : Fin 64) (d : Desc) (bad : Bool) (h : Nat),
      (s.starts r 0x74 d = true ∧ s.pair.handover = none) ∧
      s.begin r d = u ∧
      (d.begun.context != 15 || !(d.begun.reservedClear 2 []) || !u.isLeader || u.flag F.PAIR_STAT.FORM) = bad ∧
      (u.coreNo + 512) * u.perCycle = h ∧
      bad = false ∧
      ((List.range 16).filter (fun k => (u.applied k).swapRemote)).length ≤ 4 :=
  ⟨withD wLead 5 [0xF0074], _, 5, descAt 5 [0xF0074], _, _, ⟨by decide +kernel, rfl⟩, rfl, rfl, rfl, by decide +kernel, by decide +kernel⟩

theorem test_witness_TwinJoining_10_0 :
    ∃ (s : State), ∃ q h,
      s.runs = true ∧
      s.pair.handover = some (q, h) ∧
      s.isLeader = true ∧
      h ≤ s.time.idx :=
  ⟨{ wLead with pair := { handover := some (0, 0) } }, 0, 0, by decide +kernel, by decide +kernel, by decide +kernel, by decide +kernel⟩

theorem test_witness_TwinJoining_10_2 :
    ∃ (s : State), ∃ q h,
      s.runs = true ∧
      s.pair.handover = some (q, h) ∧
      s.isLeader = false :=
  ⟨{ wLead.setFld F.PAIR_STAT.ROLE 2 with pair := { handover := some (0, 0) } }, 0, 0, by decide +kernel, by decide +kernel, by decide +kernel⟩

theorem test_witness_TwinOperation_1_3 :
    ∃ (s u : State) (r : Fin 64) (d : Desc) (m n : Nat) (bad : Bool),
      (s.starts r 0x72 d = true ∧ s.pair.cal = none) ∧
      s.begin r d = u ∧
      (d.begun.f 2 0 8 = m ∧ max 1 (d.begun.f 3 0 16) = n) ∧
      (d.begun.context != 15 || !(d.begun.reservedClear 2 [(2, 0xFF), (3, 0xFFFF)]) || !u.isLeader || (!u.twinForm && (m == 0 || !((inputsOf (m % 16)).all (sampledIn u.inp.route)) || !((inputsOf (m / 16)).all (sampledIn u.inp.route))))) = bad ∧
      bad = false ∧
      u.twinForm = false ∧
      u.fgBusy (m % 16) = false :=
  ⟨withD wLead 5 [0xF0072, 0, 1], _, 5, descAt 5 [0xF0072, 0, 1], _, _, _, ⟨by decide +kernel, rfl⟩, rfl, ⟨rfl, rfl⟩, rfl, by decide +kernel, by decide +kernel, by decide +kernel⟩

theorem test_witness_TwinOperation_2 :
    ∃ (s u v : State) (st : List (List SkewStep)) (bl : List (Nat × List (BitVec 16))) (c : TwinCal) (vals : List (List Rat)),
      s.runs = true ∧
      s.pair.cal = some c ∧
      ({ s with pair := { s.pair with cal := none } } : State) = u ∧
      s.skewAll c.own c.steps st = (vals, v) :=
  ⟨{ wUp with pair := { cal := some ⟨none, 1, 1, 1, none, none, 0, {}⟩ } }, _, _, [], [], ⟨none, 1, 1, 1, none, none, 0, {}⟩, _, by decide +kernel, rfl, rfl, rfl⟩

theorem test_witness_TwinOperation_3 :
    ∃ (s v : State) (bl : List (Nat × List (BitVec 16))) (i : Nat) (ws l : List (BitVec 16)),
      s.hearAll 0 i ws = (l, v) :=
  ⟨wUp, _, [], 0, [], _, rfl⟩

theorem test_witness_TwinOperation_4 :
    ∃ (s : State) (st : List (List SkewStep)) (bl : List (Nat × List (BitVec 16))),
      s.runs = true ∧
      s.pair.cal = none :=
  ⟨wUp, [], [], by decide +kernel, by decide +kernel⟩

theorem test_witness_TwinOperation_5_2 :
    ∃ (s u : State) (r : Fin 64) (d : Desc) (k : Nat) (bad : Bool),
      s.starts r 0x73 d = true ∧
      s.begin r d = u ∧
      d.begun.f 2 0 4 = k ∧
      (rangeBad d.begun 0xF || !u.isLeader || (u.ptValid k && u.regionBad d.begun)) = bad ∧
      bad = false ∧
      u.ptValid k = true ∧
      u.ptType k ≠ 6 ∧
      u.ptOwner k = u.ringOwner d.ring :=
  ⟨withD (part wLead 3 0 0 1) 5 [0xF0073, 0, 3, 0, 16, 0, 1], _, 5, descAt 5 [0xF0073, 0, 3, 0, 16, 0, 1], _, _, by decide +kernel, rfl, rfl, rfl, by decide +kernel, by decide +kernel, by decide +kernel, by decide +kernel⟩

theorem test_witness_TwinOperation_6_0 :
    ∃ (s u v w : State) (x : Nat) (po : Bool) (f : BitVec 64) (ws ls l : List (BitVec 16)) (k : Fin 16) (be : Bool) (fr : BitVec 10) (n : Fin 4) (off : Int) (mask : BitVec 16) (sy : Bool) (cy : Nat) (tm : TimeMsg),
      s.runs = true ∧
      (s.bump (R.TRG_TD_COUNT k)).setReg64 (R.TRG_TD_LAST_IDX_LO k) f.toNat = u ∧
      s.hearFrom 0 ((f.toNat : Int) - 6) ls = (l, v) ∧
      { v with pair := { v.pair with trackN := 0, track := {} } } = w ∧
      ((∃ h ∈ s.hif.harvests, h.kind = .pair)) :=
  ⟨{ wUp with hif := { harvests := [⟨0, 5, .pair, 0, 0, 0, 0, 1, false, false, 0, 0, 0⟩] } }, _, _, _, 0, false, 0, [], [], [], 3, false, 0, 1, 0, 0, false, 0, .rate 0, by decide +kernel, rfl, rfl, rfl, by decide +kernel⟩

theorem test_witness_TwinOperation_6_2 :
    ∃ (s u v w : State) (x : Nat) (po : Bool) (f : BitVec 64) (ws ls l : List (BitVec 16)) (k : Fin 16) (be : Bool) (fr : BitVec 10) (n : Fin 4) (off : Int) (mask : BitVec 16) (sy : Bool) (cy : Nat) (tm : TimeMsg), ∃ c,
      s.runs = true ∧
      (s.bump (R.TRG_TD_COUNT k)).setReg64 (R.TRG_TD_LAST_IDX_LO k) f.toNat = u ∧
      s.hearFrom 0 ((f.toNat : Int) - 6) ls = (l, v) ∧
      { v with pair := { v.pair with trackN := 0, track := {} } } = w ∧
      s.isLeader = true ∧
      s.twinForm = true ∧
      v.pair.cal = some c :=
  ⟨{ wLead.setFlag F.PAIR_STAT.FORM true with pair := { cal := some ⟨none, 1, 1, 1, none, none, 0, {}⟩ } }, _, _, _, 0, false, 0, [], [], [], 3, false, 0, 1, 0, 0, false, 0, .rate 0, ⟨none, 1, 1, 1, none, none, 0, {}⟩, by decide +kernel, rfl, rfl, rfl, by decide +kernel, by decide +kernel, by decide +kernel⟩

theorem test_witness_TwinOperation_6_6 :
    ∃ (s u v w : State) (x : Nat) (po : Bool) (f : BitVec 64) (ws ls l : List (BitVec 16)) (k : Fin 16) (be : Bool) (fr : BitVec 10) (n : Fin 4) (off : Int) (mask : BitVec 16) (sy : Bool) (cy : Nat) (tm : TimeMsg),
      s.runs = true ∧
      (s.bump (R.TRG_TD_COUNT k)).setReg64 (R.TRG_TD_LAST_IDX_LO k) f.toNat = u ∧
      s.hearFrom 0 ((f.toNat : Int) - 6) ls = (l, v) ∧
      { v with pair := { v.pair with trackN := 0, track := {} } } = w ∧
      s.twinForm = false ∧
      ((s.isLeader = true ∧ (s.applied k).remote = true) ∨ (s.isFollower = true ∧ s.firesHere f.toNat = true)) :=
  ⟨{ wLead with trg := { dets := [(3, { cfg := [0x80040000, 0, 0x100] })] } }, _, _, _, 0, false, 0, [], [], [], 3, false, 0, 1, 0, 0, false, 0, .rate 0, by decide +kernel, rfl, rfl, rfl, by decide +kernel, by decide +kernel⟩

theorem test_witness_TwinOperation_6_8 :
    ∃ (s u v w : State) (x : Nat) (po : Bool) (f : BitVec 64) (ws ls l : List (BitVec 16)) (k : Fin 16) (be : Bool) (fr : BitVec 10) (n : Fin 4) (off : Int) (mask : BitVec 16) (sy : Bool) (cy : Nat) (tm : TimeMsg),
      s.runs = true ∧
      (s.bump (R.TRG_TD_COUNT k)).setReg64 (R.TRG_TD_LAST_IDX_LO k) f.toNat = u ∧
      s.hearFrom 0 ((f.toNat : Int) - 6) ls = (l, v) ∧
      { v with pair := { v.pair with trackN := 0, track := {} } } = w ∧
      (s.isFollower = true ∨ s.pair.handWait = true) ∧
      s.armed n = true :=
  ⟨wArmed.setFld F.PAIR_STAT.ROLE 2, _, _, _, 0, false, 0, [], [], [], 3, false, 0, 0, 0, 0, false, 0, .rate 0, by decide +kernel, rfl, rfl, rfl, by decide +kernel, by decide +kernel⟩

theorem test_witness_TwinOperation_6_10 :
    ∃ (s u v w : State) (x : Nat) (po : Bool) (f : BitVec 64) (ws ls l : List (BitVec 16)) (k : Fin 16) (be : Bool) (fr : BitVec 10) (n : Fin 4) (off : Int) (mask : BitVec 16) (sy : Bool) (cy : Nat) (tm : TimeMsg),
      s.runs = true ∧
      (s.bump (R.TRG_TD_COUNT k)).setReg64 (R.TRG_TD_LAST_IDX_LO k) f.toNat = u ∧
      s.hearFrom 0 ((f.toNat : Int) - 6) ls = (l, v) ∧
      { v with pair := { v.pair with trackN := 0, track := {} } } = w ∧
      (s.isFollower = true ∨ s.pair.join ≠ none) :=
  ⟨wArmed.setFld F.PAIR_STAT.ROLE 2, _, _, _, 0, false, 0, [], [], [], 3, false, 0, 0, 0, 0, false, 0, .rate 0, by decide +kernel, rfl, rfl, rfl, by decide +kernel⟩

theorem test_witness_TwinOperation_7_0 :
    ∃ (s u : State) (k : Nat) (w : List Word) (d h : Nat) (dets seqs : List (List Word)) (arms : List HandCtx),
      s.runs = true ∧
      (s.setRegs (R.TRG_TD_CFG (k % 16)) (w.take 8)).newDet (k % 16) { cfg := localised w } = u ∧
      s.isFollower = true ∧
      s.twinForm = false :=
  ⟨wUp.setFld F.PAIR_STAT.ROLE 2, _, 3, [], 0, 0, [], [], [], by decide +kernel, rfl, by decide +kernel, by decide +kernel⟩

theorem test_witness_TwinOperation_8_0 :
    ∃ (s : State) (a : ArmSummary) (n x cause : Nat),
      s.runs = true ∧
      s.joined = true :=
  ⟨wUp.setFld F.PAIR_STAT.ROLE 2, ⟨0, 0x10, 0, 0, 0, 1, 0, 0, 0⟩, 1, 0, 2, by decide +kernel, by decide +kernel⟩

theorem test_witness_TwinOperation_9 :
    ∃ (s : State) (j : JoinReq) (i m n k : Nat) (p : Int) (g o b l a c : Nat) (ok ramp : Bool),
      s.runs = true :=
  ⟨wUp, joinReq0, 0, 1, 1, 2, 0, 0, 0, 0, 0, 0, 0, true, true, by decide +kernel⟩

theorem test_witness_TwinOperation_10 :
    ∃ (s : State) (j : JoinReq) (i n : Nat) (l : List Int) (ok : Bool),
      s.runs = true :=
  ⟨wUp, joinReq0, 0, 0, [], true, by decide +kernel⟩

theorem test_witness_StimulusSequences_1_3 :
    ∃ (s u : State) (r : Fin 64) (d : Desc) (k ty op : Nat) (bad : Bool) (busy : Option Nat) (c : Instr),
      ((c = .stimLoad r ∧ op = 0x40 ∧ ty = 4 ∧ u.stimBad d.begun loadMasks = bad ∧ u.stm.run.map (·.part) = busy) ∨ (c = .patLoad r ∧ op = 0x50 ∧ ty = 5 ∧ u.patBad d.begun loadMasks = bad ∧ u.pat.run.map (·.part) = busy)) ∧
      s.starts r op d = true ∧
      s.begin r d = u ∧
      d.begun.f 2 0 4 = k ∧
      bad = false ∧
      d.begun.f 4 0 31 ≠ 0 ∧
      d.begun.f 8 0 6 = 0 ∧
      d.begun.f 3 0 31 + d.begun.f 4 0 31 ≤ u.ptLen k ∧
      u.partBad d.begun k ty = false ∧
      busy ≠ some k :=
  ⟨withD (part wUp 0 4 0 1) 5 [0xF0040, 0, 0, 0, 1], _, 5, descAt 5 [0xF0040, 0, 0, 0, 1], _, 4, 0x40, _, _, .stimLoad 5, Or.inl ⟨rfl, rfl, rfl, rfl, rfl⟩, by decide +kernel, rfl, rfl, by decide +kernel, by decide +kernel, by decide +kernel, by decide +kernel, by decide +kernel, by decide +kernel⟩

theorem test_witness_StimulusSequences_1_3b :
    ∃ (s u : State) (r : Fin 64) (d : Desc) (k ty op : Nat) (bad : Bool) (busy : Option Nat) (c : Instr),
      ((c = .stimLoad r ∧ op = 0x40 ∧ ty = 4 ∧ u.stimBad d.begun loadMasks = bad ∧ u.stm.run.map (·.part) = busy) ∨ (c = .patLoad r ∧ op = 0x50 ∧ ty = 5 ∧ u.patBad d.begun loadMasks = bad ∧ u.pat.run.map (·.part) = busy)) ∧
      s.starts r op d = true ∧
      s.begin r d = u ∧
      d.begun.f 2 0 4 = k ∧
      bad = false ∧
      d.begun.f 4 0 31 ≠ 0 ∧
      d.begun.f 8 0 6 = 0 ∧
      d.begun.f 3 0 31 + d.begun.f 4 0 31 ≤ u.ptLen k ∧
      u.partBad d.begun k ty = false ∧
      busy ≠ some k :=
  ⟨withD (part wUp 0 5 0 1) 5 [0xF0050, 0, 0, 0, 1], _, 5, descAt 5 [0xF0050, 0, 0, 0, 1], _, 5, 0x50, _, _, .patLoad 5, Or.inr ⟨rfl, rfl, rfl, rfl, rfl⟩, by decide +kernel, rfl, rfl, by decide +kernel, by decide +kernel, by decide +kernel, by decide +kernel, by decide +kernel, by decide +kernel⟩

theorem test_witness_StimulusSequences_2_0 :
    ∃ (s : State) (r : Fin 64) (data : List Word) (d : Desc) (op : Nat) (c : Instr),
      s.runs = true ∧
      ((c = .stimLoadComplete r data ∧ op = 0x40) ∨ (c = .patLoadComplete r data ∧ op = 0x50)) ∧
      s.running r op = some d ∧
      data.length = 8 * d.f 4 0 31 :=
  ⟨{ wUp with hif := { descs := [⟨5, 0, [0xF0040], true, none⟩] } }, 5, [], ⟨5, 0, [0xF0040], true, none⟩, 0x40, .stimLoadComplete 5 [], by decide +kernel, Or.inl ⟨rfl, rfl⟩, by decide +kernel, by decide +kernel⟩

theorem test_witness_StimulusSequences_2_0b :
    ∃ (s : State) (r : Fin 64) (data : List Word) (d : Desc) (op : Nat) (c : Instr),
      s.runs = true ∧
      ((c = .stimLoadComplete r data ∧ op = 0x40) ∨ (c = .patLoadComplete r data ∧ op = 0x50)) ∧
      s.running r op = some d ∧
      data.length = 8 * d.f 4 0 31 :=
  ⟨{ wUp with hif := { descs := [⟨5, 0, [0xF0050], true, none⟩] } }, 5, [], ⟨5, 0, [0xF0050], true, none⟩, 0x50, .patLoadComplete 5 [], by decide +kernel, Or.inr ⟨rfl, rfl⟩, by decide +kernel, by decide +kernel⟩

theorem test_witness_StimulusSequences_3_3 :
    ∃ (s u : State) (r : Fin 64) (d : Desc) (w : List Word) (n : Nat) (bad : Bool),
      s.starts r 0x41 d = true ∧
      s.begin r d = u ∧
      d.begun.f 2 0 11 = n ∧
      (u.stimBad d.begun [(2, 0x7FF), (8, 0xFFFFFFFF), (9, 0xFFFFFFFF)] || d.begun.haddrBad || decide (n = 0) || Nat.blt 1024 n || tableBad w n) = bad ∧
      u.stimForeign d.begun = false ∧
      u.fld F.STM_STAT.STATE = 0 ∧
      bad = false :=
  ⟨withD wUp 5 [0xF0041, 0, 1], _, 5, descAt 5 [0xF0041, 0, 1], [0x80000000, 512], _, _, by decide +kernel, rfl, rfl, rfl, by decide +kernel, by decide +kernel, by decide +kernel⟩

theorem test_witness_StimulusSequences_4_1 :
    ∃ (s u v : State) (r : Fin 64) (d : Desc) (x : Nat),
      s.starts r 0x42 d = true ∧
      s.begin r d = u ∧
      d.begun.n 3 + 2 ^ 32 * d.begun.f 4 0 16 = x ∧
      ((({ u with stm := { u.stm with run := some { seq := d.seq, ring := d.ring, part := d.begun.f 2 0 4, start := d.begun.f 2 8 2, line := d.begun.f 2 12 2, next := some (.entry (d.begun.f 2 16 10)) } } }).setFld F.STM_STAT.STATE 1).setFlag F.STM_STAT.DUAL (d.begun.f 2 4 1 == 1)) = v ∧
      u.stimStatus d.begun = none :=
  ⟨withD wStim 5 [0xF0042], _, _, 5, descAt 5 [0xF0042], _, by decide +kernel, rfl, rfl, rfl, by decide +kernel⟩

theorem test_witness_StimulusSequences_5_0 :
    ∃ (s : State), ∃ r,
      s.runs = true ∧
      s.stm.run = some r ∧
      s.stimState = 1 ∧
      s.memActive = true :=
  ⟨{ wMem.setFld F.STM_STAT.STATE 1 with stm := { run := some stim0 } }, stim0, by decide +kernel, by decide +kernel, by decide +kernel, by decide +kernel⟩

theorem test_witness_StimulusSequences_5_2 :
    ∃ (s : State), ∃ r,
      s.runs = true ∧
      s.pat.run = some r ∧
      s.patState = 1 ∧
      s.memActive = true :=
  ⟨{ wMem.setFld F.PAT_STAT2.STATE 1 with pat := { run := some pat0 } }, pat0, by decide +kernel, by decide +kernel, by decide +kernel, by decide +kernel⟩

theorem test_witness_StimulusSequences_6_0 :
    ∃ (s u : State) (ofs : Nat) (ph : Fin 16) (r : StimRun) (e : Nat) (x : Int),
      s.runs = true ∧
      (s.stm.run = some r ∧ -((min ofs (s.cycleLen / 2 ^ 24) * 2 ^ 24 * s.dacFcw * 100000000 : Nat) : Int) = x) ∧
      ((s.setFld F.STM_STAT.STATE 3).setTime R.STM_START_TIME_0 (s.instant ofs)).passBegin { r with phase := if r.start = 1 then ph else 0, acc := x } e 0 = u ∧
      r.next = some (.entry e) ∧
      s.stimState = 2 ∧
      (r.start = 0 ∨ r.released = true) ∧
      s.firstDue r.start r.relAt = true :=
  ⟨{ wUp.setFld F.STM_STAT.STATE 2 with stm := { run := some { stim0 with next := some (.entry 3) } }, time := { elapsed := 2 ^ 70 } }, _, 0, 0, { stim0 with next := some (.entry 3) }, 3, _, by decide +kernel, ⟨rfl, rfl⟩, rfl, by decide +kernel, by decide +kernel, by decide +kernel, by decide +kernel⟩

theorem test_witness_StimulusSequences_7 :
    ∃ (s : State) (ofs l : Nat) (ph : Fin 16) (k : BitVec 64) (o : Fin 2),
      s.runs = true ∧
      s.stm.run = none :=
  ⟨wUp, 0, 0, 0, 0, 0, by decide +kernel, by decide +kernel⟩

theorem test_witness_StimulusSequences_8 :
    ∃ (s : State) (r : StimRun) (k : Nat),
      s.stm.run = some r :=
  ⟨{ wUp with stm := { run := some stim0 } }, stim0, 0, rfl⟩

theorem test_witness_StimulusSequences_9_0 :
    ∃ (s u : State) (r r1 : StimRun) (used : Option Nat) (taken : Bool) (dd : Int),
      s.runs = true ∧
      (s.stm.run = some r ∧ (s.boundary r : Int) - 384 = dd) ∧
      s.stimOutcome r (s.fld F.STM_ENTRY.V) dd = (r1, used, taken) ∧
      ((((s.setRun (r1.clearLatches dd)).bumpBy R.STM_REACT_DROP (r.drops dd used)).setFld F.STM_STAT.LOOP_DEPTH r1.loops.length).setFld F.STM_STAT.CALL_DEPTH r1.calls.length).setReg64 R.STM_SCOUNT_LO dd.toNat = u ∧
      s.reaches r (s.boundary r - 384) = true ∧
      r.next = none ∧
      taken = false :=
  ⟨{ wUp.setFld F.STM_STAT.STATE 3 with stm := { run := some stim0 } }, _, stim0, _, _, _, _, by decide +kernel, ⟨rfl, rfl⟩, rfl, rfl, by decide +kernel, by decide +kernel, by decide +kernel⟩

theorem test_witness_StimulusSequences_10 :
    ∃ (s : State) (r : StimRun) (e : Nat) (dd : Int) (x : SeqEntry),
      s.seqEntry e = x :=
  ⟨wUp, stim0, 0, 0, _, rfl⟩

theorem test_witness_StimulusSequences_11_1 :
    ∃ (s : State) (ofs : Nat) (r : StimRun), ∃ e,
      s.runs = true ∧
      s.stm.run = some r ∧
      s.reaches r (s.boundary r) = true ∧
      r.next = some (.entry e) :=
  ⟨{ wUp.setFld F.STM_STAT.STATE 3 with stm := { run := some { stim0 with next := some (.entry 3) } } }, 0, { stim0 with next := some (.entry 3) }, 3, by decide +kernel, by decide +kernel, by decide +kernel, by decide +kernel⟩

theorem test_witness_StimulusSequences_12 :
    ∃ (s u : State) (r : StimRun) (e k : Nat) (x : SeqEntry),
      s.seqEntry e = x ∧
      ((s.setRun { r with first := r.frames, frames := r.frames + x.len, next := none, acting := none, seen := [], prev := if r.frames = 0 then none else some (s.fld F.STM_ENTRY.V, r.first) }).setFld F.STM_ENTRY.V e).setReg64 R.STM_SCOUNT_LO k = u :=
  ⟨wUp, _, stim0, 0, 0, _, rfl, rfl⟩

theorem test_witness_StimulusSequences_13_3 :
    ∃ (s u : State) (r : Fin 64) (d : Desc) (p : BitVec 64) (bad : Bool), ∃ x,
      s.starts r 0x43 d = true ∧
      s.begin r d = u ∧
      u.stimBad d.begun [(2, 1)] = bad ∧
      bad = false ∧
      u.stm.run = some x ∧
      u.stimState = 3 ∧
      d.begun.f 2 0 1 = 1 :=
  ⟨withD { wUp.setFld F.STM_STAT.STATE 3 with stm := { run := some stim0 } } 5 [0xF0043, 0, 1], _, 5, descAt 5 [0xF0043, 0, 1], 0, _, stim0, by decide +kernel, rfl, rfl, by decide +kernel, by decide +kernel, by decide +kernel, by decide +kernel⟩

theorem test_witness_StimulusSequences_14_1 :
    ∃ (s u : State) (r : Fin 64) (d : Desc) (p : BitVec 64) (t : Nat) (bad : Bool), ∃ x,
      s.starts r 0x44 d = true ∧
      s.begin r d = u ∧
      d.begun.f 2 0 10 = t ∧
      (u.stimBad d.begun [(2, 0x3FF)] || Nat.ble (u.fld F.STM_SEQ_LEN.V) t || !(u.seqEntry t).head || Nat.blt u.stimState 2) = bad ∧
      bad = false ∧
      u.stm.run = some x :=
  ⟨withD { wStim.setFld F.STM_STAT.STATE 3 with stm := { run := some stim0 } } 5 [0xF0044], _, 5, descAt 5 [0xF0044], 0, _, _, stim0, by decide +kernel, rfl, rfl, rfl, by decide +kernel, by decide +kernel⟩

theorem test_witness_StimulusSequences_15_3 :
    ∃ (s u : State) (r : Fin 64) (d : Desc) (p : BitVec 64) (bad : Bool), ∃ x,
      s.starts r 0x45 d = true ∧
      s.begin r d = u ∧
      u.stimBad d.begun [] = bad ∧
      bad = false ∧
      u.stm.run = some x ∧
      u.stimState = 2 ∧
      x.start = 3 ∧
      x.released = false :=
  ⟨withD { wStim.setFld F.STM_STAT.STATE 2 with stm := { run := some { stim0 with start := 3 } } } 5 [0xF0045], _, 5, descAt 5 [0xF0045], 0, _, { stim0 with start := 3 }, by decide +kernel, rfl, rfl, by decide +kernel, by decide +kernel, by decide +kernel, by decide +kernel, by decide +kernel⟩

theorem test_witness_StimulusSequences_16_0 :
    ∃ (s : State) (k : BitVec 64) (n l e i : Nat) (o : Fin 2) (r : StimRun) (code : Int),
      (s.runs = true ∧ k.toNat = n) ∧
      (s.stm.run = some r ∧ s.soRaw o (s.resampled r o n) = code) ∧
      (s.fld F.STM_ENTRY.V = e ∧ (l - s.frameLine r e 0) * (32 / stimFrame s.stimDual) = i) ∧
      s.plays r = true ∧
      r.under = none ∧
      s.fetchKept = false ∧
      s.countAt r n = n ∧
      s.needsFifo r n = true :=
  ⟨{ ((wUp.setFld F.STM_STAT.STATE 3).setRegs (R.STM_SEQ 0 0) [0, 1024, 0, 0]).setFld F.STM_SEQ_LEN.V 1 with stm := { run := some { stim0 with frames := 1024 } } }, 16, _, 0, _, _, 0, { stim0 with frames := 1024 }, _, ⟨by decide +kernel, rfl⟩, ⟨rfl, rfl⟩, ⟨rfl, rfl⟩, by decide +kernel, by decide +kernel, by decide +kernel, by decide +kernel, by decide +kernel⟩

theorem test_witness_StimulusSequences_16_2 :
    ∃ (s : State) (k : BitVec 64) (n l e i : Nat) (o : Fin 2) (r : StimRun) (code : Int), ∃ k0,
      (s.runs = true ∧ k.toNat = n) ∧
      (s.stm.run = some r ∧ s.soRaw o (s.resampled r o n) = code) ∧
      (s.fld F.STM_ENTRY.V = e ∧ (l - s.frameLine r e 0) * (32 / stimFrame s.stimDual) = i) ∧
      s.plays r = true ∧
      s.countAt r n = n ∧
      r.cycleStart n = n ∧
      r.under = some k0 ∧
      k0 < n ∧
      (s.memActive = true ∨ (∀ j < 16, s.needsFifo r (n + j) = false)) :=
  ⟨{ ((wMem.setFld F.STM_STAT.STATE 3).setRegs (R.STM_SEQ 0 0) [0, 1024, 0, 0]).setFld F.STM_SEQ_LEN.V 1 with stm := { run := some { stim0 with frames := 1024, under := some 0 } } }, 16, _, 0, _, _, 0, { stim0 with frames := 1024, under := some 0 }, _, 0, ⟨by decide +kernel, rfl⟩, ⟨rfl, rfl⟩, ⟨rfl, rfl⟩, by decide +kernel, by decide +kernel, by decide +kernel, by decide +kernel, by decide +kernel, by decide +kernel⟩

theorem test_witness_StimulusSequences_16_4 :
    ∃ (s : State) (k : BitVec 64) (n l e i : Nat) (o : Fin 2) (r : StimRun) (code : Int),
      (s.runs = true ∧ k.toNat = n) ∧
      (s.stm.run = some r ∧ s.soRaw o (s.resampled r o n) = code) ∧
      (s.fld F.STM_ENTRY.V = e ∧ (l - s.frameLine r e 0) * (32 / stimFrame s.stimDual) = i) ∧
      s.plays r = true ∧
      r.under = none ∧
      s.frameLine r e 0 ≤ l ∧
      i < (s.seqEntry e).len ∧
      s.framePoison r e i = true ∧
      l ∉ r.seen :=
  ⟨{ ((wUp.setFld F.STM_STAT.STATE 3).setRegs (R.STM_SEQ 0 0) [0, 1024, 0, 0]).setFld F.STM_SEQ_LEN.V 1 with stm := { run := some { stim0 with frames := 1024 } }, mem := { poison := [5] } }, 0, _, 5, _, _, 0, { stim0 with frames := 1024 }, _, ⟨by decide +kernel, rfl⟩, ⟨rfl, rfl⟩, ⟨rfl, rfl⟩, by decide +kernel, by decide +kernel, by decide +kernel, by decide +kernel, by decide +kernel, by decide +kernel⟩

theorem test_witness_StimulusSequences_16_6 :
    ∃ (s : State) (k : BitVec 64) (n l e i : Nat) (o : Fin 2) (r : StimRun) (code : Int),
      (s.runs = true ∧ k.toNat = n) ∧
      (s.stm.run = some r ∧ s.soRaw o (s.resampled r o n) = code) ∧
      (s.fld F.STM_ENTRY.V = e ∧ (l - s.frameLine r e 0) * (32 / stimFrame s.stimDual) = i) ∧
      s.countAt r n = n ∧
      s.sounds r o n = true ∧
      ((code < -8191 ∨ 8191 < code)) :=
  ⟨{ ((((wUp.setFld F.STM_STAT.STATE 3).setRegs (R.STM_SEQ 0 0) [0, 1024, 0, 0]).setFld F.STM_SEQ_LEN.V 1).setFld (F.STM_SO_GAIN.GAIN 0) 0x8000).setFld (F.STM_SO_OFF.OFF 0) 0x2000 with stm := { run := some { stim0 with frames := 1024 } } }, 0, _, 0, _, _, 0, { stim0 with frames := 1024 }, _, ⟨by decide +kernel, rfl⟩, ⟨rfl, rfl⟩, ⟨rfl, rfl⟩, by decide +kernel, by decide +kernel, by decide +kernel⟩

theorem test_witness_StimulusSequences_17 :
    ∃ (s u v : State) (r : StimRun) (code k st : Nat) (last : Word),
      (((s.underrunOver r k).abortDesc (r.acting.map (·.1))).abortDesc (r.jump.map (·.1))).lastEntry r = (last, u) ∧
      ((if code = 0 ∧ r.tainted = true then 10 else code) = st) ∧
      (((((({ u with stm := { u.stm with run := none } }).setReg64 R.STM_SCOUNT_LO k).setFld F.STM_STAT.STATE 0).setFld F.STM_STAT.LOOP_DEPTH 0).setFld F.STM_STAT.CALL_DEPTH 0).setFlag F.STM_STAT.DUAL false).setFlag (F.MEM_PT_CFG.IN_USE r.part) false = v :=
  ⟨wUp, _, _, stim0, 0, 0, _, _, rfl, rfl, rfl⟩

theorem test_witness_PatternRuns_1_3 :
    ∃ (s u : State) (r : Fin 64) (d : Desc) (w : List Word) (sets : List Nat) (part : Nat → List Word) (bad : Bool), ∃ v,
      s.starts r 0x51 d = true ∧
      s.begin r d = u ∧
      (bitsSet (d.begun.f 2 0 16) 16 = sets ∧ (fun (i : Nat) => (List.range 64).map (fun j => dwAt w (64 * i + j))) = part) ∧
      (!(d.begun.reservedClear 2 [(2, 0xFFFF), (8, 0xFFFFFFFF), (9, 0xFFFFFFFF)]) || d.begun.haddrBad || sets.isEmpty || (List.range sets.length).any (fun i => tsetBad (part i))) = bad ∧
      u.patForeign d.begun = false ∧
      u.patState = 0 ∧
      bad = false ∧
      sets.zipIdx.foldl (fun t e => t.setRegs (R.PAT_TS e.1 0) (part e.2)) u = v :=
  ⟨withD wUp 5 [0xF0051, 0, 1], _, 5, descAt 5 [0xF0051, 0, 1], [1], _, _, _, _, by decide +kernel, rfl, ⟨rfl, rfl⟩, rfl, by decide +kernel, by decide +kernel, by decide +kernel, rfl⟩

theorem test_witness_PatternRuns_2_1 :
    ∃ (s u v : State) (r : Fin 64) (d : Desc) (x : PatRun),
      s.starts r 0x52 d = true ∧
      s.begin r d = u ∧
      ({ seq := d.seq, ring := d.ring, part := d.begun.f 2 0 4, first := d.begun.f 3 0 31, count := d.begun.n 4, loops := d.begun.f 5 0 16, start := d.begun.f 2 8 3, line := d.begun.f 2 12 2, scount := dw64 d.begun.dw 6 } : PatRun) = x ∧
      (((u.setPat x).setFld F.PAT_STAT2.STATE 1).setReg R.PAT_HELD 0).setReg R.PAT_POISON 0 = v ∧
      u.patStatus d.begun = none :=
  ⟨withD wPat 5 [0xF0052, 0, 0, 0, 1], _, _, 5, descAt 5 [0xF0052, 0, 0, 0, 1], _, by decide +kernel, rfl, rfl, rfl, by decide +kernel⟩

theorem test_witness_PatternRuns_3_0 :
    ∃ (s u : State) (ofs x : Nat) (ph : Fin 16) (a : Int) (r : PatRun),
      s.runs = true ∧
      (s.pat.run = some r ∧ s.patOfs r ofs = x ∧ -((x * 2 ^ 24 * s.dacFcw * 100000000 : Nat) : Int) = a) ∧
      ((s.setFld F.PAT_STAT2.STATE 3).setFld F.PAT_STAT.TS 0).setTime R.PAT_START_TIME_0 (s.instant x) = u ∧
      s.patState = 2 ∧
      s.patDue r = true :=
  ⟨{ wUp.setFld F.PAT_STAT2.STATE 2 with pat := { run := some pat0 }, time := { elapsed := 2 ^ 70 } }, _, 0, _, 0, _, pat0, by decide +kernel, ⟨rfl, rfl, rfl⟩, rfl, by decide +kernel, by decide +kernel⟩

theorem test_witness_PatternRuns_4 :
    ∃ (s u v : State) (r r1 r2 r3 : PatRun) (wrap ov : Bool),
      s.runs = true ∧
      (s.pat.run = some r ∧ s.patState = 3 ∧ (∀ e, r.ending = some e → r.base + s.vectorLen r < e.count)) ∧
      (s.vectorDone r r.reps 0 s.dacFcw = (u, r1) ∧ (r1.vec + 1 == r1.count) = wrap) ∧
      ((if wrap then { r1 with pass := r1.pass + 1 } else r1) = r2 ∧ u.patResume r2 = (v, r3)) ∧
      (wrap && r2.pass == r2.loops && r2.loops != 0) = ov :=
  ⟨{ wUp.setFld F.PAT_STAT2.STATE 3 with pat := { run := some pat0 } }, _, _, pat0, _, _, _, _, _, by decide +kernel, ⟨rfl, by decide +kernel, fun _ h => by cases h⟩, ⟨rfl, rfl⟩, ⟨rfl, rfl⟩, rfl⟩

theorem test_witness_PatternRuns_5 :
    ∃ (s : State) (ofs l : Nat) (ph : Fin 16) (r : PatRun),
      s.runs = true :=
  ⟨wUp, 0, 0, 0, pat0, by decide +kernel⟩

theorem test_witness_PatternRuns_6 :
    ∃ (s u z : State) (r x : PatRun) (i fcw t n : Nat) (odd : Bool),
      (((dwAt (s.vector r i) 2 &&& 0xFFF0#32) != 0 || dwAt (s.vector r i) 3 != 0) = odd ∧ getBits (dwAt (s.vector r i) 2) 0 4 = t) ∧
      (s.vectorReps r i = (n, z) ∧ ({ r with vec := i, reps := n, noted := r.notedAt i } : PatRun) = x) ∧
      (if odd && !r.rsvd then (z.setPat { x with quiet := false, missed := false, rsvd := r.rsvd || odd }).setFlag F.PAT_STAT.RSVD_SEEN true else z.setPat { x with quiet := false, missed := false, rsvd := r.rsvd || odd }) = u :=
  ⟨wUp, _, _, pat0, _, 0, 0, _, _, _, ⟨rfl, rfl⟩, ⟨rfl, rfl⟩, rfl⟩

theorem test_witness_PatternRuns_7_2 :
    ∃ (s u : State) (r : Fin 64) (d : Desc) (n : Nat) (bad : Bool), ∃ x,
      s.starts r 0x53 d = true ∧
      s.begin r d = u ∧
      u.patBad d.begun [(2, 1)] = bad ∧
      bad = false ∧
      u.pat.run = some x ∧
      d.begun.f 2 0 1 = 1 :=
  ⟨withD { wUp.setFld F.PAT_STAT2.STATE 3 with pat := { run := some pat0 } } 5 [0xF0053, 0, 1], _, 5, descAt 5 [0xF0053, 0, 1], 0, _, pat0, by decide +kernel, rfl, rfl, by decide +kernel, by decide +kernel, by decide +kernel⟩

theorem test_witness_PatternRuns_8 :
    ∃ (s u : State) (x y : PatRun) (rank code count k n p : Nat),
      s.vectorDone x ((count - x.base) / s.periodLen) ((count - x.base) % s.periodLen) s.dacFcw = (u, y) ∧
      (s.pat.run = some x ∧ x.base + min (s.vectorLen x) (131072 * max n (x.acc / (2 ^ 96 : Nat)).toNat) = p) :=
  ⟨{ wUp with pat := { run := some pat0 } }, _, pat0, _, 0, 0, 0, 0, 0, _, rfl, ⟨rfl, rfl⟩⟩

theorem test_witness_PatternRuns_9_2 :
    ∃ (s u : State) (r : Fin 64) (d : Desc) (bad : Bool), ∃ x,
      s.starts r 0x54 d = true ∧
      s.begin r d = u ∧
      u.patBad d.begun [] = bad ∧
      bad = false ∧
      u.pat.run = some x ∧
      u.patState = 2 ∧
      x.start = 3 ∧
      x.released = false :=
  ⟨withD { wUp.setFld F.PAT_STAT2.STATE 2 with pat := { run := some { pat0 with start := 3 } } } 5 [0xF0054], _, 5, descAt 5 [0xF0054], _, { pat0 with start := 3 }, by decide +kernel, rfl, rfl, by decide +kernel, by decide +kernel, by decide +kernel, by decide +kernel, by decide +kernel⟩

theorem test_witness_PatternRuns_10_0 :
    ∃ (s : State) (r : PatRun) (l a : Nat),
      s.runs = true ∧
      (s.pat.run = some r ∧ s.ptBase r.part + r.first + r.vec / 2 = a) ∧
      s.patState = 3 ∧
      r.ending = none ∧
      s.flag F.PAT_STAT.UNDERRUN = false ∧
      s.fetchKept = false :=
  ⟨{ wUp.setFld F.PAT_STAT2.STATE 3 with pat := { run := some pat0 } }, pat0, 0, _, by decide +kernel, ⟨rfl, rfl⟩, by decide +kernel, by decide +kernel, by decide +kernel, by decide +kernel⟩

theorem test_witness_PatternRuns_10_2 :
    ∃ (s : State) (r : PatRun) (l a : Nat),
      s.runs = true ∧
      (s.pat.run = some r ∧ s.ptBase r.part + r.first + r.vec / 2 = a) ∧
      s.flag F.PAT_STAT.UNDERRUN = true ∧
      s.memActive = true :=
  ⟨{ wMem.setFlag F.PAT_STAT.UNDERRUN true with pat := { run := some pat0 } }, pat0, 0, _, by decide +kernel, ⟨rfl, rfl⟩, by decide +kernel, by decide +kernel⟩

theorem test_witness_PatternRuns_10_4 :
    ∃ (s : State) (r : PatRun) (l a : Nat),
      s.runs = true ∧
      (s.pat.run = some r ∧ s.ptBase r.part + r.first + r.vec / 2 = a) ∧
      s.patState = 3 ∧
      r.quiet = true ∧
      r.missed = false ∧
      r.noted ≠ some a :=
  ⟨{ wUp.setFld F.PAT_STAT2.STATE 3 with pat := { run := some { pat0 with quiet := true } } }, { pat0 with quiet := true }, 0, _, by decide +kernel, ⟨rfl, rfl⟩, by decide +kernel, by decide +kernel, by decide +kernel, by decide +kernel⟩

theorem test_witness_PatternRuns_11 :
    ∃ (s u v : State) (r : PatRun) (code st : Nat),
      (s.patUnderOver r = u ∧ (if code = 0 ∧ r.tainted = true then 10 else code) = st) ∧
      ((if ((({ u with pat := { u.pat with run := none } }).setFld F.PAT_STAT2.STATE 0).clk.stimOn) then (({ u with pat := { u.pat with run := none } }).setFld F.PAT_STAT2.STATE 0).patIdle else ({ u with pat := { u.pat with run := none } }).setFld F.PAT_STAT2.STATE 0).setFlag (F.MEM_PT_CFG.IN_USE r.part) false).raise 233 st (s.routeRing r.ring) = v :=
  ⟨wUp, _, _, pat0, 0, _, ⟨rfl, rfl⟩, rfl⟩

end Sys2Proof.Tests
end

section
/-!
SUPPORT. Commands of a running module that end in a register write, and repeated operations over the state.
-/
namespace Sys2Proof.Machine

variable (s : State)

/-- In a block that can be reached a register write has its effect (R30). -/
theorem State.atReg_reachable {off : Nat} (f : State → State) (h : s.reachable off = true) : s.atReg off f = f s :=
  if_pos h

/-- What every round of a repeated operation leaves alone, the repetition leaves alone. -/
theorem State.each_keeps {α : Type} (g : State → α) (l : List Nat) {f : State → Nat → State}
    (h : ∀ t n, g (f t n) = g t) : g (s.each l f) = g s := by
  induction l generalizing s with
  | nil => rfl
  | cons n l ih => exact (ih (f s n)).trans (h s n)

end Sys2Proof.Machine
end

section
/-!
PROOFS. Writes of TRIM registers and of correction set entries, and the end of a ramp (ch. 06).
-/
namespace Sys2Proof.Machine

section Lemmas

variable {s : State}

theorem exec_calTrimWrite (u : Fin 112) (v : Word) (h : s.runs = true) (hr : s.reachable (trimOff u) = true) :
    exec (.calTrimWrite u v) s = .next (s.keep (s.trimWrite u v)) :=
  (s.act_running _ h).trans (by rw [s.atReg_reachable _ hr])

/-- A change of a field of a TRIM register while no context is armed (R157). -/
theorem State.trimWrite_change {u : Nat} {v : Word} (ha : s.anyArmed = false)
    (hx : s.reg (trimOff u) ≠ trimMerge u (trimFields u) (s.reg (trimOff u)) v) :
    s.trimWrite u v = ((s.setReg (trimOff u) (trimMerge u (trimFields u) (s.reg (trimOff u)) v)).showTrim).convergenceStart
      s.nextFrame := by
  simp [State.trimWrite, State.trimSet, ha, hx]

/-- A TRIM write that is discarded, or that changes no field (R9, R157). -/
theorem State.trimWrite_same {u : Nat} {v : Word}
    (h : s.anyArmed = true ∨ s.reg (trimOff u) = trimMerge u (trimFields u) (s.reg (trimOff u)) v) :
    s.trimWrite u v = s := by
  rcases h with ha | hx
  · simp [State.trimWrite, ha]
  · simp [State.trimWrite, ← hx]

/-- Of what the intervals of the estimators do not touch, convergence starting changes what clearing its counts and
CAL_SETTLED changes (R173). -/
theorem State.convergenceStart_keeps {α : Type} (s : State) (frame : Nat) (g : State → α)
    (hnb : ∀ (t : State) n, g (t.nbBegin n frame) = g t) (hsh : ∀ (t : State) b, g (t.shBegin b frame) = g t) :
    g (s.convergenceStart frame) =
      g (({ s with cal := { s.cal with gaugeEsts := [], nbEnds := [] } }).setFlag F.INP_MODE_STAT.CAL_SETTLED false) :=
  (State.each_keeps _ g _ hsh).trans (State.each_keeps _ g _ hnb)

theorem exec_corrSetWrite_pf (m : Fin 3) (p : Fin 104) (h : s.runs = true) (hr : s.reachable (R.CORR_3 m p) = true) :
    exec (.corrSetWrite 0 m p) s = .next (s.keep (s.corrWrite 0 m p)) :=
  (s.act_running _ h).trans (by rw [Fin.val_zero, if_pos rfl, s.atReg_reachable _ hr])

/-- The correction sets belong to the PF (R159). -/
theorem exec_corrSetWrite_vf {f : Fin 9} (m : Fin 3) (p : Fin 104) (h : s.runs = true) (hf : f ≠ 0) :
    exec (.corrSetWrite f m p) s = .next (s.keep s) :=
  (s.act_running _ h).trans (by rw [if_neg (Fin.val_ne_zero_iff.mpr hf)])

/-- The staged fields of the active mode ramp while SAMPLE runs (R163), and an estimate of their frame is discarded
(R164). -/
theorem State.corrWrite_ramps {f m p : Nat} (h : s.corrRamps m p = true) :
    s.corrWrite f m p = (((s.corrStaged f m p).foldl (fun t e => t.rampTo p e.1 (s.writeFrame p) e.2)
      ((s.unstage f (R.CORR_0 m p) 3).hostFrame p (s.writeFrame p))).setFld (F.CORR_3.SRC m p) 5) := by
  simp only [State.corrWrite, h, if_true]

/-- Elsewhere the staged fields take their values at once (R159). -/
theorem State.corrWrite_atOnce {f m p : Nat} (h : s.corrRamps m p = false) :
    s.corrWrite f m p = (((s.corrStaged f m p).foldl (fun t e => t.setCorr m p e.1 e.2)
      (s.unstage f (R.CORR_0 m p) 3)).setFld (F.CORR_3.SRC m p) 5) := by
  simp only [State.corrWrite, h, Bool.false_eq_true, if_false]

theorem exec_corrRampEnd (p : Fin 104) (f : Fin 4) (h : s.runs = true) :
    exec (.corrRampEnd p f) s = .next (s.keep (s.rampEnd p f)) := s.act_running _ h

end Lemmas

/-- Settles O20: each command is its meaning in a running module, whose cases the lemmas above give. -/
theorem correctionSets : Obligations.CorrectionSets := by
  unfold Obligations.CorrectionSets
  refine ⟨?trim, ?convergence, ?pf, ?vf, ?rampEnd⟩
  case trim =>
    rintro s u v x hs hr rfl
    rw [exec_calTrimWrite u v hs hr]
    exact ⟨fun ha hx => by rw [State.trimWrite_change ha hx], fun h => by rw [State.trimWrite_same h]⟩
  case convergence =>
    intro s frame
    exact ⟨s.convergenceStart_keeps frame (·.regs) (fun _ _ => rfl) (fun _ _ => rfl),
      s.convergenceStart_keeps frame (·.cal.gaugeEsts) (fun _ _ => rfl) (fun _ _ => rfl),
      s.convergenceStart_keeps frame (·.cal.nbEnds) (fun _ _ => rfl) (fun _ _ => rfl)⟩
  case pf =>
    intro s m p hs hr
    rw [exec_corrSetWrite_pf m p hs hr]
    exact ⟨fun h => by rw [State.corrWrite_ramps h], fun h => by rw [State.corrWrite_atOnce h]⟩
  case vf => exact fun s f m p hs hf => exec_corrSetWrite_vf m p hs hf
  case rampEnd => exact fun s p f hs => exec_corrRampEnd p f hs

end Sys2Proof.Machine
end

section
/-!
PROOFS. Writes and reads of BAR0 by the host (ch. 15, ch. 23), and GLB_CTL.COMPAT (ch. 21).
-/
namespace Sys2Proof.Machine

section Lemmas

variable {s : State}

theorem exec_registerWrite (f : Fin 9) (o w : Nat) (v : BitVec 64) (h : s.runs = true) :
    exec (.registerWrite f o w v) s = .next (s.keep (s.regWrite f o w v)) := s.act_running _ h

theorem exec_wideValueRead (f : Fin 9) (o w : Nat) (h : s.runs = true) :
    exec (.wideValueRead f o w) s = .next (s.keep (s.regRead f o w)) := s.act_running _ h

theorem exec_glbCompatWrite (v : Word) (h : s.runs = true) :
    exec (.glbCompatWrite v) s = .next (s.keep (s.compatWrite v)) := s.act_running _ h

section Widths

variable {f o w : Nat} {v : BitVec 64}

/-- One aligned dword is written (R11). -/
theorem State.regWrite_dword (hw : w = 4) (ho : o % 4 = 0) : s.regWrite f o w v = s.funcWrite f o (v.extractLsb' 0 32) := by
  simp [State.regWrite, hw, ho]

/-- Two aligned dwords are written, the lower address first (R11). -/
theorem State.regWrite_qword (hw : w = 8) (ho : o % 8 = 0) :
    s.regWrite f o w v = (s.funcWrite f o (v.extractLsb' 0 32)).funcWrite f (o + 4) (v.extractLsb' 32 32) := by
  simp [State.regWrite, hw, ho]

/-- A write of another width or alignment is discarded (R11). -/
theorem State.regWrite_other (h4 : w ≠ 4 ∨ o % 4 ≠ 0) (h8 : w ≠ 8 ∨ o % 8 ≠ 0) : s.regWrite f o w v = s := by
  have h4' : ¬ (w = 4 ∧ o % 4 = 0) := by omega
  have h8' : ¬ (w = 8 ∧ o % 8 = 0) := by omega
  simp [State.regWrite, h4', h8']

theorem State.regRead_dword (hw : w = 4) (ho : o % 4 = 0) :
    s.regRead f o w = (s.funcRead f o).2.answer [(s.funcRead f o).1] := by
  simp [State.regRead, hw, ho]

theorem State.regRead_qword (hw : w = 8) (ho : o % 8 = 0) :
    s.regRead f o w = (((s.funcRead f o).2.funcRead f (o + 4)).2.answer
      [(s.funcRead f o).1, ((s.funcRead f o).2.funcRead f (o + 4)).1]) := by
  simp [State.regRead, hw, ho]

/-- A read of another width or alignment answers all ones (R11). -/
theorem State.regRead_other (h4 : w ≠ 4 ∨ o % 4 ≠ 0) (h8 : w ≠ 8 ∨ o % 8 ≠ 0) :
    s.regRead f o w = s.answer [0xFFFFFFFF] := by
  have h4' : ¬ (w = 4 ∧ o % 4 = 0) := by omega
  have h8' : ¬ (w = 8 ∧ o % 8 = 0) := by omega
  simp [State.regRead, h4', h8']

end Widths

/-- A write to a block that cannot be reached is discarded (R30). -/
theorem State.pfWrite_unreachable {o : Nat} {v : Word} (h : s.reachable (s.alias o) = false) : s.pfWrite o v = s := by
  simp [State.pfWrite, h]

/-- The blocks whose registers all take a plain write. -/
theorem State.pfWrite_plainBlock {o : Nat} {v : Word} (h : s.reachable (s.alias o) = true) (ha : s.alias o % 4 = 0)
    (hb : s.alias o / 0x10000 ∈ [0x01, 0x11, 0x82, 0x85, 0x86, 0x87, 0x88]) :
    s.pfWrite o v = s.plainWrite (s.alias o) v := by
  simp only [List.mem_cons, List.not_mem_nil, or_false] at hb
  rcases hb with hb | hb | hb | hb | hb | hb | hb <;> simp [State.pfWrite, h, ha, hb]

/-- The event unit's block can be reached from reset on (R30). -/
theorem State.reachable_evtTest : s.reachable R.EVT_TEST = true := rfl

theorem State.pfWrite_evtTest {o : Nat} {v : Word} (h : s.alias o = R.EVT_TEST) : s.pfWrite o v = s.evtTestWrite v := by
  simp only [State.pfWrite, h, State.reachable_evtTest]
  rfl

theorem State.funcWrite_pf (o : Nat) (v : Word) : s.funcWrite 0 o v = s.pfWrite o v := if_pos rfl

/-- A VF writes no register of a ring that is not its own (Table 15.3). -/
theorem State.funcWrite_vf_foreign {f o : Nat} {v : Word} (hf : f ≠ 0) (ho : o / 0x1000 = 1)
    (hr : f ≠ s.ringOwner (o % 0x1000 / 0x40)) : s.funcWrite f o v = s := by
  simp [State.funcWrite, State.ringRegWrite, hf, ho, hr]

/-- Nor a register outside the ring groups. -/
theorem State.funcWrite_vf_outside {f o : Nat} {v : Word} (hf : f ≠ 0) (ho : o / 0x1000 ≠ 1) : s.funcWrite f o v = s := by
  simp [State.funcWrite, hf, ho]

/-- A plain write changes its own register only. -/
theorem State.reg_plainWrite_ne {o i : Nat} (v : Word) (h : i ≠ o) : (s.plainWrite o v).reg i = s.reg i := by
  unfold State.plainWrite
  split
  · rfl
  · exact State.reg_setReg_ne s _ h

/-- One bit of a word written under a mask of bits that take the value and one of bits that a 1 clears (R9). -/
theorem getLsbD_maskedWrite (old v m c : Word) {i : Nat} (hi : i < 32) :
    (((old &&& ~~~ m) ||| (v &&& m)) &&& ~~~ (v &&& c)).getLsbD i =
      ((if m.getLsbD i then v.getLsbD i else old.getLsbD i) && !(v.getLsbD i && c.getLsbD i)) := by
  simp only [BitVec.getLsbD_and, BitVec.getLsbD_or, BitVec.getLsbD_not, hi, decide_true, Bool.true_and]
  cases m.getLsbD i <;> simp

/-- One bit of a register after a plain write to it (R9). -/
theorem State.getLsbD_reg_plainWrite {o i : Nat} {row : RegRow} (v : Word) (h : regRow o = some row) (hi : i < 32) :
    ((s.plainWrite o v).reg o).getLsbD i =
      ((if (BitVec.ofNat 32 (row.rw + (if s.anyArmed then 0 else row.rwl))).getLsbD i then v.getLsbD i
        else (s.reg o).getLsbD i) && !(v.getLsbD i && (BitVec.ofNat 32 row.w1c).getLsbD i)) := by
  simp only [State.plainWrite, h, State.reg_setReg_self]
  exact getLsbD_maskedWrite _ _ _ _ hi

/-- A read in a block that cannot be reached answers all ones (R30). -/
theorem State.pfRead_unreachable {f o : Nat} (h : s.reachable (s.alias o) = false) : s.pfRead f o = (0xFFFFFFFF, s) := by
  simp [State.pfRead, h]

/-- A read of the lowest dword of a wide value takes the function's snapshot of it (R107, R108). -/
theorem State.pfRead_lowest {f o b n : Nat} (h : s.reachable (s.alias o) = true) (hw : wideAt (s.alias o) = some (b, n))
    (hb : s.alias o = b) : s.pfRead f o = (dwAt (s.wideNow b n) 0, s.snapshot f b (s.wideNow b n)) := by
  subst hb
  simp only [State.pfRead, h, hw, Bool.not_true, Bool.false_eq_true, if_false, if_true]

/-- A read of another dword of a wide value reads the function's snapshot (R107). -/
theorem State.pfRead_higher {f o b n : Nat} (h : s.reachable (s.alias o) = true) (hw : wideAt (s.alias o) = some (b, n))
    (hb : s.alias o ≠ b) : s.pfRead f o = (s.snapAt f (s.alias o), s) := by
  simp only [State.pfRead, h, hw, hb, Bool.not_true, Bool.false_eq_true, if_false]

/-- A read of a register of one dword; where none is listed it answers 0 (R557). -/
theorem State.pfRead_narrow {f o : Nat} (h : s.reachable (s.alias o) = true) (hw : wideAt (s.alias o) = none) :
    s.pfRead f o = (if (regRow (s.alias o)).isSome then s.reg (s.alias o) else 0, s) := by
  simp only [State.pfRead, h, hw, Bool.not_true, Bool.false_eq_true, if_false]

section Compat

variable {v : Word}

theorem State.compatWrite_zero (h : getBits v 0 1 = 0) : s.compatWrite v = s := if_pos h

/-- After the first ring a write of 1 only shows that it came late (R522). -/
theorem State.compatWrite_late (h : getBits v 0 1 ≠ 0) (hr : s.flag F.GLB_STAT.RING_SEEN = true) :
    s.compatWrite v = s.setFlag F.GLB_STAT.COMPAT_LATE true := by
  simp only [State.compatWrite, h, hr, if_false, if_true]

theorem State.compatWrite_again (h : getBits v 0 1 ≠ 0) (hr : s.flag F.GLB_STAT.RING_SEEN = false)
    (hc : s.flag F.GLB_CTL.COMPAT = true) : s.compatWrite v = s := by
  simp only [State.compatWrite, State.compat, h, hr, hc, Bool.false_eq_true, if_false, if_true]

/-- Compatibility comes into force (R522, R43). -/
theorem State.compatWrite_first (h : getBits v 0 1 ≠ 0) (hr : s.flag F.GLB_STAT.RING_SEEN = false)
    (hc : s.flag F.GLB_CTL.COMPAT = false) :
    s.compatWrite v = (((s.setFlag F.GLB_CTL.COMPAT true).inpModeWrite 2).symJudge false).raisePF 8 0 := by
  simp only [State.compatWrite, State.compat, h, hr, hc, Bool.false_eq_true, if_false]

end Compat

end Lemmas

/-- Settles O50: the width of an access, the function and block it reaches, and the access codes of the register decide
it. -/
theorem registerAccesses : Obligations.RegisterAccesses := by
  unfold Obligations.RegisterAccesses
  refine ⟨?writeWidths, ?writeTargets, ?accessCodes, ?readWidths, ?wideReads, ?compat⟩
  case writeWidths =>
    intro s f o w v hs
    rw [exec_registerWrite f o w v hs]
    exact ⟨fun hw ho => by rw [State.regWrite_dword hw ho], fun hw ho => by rw [State.regWrite_qword hw ho],
      fun h4 h8 => by rw [State.regWrite_other h4 h8]⟩
  case writeTargets =>
    rintro s f o a v rfl
    rw [State.funcWrite_pf]
    exact ⟨State.pfWrite_unreachable, State.pfWrite_plainBlock, State.pfWrite_evtTest, State.funcWrite_vf_foreign,
      State.funcWrite_vf_outside⟩
  case accessCodes =>
    rintro s o v m c row hrow rfl rfl
    exact ⟨fun p hp => State.reg_plainWrite_ne v (List.ne_of_not_mem_cons hp),
      fun i hi => State.getLsbD_reg_plainWrite v hrow hi⟩
  case readWidths =>
    intro s f o w hs
    rw [exec_wideValueRead f o w hs]
    exact ⟨fun hw ho => by rw [State.regRead_dword hw ho], fun hw ho => by rw [State.regRead_qword hw ho],
      fun h4 h8 => by rw [State.regRead_other h4 h8]; rfl⟩
  case wideReads =>
    rintro s f o a rfl
    exact ⟨State.pfRead_unreachable, fun _ _ => State.pfRead_lowest, fun _ _ => State.pfRead_higher, State.pfRead_narrow⟩
  case compat =>
    intro s v hs
    rw [exec_glbCompatWrite v hs]
    exact ⟨fun h => by rw [State.compatWrite_zero h], fun h hr => by rw [State.compatWrite_late h hr],
      fun h hr hc => by rw [State.compatWrite_again h hr hc], fun h hr hc => by rw [State.compatWrite_first h hr hc]⟩

end Sys2Proof.Machine
end

section
/-!
PROOFS. Slips of the fixed crossings and their re-centring (R21, R22, Table 1.6).
-/
namespace Sys2Proof.Machine

section Lemmas

variable {s : State}

theorem exec_crossingSlip (x : Fin 12) (h : s.runs = true) :
    exec (.crossingSlip x) s = .next (s.keep (s.slip x)) := s.act_running _ h

section Slip

variable {x : Nat} {u : State} (hu : (s.setFlag ⟨R.GLB_XSTAT, x, 1⟩ true).raisePF 12 x = u)
include hu

/-- Showing a slip marks no crossing yet: that X2 has slipped before is what decides its action. -/
theorem State.slipShown_inp : u.inp = s.inp := by
  subst hu
  simp only [State.raisePF_inp, State.setFlag_inp]

/-- A slip of X1.b marks the bank, whose positions are degraded from the present frame on. -/
theorem State.slip_x1 (hx : x < 8) :
    s.slip x = (({ u with inp := { u.inp with x1Slipped := putBit u.inp.x1Slipped x true } }).degOn (.crossing x)
      (s.frameNow false)).fault 0x0108 x := by
  subst hu
  exact if_pos hx

/-- A slip of X2 before it is re-centred starts no further fall-back. -/
theorem State.slip_x2_again (hx : x = 8) (h2 : s.inp.x2Slipped = true) : s.slip x = u.fault 0x000E 0 := by
  have hu2 : u.inp.x2Slipped = true := by rw [State.slipShown_inp hu, h2]
  subst hx hu
  exact if_pos hu2

/-- The first slip of X2 puts every gauge into fall-back that is not in it. -/
theorem State.slip_x2_first (hx : x = 8) (h2 : s.inp.x2Slipped = false) :
    s.slip x = (({ u with inp := { u.inp with x2Slipped := true } }.each (List.range 4)
      (fun t g => if s.fallback g then t else t.fallbackStart g false)).fault 0x000E 0) := by
  have hu2 : ¬ u.inp.x2Slipped = true := by rw [State.slipShown_inp hu, h2]; exact Bool.false_ne_true
  subst hx hu
  exact if_neg hu2

theorem State.slip_x6s (hx : x = 9) : s.slip x = { u with time := { u.time with x6sSlipped := true } } := by
  subst hx hu; rfl

theorem State.slip_x7 (hx : x = 10) : s.slip x = u.linkLost 0 := by
  subst hx hu; rfl

theorem State.slip_x8r (hx : x = 11) : s.slip x = { u with inp := { u.inp with x8rSlipped := true } } := by
  subst hx hu; rfl

end Slip

/-- X1.b is re-centred where no armed context uses the bank. -/
theorem exec_x1Recentre_free {b : Fin 8} (h : s.runs = true) (hb : s.bankInUse b = false) :
    exec (.x1Recentre b) s = .next (s.keep
      (({ s with inp := { s.inp with x1Slipped := putBit s.inp.x1Slipped b false } }).degOff (.crossing b)
        (s.frameNow false))) :=
  (s.act_running _ h).trans (by rw [if_neg (Bool.eq_false_iff.mp hb)])

/-- X1.b stays slipped while an armed context uses the bank. -/
theorem exec_x1Recentre_used {b : Fin 8} (h : s.runs = true) (hb : s.bankInUse b = true) :
    exec (.x1Recentre b) s = .next (s.keep s) :=
  (s.act_running _ h).trans (by rw [if_pos hb])

/-- Re-centring X2 ends the fall-back check of the four gauges in their order. -/
theorem exec_x2Recentre_slipped (h : s.runs = true) (h2 : s.inp.x2Slipped = true) :
    exec .x2Recentre s = .next (s.keep
      (((({ s with inp := { s.inp with x2Slipped := false } }.fallbackEnd 0).fallbackEnd 1).fallbackEnd 2).fallbackEnd 3)) :=
  (s.act_running _ h).trans (by rw [if_pos h2]; rfl)

theorem exec_x6sRecentre (h : s.runs = true) :
    exec .x6sRecentre s = .next (s.keep { s with time := { s.time with x6sSlipped := false } }) :=
  s.act_running _ h

/-- X8R is re-centred where the stimulus sequencer has stopped. -/
theorem exec_x8rRecentre_stopped (h : s.runs = true) (hs : s.stimState = 0) :
    exec .x8rRecentre s = .next (s.keep { s with inp := { s.inp with x8rSlipped := false } }) :=
  (s.act_running _ h).trans (by rw [if_pos (beq_iff_eq.mpr hs)])

end Lemmas

/-- Settles O9: a slip's action is decided by the crossing, that of X2 by whether it has slipped already; each re-centring
by its own condition. -/
theorem fixedCrossings : Obligations.FixedCrossings := by
  unfold Obligations.FixedCrossings
  refine ⟨?slip, ?x1Free, ?x1Used, ?x2, ?x6s, ?x8r⟩
  case slip =>
    intro s x u hs hu
    rw [exec_crossingSlip x hs]
    exact ⟨fun hx => by rw [State.slip_x1 hu hx],
      fun hx h2 => by rw [State.slip_x2_again hu (congrArg Fin.val hx) h2],
      fun hx h2 => by rw [State.slip_x2_first hu (congrArg Fin.val hx) h2],
      fun hx => by rw [State.slip_x6s hu (congrArg Fin.val hx)],
      fun hx => by rw [State.slip_x7 hu (congrArg Fin.val hx)],
      fun hx => by rw [State.slip_x8r hu (congrArg Fin.val hx)]⟩
  case x1Free => exact fun s b hs hb => exec_x1Recentre_free hs hb
  case x1Used => exact fun s b hs hb => exec_x1Recentre_used hs hb
  case x2 => exact fun s hs h2 => exec_x2Recentre_slipped hs h2
  case x6s => exact fun s hs => exec_x6sRecentre hs
  case x8r => exact fun s hs h0 => exec_x8rRecentre_stopped hs h0

end Sys2Proof.Machine
end

section
/-!
PROOFS. The end of a monitor window (R55 to R57).
-/
namespace Sys2Proof.Machine

section Lemmas

variable {s : State}

theorem exec_monitorWindowEnd (ws : List MonWindow) (h : s.runs = true) :
    exec (.monitorWindowEnd ws) s = .next (s.keep (s.monEnd ws)) := s.act_running _ h

/-- The outputs of an input for which a condition of R57 holds. -/
theorem State.monInput_held {n : Nat} (w : MonWindow) (h : s.monHeld n = true) :
    s.monInput n w = s.setFlag (F.INP_MON_STAT.STALE n) true := if_pos h

/-- The outputs of an input for which such a condition has held in the window. -/
theorem State.monInput_dirty {n : Nat} (w : MonWindow) (h : s.monHeld n = false) (hd : natBit s.inp.monDirty n = true) :
    s.monInput n w = s :=
  (if_neg (Bool.eq_false_iff.mp h)).trans (if_pos hd)

theorem State.monInput_full {n : Nat} (w : MonWindow) (h : s.monHeld n = false) (hd : natBit s.inp.monDirty n = false) :
    s.monInput n w = s.monOutput n w :=
  (if_neg (Bool.eq_false_iff.mp h)).trans (if_neg (Bool.eq_false_iff.mp hd))

/-- A pattern of 16 bits fits a field of 16 bits. -/
theorem pattern16_mod (x : Int) : pattern 16 x % 2 ^ 16 = pattern 16 x := by
  unfold pattern
  omega

/-- The values of a window with a valid code (R56). -/
theorem State.monValues_codes {l : List Int} (h : l ≠ []) :
    s.monValues l =
      ((pattern 16 (roundDiv (sumInt l) l.length),
        roundSqrtQuot ((l.length : Int) * sumInt (l.map (fun c => c * c)) - sumInt l * sumInt l).toNat (l.length * l.length),
        pattern 16 (minInt l), pattern 16 (maxInt l)), s) :=
  if_neg (by rwa [List.isEmpty_iff])

/-- The values of a window change no register, whether or not free ones are drawn. -/
theorem State.reg_monValues (l : List Int) (o : Nat) : (s.monValues l).2.reg o = s.reg o := by
  unfold State.monValues
  split
  · simp only [State.draw, State.reg]
  · rfl

/-- A field of another register keeps its value through a write of a flag. -/
theorem State.fld_setFlag_of_off_ne {f g : Fld} (b : Bool) (h : f.off ≠ g.off) : (s.setFlag g b).fld f = s.fld f :=
  s.fld_setFlag_ne f g b (.inl h)

section Put

variable {seqFld valFld f : Fld} {q x : Nat}

theorem State.reg_monPut_ne {o : Nat} (hs : o ≠ seqFld.off) (hv : o ≠ valFld.off) :
    (s.monPut seqFld valFld q x).reg o = s.reg o :=
  ((s.setFld seqFld q).reg_setFld_ne x hv).trans (s.reg_setFld_ne q hs)

/-- A field of another register keeps its value. -/
theorem State.fld_monPut_ne (hs : f.off ≠ seqFld.off) (hv : f.off ≠ valFld.off) :
    (s.monPut seqFld valFld q x).fld f = s.fld f := by
  rw [State.fld, State.reg_monPut_ne hs hv, State.fld]

theorem State.fld_monPut_value (hf : valFld.lo + valFld.width ≤ 32) :
    (s.monPut seqFld valFld q x).fld valFld = x % 2 ^ valFld.width :=
  (s.setFld seqFld q).fld_setFld_self valFld x hf

theorem State.fld_monPut_seq (hf : seqFld.lo + seqFld.width ≤ 32) (h : seqFld.apart valFld) :
    (s.monPut seqFld valFld q x).fld seqFld = q % 2 ^ seqFld.width :=
  ((s.setFld seqFld q).fld_setFld_ne seqFld valFld x h).trans (s.fld_setFld_self seqFld q hf)

end Put

section Output

variable {n mean rms lo hi : Nat} {w : MonWindow} {t : State}
  (hv : s.monValues (windowCodes w) = ((mean, rms, lo, hi), t))
include hv

/-- The outputs of a window are put in the order of their registers, all with the next SEQ (R56). -/
theorem State.monOutput_eq {q : Nat} (hq : (s.fld (F.INP_MON_STAT.SEQ n) + 1) % 256 = q) :
    s.monOutput n w =
      ((((((t.monPut (F.INP_MON_MEAN.SEQ n) (F.INP_MON_MEAN.VALUE n) q mean).monPut
        (F.INP_MON_RMS.SEQ n) (F.INP_MON_RMS.VALUE n) q rms).monPut
        (F.INP_MON_MIN.SEQ n) (F.INP_MON_MIN.VALUE n) q lo).monPut
        (F.INP_MON_MAX.SEQ n) (F.INP_MON_MAX.VALUE n) q hi).monPut
        (F.INP_MON_FREQ.SEQ n) (F.INP_MON_FREQ.FREQ n) q (s.monCount n (windowCodes w))).setFlag
        (F.INP_MON_STAT.STALE n) false).monPut
        (F.INP_MON_STAT.SEQ n) (F.INP_MON_STAT.CLIPPED n) q (if w.clipped then 1 else 0) := by
  subst hq
  simp only [State.monOutput, hv]

/-- The value of a register put before INP_MON_STATn is not touched by the writes to the other registers. -/
theorem State.fld_monOutput_values :
    (s.monOutput n w).fld (F.INP_MON_MEAN.VALUE n) = mean % 2 ^ 16 ∧
      (s.monOutput n w).fld (F.INP_MON_RMS.VALUE n) = rms % 2 ^ 16 ∧
      (s.monOutput n w).fld (F.INP_MON_MIN.VALUE n) = lo % 2 ^ 16 ∧
      (s.monOutput n w).fld (F.INP_MON_MAX.VALUE n) = hi % 2 ^ 16 ∧
      (s.monOutput n w).fld (F.INP_MON_FREQ.FREQ n) =
        s.monCount n (windowCodes w) % 2 ^ (F.INP_MON_FREQ.FREQ n).width := by
  simp [State.monOutput_eq hv rfl, State.fld_monPut_ne, State.fld_setFlag_of_off_ne, State.fld_monPut_value]

/-- STALE lies apart from the fields of INP_MON_STATn that are put after it. -/
theorem State.flag_monOutput_stale : (s.monOutput n w).flag (F.INP_MON_STAT.STALE n) = false := by
  rw [State.monOutput_eq hv rfl, State.monPut, State.flag_setFld_ne _ _ _ _ (by simp [Fld.apart]),
    State.flag_setFld_ne _ _ _ _ (by simp [Fld.apart]), State.flag_setFlag_self _ _ _ (by simp [Fld.fits]) rfl]

theorem State.flag_monOutput_clipped : (s.monOutput n w).flag (F.INP_MON_STAT.CLIPPED n) = w.clipped := by
  rw [State.monOutput_eq hv rfl, State.flag, State.fld_monPut_value (by simp)]
  cases w.clipped <;> rfl

theorem State.fld_monOutput_seq :
    (s.monOutput n w).fld (F.INP_MON_STAT.SEQ n) = (s.fld (F.INP_MON_STAT.SEQ n) + 1) % 256 := by
  rw [State.monOutput_eq hv rfl, State.fld_monPut_seq (by simp) (by simp [Fld.apart])]
  exact Nat.mod_mod _ _

/-- No register but the input's own six changes. -/
theorem State.regsBut_monOutput :
    s.regsBut (s.monOutput n w) [R.INP_MON_MEAN n, R.INP_MON_RMS n, R.INP_MON_MIN n, R.INP_MON_MAX n, R.INP_MON_FREQ n,
      R.INP_MON_STAT n] := by
  intro o ho
  simp only [List.mem_cons, List.not_mem_nil, or_false, not_or] at ho
  obtain ⟨hmean, hrms, hmin, hmax, hfreq, hstat⟩ := ho
  have ht : t.reg o = s.reg o := by rw [← s.reg_monValues (windowCodes w) o, hv]
  rw [State.monOutput_eq hv rfl, State.reg_monPut_ne hstat hstat, State.reg_setFlag_ne _ _ hstat,
    State.reg_monPut_ne hfreq hfreq, State.reg_monPut_ne hmax hmax, State.reg_monPut_ne hmin hmin,
    State.reg_monPut_ne hrms hrms, State.reg_monPut_ne hmean hmean, ht]

end Output

end Lemmas

/-- Settles O7: the conditions of R57 choose between keeping an input's outputs and putting new ones, which hold the values
of R56 in the input's own registers. -/
theorem monitorOutputs : Obligations.MonitorOutputs := by
  unfold Obligations.MonitorOutputs
  refine ⟨?windowEnd, ?conditions, ?values, ?status⟩
  case windowEnd => exact fun s a b c d hs => exec_monitorWindowEnd [a, b, c, d] hs
  case conditions =>
    exact fun s n w => ⟨State.monInput_held w, State.monInput_dirty w, State.monInput_full w⟩
  case values =>
    intro s n w hw
    obtain ⟨hmean, hrms, hmin, hmax, -⟩ := State.fld_monOutput_values (s.monValues_codes hw) (n := n)
    exact ⟨hmean.trans (pattern16_mod _), hrms, hmin.trans (pattern16_mod _), hmax.trans (pattern16_mod _)⟩
  case status =>
    intro s n w
    obtain ⟨-, -, -, -, hfreq⟩ := State.fld_monOutput_values (s := s) (n := n) (w := w) rfl
    exact ⟨hfreq, State.flag_monOutput_stale rfl, State.flag_monOutput_clipped rfl, State.fld_monOutput_seq rfl,
      State.regsBut_monOutput rfl⟩

end Sys2Proof.Machine
end

section
/-!
PROOFS. A change of interleave mode (R44, R45, R105, R173).
-/
namespace Sys2Proof.Machine

section Lemmas

variable {s : State}

theorem exec_inpModeWrite (v : Word) (h : s.runs = true) :
    exec (.inpModeWrite v) s = .next (s.keep (s.inpModeWrite v)) := s.act_running _ h

theorem exec_modeRoutingSwitch (h : s.runs = true) : exec .modeRoutingSwitch s = .next (s.keep s.routingSwitch) :=
  s.act_running _ h

theorem exec_modeChangeComplete (h : s.runs = true) : exec .modeChangeComplete s = .next (s.keep s.modeComplete) :=
  s.act_running _ h

/-- The conditions that discard a write to INP_MODE (R9, R44, R45, R178). -/
theorem State.modeLocked_iff {m : Nat} :
    s.modeLocked m = true ↔
      s.anyArmed = true ∨ s.flag F.INP_MODE_STAT.CHANGING = true ∨ s.fld F.CAL_STAT.FG_ACTIVE ≠ 0 ∨ m = 3 := by
  simp only [State.modeLocked, Bool.or_eq_true, beq_iff_eq, bne_iff_ne]
  tauto

theorem State.modeLocked_eq_false_iff {m : Nat} :
    s.modeLocked m = false ↔
      s.anyArmed = false ∧ s.flag F.INP_MODE_STAT.CHANGING = false ∧ s.fld F.CAL_STAT.FG_ACTIVE = 0 ∧ m ≠ 3 := by
  rw [← Bool.not_eq_true, State.modeLocked_iff]
  simp only [not_or, Bool.not_eq_true, not_not]

section Write

variable {v : Word}

theorem State.inpModeWrite_locked (h : s.modeLocked (getBits v 0 2) = true) : s.inpModeWrite v = s := by
  simp only [State.inpModeWrite, h, Bool.true_or, if_true]

theorem State.inpModeWrite_same (h : getBits v 0 2 = s.fld F.INP_MODE.MODE) : s.inpModeWrite v = s := by
  simp only [State.inpModeWrite, h, decide_true, Bool.or_true, if_true]

/-- An accepted write of another mode begins a mode change (R45). -/
theorem State.inpModeWrite_change (h : s.modeLocked (getBits v 0 2) = false) (hm : getBits v 0 2 ≠ s.fld F.INP_MODE.MODE) :
    s.inpModeWrite v =
      (({ (s.setFld F.INP_MODE.MODE (getBits v 0 2)).setFlag F.INP_MODE_STAT.CHANGING true with
        inp := { s.inp with routed := false } }.endFades (s.frameNow true + 1)).symStop.cutPans).monRefresh :=
  if_neg (by simp [h, hm])

end Write

/-- The routing switch of a change in progress, with SAMPLE running (R45, R105). -/
theorem State.routingSwitch_due (hc : s.flag F.INP_MODE_STAT.CHANGING = true) (hr : s.inp.routed = false)
    (hf : s.frozen = false) :
    s.routingSwitch = (s.cycle.route (next192 (s.time.idx + s.perCycle - 1))).openAllEpochs.showDets.monRefresh :=
  if_pos (by simp [hc, hr, hf])

/-- It comes once in a change. -/
theorem State.routingSwitch_idle
    (h : s.flag F.INP_MODE_STAT.CHANGING = false ∨ s.frozen = true ∨ s.inp.routed = true) : s.routingSwitch = s :=
  if_neg (by rcases h with h | h | h <;> simp [h])

/-- The completion of a routed change (R45, R55, R173). -/
theorem State.modeComplete_due {u : State} (hc : s.flag F.INP_MODE_STAT.CHANGING = true) (hr : s.inp.routed = true)
    (hf : s.frozen = false)
    (hu : u = ((s.setFlag F.INP_MODE_STAT.CHANGING false).setFld F.INP_MODE_STAT.ACTIVE_MODE
      (s.fld F.INP_MODE.MODE)).raisePF 105 (s.fld F.INP_MODE.MODE)) :
    s.modeComplete = (u.restartSweeps (u.frameNow true + 1)).modeSettled (u.frameNow true + 1) := by
  subst hu
  exact if_pos (by simp [hc, hr, hf])

/-- A change that is not routed does not complete. -/
theorem State.modeComplete_idle
    (h : s.flag F.INP_MODE_STAT.CHANGING = false ∨ s.frozen = true ∨ s.inp.routed = false) : s.modeComplete = s :=
  if_neg (by rcases h with h | h | h <;> simp [h])

end Lemmas

/-- Settles O8: whether the write is locked, and whether the change is routed, decides what each of the three commands
does. -/
theorem modeChange : Obligations.ModeChange := by
  unfold Obligations.ModeChange
  refine ⟨?accepted, ?discarded, ?routing, ?idle, ?completion⟩
  case accepted =>
    intro s v hs hopen
    have hl := State.modeLocked_eq_false_iff.mpr hopen
    rw [exec_inpModeWrite v hs]
    exact ⟨fun hm => by rw [State.inpModeWrite_same hm], fun hm => by rw [State.inpModeWrite_change hl hm]⟩
  case discarded =>
    intro s v hs hlocked
    rw [exec_inpModeWrite v hs, State.inpModeWrite_locked (State.modeLocked_iff.mpr hlocked)]
  case routing =>
    intro s hs hc hr hf
    rw [exec_modeRoutingSwitch hs, State.routingSwitch_due hc hr hf]
  case idle =>
    intro s hs
    rw [exec_modeRoutingSwitch hs, exec_modeChangeComplete hs]
    exact ⟨fun h => by rw [State.routingSwitch_idle h], fun h => by rw [State.modeComplete_idle h]⟩
  case completion =>
    intro s hs hc hr hf
    exact ⟨_, exec_modeChangeComplete hs, _, rfl, by rw [State.modeComplete_due hc hr hf rfl]⟩

end Sys2Proof.Machine
end

section
/-!
PROOFS. Overranges and overloads, INP_OFFSETn, the reference buffers and INP_MON_CTL (R32 to R36, R48 to R51, R55).
-/
namespace Sys2Proof.Machine

section Lemmas

variable {s : State}

theorem exec_inputOverrange (n : Fin 4) (h : s.runs = true) :
    exec (.inputOverrange n) s = .next (s.keep (s.overrange n)) := s.act_running _ h

theorem exec_inputOverload (n : Fin 4) (h : s.runs = true) :
    exec (.inputOverload n) s = .next (s.keep (s.overload n)) := s.act_running _ h

theorem exec_inpOffsetWrite (n : Fin 4) (v : Word) (h : s.runs = true) :
    exec (.inpOffsetWrite n v) s = .next (s.keep (s.offsetWrite n v)) := s.act_running _ h

theorem exec_offsetDegradedEnd (n : Fin 4) (h : s.runs = true) :
    exec (.offsetDegradedEnd n) s = .next (s.keep (s.degOff (.offset n) (s.frameNow false))) := s.act_running _ h

theorem exec_inpRefCtlWrite (v : Word) (h : s.runs = true) :
    exec (.inpRefCtlWrite v) s = .next (s.keep (s.refCtlWrite v)) := s.act_running _ h

theorem exec_inpMonCtlWrite (v : Word) (h : s.runs = true) :
    exec (.inpMonCtlWrite v) s = .next (s.keep (s.monCtlWrite v)) := s.act_running _ h

theorem exec_refSettleTimerExpire (k : Fin 4) (x : Int) (h : s.runs = true) :
    exec (.refSettleTimerExpire k x) s = .next (s.keep (s.refSettled k x).wakeSweeps) := s.act_running _ h

theorem exec_refLevelFault (k : Fin 4) (x : Int) (h : s.runs = true) :
    exec (.refLevelFault k x) s = .next (s.keep (s.refFault k x)) := s.act_running _ h

theorem exec_refLevelRecover (k : Fin 4) (x : Int) (h : s.runs = true) :
    exec (.refLevelRecover k x) s = .next (s.keep (s.refRecover k x).wakeSweeps) := s.act_running _ h

/-- The first overrange of a sampled input (R32). -/
theorem State.overrange_first {n : Nat} (hn : sampledIn s.inp.route n = true)
    (ho : s.flag (F.INP_STAT.OVR.bit n) = false) :
    s.overrange n = (s.setFlag (F.INP_STAT.OVR.bit n) true).raise (100 + n) 0 routePF :=
  (if_pos hn).trans (if_neg (Bool.eq_false_iff.mp ho))

/-- An overrange whose OVR bit is set, whether or not the input is sampled. -/
theorem State.overrange_again {n : Nat} (ho : s.flag (F.INP_STAT.OVR.bit n) = true) : s.overrange n = s := by
  unfold State.overrange
  split
  · exact if_pos ho
  · rfl

theorem State.offsetWrite_free {n : Nat} (v : Word) (h : s.captured n = false) :
    s.offsetWrite n v = s.setFld (F.INP_OFFSET.OFFSET n) (getBits v 0 16) := if_neg (Bool.eq_false_iff.mp h)

/-- An offset written while the input is captured degrades its samples from the present frame on (R36). -/
theorem State.offsetWrite_captured {n : Nat} (v : Word) (h : s.captured n = true) :
    s.offsetWrite n v = ((s.setFld (F.INP_OFFSET.OFFSET n) (getBits v 0 16)).degOff (.offset n) (s.frameNow false)).degOn
      (.offset n) (s.frameNow false) := if_pos h

section Buffer

variable {k : Nat}

/-- A buffer that goes on starts its settle timer (R48). -/
theorem State.refWriteBit_on {v : Word} (he : s.flag (F.INP_REF_CTL.EN.bit k) = false) (hv : getBits v k 1 = 1) :
    s.refWriteBit v k =
      { s.setFlag (F.INP_REF_CTL.EN.bit k) true with inp := { s.inp with settling := putBit s.inp.settling k true } } := by
  simp [State.refWriteBit, he, hv]

/-- A buffer that serves a captured input stays on (R51). -/
theorem State.refWriteBit_serving {v : Word} (he : s.flag (F.INP_REF_CTL.EN.bit k) = true) (hv : getBits v k 1 = 0)
    (hc : (List.range 4).any (fun n => s.captured n && refServes s.inp.route k n) = true) : s.refWriteBit v k = s := by
  simp only [State.refWriteBit, he, hv, hc]
  rfl

/-- A buffer that goes off stops its settle timer and loses READY (R48). -/
theorem State.refWriteBit_off {v : Word} (he : s.flag (F.INP_REF_CTL.EN.bit k) = true) (hv : getBits v k 1 = 0)
    (hc : (List.range 4).any (fun n => s.captured n && refServes s.inp.route k n) = false) :
    s.refWriteBit v k =
      ({ (s.setFlag (F.INP_REF_CTL.EN.bit k) false).setFlag (F.INP_REF_STAT.READY.bit k) false with
        inp := { s.inp with settling := putBit s.inp.settling k false } }).degOff (.buffer k) (s.frameNow false) := by
  simp only [State.refWriteBit, he, hv, hc]
  rfl

theorem State.refSettled_inBand {x : Int} (ht : natBit s.inp.settling k = true) (hb : s.refInBand k x = true) :
    s.refSettled k x = ({ s with inp := { s.inp with settling := putBit s.inp.settling k false } }).setFlag
      (F.INP_REF_STAT.READY.bit k) true := (if_pos ht).trans (if_pos hb)

theorem State.refSettled_outOfBand {x : Int} (ht : natBit s.inp.settling k = true) (hb : s.refInBand k x = false) :
    s.refSettled k x = (({ s with inp := { s.inp with settling := putBit s.inp.settling k false } }).setFlag
      (F.INP_REF_STAT.FAULT.bit k) true).raisePF 104 k := (if_pos ht).trans (if_neg (Bool.eq_false_iff.mp hb))

/-- A ready buffer's level leaves its band (R49, Table 22.2). -/
theorem State.refFault_ready {x : Int} (hr : s.flag (F.INP_REF_STAT.READY.bit k) = true) (hb : s.refInBand k x = false) :
    s.refFault k x = ((((s.setFlag (F.INP_REF_STAT.READY.bit k) false).setFlag (F.INP_REF_STAT.FAULT.bit k) true).raisePF
      104 k).degOn (.buffer k) (s.frameNow false)).fault 0x0107 k := if_pos (by simp [hr, hb])

/-- A settled enabled buffer whose level is back in its band (R49). -/
theorem State.refRecover_settled {x : Int} (he : s.flag (F.INP_REF_CTL.EN.bit k) = true)
    (ht : natBit s.inp.settling k = false) (hb : s.refInBand k x = true) :
    s.refRecover k x = (s.setFlag (F.INP_REF_STAT.READY.bit k) true).degOff (.buffer k) (s.frameNow false) :=
  if_pos (by simp [he, ht, hb])

end Buffer

/-- A flag reads alike where its register does. -/
theorem State.flag_congr {t : State} {f : Fld} (h : t.reg f.off = s.reg f.off) : t.flag f = s.flag f := by
  rw [State.flag, State.fld, h, State.flag, State.fld]

/-- One of the four bits of a field reads what was written to it. -/
theorem State.flag_setFlag_bit {f : Fld} {k : Fin 4} (b : Bool) (hf : f.lo + 4 ≤ 32) :
    (s.setFlag (f.bit k) b).flag (f.bit k) = b :=
  s.flag_setFlag_self (f.bit k) b (by simp only [Fld.fits]; omega) rfl

theorem State.flag_wakeSweeps {f : Fld} (h : f.off ≠ R.CNV_GAUGE_STAT) : s.wakeSweeps.flag f = s.flag f :=
  State.flag_congr (s.reg_wakeSweeps h)

@[simp] theorem State.wakeSweeps_inp : s.wakeSweeps.inp = s.inp := by rw [s.wakeSweeps_eq]
@[simp] theorem State.wakeSweeps_mem : s.wakeSweeps.mem = s.mem := by rw [s.wakeSweeps_eq]
@[simp] theorem State.wakeSweeps_acq : s.wakeSweeps.acq = s.acq := by rw [s.wakeSweeps_eq]
@[simp] theorem State.wakeSweeps_hif : s.wakeSweeps.hif = s.hif := by rw [s.wakeSweeps_eq]

/-- What a settle timer's end out of the band shows and what it leaves alone (R48). -/
theorem State.refSettled_outOfBand_answer {k : Fin 4} {x : Int} (ht : natBit s.inp.settling k = true)
    (hb : s.refInBand k x = false) {t : State} (htw : s.keep (s.refSettled k x).wakeSweeps = t) :
    t.flag (F.INP_REF_STAT.FAULT.bit k) = true ∧ t.seen 104 = true ∧
      t.inp = { s.inp with settling := putBit s.inp.settling k false } ∧
      s.regsBut t (R.INP_REF_STAT :: R.CNV_GAUGE_STAT :: evtRegs 104) ∧ t.mem = s.mem ∧ t.acq = s.acq ∧
      t.hif = s.hif := by
  subst htw
  rw [State.refSettled_outOfBand ht hb]
  refine ⟨?fault, ?seen, ?inp, ?regs, ?mem, ?acq, ?hif⟩
  case fault =>
    rw [State.keep_flag, State.flag_wakeSweeps (by simp), State.raisePF,
      State.flag_raise _ _ _ _ (by simp [R.EVT_SEEN]) (by simp),
      State.flag_setFlag_bit _ (by decide)]
  case seen => rw [State.keep_seen, State.seen, State.flag_wakeSweeps (by decide), ← State.seen, State.seen_raisePF]
  case inp => rw [State.keep_inp, State.wakeSweeps_inp, State.raisePF_inp, State.setFlag_inp]
  case regs =>
    intro o ho
    simp only [evtRegs, List.mem_cons, List.not_mem_nil, or_false, not_or] at ho
    obtain ⟨hstat, hgauge, hseen, hlost⟩ := ho
    rw [State.keep_reg, State.reg_wakeSweeps _ hgauge, State.reg_raisePF _ _ _ hseen hlost, State.reg_setFlag_ne _ _ hstat]
    rfl
  case mem => rw [State.keep_mem, State.wakeSweeps_mem, State.raisePF_mem, State.setFlag_mem]
  case acq => rw [State.keep_acq, State.wakeSweeps_acq, State.raisePF_acq, State.setFlag_acq]
  case hif => rw [State.keep_hif, State.wakeSweeps_hif, State.raisePF_hif, State.setFlag_hif]

/-- Where handling a fault does not reach, a ready buffer that leaves its band changes INP_REF_STAT only (R49). -/
theorem State.reg_refFault_ready {k : Nat} {x : Int} (hr : s.flag (F.INP_REF_STAT.READY.bit k) = true)
    (hb : s.refInBand k x = false) {o : Nat} (ho : faultOffset o = false) :
    (s.refFault k x).reg o =
      ((s.setFlag (F.INP_REF_STAT.READY.bit k) false).setFlag (F.INP_REF_STAT.FAULT.bit k) true).reg o := by
  rw [State.refFault_ready hr hb, State.reg_fault _ _ _ ho]
  exact State.reg_raisePF_out _ _ _ (by decide) ho

/-- What a level fault shows and what it leaves alone (R49). -/
theorem State.refFault_ready_answer {k : Fin 4} {x : Int} (hr : s.flag (F.INP_REF_STAT.READY.bit k) = true)
    (hb : s.refInBand k x = false) {t : State} (ht : s.keep (s.refFault k x) = t) :
    t.flag (F.INP_REF_STAT.READY.bit k) = false ∧ t.flag (F.INP_REF_STAT.FAULT.bit k) = true ∧
      t.inp = { s.inp with spans := ⟨.buffer k, s.frameNow false, none⟩ :: s.inp.spans } ∧
      (∀ o, faultOffset o = false → o ≠ R.INP_REF_STAT → t.reg o = s.reg o) ∧ t.mem = s.mem ∧ t.acq = s.acq ∧
      t.hif = s.hif := by
  subst ht
  refine ⟨?ready, ?fault, ?inp, ?regs, ?mem, ?acq, ?hif⟩
  case ready =>
    rw [State.keep_flag, State.flag_congr (State.reg_refFault_ready hr hb rfl),
      State.flag_setFlag_ne _ _ _ _ (by simp [Fld.apart]),
      State.flag_setFlag_bit _ (by decide)]
  case fault =>
    rw [State.keep_flag, State.flag_congr (State.reg_refFault_ready hr hb rfl),
      State.flag_setFlag_bit _ (by decide)]
  case inp => rw [State.keep_inp, State.refFault_ready hr hb, State.fault_inp, State.degOn, State.raisePF_inp]; rfl
  case regs =>
    intro o ho hstat
    rw [State.keep_reg, State.reg_refFault_ready hr hb ho, State.reg_setFlag_ne _ _ hstat, State.reg_setFlag_ne _ _ hstat]
  case mem => rw [State.keep_mem, State.refFault_ready hr hb, State.fault_mem]; exact State.raisePF_mem _ _ _
  case acq => rw [State.keep_acq, State.refFault_ready hr hb, State.fault_acq]; exact State.raisePF_acq _ _ _
  case hif => rw [State.keep_hif, State.refFault_ready hr hb, State.fault_hif]; exact State.raisePF_hif _ _ _

/-- What a buffer that goes off shows. -/
theorem State.refWriteBit_off_shows {k : Fin 4} {v : Word} (he : s.flag (F.INP_REF_CTL.EN.bit k) = true)
    (hv : getBits v k 1 = 0) (hc : (List.range 4).any (fun n => s.captured n && refServes s.inp.route k n) = false)
    {t : State} (ht : s.refWriteBit v k = t) :
    t.flag (F.INP_REF_CTL.EN.bit k) = false ∧ t.flag (F.INP_REF_STAT.READY.bit k) = false := by
  have hreg : ∀ o, t.reg o =
      ((s.setFlag (F.INP_REF_CTL.EN.bit k) false).setFlag (F.INP_REF_STAT.READY.bit k) false).reg o := by
    intro o
    rw [← ht, State.refWriteBit_off he hv hc]
    rfl
  constructor
  · rw [State.flag_congr (hreg _), State.flag_setFlag_ne _ _ _ _ (.inl (by simp)),
      State.flag_setFlag_bit _ (by decide)]
  · rw [State.flag_congr (hreg _), State.flag_setFlag_bit _ (by decide)]

end Lemmas

/-- Settles O6: each command is its meaning in a running module, whose cases the lemmas above give. -/
theorem inputsAndReferences : Obligations.InputsAndReferences := by
  unfold Obligations.InputsAndReferences
  refine ⟨?overrangeFirst, ?overrangeAgain, ?overload, ?offsetFree, ?offsetCaptured, ?offsetEnd, ?refCtl, ?bufferOn,
    ?bufferServing, ?bufferOff, ?monCtl, ?settled, ?levelFault, ?recovered, ?band⟩
  case overrangeFirst => exact fun s n hs hn ho => by rw [exec_inputOverrange n hs, State.overrange_first hn ho]
  case overrangeAgain => exact fun s n hs ho => by rw [exec_inputOverrange n hs, State.overrange_again ho]
  case overload => exact fun s n hs => exec_inputOverload n hs
  case offsetFree => exact fun s n v hs hc => by rw [exec_inpOffsetWrite n v hs, State.offsetWrite_free v hc]
  case offsetCaptured => exact fun s n v hs hc => by rw [exec_inpOffsetWrite n v hs, State.offsetWrite_captured v hc]
  case offsetEnd => exact fun s n hs => exec_offsetDegradedEnd n hs
  case refCtl => exact fun s v hs => exec_inpRefCtlWrite v hs
  case bufferOn => exact fun s v k he hv => State.refWriteBit_on he hv
  case bufferServing => exact fun s v k he hv hc => State.refWriteBit_serving he hv hc
  case bufferOff => exact fun s v k he hv hc => State.refWriteBit_off_shows he hv hc rfl
  case monCtl => exact fun s v hs => exec_inpMonCtlWrite v hs
  case settled =>
    intro s k x hs ht
    refine ⟨fun hb => by rw [exec_refSettleTimerExpire k x hs, State.refSettled_inBand ht hb], fun hb => ?_⟩
    exact ⟨_, exec_refSettleTimerExpire k x hs, State.refSettled_outOfBand_answer ht hb rfl⟩
  case levelFault =>
    rintro s k x hs ⟨hr, hb⟩
    exact ⟨_, exec_refLevelFault k x hs, State.refFault_ready_answer hr hb rfl⟩
  case recovered =>
    rintro s k x hs he ⟨ht, hb⟩
    rw [exec_refLevelRecover k x hs, State.refRecover_settled he ht hb]
  case band => exact fun s k x => rfl

end Sys2Proof.Machine
end

section
/-!
SUPPORT. Commands of a running module whose effect has a condition, and what showing a status changes.
-/
namespace Sys2Proof.Machine

variable (s : State)

/-- A running module carries out a command whose condition holds. -/
theorem State.act_if_pos {c : State → Bool} {f : State → State} (h : s.runs = true) (hc : c s = true) :
    s.act (fun t => if c t then f t else t) = .next (s.keep (f s)) :=
  (s.act_running _ h).trans (by rw [if_pos hc])

/-- A command whose condition does not hold leaves a running module as it is. -/
theorem State.act_if_neg {c : State → Bool} {f : State → State} (h : s.runs = true) (hc : c s = false) :
    s.act (fun t => if c t then f t else t) = .next (s.keep s) :=
  (s.act_running _ h).trans (by rw [if_neg (Bool.eq_false_iff.mp hc)])

/-- A flag whose bits the written one does not share keeps its value. -/
theorem State.flag_setFlag_apart {f g : Fld} (b : Bool)
    (h : f.off ≠ g.off ∨ f.lo + f.width ≤ g.lo ∨ g.lo + g.width ≤ f.lo) : (s.setFlag g b).flag f = s.flag f :=
  s.flag_setFlag_ne f g b h

/-- A flag of one bit reads what was written to it. -/
theorem State.flag_setFlag_own {f : Fld} (b : Bool) (h : f.lo < 32) (hw : f.width = 1) : (s.setFlag f b).flag f = b :=
  s.flag_setFlag_self f b (by simp only [Fld.fits]; omega) hw

end Sys2Proof.Machine
end

section
/-!
PROOFS. Lock attempts of the synthesiser loops: band trials, retries and lock (R62 to R68, R73, R79).
-/
namespace Sys2Proof.Machine

section Lemmas

variable {s : State}

section Commands

variable {l : Fin 4} {errs : List Int}

/-- A loop that searches with the reference present ends a trial. -/
theorem exec_bandTrialEnd_searching (h : s.runs = true) (hl : s.searching l = true) (hr : s.clk.refLost = false) :
    exec (.bandTrialEnd l errs) s = .next (s.keep (s.trialEnd l errs).rateFailed) :=
  s.act_if_pos h (by simp [hl, hr])

theorem exec_lockRetryTimer_waiting (h : s.runs = true) (hl : (s.loop l).retry = true) (hr : s.clk.refLost = false) :
    exec (.lockRetryTimer l) s = .next (s.keep (s.startLock l)) :=
  s.act_if_pos h (by simp [hl, hr])

theorem exec_loopLocked_searching {ppm : Int} {gap : Nat} (h : s.runs = true) (hl : s.searching l = true)
    (hr : s.clk.refLost = false) :
    exec (.loopLocked l errs ppm gap) s = .next (s.keep (s.loopLock l errs ppm gap)) :=
  s.act_if_pos h (by simp [hl, hr])

end Commands

section Trial

variable {l b : Nat} {r : List Nat} {errs : List Int} {u : State}
  (hu : s.loopRun l errs = u) (ht : (u.loop l).trials = b :: r)
include hu ht

/-- A trial ends with the band that fits (R66). -/
theorem State.trialEnd_fits (hf : (u.loop l).fits = true) :
    s.trialEnd l errs = u.setLoop l { u.loop l with trials := [], fit := some b, good := 0 } := by
  simp only [State.trialEnd, hu, ht, hf, if_true]

/-- A band that does not fit gives way to the next one. -/
theorem State.trialEnd_next (hf : (u.loop l).fits = false) (hr : r ≠ []) :
    s.trialEnd l errs = u.setLoop l { u.loop l with trials := r, good := 0 } := by
  simp only [State.trialEnd, hu, ht, hf, List.isEmpty_eq_false_iff.mpr hr, Bool.false_eq_true, if_false]

/-- The attempt fails with its last band (R66). -/
theorem State.trialEnd_failed (hf : (u.loop l).fits = false) (hr : r = []) :
    s.trialEnd l errs =
      ((((u.setLoop l { u.loop l with trials := [], retry := true, failed := true }).setFlag
        (F.CLK_SYN_STAT.SEARCHING l) false).setFlag (F.CLK_SYN_STAT.PH_OK l) false).setFlag
        (F.CLK_SYN_STAT.LOCK_FAIL l) true).raisePF 75 l := by
  subst hr
  simp only [State.trialEnd, hu, ht, hf, List.isEmpty_nil, Bool.false_eq_true, if_false, if_true]

end Trial

section Attempt

variable {l : Nat}

/-- Besides the loop's own state a lock attempt sets the status bits of its loop. -/
theorem State.startLock_eq :
    s.startLock l =
      ((((({ s with clk := (s.startLock l).clk }.setFlag (F.CLK_SYN_STAT.LOCKED l) false).setFlag
        (F.CLK_SYN_STAT.TRACKED l) false).setFlag (F.CLK_SYN_STAT.PH_OK l) false).setFlag
        (F.CLK_SYN_STAT.FREQ_OK l) false).setFlag (F.CLK_SYN_STAT.SEARCHING l) true) := rfl

theorem State.flag_startLock_searching : (s.startLock l).flag (F.CLK_SYN_STAT.SEARCHING l) = true :=
  State.flag_setFlag_own _ _ (by simp) rfl

/-- The other bits of the status are clear (R66). -/
theorem State.flag_startLock_clear :
    (s.startLock l).flag (F.CLK_SYN_STAT.LOCKED l) = false ∧ (s.startLock l).flag (F.CLK_SYN_STAT.PH_OK l) = false ∧
      (s.startLock l).flag (F.CLK_SYN_STAT.FREQ_OK l) = false := by
  rw [State.startLock_eq]
  simp [State.flag_setFlag_apart, State.flag_setFlag_own]

theorem State.regsBut_startLock : s.regsBut (s.startLock l) [R.CLK_SYN_STAT l] := by
  intro o ho
  have hne : o ≠ R.CLK_SYN_STAT l := List.ne_of_not_mem_cons ho
  rw [State.startLock_eq, State.reg_setFlag_ne _ _ hne, State.reg_setFlag_ne _ _ hne, State.reg_setFlag_ne _ _ hne,
    State.reg_setFlag_ne _ _ hne, State.reg_setFlag_ne _ _ hne, State.reg_with_clk]

theorem State.startLock_mem : (s.startLock l).mem = s.mem := rfl

theorem State.startLock_acq : (s.startLock l).acq = s.acq := rfl

end Attempt

/-- What takes a loop up that has locked: STIM, the memory islands, or the sample clocks (R73). -/
def State.takeUp (s : State) (l gap : Nat) : State :=
  match l with
  | 3 => s.stimClock
  | 2 => s.memRecover
  | _ => (s.tryRestart gap).memRecover

section Lock

variable {u : State} {l gap : Nat}

/-- A loop that searches locks in the band that fits once PH_OK and FREQ_OK stand, and is taken up (R68, R73). -/
theorem State.lockCheck_locks {v : State} {band : Nat} (hfit : (u.loop l).fit = some band) (hs : u.searching l = true)
    (hp : u.flag (F.CLK_SYN_STAT.PH_OK l) = true) (hq : u.flag (F.CLK_SYN_STAT.FREQ_OK l) = true)
    (hv : u.lockedNow l band = v) (hh : v.flag (F.CLK_SYN_STAT.HOLDOVER l) = false) :
    u.lockCheck l gap = v.takeUp l gap := by
  simp only [State.lockCheck, hfit, hs, hp, hq, hv, hh, Bool.not_true, Bool.or_false, Bool.false_eq_true, if_false,
    State.takeUp]
  match l with
  | 0 | 1 | 2 | 3 | _ + 4 => rfl

/-- It does not lock before. -/
theorem State.lockCheck_waits
    (h : (u.loop l).fit = none ∨ u.searching l = false ∨ u.flag (F.CLK_SYN_STAT.PH_OK l) = false ∨
      u.flag (F.CLK_SYN_STAT.FREQ_OK l) = false) : u.lockCheck l gap = u := by
  unfold State.lockCheck
  split
  · rfl
  next band hfit => exact if_pos (by rcases h with h | h | h | h <;> simp_all)

end Lock

end Lemmas

/-- Settles O14: whether the band fits, and which are left, decides a trial; a band that fits and both criteria decide the
lock. -/
theorem lockAttempts : Obligations.LockAttempts := by
  unfold Obligations.LockAttempts
  refine ⟨?trial, ?retry, ?attempt, ?window, ?locks, ?waits⟩
  case trial =>
    rintro s u l errs b r hs ⟨hl, hr⟩ hu ht
    rw [exec_bandTrialEnd_searching hs hl hr]
    exact ⟨fun hf => by rw [State.trialEnd_fits hu ht hf], fun hf hne => by rw [State.trialEnd_next hu ht hf hne],
      fun hf he => by rw [State.trialEnd_failed hu ht hf he]⟩
  case retry => exact fun s l hs ⟨hl, hr⟩ => exec_lockRetryTimer_waiting hs hl hr
  case attempt =>
    intro s l
    obtain ⟨hlocked, hphase, hfreq⟩ := State.flag_startLock_clear (s := s) (l := l)
    exact ⟨State.flag_startLock_searching, hlocked, hphase, hfreq, State.regsBut_startLock, State.startLock_mem,
      State.startLock_acq⟩
  case window =>
    rintro s u l errs ppm gap hs ⟨hl, hr⟩ rfl
    exact exec_loopLocked_searching hs hl hr
  case locks =>
    rintro u v l gap band ⟨hfit, hl⟩ ⟨hp, hq⟩ hv hh
    rw [State.lockCheck_locks hfit hl hp hq hv hh]
    refine ⟨?stim, ?memory, ?sample⟩
    case stim => rintro rfl; rfl
    case memory => rintro rfl; rfl
    case sample => rintro (rfl | rfl) <;> rfl
  case waits => exact fun u l gap h => State.lockCheck_waits h

end Sys2Proof.Machine
end

section
/-!
PROOFS. Trips of a locked loop, hand-over, and the tracking of the standby loop (R69 to R72, R83 to R88, R94).
-/
namespace Sys2Proof.Machine

section Lemmas

variable {s : State}

/-- A locked loop is tried against its criteria while the reference is present. -/
theorem exec_loopTrip_locked {l : Fin 4} {x : Trip} {o : Option Trip} {gap k n : Nat} (h : s.runs = true)
    (hl : s.locked l = true) (hr : s.clk.refLost = false) :
    exec (.loopTrip l x o gap k n) s = .next (s.keep (s.loopTrip l x o gap k n)) :=
  s.act_if_pos h (by simp [hl, hr])

theorem exec_standbyTracked (diffs : List Int) (h : s.runs = true) :
    exec (.standbyTracked diffs) s = .next (s.keep (s.trackRun diffs)) := s.act_running _ h

theorem exec_trackingLost (diffs : List Int) (h : s.runs = true) :
    exec (.trackingLost diffs) s = .next (s.keep (s.trackRun diffs)) := s.act_running _ h

theorem exec_switchDegradedEnd (h : s.runs = true) :
    exec .switchDegradedEnd s = .next (s.keep (s.degOff .switchOver (s.frameNow false))) := s.act_running _ h

section Trip

variable {l gap k n : Nat} {x : Trip} {u : State} (hu : (s.loopRun l x.errs).freqRead l x.ppm = u)
include hu

/-- A loop without a cause does not trip. -/
theorem State.loopTrip_untripped {o : Option Trip} (hc : u.tripCause l x = 0) : s.loopTrip l x o gap k n = u := by
  subst hu
  exact if_pos hc

variable {cause : Nat} (hc : u.tripCause l x = cause) (h0 : cause ≠ 0)
include hc h0

/-- A trip of SYN_S stops STIM (R94). -/
theorem State.loopTrip_synS {o : Option Trip} (hl : l = 3) :
    s.loopTrip l x o gap k n = (u.tripLoop l cause).stimLost k n := by
  subst hl
  simp only [State.loopTrip, hu, hc, h0, if_false, if_true]

/-- A trip of SYN_M leaves the memory islands to find a clock (R88). -/
theorem State.loopTrip_synM {o : Option Trip} (hl : l = 2) :
    s.loopTrip l x o gap k n = (u.tripLoop l cause).memCheck := by
  subst hl
  simp only [State.loopTrip, hu, hc, h0, if_false, if_true, Nat.reduceEqDiff]

section Sample

variable (hl : l < 2)
include hl

/-- The active loop trips alone. -/
theorem State.loopTrip_active (hb : (u.tripLoop l cause).flag F.CLK_STAT.BYPASS = false) (ha : l = u.activeLoop) :
    s.loopTrip l x none gap k n =
      ((u.tripLoop l cause).activeTrip cause false (u.flag F.CLK_STAT.STBY_READY) gap).memCheck := by
  have h3 : l ≠ 3 := by omega
  have h2 : l ≠ 2 := by omega
  simp only [State.loopTrip, hu, hc, h0, h3, h2, hb, ← ha, decide_true, Bool.true_or, Bool.false_eq_true, if_false,
    if_true]

/-- The standby loop trips alone. -/
theorem State.loopTrip_standby (hb : (u.tripLoop l cause).flag F.CLK_STAT.BYPASS = false) (ha : l ≠ u.activeLoop) :
    s.loopTrip l x none gap k n = ((u.tripLoop l cause).fault 0x0004 l).memCheck := by
  have h3 : l ≠ 3 := by omega
  have h2 : l ≠ 2 := by omega
  simp only [State.loopTrip, hu, hc, h0, h3, h2, hb, ha, decide_false, Bool.or_false, Bool.false_eq_true, if_false]

/-- The two sample loops trip in one reference cycle. -/
theorem State.loopTrip_both {t : State} {y : Trip} {c : Nat}
    (ht : ((u.tripLoop l cause).loopRun (1 - l) y.errs).freqRead (1 - l) y.ppm = t)
    (hlock : t.locked (1 - l) = true) (hy : t.tripCause (1 - l) y = c) (hy0 : c ≠ 0)
    (hb : (t.tripLoop (1 - l) c).flag F.CLK_STAT.BYPASS = false) :
    s.loopTrip l x (some y) gap k n =
      ((t.tripLoop (1 - l) c).activeTrip cause true (u.flag F.CLK_STAT.STBY_READY) gap).memCheck := by
  have h3 : l ≠ 3 := by omega
  have h2 : l ≠ 2 := by omega
  have hyc : (t.locked (1 - l) && c != 0) = true := by simp [hlock, hy0]
  simp only [State.loopTrip, hu, hc, h0, h3, h2, ht, hy, hyc, hb, Bool.or_true, Bool.false_eq_true, if_false, if_true]

end Sample

end Trip

section Active

variable {cause gap : Nat}

/-- The active loop hands over to a ready standby loop (R83). -/
theorem State.activeTrip_handOver :
    s.activeTrip cause false true gap =
      ((s.exchange cause).degOn .switchOver (s.frameNow false)).fault 0x0003 s.activeLoop := rfl

/-- With no ready standby loop SAMPLE and CORE enter bypass, and restart where a loop is locked (R86). -/
theorem State.activeTrip_unready {both : Bool} :
    s.activeTrip cause both false gap = (s.bypassEntry gap).tryRestart 0 := rfl

/-- With both loops tripped there is no hand-over. -/
theorem State.activeTrip_both {ready : Bool} :
    s.activeTrip cause true ready gap = (s.bypassEntry gap).tryRestart 0 := by
  cases ready <;> rfl

end Active

theorem State.periodTrips_iff {l p : Nat} :
    s.periodTrips l p = true ↔
      1000 * (p : Rat) < 985 * s.targetPeriod l ∨ 1015 * s.targetPeriod l < 1000 * (p : Rat) := by
  simp only [State.periodTrips, Bool.or_eq_true, decide_eq_true_eq]

/-- The comparison of a locked standby loop with the active one (R72). -/
theorem State.trackRun_compares {diffs : List Int} {r : LoopSt × Bool} (hl : s.locked s.standbyLoop = true)
    (hb : s.flag F.CLK_STAT.BYPASS = false) (hr : s.clk.refLost = false)
    (hd : diffs.foldl (trackStep (s.loopCtl s.standbyLoop).ki)
      (s.loop s.standbyLoop, s.flag (F.CLK_SYN_STAT.TRACKED s.standbyLoop)) = r) :
    s.trackRun diffs =
      ((s.setLoop s.standbyLoop r.1).setFlag (F.CLK_SYN_STAT.TRACKED s.standbyLoop) r.2).showStandby := by
  subst hd
  exact if_pos (by simp [hl, hb, hr])

section Track

variable (ki : Nat) (x : LoopSt) (b : Bool) {d : Int}

/-- A cycle within 0.5 ps counts, up to 1,024. -/
theorem near_trackStep_within (h : d.natAbs ≤ 10) : (trackStep ki (x, b) d).1.near = min 1024 (x.near + 1) := if_pos h

/-- A cycle beyond 0.5 ps ends the row. -/
theorem near_trackStep_beyond (h : 10 < d.natAbs) : (trackStep ki (x, b) d).1.near = 0 := if_neg (by omega)

/-- TRACKED after one cycle: cleared beyond 1.0 ps, set where the row is complete, else as it was (R72). -/
theorem tracked_trackStep :
    (trackStep ki (x, b) d).2 =
      if 20 < d.natAbs then false else if (trackStep ki (x, b) d).1.near = 1024 then true else b := rfl

end Track

end Lemmas

/-- Settles O15: the loop and what its islands do decide a trip; the size of the difference and the row so far decide
TRACKED. -/
theorem loopTrips : Obligations.LoopTrips := by
  unfold Obligations.LoopTrips
  refine ⟨?alone, ?both, ?untripped, ?active, ?period, ?tracking, ?cycle, ?degradedEnd⟩
  case alone =>
    rintro s u l x gap k n cause hs ⟨hl, hr⟩ hu ⟨hc, h0⟩
    rw [exec_loopTrip_locked hs hl hr]
    have hsample : l = 0 ∨ l = 1 → (l : Nat) < 2 := by omega
    refine ⟨?synS, ?synM, ?activeLoop, ?standbyLoop⟩
    case synS => rintro rfl; rw [State.loopTrip_synS hu hc h0 rfl]; rfl
    case synM => rintro rfl; rw [State.loopTrip_synM hu hc h0 rfl]; rfl
    case activeLoop => exact fun h hb ha => by rw [State.loopTrip_active hu hc h0 (hsample h) hb ha]
    case standbyLoop => exact fun h hb ha => by rw [State.loopTrip_standby hu hc h0 (hsample h) hb ha]
  case both =>
    rintro s u t l x y gap k n cause c hs ⟨hl, hr⟩ hu ⟨hc, h0, h⟩ ht ⟨hlock, hy, hy0⟩ hb
    rw [exec_loopTrip_locked hs hl hr, State.loopTrip_both hu hc h0 (by omega) ht hlock hy hy0 hb]
  case untripped =>
    rintro s u l x o gap k n hs ⟨hl, hr⟩ hu hc
    rw [exec_loopTrip_locked hs hl hr, State.loopTrip_untripped hu hc]
  case active =>
    exact fun s cause gap => ⟨State.activeTrip_handOver, State.activeTrip_unready, State.activeTrip_both⟩
  case period => exact fun s l p => State.periodTrips_iff
  case tracking =>
    rintro s diffs r hs ⟨hl, hb, hr⟩ hd
    rw [exec_standbyTracked diffs hs, exec_trackingLost diffs hs, State.trackRun_compares hl hb hr hd]
    exact ⟨rfl, rfl⟩
  case cycle =>
    intro ki x b d
    refine ⟨?clears, ?sets, ?counts, ?restarts, ?stays⟩
    case clears => exact fun h => if_pos h
    case sets =>
      intro h hx
      rw [tracked_trackStep, near_trackStep_within ki x b h, if_neg (by omega), if_pos (by omega)]
    case counts =>
      intro h hx
      have hn := near_trackStep_within ki x b h
      rw [tracked_trackStep, hn, if_neg (by omega), if_neg (by omega)]
      exact ⟨rfl, by omega⟩
    case restarts => exact near_trackStep_beyond ki x b
    case stays =>
      intro h h20
      rw [tracked_trackStep, near_trackStep_beyond ki x b h, if_neg (by omega), if_neg (by omega)]
  case degradedEnd => exact fun s hs => exec_switchDegradedEnd hs

end Sys2Proof.Machine
end

section
/-!
PROOFS. Swaps, the memory clock, and changes of the sample rate and of SYN_S's rate (R77, R85, R88 to R91).
-/
namespace Sys2Proof.Machine

section Lemmas

variable {s : State}

/-- CLK_SWAP and CLK_MEM_RETURN are one register's write (Table 3.17). -/
theorem exec_clkCtlWrite {v : Word} {c : Instr} (h : s.runs = true) (hc : c = .clkSwap v ∨ c = .clkMemReturn v) :
    exec c s = .next (s.keep (s.clkCtlWrite v)) := by
  rcases hc with rfl | rfl <;> exact s.act_running _ h

theorem exec_memClockChangeDone (h : s.runs = true) : exec .memClockChangeDone s = .next (s.keep s.memChanged) :=
  s.act_running _ h

theorem exec_memAutoReturn_enabled (h : s.runs = true) (ha : s.flag F.CLK_CTL.MEM_AUTO = true) :
    exec .memAutoReturn s = .next (s.keep s.memReturn) := s.act_if_pos h ha

theorem exec_memAutoReturn_disabled (h : s.runs = true) (ha : s.flag F.CLK_CTL.MEM_AUTO = false) :
    exec .memAutoReturn s = .next (s.keep s) := s.act_if_neg h ha

theorem exec_clkRateGo (v : Word) (gap : Nat) (h : s.runs = true) :
    exec (.clkRateGo v gap) s = .next (s.keep (s.rateGo v gap)) := s.act_running _ h

theorem exec_clkSrateGo (v : Word) (h : s.runs = true) :
    exec (.clkSrateGo v) s = .next (s.keep (s.srateGo v)) := s.act_running _ h

section Swap

variable {v : Word} {u : State} (hu : s.setFlag F.CLK_CTL.MEM_AUTO (getBits v 8 1 == 1) = u)
include hu

/-- A swap that is asked for is carried out with no context armed and the standby loop ready (R85). -/
theorem State.clkCtlWrite_swaps (hg : getBits v 0 1 = 1) (ha : u.anyArmed = false)
    (hr : u.flag F.CLK_STAT.STBY_READY = true) :
    s.clkCtlWrite v = if getBits v 1 1 = 1 then (u.exchange 0).memReturn else u.exchange 0 := by
  simp only [State.clkCtlWrite, hu, hg, ha, hr, Bool.not_false, Bool.and_true, decide_true, if_true]

/-- Elsewhere the write leaves the roles of the loops as they are. -/
theorem State.clkCtlWrite_keeps_roles
    (h : getBits v 0 1 ≠ 1 ∨ u.anyArmed = true ∨ u.flag F.CLK_STAT.STBY_READY = false) :
    s.clkCtlWrite v = if getBits v 1 1 = 1 then u.memReturn else u := by
  have hno : (decide (getBits v 0 1 = 1) && !u.anyArmed && u.flag F.CLK_STAT.STBY_READY) = false := by
    rcases h with h | h | h <;> simp [h]
  simp only [State.clkCtlWrite, hu, hno, Bool.false_eq_true, if_false]

end Swap

section Exchange

variable {cause : Nat}

/-- The registers that the exchange of the roles writes, in their order; the rest is the standby loop's own state (Table
3.12). -/
theorem State.exchange_eq :
    s.exchange cause =
      (((((({ s with clk := (s.setLoop s.standbyLoop { s.loop s.standbyLoop with near := 0 }).clk }.setFld
        F.CLK_STAT.ACTIVE s.standbyLoop).setFlag (F.CLK_SYN_STAT.TRACKED s.standbyLoop) false).setFlag
        F.CLK_STAT.STBY_READY false).setFlag F.CLK_STAT.SWITCH_SEEN true).bump R.CLK_SWITCH_COUNT).raisePF 68
        (s.standbyLoop + cause)) := rfl

theorem State.seen_exchange : (s.exchange cause).seen 68 = true := State.seen_raisePF _ _ _

/-- Past the roles' own bit and STBY_READY, CLK_STAT keeps its fields. -/
theorem State.exchange_shows :
    (s.exchange cause).fld F.CLK_STAT.ACTIVE = s.standbyLoop % 2 ∧
      (s.exchange cause).flag F.CLK_STAT.STBY_READY = false := by
  have hstat : R.CLK_STAT ≠ R.CLK_SYN_STAT s.standbyLoop := by unfold R.CLK_STAT R.CLK_SYN_STAT; omega
  rw [State.exchange_eq]
  constructor
  · rw [State.raisePF, State.fld_raise _ _ _ _ (by decide) (by decide), State.bump, State.bumpBy,
      State.fld_setReg_ne _ _ _ (by decide), State.fld_setFlag_ne _ _ _ _ (by simp [Fld.apart]),
      State.fld_setFlag_ne _ _ _ _ (by simp [Fld.apart]), State.fld_setFlag_ne _ _ _ _ (.inl hstat),
      State.fld_setFld_self _ _ _ (by simp [Fld.fits])]
    rfl
  · rw [State.raisePF, State.flag_raise _ _ _ _ (by decide) (by decide), State.bump, State.bumpBy,
      State.flag_setReg_ne _ _ _ (by decide), State.flag_setFlag_apart _ _ (by simp),
      State.flag_setFlag_own _ _ (by decide) rfl]

theorem State.regsBut_exchange :
    s.regsBut (s.exchange cause)
      ([R.CLK_STAT, R.CLK_SYN_STAT s.standbyLoop, R.CLK_SWITCH_COUNT] ++ evtRegs 68) := by
  intro o ho
  simp only [evtRegs, List.mem_append, List.mem_cons, List.not_mem_nil, or_false, not_or] at ho
  obtain ⟨⟨hstat, hsyn, hcount⟩, hseen, hlost⟩ := ho
  rw [State.exchange_eq, State.reg_raisePF _ _ _ hseen hlost, State.reg_bump_ne _ hcount, State.reg_setFlag_ne _ _ hstat,
    State.reg_setFlag_ne _ _ hstat, State.reg_setFlag_ne _ _ hsyn, State.reg_setFld_ne _ _ hstat, State.reg_with_clk]

end Exchange

/-- The memory islands begin to return to SYN_M (R89). -/
theorem State.memReturn_begins (hm : s.clk.mem = .backup) (hn : s.clk.memNext = none) (hl : s.locked 2 = true) :
    s.memReturn = s.setMemClock .backup (some .synM) :=
  if_pos (by simp [hm, hn, hl])

/-- They stay where they are not on the backup clock, on their way already, or without SYN_M. -/
theorem State.memReturn_stays (h : s.clk.mem ≠ .backup ∨ s.clk.memNext ≠ none ∨ s.locked 2 = false) : s.memReturn = s :=
  if_neg (by
    rcases h with h | h | h
    · simp [h]
    · simp [Option.isNone_eq_false_iff.mpr (Option.ne_none_iff_isSome.mp h)]
    · simp [h])

theorem State.memChanged_synM (h : s.clk.memNext = some .synM) :
    s.memChanged = ((s.setMemClock .synM none).setFlag F.CLK_STAT.MEM_BACKUP false).raisePF 72 0 := by
  simp only [State.memChanged, h]

theorem State.memChanged_backup (h : s.clk.memNext = some .backup) :
    s.memChanged = ((s.setMemClock .backup none).setFlag F.CLK_STAT.MEM_BACKUP true).raisePF 71 0 := by
  simp only [State.memChanged, h]

section Rate

variable {v : Word} {gap : Nat}

/-- The conditions under which CLK_RATE_GO does nothing (R77). -/
theorem State.rateGo_discarded
    (h : getBits v 0 1 = 0 ∨ s.anyArmed = true ∨ s.flag F.CLK_STAT.RATE_CHANGING = true ∨
      s.flag F.INP_MODE_STAT.CHANGING = true ∨ s.joined = true ∨ s.fld F.CAL_STAT.FG_ACTIVE ≠ 0) :
    s.rateGo v gap = s :=
  if_pos (by rcases h with h | h | h | h | h | h <;> simp [h])

section Accepted

variable (hg : getBits v 0 1 = 1) (ha : s.anyArmed = false) (hc : s.flag F.CLK_STAT.RATE_CHANGING = false)
  (hm : s.flag F.INP_MODE_STAT.CHANGING = false) (hj : s.joined = false) (hf : s.fld F.CAL_STAT.FG_ACTIVE = 0)
include hg ha hc hm hj hf

/-- With none of them the rate, the reference and the memory clock decide. -/
theorem State.rateGo_accepted :
    s.rateGo v gap =
      if rateBad (s.fld F.CLK_RATE.DIV) s.rateFcw || s.flag F.CLK_STAT.REF_ABSENT || s.flag F.CLK_STAT.MEM_BACKUP then
        s.setFlag F.CLK_STAT.RATE_REJECT true
      else s.rateStart gap :=
  if_neg (by simp [hg, ha, hc, hm, hj, hf])

theorem State.rateGo_rejects
    (h : rateBad (s.fld F.CLK_RATE.DIV) s.rateFcw = true ∨ s.flag F.CLK_STAT.REF_ABSENT = true ∨
      s.flag F.CLK_STAT.MEM_BACKUP = true) : s.rateGo v gap = s.setFlag F.CLK_STAT.RATE_REJECT true := by
  rw [State.rateGo_accepted hg ha hc hm hj hf]
  exact if_pos (by rcases h with h | h | h <;> simp [h])

theorem State.rateGo_starts (hb : rateBad (s.fld F.CLK_RATE.DIV) s.rateFcw = false)
    (hr : s.flag F.CLK_STAT.REF_ABSENT = false) (hk : s.flag F.CLK_STAT.MEM_BACKUP = false) :
    s.rateGo v gap = s.rateStart gap := by
  rw [State.rateGo_accepted hg ha hc hm hj hf]
  exact if_neg (by simp [hb, hr, hk])

end Accepted

end Rate

section Srate

variable {v : Word} (hg : getBits v 0 1 = 1) (h0 : s.stimState = 0)
include hg h0

/-- With the stimulus sequencer idle SYN_S's rate and the reference decide (R91). -/
theorem State.srateGo_accepted :
    s.srateGo v =
      if srateBad s.srateFcw || s.flag F.CLK_STAT.REF_ABSENT then s.setFlag F.CLK_STAT.RATE_REJECT true
      else s.srateStart s.srateFcw :=
  if_neg (by simp [hg, h0])

theorem State.srateGo_rejects (h : srateBad s.srateFcw = true ∨ s.flag F.CLK_STAT.REF_ABSENT = true) :
    s.srateGo v = s.setFlag F.CLK_STAT.RATE_REJECT true := by
  rw [State.srateGo_accepted hg h0]
  exact if_pos (by rcases h with h | h <;> simp [h])

theorem State.srateGo_starts (hb : srateBad s.srateFcw = false) (hr : s.flag F.CLK_STAT.REF_ABSENT = false) :
    s.srateGo v = s.srateStart s.srateFcw := by
  rw [State.srateGo_accepted hg h0]
  exact if_neg (by simp [hb, hr])

end Srate

/-- The legal rates of SYN_S (R91). -/
theorem srateBad_eq_false_iff {fcw : Nat} : srateBad fcw = false ↔ 120 * 2 ^ 32 ≤ fcw ∧ fcw ≤ 160 * 2 ^ 32 := by
  rw [← Bool.not_eq_true]
  simp only [srateBad, Bool.or_eq_true, Nat.blt_eq, not_or, not_lt]

end Lemmas

/-- Settles O16: each command's own conditions choose between carrying it out, showing RATE_REJECT and doing nothing. -/
theorem clockCommands : Obligations.ClockCommands := by
  unfold Obligations.ClockCommands
  refine ⟨?control, ?roles, ?memReturn, ?memAuto, ?memChanged, ?rate, ?rateDiscarded, ?srate, ?srateLegal⟩
  case control =>
    rintro s u v c ⟨hs, hc⟩ hu
    rw [exec_clkCtlWrite hs hc]
    exact ⟨fun hg ha hr => by rw [State.clkCtlWrite_swaps hu hg ha hr],
      fun h => by rw [State.clkCtlWrite_keeps_roles hu h]⟩
  case roles =>
    intro s cause
    obtain ⟨hactive, hready⟩ := State.exchange_shows (s := s) (cause := cause)
    exact ⟨State.seen_exchange, hactive, hready, State.regsBut_exchange⟩
  case memReturn => exact fun s => ⟨State.memReturn_begins, State.memReturn_stays⟩
  case memAuto => exact fun s hs => ⟨exec_memAutoReturn_enabled hs, exec_memAutoReturn_disabled hs⟩
  case memChanged =>
    intro s hs
    rw [exec_memClockChangeDone hs]
    exact ⟨fun h => by rw [State.memChanged_synM h], fun h => by rw [State.memChanged_backup h]⟩
  case rate =>
    rintro s v gap hs ⟨hg, ha, hc⟩ ⟨hm, hj, hf⟩
    rw [exec_clkRateGo v gap hs]
    exact ⟨fun h => by rw [State.rateGo_rejects hg ha hc hm hj hf h],
      fun hb hr hk => by rw [State.rateGo_starts hg ha hc hm hj hf hb hr hk]⟩
  case rateDiscarded => exact fun s v gap hs h => by rw [exec_clkRateGo v gap hs, State.rateGo_discarded h]
  case srate =>
    rintro s v hs ⟨hg, h0⟩
    rw [exec_clkSrateGo v hs]
    exact ⟨fun h => by rw [State.srateGo_rejects hg h0 h],
      fun hb hr => by rw [State.srateGo_starts hg h0 hb hr, State.srateStart]⟩
  case srateLegal => exact fun fcw => srateBad_eq_false_iff

end Sys2Proof.Machine
end

section
/-!
PROOFS. Loss and return of the reference, the end of holdover, and the end of a ramp segment (R92, R93, R95, R96, R429).
-/
namespace Sys2Proof.Machine

section Lemmas

variable {s : State}

theorem exec_refEdgeMissing (h : s.runs = true) : exec .refEdgeMissing s = .next (s.keep s.refMissing) :=
  s.act_running _ h

/-- An absent reference is acted on once. -/
theorem exec_refAbsent_again (h : s.runs = true) (ha : s.flag F.CLK_STAT.REF_ABSENT = true) :
    exec .refAbsent s = .next (s.keep s) :=
  (s.act_running _ h).trans (by rw [if_pos ha])

theorem exec_refAbsent_first (h : s.runs = true) (ha : s.flag F.CLK_STAT.REF_ABSENT = false) :
    exec .refAbsent s = .next (s.keep s.refAbsent) :=
  (s.act_running _ h).trans (by rw [if_neg (Bool.eq_false_iff.mp ha)])

theorem exec_refReturn_lost (h : s.runs = true) (hr : s.clk.refLost = true) :
    exec .refReturn s = .next (s.keep s.refReturn) := s.act_if_pos h hr

theorem exec_holdoverEnd_held {l : Fin 4} {errs : List Int} (h : s.runs = true)
    (hl : s.flag (F.CLK_SYN_STAT.HOLDOVER l) = true) (hr : s.clk.refLost = false) :
    exec (.holdoverEnd l errs) s = .next (s.keep ((s.holdoverEnd l errs).lockCheck l 0)) :=
  s.act_if_pos h (by simp [hl, hr])

theorem exec_rampSegmentEnd_due (h : s.runs = true) (hd : s.rampDue = true) :
    exec .rampSegmentEnd s = .next (s.keep s.rampSegEnd) := s.act_if_pos h hd

theorem exec_rampSegmentEnd_early (h : s.runs = true) (hd : s.rampDue = false) :
    exec .rampSegmentEnd s = .next (s.keep s) := s.act_if_neg h hd

/-- What is done for each of the four loops. -/
theorem State.each_range_four (f : State → Nat → State) :
    s.each (List.range 4) f = f (f (f (f s 0) 1) 2) 3 := rfl

section Missing

/-- A missing edge shows HOLDOVER of the four loops and of CLK_STAT (R95). -/
theorem State.refMissing_eq :
    s.refMissing =
      (((({ s with clk := { s.clk with refLost := true } }.setFlag (F.CLK_SYN_STAT.HOLDOVER 0) true).setFlag
        (F.CLK_SYN_STAT.HOLDOVER 1) true).setFlag (F.CLK_SYN_STAT.HOLDOVER 2) true).setFlag
        (F.CLK_SYN_STAT.HOLDOVER 3) true).setFlag F.CLK_STAT.HOLDOVER true := rfl

theorem State.refMissing_clk : s.refMissing.clk = { s.clk with refLost := true } := rfl
theorem State.refMissing_mem : s.refMissing.mem = s.mem := rfl
theorem State.refMissing_acq : s.refMissing.acq = s.acq := rfl

theorem State.flag_refMissing_holdover : s.refMissing.flag F.CLK_STAT.HOLDOVER = true :=
  State.flag_setFlag_own _ _ (by decide) rfl

theorem State.flag_refMissing_loop (l : Fin 4) : s.refMissing.flag (F.CLK_SYN_STAT.HOLDOVER l) = true := by
  rw [State.refMissing_eq]
  match l with
  | 0 | 1 | 2 | 3 => simp [State.flag_setFlag_apart, State.flag_setFlag_own]

theorem State.regsBut_refMissing :
    s.regsBut s.refMissing [R.CLK_STAT, R.CLK_SYN_STAT 0, R.CLK_SYN_STAT 1, R.CLK_SYN_STAT 2, R.CLK_SYN_STAT 3] := by
  intro o ho
  simp only [List.mem_cons, List.not_mem_nil, or_false, not_or] at ho
  obtain ⟨hstat, h0, h1, h2, h3⟩ := ho
  rw [State.refMissing_eq, State.reg_setFlag_ne _ _ hstat, State.reg_setFlag_ne _ _ h3, State.reg_setFlag_ne _ _ h2,
    State.reg_setFlag_ne _ _ h1, State.reg_setFlag_ne _ _ h0, State.reg_with_clk]

end Missing

/-- What an absent reference shows and raises besides what the missing edge does (R95, R429). -/
theorem State.refAbsent_eq {u : State}
    (hu : (((((s.refMissing.setFlag F.CLK_STAT.REF_ABSENT true).setReg (R.CLK_SYN_FREQ 0) 0x8000).setReg
      (R.CLK_SYN_FREQ 1) 0x8000).setReg (R.CLK_SYN_FREQ 2) 0x8000).setReg (R.CLK_SYN_FREQ 3) 0x8000).setFlag
      F.PEER_STAT.SILENT true = u) :
    s.refAbsent = ({ u with clk := { u.clk with refAt := some s.time.elapsed } }.raisePF 76 0).fault 0x0006 0 := by
  subst hu
  rw [State.setFlag_clk, State.refAbsent, State.each_range_four]

/-- The loops move again, their counts of cycles anew (R96). -/
theorem State.refReturn_eq :
    s.refReturn =
      ((({ s.refLong with clk := { s.refLong.clk with refLost := false, refAt := none } }.setFlag
        F.CLK_STAT.REF_ABSENT false).setFlag F.PEER_STAT.SILENT false).each (List.range 4)
        (fun t l => t.setLoop l { t.loop l with good := 0, bad := 0 })) := rfl

section Holdover

variable {l : Nat} {errs : List Int} {t : State} (ht : s.loopRun l errs = t)
include ht

/-- A loop that has not reached PH_OK stays in holdover. -/
theorem State.holdoverEnd_waits (hg : (t.loop l).good ≠ 1024) : s.holdoverEnd l errs = t := by
  subst ht
  exact if_neg hg

variable {u : State} (hu : (t.setLoop l { t.loop l with bad := 0 }).setFlag (F.CLK_SYN_STAT.HOLDOVER l) false = u)
  (hg : (t.loop l).good = 1024)
include hu hg

/-- A loop leaves holdover while another one is in it (R96). -/
theorem State.holdoverEnd_leaves (ho : ∃ k, k < 4 ∧ u.flag (F.CLK_SYN_STAT.HOLDOVER k) = true) :
    s.holdoverEnd l errs = u := by
  have hany : (List.range 4).any (fun k => u.flag (F.CLK_SYN_STAT.HOLDOVER k)) = true :=
    List.any_eq_true.mpr (by simpa only [List.mem_range] using ho)
  subst ht hu
  exact (if_pos hg).trans (if_pos hany)

/-- The last loop ends the holdover of the module. -/
theorem State.holdoverEnd_last (ho : ∀ k, k < 4 → u.flag (F.CLK_SYN_STAT.HOLDOVER k) = false) :
    s.holdoverEnd l errs = (u.setFlag F.CLK_STAT.HOLDOVER false).raisePF 77 0 := by
  have hany : (List.range 4).any (fun k => u.flag (F.CLK_SYN_STAT.HOLDOVER k)) = false :=
    List.any_eq_false.mpr (by simpa only [List.mem_range, Bool.not_eq_true] using ho)
  subst ht hu
  exact (if_pos hg).trans (if_neg (Bool.eq_false_iff.mp hany))

end Holdover

section Ramp

variable {b : Bool}

theorem State.showClamp_clk : (s.showClamp b).clk = s.clk := by
  cases b <;> rfl

/-- Showing a clamp leaves the profile as it is. -/
theorem State.showClamp_reg {o : Nat} (h : o ≠ R.CLK_SYN_STAT 3) : (s.showClamp b).reg o = s.reg o := by
  cases b
  · rfl
  · exact State.reg_setFlag_ne s true h

variable {r : RampGen} (hr : s.clk.ramp = some r)
include hr

theorem State.rampDue_iff : s.rampDue = s.passed r.since (s.rampDuration r.seg * 184467440737) := by
  simp only [State.rampDue, hr]

variable {c : Nat} {clamped : Bool} (hc : s.rampAt r.seg r.base (s.rampDuration r.seg) = (c, clamped))
include hc

/-- The last segment ends the ramp at the frequency it reached (R92). -/
theorem State.rampSegEnd_last (hl : s.rampLast r.seg = true) :
    s.rampSegEnd = { s.showClamp clamped with clk := { s.clk with fcwNow := c, ramp := none } }.raisePF 78 r.seg := by
  simp only [State.rampSegEnd, hr, hc, hl, State.showClamp_clk, if_true]

/-- Another one goes on with NEXT, from the end of its DURATION. -/
theorem State.rampSegEnd_next (hl : s.rampLast r.seg = false) :
    s.rampSegEnd = { s.showClamp clamped with
      clk := { s.clk with
        fcwNow := c
        ramp := some ⟨s.rampNext r.seg, c, r.since + s.rampDuration r.seg * 184467440737⟩ } } := by
  simp only [State.rampSegEnd, hr, hc, hl, State.showClamp_clk, Bool.false_eq_true, if_false]

end Ramp

end Lemmas

/-- Settles O17: whether it is lost already decides a loss of the reference; the other loops decide the end of holdover,
and LAST the end of a ramp segment. -/
theorem referenceLoss : Obligations.ReferenceLoss := by
  unfold Obligations.ReferenceLoss
  refine ⟨?missing, ?absent, ?returns, ?holdoverEnd, ?holdover, ?segment, ?early⟩
  case missing =>
    intro s hs
    refine ⟨_, exec_refEdgeMissing hs, ?clk, ?shown, ?loops, ?regs, ?mem, ?acq⟩
    case clk => rw [State.keep_clk, State.refMissing_clk]
    case shown => rw [State.keep_flag, State.flag_refMissing_holdover]
    case loops => exact fun l => by rw [State.keep_flag, State.flag_refMissing_loop]
    case regs => exact fun o ho => by rw [State.keep_reg, State.regsBut_refMissing o ho]
    case mem => rw [State.keep_mem, State.refMissing_mem]
    case acq => rw [State.keep_acq, State.refMissing_acq]
  case absent =>
    intro s u hs hu
    exact ⟨fun ha => by rw [exec_refAbsent_first hs ha, State.refAbsent_eq hu], exec_refAbsent_again hs⟩
  case returns => exact fun s hs hr => by rw [exec_refReturn_lost hs hr, State.refReturn_eq]
  case holdoverEnd => exact fun s l errs hs ⟨hl, hr⟩ => exec_holdoverEnd_held hs hl hr
  case holdover =>
    exact fun s t u l errs ht hu =>
      ⟨State.holdoverEnd_waits ht, State.holdoverEnd_leaves ht hu, State.holdoverEnd_last ht hu⟩
  case segment =>
    intro s r c clamped hs hr hd hc
    rw [exec_rampSegmentEnd_due hs ((State.rampDue_iff hr).trans hd)]
    exact ⟨fun hl => by rw [State.rampSegEnd_last hr hc hl], fun hl => by rw [State.rampSegEnd_next hr hc hl]⟩
  case early => exact fun s hs hd => ⟨exec_rampSegmentEnd_early hs hd, rfl, rfl⟩

end Sys2Proof.Machine
end

section
/-!
PROOFS. The servo at an accepted edge (R114).
-/
namespace Sys2Proof.Machine

section Lemmas

variable {s : State}

theorem pattern_mod (w : Nat) (x : Int) : pattern w x % 2 ^ w = pattern w x := by
  have hlt : x % (2 ^ w : Nat) < (2 ^ w : Nat) := Int.emod_lt_of_pos x (by exact_mod_cast Nat.two_pow_pos w)
  exact Nat.mod_eq_of_lt (by unfold pattern; omega)

/-- A limited rate is shown and raises E081 (R114). -/
def State.showSlew (s : State) (limited : Bool) : State :=
  if limited then (s.setFlag F.TIME_STAT.SLEW_CLAMPED true).raisePF 81 0 else s

/-- The fourth good edge in a row locks the servo (R114). -/
def State.showLocked (s : State) (good : Nat) : State :=
  if 4 ≤ good then s.setFlag F.TIME_STAT.PPS_LOCKED true else s

theorem State.showSlew_time (b : Bool) : (s.showSlew b).time = s.time := by
  cases b
  · rfl
  · exact State.raisePF_time _ _ _

theorem State.reg_showSlew (b : Bool) {o : Nat} (h : o ≠ R.TIME_STAT) (hs : o ≠ R.EVT_SEEN (81 / 32))
    (hq : o ≠ R.EVT_QLOST) : (s.showSlew b).reg o = s.reg o := by
  cases b
  · rfl
  · exact (State.reg_raisePF _ 81 0 hs hq).trans (s.reg_setFlag_ne true h)

theorem State.seen_showSlew : (s.showSlew true).seen 81 = true := State.seen_raisePF _ _ _

theorem State.showLocked_time (good : Nat) : (s.showLocked good).time = s.time := by
  unfold State.showLocked
  split <;> rfl

theorem State.reg_showLocked (good : Nat) {o : Nat} (h : o ≠ R.TIME_STAT) : (s.showLocked good).reg o = s.reg o := by
  unfold State.showLocked
  split
  · exact s.reg_setFlag_ne true h
  · rfl

theorem State.flag_showLocked {good : Nat} (h : 4 ≤ good) : (s.showLocked good).flag F.TIME_STAT.PPS_LOCKED = true := by
  rw [State.showLocked, if_pos h]
  exact State.flag_setFlag_own _ true (by decide) rfl

/-- Away from a twin leader a change of the rate takes effect at once (R457). -/
theorem State.changeTime_rate (r : Int) (h : s.isLeader = false) :
    s.changeTime (.rate r) = s.setFld F.TIME_RATE_ADJ.V (pattern 32 r) :=
  if_neg (Bool.eq_false_iff.mp h)

variable {e f r : Int} {good : Nat} {u : State} (hl : s.isLeader = false)
  (hf : signed 32 (pattern 32 (s.time.servoF - ashr e 4)) = f)
  (hr : clampInt (-rateLimit) rateLimit (f - e) = r)
  (hg : (if e.natAbs ≤ 1100 then s.time.goodEdges + 1 else 0) = good)
  (hu : { s with time := { s.time with servoF := f, goodEdges := good } } = u)
include hl hf hr hg hu

/-- The servo puts its rate and then shows what it found. -/
theorem State.servo_eq :
    s.servo e = ((u.setFld F.TIME_RATE_ADJ.V (pattern 32 r)).showSlew (r != f - e)).showLocked good := by
  have hlu : u.isLeader = false := by rw [← hu]; exact hl
  rw [← State.changeTime_rate r hlu]
  subst hf hr hg hu
  rfl

/-- No register but the rate, the status word and those of E081 changes. -/
theorem State.regsBut_servo : s.regsBut (s.servo e) (R.TIME_RATE_ADJ :: R.TIME_STAT :: evtRegs 81) := by
  intro o ho
  simp only [evtRegs, List.mem_cons, List.not_mem_nil, or_false, not_or] at ho
  obtain ⟨hrate, hstat, hseen, hlost⟩ := ho
  rw [State.servo_eq hl hf hr hg hu, State.reg_showLocked _ hstat, State.reg_showSlew _ hstat hseen hlost,
    State.reg_setFld_ne _ _ hrate, ← hu, State.reg_with_time]

theorem State.fld_servo_rate : (s.servo e).fld F.TIME_RATE_ADJ.V = pattern 32 r := by
  have hreg : (s.servo e).reg R.TIME_RATE_ADJ = (u.setFld F.TIME_RATE_ADJ.V (pattern 32 r)).reg R.TIME_RATE_ADJ := by
    rw [State.servo_eq hl hf hr hg hu, State.reg_showLocked _ (by decide),
      State.reg_showSlew _ (by decide) (by decide) (by decide)]
  calc (s.servo e).fld F.TIME_RATE_ADJ.V
      = (u.setFld F.TIME_RATE_ADJ.V (pattern 32 r)).fld F.TIME_RATE_ADJ.V := by rw [State.fld, hreg, State.fld]
    _ = pattern 32 r % 2 ^ 32 := u.fld_setFld_self _ _ (by simp [Fld.fits])
    _ = pattern 32 r := pattern_mod 32 r

theorem State.servo_time : (s.servo e).time = { s.time with servoF := f, goodEdges := good } := by
  rw [State.servo_eq hl hf hr hg hu, State.showLocked_time, State.showSlew_time, State.setFld_time, ← hu]

theorem State.seen_servo (h : r ≠ f - e) : (s.servo e).seen 81 = true := by
  rw [State.servo_eq hl hf hr hg hu, bne_iff_ne.mpr h, State.seen,
    State.flag_congr (State.reg_showLocked good (by decide))]
  exact State.seen_showSlew

theorem State.flag_servo_locked (h : 4 ≤ good) : (s.servo e).flag F.TIME_STAT.PPS_LOCKED = true := by
  rw [State.servo_eq hl hf hr hg hu]
  exact State.flag_showLocked h

end Lemmas

/-- Settles O11: away from a leader the rate is put at once, and what the servo then shows lies apart from it. -/
theorem servoAtAnEdge : Obligations.ServoAtAnEdge := by
  unfold Obligations.ServoAtAnEdge
  intro s e f hl hf
  refine ⟨State.fld_servo_rate hl hf rfl rfl rfl, State.servo_time hl hf rfl rfl rfl, ?locked,
    State.seen_servo hl hf rfl rfl rfl, State.regsBut_servo hl hf rfl rfl rfl⟩
  case locked =>
    intro hgood he
    exact State.flag_servo_locked hl hf rfl (if_pos he) rfl (by omega)

end Sys2Proof.Machine
end

section
/-!
PROOFS. A step of tide time (R100, R112).
-/
namespace Sys2Proof.Machine

section Lemmas

variable {s : State}

/-- A status bit that an operation may set leaves the other registers alone. -/
theorem State.reg_ite_setFlag_ne (c : Bool) {f : Fld} {b : Bool} {o : Nat} (h : o ≠ f.off) :
    (if c then s.setFlag f b else s).reg o = s.reg o := by
  cases c
  · rfl
  · exact s.reg_setFlag_ne b h

theorem State.ite_setFlag_time (c : Bool) {f : Fld} {b : Bool} : (if c then s.setFlag f b else s).time = s.time := by
  cases c <;> rfl

/-- A flag apart from such a bit keeps its value. -/
theorem State.flag_ite_setFlag_apart (c : Bool) {f g : Fld} {b : Bool} (h : g.apart f) :
    (if c then s.setFlag f b else s).flag g = s.flag g := by
  cases c
  · rfl
  · exact s.flag_setFlag_ne g f b h

variable {d : Int}

/-- A step moves tide time and nothing else of the time block (R112). -/
theorem State.stepTide_time :
    (s.stepTide d).time =
      { s.time with tide := (((s.time.tide : Int) + d * (2 ^ 24 : Nat)) % (2 ^ 104 : Nat)).toNat } :=
  (State.raisePF_time _ _ _).trans (State.ite_setFlag_time _)

theorem State.flag_stepTide_stepped : (s.stepTide d).flag F.TIME_STAT.STEPPED = true := by
  rw [State.stepTide, State.raisePF, State.flag_raise _ _ _ _ (by decide) (by decide),
    State.flag_ite_setFlag_apart _ (by simp [Fld.apart]), State.flag_setFlag_own _ _ (by decide) rfl]

theorem State.seen_stepTide : (s.stepTide d).seen 80 = true := State.seen_raisePF _ _ _

theorem State.regsBut_stepTide :
    s.regsBut (s.stepTide d) ([R.TIME_STEP_IDX_LO, R.TIME_STEP_IDX_LO + 4, R.TIME_STEP_DELTA_LO,
      R.TIME_STEP_DELTA_LO + 4, R.TIME_STAT] ++ evtRegs 80) := by
  intro o ho
  simp only [evtRegs, List.cons_append, List.nil_append, List.mem_cons, List.not_mem_nil, or_false, not_or] at ho
  obtain ⟨hidx, hidx', hdelta, hdelta', hstat, hseen, hlost⟩ := ho
  rw [State.stepTide, State.reg_raisePF _ _ _ hseen hlost, State.reg_ite_setFlag_ne _ hstat,
    State.reg_setFlag_ne _ _ hstat, State.reg_setReg64_ne _ _ hdelta hdelta', State.reg_setReg64_ne _ _ hidx hidx',
    State.reg_with_time]

end Lemmas

/-- Settles O12: a step moves tide time and puts the step's registers, and E080 leaves them and STEPPED alone. -/
theorem tideTimeStep : Obligations.TideTimeStep := by
  unfold Obligations.TideTimeStep
  exact fun s d => ⟨State.stepTide_time, State.flag_stepTide_stepped, State.seen_stepTide, State.regsBut_stepTide⟩

end Sys2Proof.Machine
end

section
/-!
PROOFS. Edges at PPS_IN, and their absence (R110 to R114, R119).
-/
namespace Sys2Proof.Machine

section Lemmas

variable {s : State}

theorem exec_ppsEdge (ago : Nat) (h : s.runs = true) : exec (.ppsEdge ago) s = .next (s.keep (s.ppsEdge ago)) :=
  s.act_running _ h

theorem exec_ppsMissingTimeout (h : s.runs = true) : exec .ppsMissingTimeout s = .next (s.keep s.ppsMissing) :=
  s.act_running _ h

/-- A time load of this core cycle discards what the grid before it accepts (R119). -/
theorem State.edgeDropped_oldGrid {ago : Nat} {g : OldGrid} (h : s.time.oldGrid = some g) :
    s.edgeDropped ago =
      (g.cycle == s.time.cycle && g.stepped && within1ms ((g.now : Int) - (ago : Int) - (g.expected : Int))) := by
  rw [State.edgeDropped, h]

variable {ago : Nat}

/-- An edge that is not to be judged has no effect (R21, R111, R119, R456). -/
theorem State.ppsEdge_ignored
    (h : s.isFollower = true ∨ s.flag F.TIME_CTL.PPS_EN = false ∨ s.time.x6sSlipped = true ∨ s.edgeDropped ago = true) :
    s.ppsEdge ago = s :=
  if_pos (by simpa [or_assoc] using h)

section Judged

variable {edge : Nat} {u : State}
  (hj : s.isFollower = false ∧ s.flag F.TIME_CTL.PPS_EN = true ∧ s.time.x6sSlipped = false)
  (hd : s.edgeDropped ago = false)
  (he : (((s.now : Int) - (ago : Int)) % (2 ^ 80 : Nat)).toNat = edge)
  (hu : s.setFld F.TIME_PPS_ERR.V
    (pattern 32 (clampInt (-(2 ^ 31 : Nat)) ((2 ^ 31 : Nat) - 1) (s.ppsError edge))) = u)
include hj hd he hu

/-- Any other edge stores its error and is then judged (R110, R113). -/
theorem State.ppsEdge_judged :
    s.ppsEdge ago =
      if s.flag F.TIME_STAT.PPS_WAIT then u.ppsStep edge
      else if within1ms ((edge : Int) - (s.time.expected : Int)) then u.ppsAccept edge
      else u.ppsReject edge := by
  obtain ⟨hfol, hen, hslip⟩ := hj
  subst he hu
  exact if_neg (by simp [hfol, hen, hslip, hd])

theorem State.ppsEdge_steps (hw : s.flag F.TIME_STAT.PPS_WAIT = true) : s.ppsEdge ago = u.ppsStep edge := by
  rw [State.ppsEdge_judged hj hd he hu, if_pos hw]

variable (hw : s.flag F.TIME_STAT.PPS_WAIT = false)
include hw

theorem State.ppsEdge_accepts (hin : within1ms ((edge : Int) - (s.time.expected : Int)) = true) :
    s.ppsEdge ago = u.ppsAccept edge := by
  rw [State.ppsEdge_judged hj hd he hu, if_neg (Bool.eq_false_iff.mp hw), if_pos hin]

theorem State.ppsEdge_rejects (hout : within1ms ((edge : Int) - (s.time.expected : Int)) = false) :
    s.ppsEdge ago = u.ppsReject edge := by
  rw [State.ppsEdge_judged hj hd he hu, if_neg (Bool.eq_false_iff.mp hw), if_neg (Bool.eq_false_iff.mp hout)]

end Judged

/-- No edge is missing before the first step, without PPS_EN, or on a follower. -/
theorem State.ppsMissing_ignored
    (h : s.isFollower = true ∨ s.flag F.TIME_CTL.PPS_EN = false ∨ s.time.stepped = false) : s.ppsMissing = s := by
  refine if_neg ?_
  rcases h with h | h | h <;> simp [h]

/-- A missing edge ends the row of good edges, counts the second and is shown (R113). -/
theorem State.ppsMissing_counts {u : State}
    (h : s.isFollower = false ∧ s.flag F.TIME_CTL.PPS_EN = true ∧ s.time.stepped = true)
    (hu : { s with time := { s.time with goodEdges := 0, expected := (s.time.expected + 2 ^ 40) % 2 ^ 80 } } = u) :
    s.ppsMissing =
      ((((if s.flag F.TIME_CTL.SERVO_HOLD then u
        else u.changeTime (.rate (clampInt (-rateLimit) rateLimit s.time.servoF))).setPpsSec (s.ppsSec + 1)).setFlag
        F.TIME_STAT.PPS_MISSING true).setFlag F.TIME_STAT.PPS_LOCKED false).raisePF 82 0 := by
  obtain ⟨hfol, hen, hstep⟩ := h
  subst hu
  exact if_pos (by simp [hfol, hen, hstep])

end Lemmas

/-- Settles O10: the edge is ignored, or stored and judged by PPS_WAIT and its distance from the expected instant; a
missing one counts once tide time has been stepped. -/
theorem ppsEdge : Obligations.PpsEdge := by
  unfold Obligations.PpsEdge
  refine ⟨?judged, ?ignored, ?dropped, ?missingIgnored, ?missing⟩
  case judged =>
    intro s ago edge u hs hj hd he hu
    rw [exec_ppsEdge ago hs]
    exact ⟨fun hw => by rw [State.ppsEdge_steps hj hd he hu hw],
      fun hw hin => by rw [State.ppsEdge_accepts hj hd he hu hw hin],
      fun hw hout => by rw [State.ppsEdge_rejects hj hd he hu hw hout]⟩
  case ignored => exact fun s ago hs h => by rw [exec_ppsEdge ago hs, State.ppsEdge_ignored h]
  case dropped => exact fun s ago g hg => State.edgeDropped_oldGrid hg
  case missingIgnored => exact fun s hs h => by rw [exec_ppsMissingTimeout hs, State.ppsMissing_ignored h]
  case missing => exact fun s u hs h hu => by rw [exec_ppsMissingTimeout hs, State.ppsMissing_counts h hu]

end Sys2Proof.Machine
end

section
/-!
PROOFS. Gauge blocks, fall-back blocks and calibration windows (R135 to R144, R166, R167, R547, R548).
-/
namespace Sys2Proof.Machine

section Lemmas

variable {s : State}

section Commands

variable (h : s.runs = true)
include h

theorem exec_gaugeBlockEnd (g : Fin 4) (l : List Strobe) :
    exec (.gaugeBlockEnd g l) s = .next (s.keep (s.gaugeBlockEnd g l)) := s.act_running _ h

/-- Units 0 to 3 of an abandoned block are the gauges. -/
theorem exec_gaugeBlockAbandon_gauge {u : Fin 12} (l : List Strobe) (hu : (u : Nat) < 4) :
    exec (.gaugeBlockAbandon u l) s = .next (s.keep (s.gaugeAbandon u l)) :=
  (s.act_running _ h).trans (by rw [State.blockAbandon, if_pos hu])

/-- Units 4 to 11 are the fall-back checks of the banks. -/
theorem exec_gaugeBlockAbandon_bank {u : Fin 12} {b : Nat} (l : List Strobe) (hu : (u : Nat) = b + 4) :
    exec (.gaugeBlockAbandon u l) s = .next (s.keep (s.fbAbandon b l)) :=
  (s.act_running _ h).trans (by rw [State.blockAbandon, hu, if_neg (by omega), Nat.add_sub_cancel])

theorem exec_fallbackBlockEnd (b : Fin 8) (l : List Strobe) :
    exec (.fallbackBlockEnd b l) s = .next (s.keep (s.fallbackBlockEnd b l)) := s.act_running _ h

theorem exec_gaugeWindowStart (g : Fin 4) :
    exec (.gaugeWindowStart g) s = .next (s.keep (s.windowDue g)) := s.act_running _ h

theorem exec_gaugeWindowEnd (g : Fin 4) (ladder : List Int) :
    exec (.gaugeWindowEnd g ladder) s = .next (s.keep (s.windowEnd g ladder)) := s.act_running _ h

end Commands

section GaugeBlock

variable {g p f0 : Nat} {l : List Strobe} (hp : (s.gauge g).slice = some p) (hr : s.blockRuns g l = true)
include hp hr

section Complete

variable {c : List (Int × Int)} (hc : s.gaugeComps g p l = c) (hm : c.length = (s.gauge g).block.m)
  (hf : (s.gauge g).block.last 16 l.length = f0)
include hc hm hf

/-- A block with M valid comparisons writes its statistics, estimates its slice and is judged (R138, R140, R166). -/
theorem State.gaugeBlockEnd_estimates (hb : s.bankFg (p / 13) = false) :
    s.gaugeBlockEnd g l =
      (((s.blockStats p 0 (s.gauge g).block c).gaugeEstimate p f0 (s.gauge g).block c).gaugeVerdict g p f0
        (s.positionIdx (p / 13) (s.visitPos g) (s.gauge g).block.start) (s.gauge g).block c) := by
  subst hc hf
  simp [State.gaugeBlockEnd, hp, hr, hm, hb]

/-- During foreground calibration it forms no estimate (R166). -/
theorem State.gaugeBlockEnd_foreground (hb : s.bankFg (p / 13) = true) :
    s.gaugeBlockEnd g l =
      ((s.blockStats p 0 (s.gauge g).block c).gaugeVerdict g p f0
        (s.positionIdx (p / 13) (s.visitPos g) (s.gauge g).block.start) (s.gauge g).block c) := by
  subst hc hf
  simp [State.gaugeBlockEnd, hp, hr, hm, hb]

end Complete

/-- A block with 4 M strobes and fewer than M valid comparisons has no verdict (R137). -/
theorem State.gaugeAbandon_incomplete (hl : l.length = 4 * (s.gauge g).block.m)
    (hm : (s.gaugeComps g p l).length < (s.gauge g).block.m) :
    s.gaugeAbandon g l = (s.abandonStats p 0).visitDone g ((s.gauge g).block.last 16 l.length + 1) := by
  have hblt : Nat.blt (s.gaugeComps g p l).length (s.gauge g).block.m = true := Nat.blt_eq.mpr hm
  simp only [State.gaugeAbandon, hp, hr, beq_iff_eq.mpr hl, hblt, Bool.and_true, if_true]

end GaugeBlock

section Verdict

variable {g p f0 first : Nat} {k : Block} {c : List (Int × Int)}

/-- A passing block on a slice in a bank without interpolated positions only moves the sweep on, after the suspicion it
clears (R138, R139). -/
theorem State.gaugeVerdict_passes {u : State} (hb : blockFails k c = false)
    (hu : (if s.suspect p then s.clearSuspect p (f0 + 1) else s) = u) (hi : u.interps (p / 13) = []) :
    s.gaugeVerdict g p f0 first k c = u.visitDone g (f0 + 1) := by
  simp only [State.gaugeVerdict, hb, hu, hi, Bool.false_eq_true, if_false, List.head?_nil]

/-- A failing block on a suspect slice declares its fault, once (R139). -/
theorem State.gaugeVerdict_fails_suspect (hb : blockFails k c = true) (hs : s.suspect p = true) :
    s.gaugeVerdict g p f0 first k c =
      (if natBit (s.bank (p / 13)).declared (p % 13) then s else s.declareFault p f0 false).visitDone g (f0 + 1) := by
  simp only [State.gaugeVerdict, hb, hs, if_true]

/-- On an unsuspected slice it is confirmed by a further block (R139). -/
theorem State.gaugeVerdict_fails_confirms {u : State} (hb : blockFails k c = true) (hs : s.suspect p = false)
    (hk : k.confirm = true) (hu : s.makeSuspect p false (exceed k c) first f0 = u) :
    s.gaugeVerdict g p f0 first k c =
      u.setGauge g { u.gauge g with confirming := true, block := u.blockSettings g (f0 + 1) } := by
  subst hu
  simp only [State.gaugeVerdict, hb, hs, hk, Bool.false_eq_true, if_false, if_true]

/-- Without CONFIRM it declares the fault at once (R139). -/
theorem State.gaugeVerdict_fails_unconfirmed (hb : blockFails k c = true) (hs : s.suspect p = false)
    (hk : k.confirm = false) :
    s.gaugeVerdict g p f0 first k c =
      ((s.makeSuspect p false (exceed k c) first f0).declareFault p f0 false).visitDone g (f0 + 1) := by
  simp only [State.gaugeVerdict, hb, hs, hk, Bool.false_eq_true, if_false, if_true]

end Verdict

section FallbackBlock

variable {b : Nat} {l : List Strobe} (hr : s.fbRuns b l = true)
include hr

/-- A fall-back block with too few valid comparisons gives way to the next position (R137, R143). -/
theorem State.fbAbandon_incomplete (hl : l.length = 4 * (s.bank b).fbBlock.m)
    (hm : (s.fbComps b l).length < (s.bank b).fbBlock.m) :
    s.fbAbandon b l =
      (s.abandonStats (s.fbSlice b) 1).fbVisit b (s.fbNext b (s.bank b).fbPos) ((s.bank b).fbBlock.last 1 l.length + 1) := by
  have hblt : Nat.blt (s.fbComps b l).length (s.bank b).fbBlock.m = true := Nat.blt_eq.mpr hm
  simp only [State.fbAbandon, hr, beq_iff_eq.mpr hl, hblt, Bool.and_true, if_true]

/-- A fall-back block with M valid comparisons passes or fails its slice and moves on (R143, R144). -/
theorem State.fallbackBlockEnd_judged {c : List (Int × Int)} {p f0 : Nat} {t u : State} (hp : s.fbSlice b = p)
    (hf : (s.bank b).fbBlock.last 1 l.length = f0) (hc : s.fbComps b l = c) (hm : c.length = (s.bank b).fbBlock.m)
    (ht : s.blockStats p 1 (s.bank b).fbBlock c = t)
    (hu : (if blockFails (s.bank b).fbBlock c then t.fbFail b p (exceed (s.bank b).fbBlock c) f0 else t) = u) :
    s.fallbackBlockEnd b l = u.fbVisit b (u.fbNext b (s.bank b).fbPos) (f0 + 1) := by
  simp only [State.fallbackBlockEnd, hr, hp, hf, hc, beq_iff_eq.mpr hm, ht, hu, Bool.and_true, if_true]

end FallbackBlock

/-- A fall-back failure marks the position, makes its slice suspect where it is not, and with its gauge failed is a fault
(R144, R548). -/
theorem State.fbFail_eq {b p exc f0 : Nat} {x : Bank} {t : State} (hx : s.bank b = x)
    (ht : s.setBank b { x with fbFailed := putBit x.fbFailed x.fbPos true } = t) :
    s.fbFail b p exc f0 =
      (if s.flag (F.HLTH_STAT.GAUGE_FAIL.bit (b / 2)) then
        (if t.suspect p then t else t.makeSuspect p true exc (s.positionIdx b x.fbPos x.fbBlock.start) f0).fault 0x0102 p
      else if t.suspect p then t else t.makeSuspect p true exc (s.positionIdx b x.fbPos x.fbBlock.start) f0) := by
  subst hx ht
  rfl

section Window

variable {g : Nat}

/-- A gauge whose window falls due has its turn: no window runs, and no lower gauge's falls due with it (R142). -/
def State.windowTurn (s : State) (g : Nat) : Prop :=
  s.anyWindow = false ∧ ∀ k, k < g → s.windowFalls k = false

theorem State.windowTurn_iff : (s.anyWindow || (List.range g).any s.windowFalls) = false ↔ s.windowTurn g := by
  simp only [State.windowTurn, Bool.or_eq_false_iff, List.any_eq_false, List.mem_range, Bool.not_eq_true]

theorem State.windowDue_begins (hf : s.windowFalls g = true) (h : s.windowTurn g) :
    s.windowDue g = s.windowBegin g := by
  simp only [State.windowDue, hf, State.windowTurn_iff.mpr h, Bool.false_eq_true, if_false, if_true]

theorem State.windowDue_waits (hf : s.windowFalls g = true) (h : ¬ s.windowTurn g) :
    s.windowDue g = s.setGauge g { s.gauge g with winDue := true } := by
  have hw : (s.anyWindow || (List.range g).any s.windowFalls) = true := by
    rwa [← State.windowTurn_iff, Bool.not_eq_false] at h
  simp only [State.windowDue, hf, hw, if_true]

/-- A window runs already, or a lower gauge's falls due. -/
theorem State.not_windowTurn (h : s.anyWindow = true ∨ ∃ k, k < g ∧ s.windowFalls k = true) : ¬ s.windowTurn g := by
  rintro ⟨hnone, hlow⟩
  rcases h with hany | ⟨k, hk, hkf⟩
  · exact Bool.false_ne_true (hnone.symm.trans hany)
  · exact Bool.false_ne_true ((hlow k hk).symm.trans hkf)

theorem State.windowDue_skipped (hf : s.windowFalls g = false) : s.windowDue g = s :=
  if_neg (Bool.eq_false_iff.mp hf)

/-- The window's last core cycle fits the gauge, judges the fit and ends the fall-back checks (R142, R167, R547). -/
theorem State.windowEnd_ends {ladder : List Int} (hw : s.flag (windowFld g) = true)
    (he : (s.gauge g).winEnd ≤ s.time.cycle + 1) :
    s.windowEnd g ladder = (((s.gaugeFit g ladder).judgeFit g ladder).setFlag (windowFld g) false).fallbackEnd g :=
  if_pos (by rw [hw, Nat.ble_eq.mpr he]; rfl)

end Window

end Lemmas

/-- Settles O18: the block's comparisons, its failure and the state of its slice decide what it does; whether a window falls
due and has its turn decides its start. -/
theorem gaugeChecks : Obligations.GaugeChecks := by
  unfold Obligations.GaugeChecks
  refine ⟨?blockEnd, ?verdict, ?confirm, ?gaugeAbandon, ?fbAbandon, ?fallbackEnd, ?fbFail, ?windowStart, ?windowFalls,
    ?windowEnd⟩
  case blockEnd =>
    rintro s g l p f0 c hs ⟨hp, hr⟩ ⟨hc, hm⟩ hf
    rw [exec_gaugeBlockEnd hs]
    exact ⟨fun hb => by rw [State.gaugeBlockEnd_estimates hp hr hc hm hf hb],
      fun hb => by rw [State.gaugeBlockEnd_foreground hp hr hc hm hf hb]⟩
  case verdict =>
    intro s g p f0 first k c
    refine ⟨?passes, ?clears, ?unconfirmed, ?declares, ?declared⟩
    case passes => exact fun hb hs hi => State.gaugeVerdict_passes hb (if_neg (Bool.eq_false_iff.mp hs)) hi
    case clears => exact fun hb hs hi => State.gaugeVerdict_passes hb (if_pos hs) hi
    case unconfirmed => exact fun hb hs hk => State.gaugeVerdict_fails_unconfirmed hb hs hk
    case declares =>
      exact fun hb hs hd => by rw [State.gaugeVerdict_fails_suspect hb hs, if_neg (Bool.eq_false_iff.mp hd)]
    case declared => exact fun hb hs hd => by rw [State.gaugeVerdict_fails_suspect hb hs, if_pos hd]
  case confirm =>
    rintro s g p f0 first k c u hu ⟨hb, hs, hk⟩
    exact State.gaugeVerdict_fails_confirms hb hs hk hu
  case gaugeAbandon =>
    rintro s u p l hs ⟨hu, hp, hr⟩ ⟨hl, hm⟩
    rw [exec_gaugeBlockAbandon_gauge hs l hu, State.gaugeAbandon_incomplete hp hr hl hm]
  case fbAbandon =>
    rintro s b u l hs ⟨hu, hr⟩ ⟨hl, hm⟩
    rw [exec_gaugeBlockAbandon_bank hs l hu, State.fbAbandon_incomplete hr hl hm]
  case fallbackEnd =>
    rintro s b l c p f0 t u hs ⟨hr, hp, hf⟩ ⟨hc, hm⟩ ht hu
    rw [exec_fallbackBlockEnd hs, State.fallbackBlockEnd_judged hr hp hf hc hm ht hu]
  case fbFail =>
    intro s b p exc f0 x t hx ht
    rw [State.fbFail_eq hx ht]
    refine ⟨?again, ?first, ?fault⟩
    case again => exact fun hs hg => by rw [if_neg (Bool.eq_false_iff.mp hg), if_pos hs]
    case first => exact fun hs hg => by rw [if_neg (Bool.eq_false_iff.mp hg), if_neg (Bool.eq_false_iff.mp hs)]
    case fault => exact fun hs hg => by rw [if_pos hg, if_neg (Bool.eq_false_iff.mp hs)]
  case windowStart =>
    intro s g hs
    rw [exec_gaugeWindowStart hs]
    exact ⟨fun hf hnone hlow => by rw [State.windowDue_begins hf ⟨hnone, hlow⟩],
      fun hf h => by rw [State.windowDue_waits hf (State.not_windowTurn h)],
      fun hf => by rw [State.windowDue_skipped hf]⟩
  case windowFalls => exact fun s g => rfl
  case windowEnd =>
    rintro s g ladder hs ⟨hw, he⟩
    rw [exec_gaugeWindowEnd hs, State.windowEnd_ends hw he]

end Sys2Proof.Machine
end

section
/-!
PROOFS. Epochs and rotation of the slice maps, RETIRE and READMIT (R126 to R133, R146, R152).
-/
namespace Sys2Proof.Machine

section Lemmas

variable {s : State}

section Commands

variable (h : s.runs = true)
include h

theorem exec_dwellEnd (b : Fin 8) : exec (.dwellEnd b) s = .next (s.keep (s.dwellEnd b)) := s.act_running _ h

theorem exec_epochOpen (b : Fin 8) (odd : Bool) :
    exec (.epochOpen b odd) s = .next (s.keep (s.epochOpen b odd)) := s.act_running _ h

variable (hr : s.reachable R.CNV_CMD = true) (p : BitVec 7)
include hr

theorem exec_cnvRetire : exec (.cnvRetire p) s = .next (s.keep (s.cnvRetire p.toNat)) :=
  (s.act_running _ h).trans (by rw [s.atReg_reachable _ hr])

theorem exec_cnvReadmit : exec (.cnvReadmit p) s = .next (s.keep (s.cnvReadmit p.toNat)) :=
  (s.act_running _ h).trans (by rw [s.atReg_reachable _ hr])

end Commands

section Dwell

variable {b f : Nat} (hd : (s.bank b).dwellOver = some f)
include hd

/-- The dwell has counted its frames by the end of the core cycle (R131). -/
theorem State.dwellEnd_due (hp : s.rotPaused b = false) (hf : f ≤ s.frameNow true + 1) :
    s.dwellEnd b = s.setBank b { s.bank b with rotDue := some f } := by
  have hblt : Nat.blt (s.frameNow true + 1) f = false := by
    rw [Bool.eq_false_iff, ne_eq, Nat.blt_eq]; omega
  simp only [State.dwellEnd, hd, hp, hblt, Bool.or_false, Bool.false_eq_true, if_false]

/-- A pause, or frames that are still to come, hold the rotation back (R131, R133). -/
theorem State.dwellEnd_waits (h : s.rotPaused b = true ∨ s.frameNow true + 1 < f) : s.dwellEnd b = s := by
  have hc : (s.rotPaused b || Nat.blt (s.frameNow true + 1) f) = true :=
    Bool.or_eq_true_iff.mpr (h.imp_right Nat.blt_eq.mpr)
  simp only [State.dwellEnd, hd, hc, if_true]

end Dwell

theorem Bank.dwellOver_counting {x : Bank} {a : Nat} (h : x.dwellFrom = some a) :
    x.dwellOver = some (a + (2 ^ x.dwell - x.dwelt)) := by
  rw [Bank.dwellOver, h, Option.map_some]

section Open

variable {b : Nat} {odd : Bool}

/-- A rotation of bank b that is due can be made in a frame: nothing pauses it, the spare is not suspect, and neither of
the two slices is being checked (R130, R131). -/
def State.rotationOpens (s : State) (b frame : Nat) : Bool :=
  (s.bank b).rotDue.any (fun d => Nat.ble d frame) && !(s.rotPaused b) && !(s.suspect (13 * b + s.spare b))
    && !(s.blockOn b (13 * b + s.spare b) frame) && !(s.blockOn b (13 * b + s.pos b (s.bank b).target) frame)

/-- While SAMPLE runs, at a frame boundary that keeps the spacing of R127, a decided change goes before a rotation. -/
theorem State.epochOpen_spaced (hz : s.frozen = false)
    (he : (s.bank b).epochAt.all (fun e => Nat.ble (e + 64) (s.frameNow odd)) = true) :
    s.epochOpen b odd = (Machine.firstDue (s.bank b).changes).elim
      (if s.rotationOpens b (s.frameNow odd) then s.rotate b (s.frameNow odd) else s)
      (fun c => if c.earliest ≤ s.frameNow odd then s.openChange b (s.frameNow odd) c else s) := by
  cases hx : (s.bank b).epochAt with
  | none =>
    simp only [State.epochOpen, hz, hx, Bool.not_true, Bool.or_false, Bool.false_eq_true, if_false]
    cases Machine.firstDue (s.bank b).changes <;> rfl
  | some e =>
    have hble : Nat.ble (e + 64) (s.frameNow odd) = true := by rwa [hx, Option.all_some] at he
    simp only [State.epochOpen, hz, hx, hble, Bool.not_true, Bool.or_false, Bool.false_eq_true, if_false]
    cases Machine.firstDue (s.bank b).changes <;> rfl

end Open

section Epoch

variable (b frame : Nat)

/-- An epoch's bookkeeping in the bank leaves every register but the map's number alone. -/
theorem State.reg_newEpoch (o : Nat) :
    (s.newEpoch b frame).reg o =
      (s.setFld (F.CNV_MAP_HI.EPOCH b) ((s.fld (F.CNV_MAP_HI.EPOCH b) + 1) % 256)).reg o := rfl

/-- EPOCH counts modulo 256 (R126). -/
theorem State.epoch_newEpoch :
    (s.newEpoch b frame).fld (F.CNV_MAP_HI.EPOCH b) = (s.fld (F.CNV_MAP_HI.EPOCH b) + 1) % 256 := by
  rw [State.fld, State.reg_newEpoch]
  exact (s.fld_setFld_self _ _ (by simp [Fld.fits])).trans (Nat.mod_mod _ _)

theorem State.regsBut_newEpoch : s.regsBut (s.newEpoch b frame) [R.CNV_MAP_HI b] := by
  intro o ho
  rw [State.reg_newEpoch, State.reg_setFld_ne _ _ (List.ne_of_not_mem_cons ho)]

theorem State.newEpoch_mem : (s.newEpoch b frame).mem = s.mem := rfl

end Epoch

section Slice

variable {p : Nat}

/-- RETIRE declares the fault of a slice in service (R152). -/
theorem State.cnvRetire_unretired (hp : p < 104) (hr : s.retired p = false) :
    s.cnvRetire p = (s.forgetCommand.declareFault p (s.frameNow false) true).cmdResult 0 (p / 13) := by
  simp only [State.cnvRetire, hp, hr, decide_true, Bool.not_false, Bool.and_true, if_true]

/-- No slice has a number of 104 or more (R152). -/
theorem State.cnvRetire_unnumbered (hp : 104 ≤ p) : s.cnvRetire p = s.cmdResult 2 8 := by
  simp only [State.cnvRetire, Nat.not_lt.mpr hp, decide_false, Bool.false_and, Bool.false_eq_true, if_false]

theorem State.cnvReadmit_unnumbered (hp : 104 ≤ p) : s.cnvReadmit p = s.cmdResult 2 8 := by
  simp only [State.cnvReadmit, Nat.not_lt.mpr hp, decide_false, Bool.false_and, Bool.false_eq_true, if_false]

/-- READMIT of a retired slice: its bank's use and then its spare decide (R152). -/
theorem State.cnvReadmit_retired (hp : p < 104) (hr : s.retired p = true) :
    s.cnvReadmit p =
      if s.bankInUse (p / 13) then s.cmdResult 1 8
      else if s.hasSpare (p / 13) then s.cmdResult 3 8
      else (s.forgetCommand.readmit p).cmdResult 0 8 := by
  simp only [State.cnvReadmit, hp, hr, decide_true, Bool.and_true, if_true]

end Slice

end Lemmas

/-- Settles O19: the frames counted and the pauses decide a dwell's end, the changes decided and the rotation due an epoch's
opening, the slice's number and state and its bank a command. -/
theorem sliceMaps : Obligations.SliceMaps := by
  unfold Obligations.SliceMaps
  refine ⟨?dwellEnd, ?dwellOver, ?change, ?rotation, ?epoch, ?retire, ?readmit, ?unnumbered⟩
  case dwellEnd =>
    intro s b f hs hd
    rw [exec_dwellEnd hs]
    exact ⟨fun hp hf => by rw [State.dwellEnd_due hd hp hf], fun h => by rw [State.dwellEnd_waits hd h]⟩
  case dwellOver => exact fun x a h => Bank.dwellOver_counting h
  case change =>
    rintro s b odd c hs hz he ⟨hc, hf⟩
    rw [exec_epochOpen hs, State.epochOpen_spaced hz he, hc, Option.elim_some, if_pos hf]
  case rotation =>
    rintro s b odd f hs ⟨hz, hc⟩ he ⟨hd, hf, hp, hsus⟩ ⟨hsp, hin⟩
    have hopens : s.rotationOpens b (s.frameNow odd) = true := by
      simp only [State.rotationOpens, hd, Option.any_some, Nat.ble_eq.mpr hf, hp, hsus, hsp, hin, Bool.not_false,
        Bool.and_true]
    rw [exec_epochOpen hs, State.epochOpen_spaced hz he, hc, firstDue, Option.elim_none, if_pos hopens]
  case epoch =>
    exact fun s b frame => ⟨State.epoch_newEpoch b frame, State.regsBut_newEpoch b frame, State.newEpoch_mem b frame⟩
  case retire =>
    rintro s p hs hr ⟨hp, hret⟩
    rw [exec_cnvRetire hs hr, State.cnvRetire_unretired hp hret]
  case readmit =>
    rintro s p hs hr ⟨hp, hret⟩
    rw [exec_cnvReadmit hs hr, State.cnvReadmit_retired hp hret]
    refine ⟨?free, ?used, ?spared⟩
    case free => exact fun hu hsp => by rw [if_neg (Bool.eq_false_iff.mp hu), if_neg (Bool.eq_false_iff.mp hsp)]
    case used => exact fun hu => by rw [if_pos hu]
    case spared => exact fun hu hsp => by rw [if_neg (Bool.eq_false_iff.mp hu), if_pos hsp]
  case unnumbered =>
    intro s p hs hr hp
    rw [exec_cnvRetire hs hr, exec_cnvReadmit hs hr, State.cnvRetire_unnumbered hp, State.cnvReadmit_unnumbered hp]
    exact ⟨rfl, rfl⟩

end Sys2Proof.Machine
end

section
/-!
PROOFS. Intervals of the background estimators, convergence, and foreground calibration (R168 to R173, R176 to R179).
-/
namespace Sys2Proof.Machine

section Lemmas

variable {s : State}

section Neighbour

variable {n : Nat} {words : List (BitVec 16)}

theorem exec_neighbourIntervalEnd (n : Fin 4) (words : List (BitVec 16)) (h : s.runs = true) :
    exec (.neighbourIntervalEnd n words) s = .next (s.keep (s.nbEnd n words)) := s.act_running _ h

/-- The input's interval does not end, or the estimator is paused for it (R168, R178). -/
theorem State.nbEnd_skipped (h : s.frozen = true ∨ sampledIn s.inp.route n = false ∨
    natBit (s.fld F.CAL_STAT.FG_ACTIVE) n = true ∨ s.inCycle (s.nbLast n) = false) : s.nbEnd n words = s := by
  apply if_pos
  rcases h with h | h | h | h <;> simp [h]

/-- The interval of a sampled input that is not being calibrated ends with targets or starved, counts, and is followed by
the next (R168, R169, R171). -/
theorem State.nbEnd_ends {m : NbStats} {u : State} (hz : s.frozen = false) (hin : sampledIn s.inp.route n = true)
    (hfg : natBit (s.fld F.CAL_STAT.FG_ACTIVE) n = false) (hc : s.inCycle (s.nbLast n) = true)
    (hm : s.nbStats n words = m)
    (hu : (if nbStarved m then s.nbStarve n else { s.nbTargets n (s.nbLast n) m with
      cal := { (s.nbTargets n (s.nbLast n) m).cal with
        starved := SMap.set zero (s.nbTargets n (s.nbLast n) m).cal.starved n 0 } }) = u) :
    s.nbEnd n words = ({ u with cal := { u.cal with
      nbEnds := SMap.set zero u.cal.nbEnds n (SMap.get zero u.cal.nbEnds n + 1) } }).nbBegin n (s.nbLast n + 1) := by
  subst hm hu
  simp only [State.nbEnd, hz, hin, hfg, hc, Bool.not_true, Bool.or_self, Bool.false_eq_true, if_false]

/-- The 64th starved interval in a row raises E114 (R169). -/
theorem State.seen_nbStarve (h : SMap.get zero s.cal.starved n = 63) : (s.nbStarve n).seen 114 = true := by
  simp only [State.nbStarve, h, if_true, State.seen_raisePF]

/-- Besides the registers of E114 a starved interval counts in its own register only. -/
theorem State.reg_nbStarve {o : Nat} (hseen : o ≠ R.EVT_SEEN (114 / 32)) (hlost : o ≠ R.EVT_QLOST) :
    (s.nbStarve n).reg o = (s.bump (R.CAL_STARVED n)).reg o := by
  unfold State.nbStarve
  dsimp only
  split
  · rw [State.reg_raisePF _ _ _ hseen hlost]
    rfl
  · rfl

theorem State.reg_nbStarve_self : (s.nbStarve n).reg (R.CAL_STARVED n) = s.reg (R.CAL_STARVED n) + 1 := by
  have hseen : R.CAL_STARVED n ≠ R.EVT_SEEN (114 / 32) := by simp only [R.CAL_STARVED, R.EVT_SEEN]; omega
  have hlost : R.CAL_STARVED n ≠ R.EVT_QLOST := by simp only [R.CAL_STARVED, R.EVT_QLOST]; omega
  rw [State.reg_nbStarve hseen hlost, State.reg_bump_self]

theorem State.regsBut_nbStarve : s.regsBut (s.nbStarve n) (R.CAL_STARVED n :: evtRegs 114) := by
  intro o ho
  simp only [evtRegs, List.mem_cons, List.not_mem_nil, or_false, not_or] at ho
  obtain ⟨hown, hseen, hlost⟩ := ho
  rw [State.reg_nbStarve hseen hlost, State.reg_bump_ne s hown]

end Neighbour

section Shadow

variable {b f : Nat} {l : List ShStrobe} {m : ShStats}

theorem exec_shadowIntervalEnd (b : Fin 8) (l : List ShStrobe) (h : s.runs = true) :
    exec (.shadowIntervalEnd b l) s = .next (s.keep (s.shEnd b l)) := s.act_running _ h

/-- At the end of a shadow interval only whether the estimator has run in it decides whether it forms an estimate (R170). -/
theorem State.shEnd_ends (hz : s.frozen = false) (hc : s.inCycle (s.shLast b) = true) :
    s.shEnd b l =
      (if s.hasSpare b && s.shadowIn b (s.shFirst b) (s.shLast b)
        then s.shEstimate b (s.shLast b) (s.shStats b l) else s).shBegin b (s.shLast b + 1) := by
  simp only [State.shEnd, hz, hc, Bool.not_true, Bool.or_self, Bool.false_eq_true, if_false]

/-- Without any sum of squares of the first kernel the interval is starved (R170). -/
theorem State.shEstimate_starved (h : m.z1z1 ≤ 0) : s.shEstimate b f m = s.bump (R.CAL_BANK_SHSTARVED b) := if_pos h

/-- A BW target is formed beside the SKEW target where the second kernel's mean square is 256 or more (R170). -/
theorem State.shEstimate_targets {p : Nat} {skew bw : Int} (h : ¬ m.z1z1 ≤ 0) (hp : 13 * b + s.spare b = p)
    (hskew : s.corrApplied s.inp.route p 2 f + roundRat (m.dz1 / m.z1z1 * s.samplePeriod * 16) = skew)
    (hbw : s.corrApplied s.inp.route p 3 f
      - roundRat (m.dz2 / m.z2z2 * (s.samplePeriod * s.samplePeriod) / 4) = bw) :
    s.shEstimate b f m = s.applyEstimate p f 4 (if m.z2z2 < 256 * m.n then [(2, skew)] else [(2, skew), (3, bw)]) := by
  subst hp hskew hbw
  exact if_neg h

end Shadow

section Settled

theorem exec_calSettled (h : s.runs = true) : exec .calSettled s = .next (s.keep s.calSettled) := s.act_running _ h

theorem State.calSettled_first (hc : s.converged = true) (hf : s.flag F.INP_MODE_STAT.CAL_SETTLED = false) :
    s.calSettled =
      (s.setFlag F.INP_MODE_STAT.CAL_SETTLED true).raisePF 113 (s.fld F.INP_MODE_STAT.ACTIVE_MODE) :=
  if_pos (by rw [hc, hf]; rfl)

/-- Convergence not reached, or shown already (R173). -/
theorem State.calSettled_idle (h : s.converged = false ∨ s.flag F.INP_MODE_STAT.CAL_SETTLED = true) :
    s.calSettled = s := by
  apply if_neg
  rcases h with h | h <;> simp [h]

end Settled

section Foreground

variable {r : Nat} {d : Desc} {x : FgRun}

theorem exec_calForeground {r : Fin 64} (h : s.starts r 0x61 d = true) :
    exec (.calForeground r) s = .next (s.keep ((s.begin r d).fgStart d.begun)) := State.act_start _ h

theorem State.fgStart_badDescriptor (hv : s.fgValid d = false) : s.fgStart d = s.finish d .badDescriptor [] :=
  if_pos (by rw [hv]; rfl)

/-- A descriptor in order is refused as busy, or its inputs' injectors connect (R176, R177). -/
theorem State.fgStart_valid (hv : s.fgValid d = true) :
    s.fgStart d =
      if s.fgBusy (d.f 2 0 4) then s.finish d .busy []
      else ((({ s with cal := { s.cal with
          fg := s.cal.fg ++ [FgRun.mk d.seq d.ring (d.f 2 0 4) (d.f 2 8 1 == 1) 0] } }.maskFld F.CAL_STAT.FG_ACTIVE
            (d.f 2 0 4) true).inject (d.f 2 0 4) true).showBanks) :=
  if_neg (by rw [hv]; exact Bool.false_ne_true)

theorem exec_fgTrimSearchDone (r : Fin 64) (trims : List (Nat × Word)) (h : s.runs = true) :
    exec (.fgTrimSearchDone r trims) s = .next (s.keep (s.searchDone r trims)) := s.act_running _ h

/-- The end of the search of a request that searches counts the fields that its selections have changed (R177). -/
theorem State.searchDone_searching {trims : List (Nat × Word)} {u : State} (hx : s.fgOf r = some x)
    (hs : x.search = true) (hu : trims.foldl (fun t e => t.searchSet x.inputs e) s = u) :
    s.searchDone r trims = { u with cal := { u.cal with fg := u.cal.fg.map (fun y =>
      if y.seq = x.seq then { y with
        search := false
        changed := ((List.range 112).map (fun i => trimDiff i (s.reg (trimOff i)) (u.reg (trimOff i)))).foldl (· + ·) 0 }
      else y) } } := by
  subst hu
  simp only [State.searchDone, hx, hs, if_true]

theorem exec_fgRelease (r : Fin 64) (ladders : List Ladder) (h : s.runs = true) :
    exec (.fgRelease r ladders) s = .next (s.keep (s.fgRelease r ladders)) := s.act_running _ h

/-- The release of a request whose search is over writes its ladder results before its inputs are released (R177,
R179). -/
theorem State.fgRelease_searched {ladders : List Ladder} {u : State} (hx : s.fgOf r = some x) (hs : x.search = false)
    (hu : (ladders.foldl (fun t l => t.ladderSet x.inputs l) s).fgOver x = u) :
    s.fgRelease r ladders =
      (u.fgFinish x .ok (BitVec.ofNat 32 x.inputs :: BitVec.ofNat 32 x.changed :: eventTime u.now)).raisePF 112
        (x.inputs + 2 ^ 8 * satNat 255 x.changed) := by
  subst hu
  simp only [State.fgRelease, hx, hs, Bool.false_eq_true, if_false]

end Foreground

end Lemmas

/-- Settles O21: an interval's end is decided by its last frame and its sums, CAL_SETTLED by the two conditions of R173, a
foreground calibration by its descriptor, the conditions of BUSY and whether its search is over. -/
theorem calibrationRuns : Obligations.CalibrationRuns := by
  unfold Obligations.CalibrationRuns
  refine ⟨?nbEnds, ?nbSkipped, ?nbStarve, ?shEnds, ?shEstimate, ?settled, ?fgStart, ?fgSearch, ?fgRelease⟩
  case nbEnds =>
    rintro s u n words m hs ⟨hz, hin, hfg⟩ ⟨hc, hm⟩ hu
    rw [exec_neighbourIntervalEnd n words hs, State.nbEnd_ends hz hin hfg hc hm hu]
  case nbSkipped =>
    intro s n words hs h
    rw [exec_neighbourIntervalEnd n words hs, State.nbEnd_skipped h]
  case nbStarve => exact fun s n => ⟨State.seen_nbStarve, State.reg_nbStarve_self, State.regsBut_nbStarve⟩
  case shEnds =>
    rintro s b l hs ⟨hz, hc⟩
    rw [exec_shadowIntervalEnd b l hs, State.shEnd_ends hz hc]
    refine ⟨?ran, ?idle⟩
    case ran => exact fun hsp hin => by rw [hsp, hin, Bool.and_self, if_pos rfl]
    case idle => exact fun h => by rw [Bool.and_eq_false_iff.mpr h, if_neg Bool.false_ne_true]
  case shEstimate =>
    intro s b f p m skew bw hp hskew hbw
    refine ⟨State.shEstimate_starved, ?skewOnly, ?both⟩
    case skewOnly => exact fun hz1 hz2 => by rw [State.shEstimate_targets hz1 hp hskew hbw, if_pos hz2]
    case both => exact fun hz1 hz2 => by rw [State.shEstimate_targets hz1 hp hskew hbw, if_neg hz2]
  case settled =>
    intro s hs
    rw [exec_calSettled hs]
    exact ⟨fun hc hf => by rw [State.calSettled_first hc hf], fun h => by rw [State.calSettled_idle h]⟩
  case fgStart =>
    rintro s u r d hd rfl
    rw [exec_calForeground hd]
    refine ⟨?runs, ?bad, ?busy⟩
    case runs => exact fun hv hb => by rw [State.fgStart_valid hv, if_neg (Bool.eq_false_iff.mp hb)]; rfl
    case bad => exact fun hv => by rw [State.fgStart_badDescriptor hv]
    case busy => exact fun hv hb => by rw [State.fgStart_valid hv, if_pos hb]
  case fgSearch =>
    rintro s u r x trims hs ⟨hx, hsearch⟩ hu
    rw [exec_fgTrimSearchDone r trims hs, State.searchDone_searching hx hsearch hu]
  case fgRelease =>
    rintro s u r x ladders hs ⟨hx, hsearch⟩ hu
    rw [exec_fgRelease r ladders hs, State.fgRelease_searched hx hsearch hu]

end Sys2Proof.Machine
end

section
/-!
PROOFS. Saturated sums of the equaliser (R184).
-/
namespace Sys2Proof.Machine

section Lemmas

variable {s : State}

theorem exec_eqClip (n : Fin 4) (h : s.runs = true) : exec (.eqClip n) s = .next (s.keep (s.eqClip n)) :=
  s.act_running _ h

variable {n : Nat}

/-- The equaliser of an input that is not sampled does not run (R181). -/
theorem State.eqClip_unsampled (hin : sampledIn s.inp.route n = false) : s.eqClip n = s :=
  if_neg (Bool.eq_false_iff.mp hin)

/-- The count does not touch CLIP, which decides whether the event arises. -/
theorem State.flag_clip_bump :
    (s.bump (R.EQ_CLIP_COUNT n)).flag (F.EQ_STAT.CLIP n) = s.flag (F.EQ_STAT.CLIP n) :=
  s.flag_setReg_ne _ _ (by simp only [R.EQ_STAT, R.EQ_CLIP_COUNT]; omega)

section Sampled

variable (hin : sampledIn s.inp.route n = true)
include hin

theorem State.eqClip_sampled :
    s.eqClip n = (s.bump (R.EQ_CLIP_COUNT n)).raiseOnce (F.EQ_STAT.CLIP n) 118 n routePF := if_pos hin

theorem State.eqClip_first (hc : s.flag (F.EQ_STAT.CLIP n) = false) :
    s.eqClip n = ((s.bump (R.EQ_CLIP_COUNT n)).setFlag (F.EQ_STAT.CLIP n) true).raisePF 118 n := by
  rw [State.eqClip_sampled hin, State.raiseOnce, State.flag_clip_bump, if_neg (Bool.eq_false_iff.mp hc), State.raisePF]

theorem State.eqClip_again (hc : s.flag (F.EQ_STAT.CLIP n) = true) : s.eqClip n = s.bump (R.EQ_CLIP_COUNT n) := by
  rw [State.eqClip_sampled hin, State.raiseOnce, State.flag_clip_bump, if_pos hc]

theorem State.flag_eqClip : (s.eqClip n).flag (F.EQ_STAT.CLIP n) = true := by
  rw [State.eqClip_sampled hin]
  exact State.flag_raiseOnce _ _ _ _ _ (by simp [Fld.fits]) rfl (by simp only [R.EQ_STAT, R.EVT_SEEN]; omega)
    (by simp only [R.EQ_STAT, R.EVT_QLOST]; omega)

/-- Besides CLIP and the registers of E118, a saturated sum changes what its count changes. -/
theorem State.reg_eqClip {o : Nat} (hstat : o ≠ R.EQ_STAT n) (hseen : o ≠ R.EVT_SEEN (118 / 32)) (hlost : o ≠ R.EVT_QLOST) :
    (s.eqClip n).reg o = (s.bump (R.EQ_CLIP_COUNT n)).reg o := by
  rw [State.eqClip_sampled hin, State.reg_raiseOnce _ _ _ _ _ hstat hseen hlost]

theorem State.reg_eqClip_count : (s.eqClip n).reg (R.EQ_CLIP_COUNT n) = s.reg (R.EQ_CLIP_COUNT n) + 1 := by
  have hstat : R.EQ_CLIP_COUNT n ≠ R.EQ_STAT n := by simp only [R.EQ_CLIP_COUNT, R.EQ_STAT]; omega
  have hseen : R.EQ_CLIP_COUNT n ≠ R.EVT_SEEN (118 / 32) := by simp only [R.EQ_CLIP_COUNT, R.EVT_SEEN]; omega
  have hlost : R.EQ_CLIP_COUNT n ≠ R.EVT_QLOST := by simp only [R.EQ_CLIP_COUNT, R.EVT_QLOST]; omega
  rw [State.reg_eqClip hin hstat hseen hlost, State.reg_bump_self]

theorem State.regsBut_eqClip : s.regsBut (s.eqClip n) (R.EQ_STAT n :: R.EQ_CLIP_COUNT n :: evtRegs 118) := by
  intro o ho
  simp only [evtRegs, List.mem_cons, List.not_mem_nil, or_false, not_or] at ho
  obtain ⟨hstat, hcount, hseen, hlost⟩ := ho
  rw [State.reg_eqClip hin hstat hseen hlost, State.reg_bump_ne s hcount]

end Sampled

end Lemmas

/-- Settles O23: whether the input is sampled, and whether CLIP stands, decide what a saturated sum does. -/
theorem saturatedSum : Obligations.SaturatedSum := by
  unfold Obligations.SaturatedSum
  refine ⟨?exec, ?shows⟩
  case exec =>
    intro s n hs
    rw [exec_eqClip n hs]
    refine ⟨?first, ?again, ?unsampled⟩
    case first => exact fun hin hc => by rw [State.eqClip_first hin hc]
    case again => exact fun hin hc => by rw [State.eqClip_again hin hc]
    case unsampled => exact fun hin => by rw [State.eqClip_unsampled hin]
  case shows =>
    intro s n hin
    refine ⟨State.flag_eqClip hin, State.reg_eqClip_count hin, State.regsBut_eqClip hin, ?cnv, ?mem, ?acq⟩
    case cnv => rw [State.eqClip_sampled hin, State.raiseOnce_cnv, State.bump_cnv]
    case mem => rw [State.eqClip_sampled hin, State.raiseOnce_mem, State.bump_mem]
    case acq => rw [State.eqClip_sampled hin, State.raiseOnce_acq, State.bump_acq]

end Sys2Proof.Machine
end

section
/-!
PROOFS. Coefficient banks, swap requests and fades of the equaliser (R185 to R189).
-/
namespace Sys2Proof.Machine

section Lemmas

variable {s u : State}

theorem exec_eqCoeffWrite {n : Fin 4} {k : Fin 2} {t : Fin 128} (v : Word) (h : s.runs = true)
    (hr : s.reachable (R.EQ_COEFF (2 * n.val + k.val) t) = true) :
    exec (.eqCoeffWrite n k t v) s = .next (s.keep (s.coeffWrite n k t v)) :=
  (s.act_running _ h).trans (by rw [s.atReg_reachable _ hr])

theorem exec_eqSwap_request {n : Fin 4} {v : Word} (h : s.runs = true) (hr : s.reachable (R.EQ_SWAP n) = true)
    (hq : getBits v 31 1 = 1) : exec (.eqSwap n v) s = .next (s.keep (s.eqRequest n (getBits v 0 1))) :=
  (s.act_running _ h).trans (by rw [s.atReg_reachable _ hr, State.eqSwap, if_pos hq])

/-- Without REQ a write has no effect, whether or not its block can be reached. -/
theorem exec_eqSwap_idle {n : Fin 4} {v : Word} (h : s.runs = true) (hq : getBits v 31 1 = 0) :
    exec (.eqSwap n v) s = .next (s.keep s) := by
  have hidle : s.eqSwap n v = s := if_neg (by rw [hq]; decide)
  exact (s.act_running _ h).trans (by rw [State.atReg, hidle, ite_self])

theorem exec_eqFadeEnd (n : Fin 4) (h : s.runs = true) : exec (.eqFadeEnd n) s = .next (s.keep (s.settleFade n)) :=
  s.act_running _ h

variable {n k : Nat}

section CoeffWrite

variable {t : Nat} {v : Word} (hu : s.settleFade n = u)
include hu

theorem State.coeffWrite_stores (hl : u.bankLive n k = false) :
    s.coeffWrite n k t v = u.setFld (coeffFld n k t) (getBits v 0 18) := by
  subst hu
  exact if_neg (Bool.eq_false_iff.mp hl)

theorem State.coeffWrite_discarded (hl : u.bankLive n k = true) :
    s.coeffWrite n k t v = (u.setFlag (F.EQ_STAT.WR_DISCARD n) true).raisePF 117 (n + 16 * k) := by
  subst hu
  exact if_pos hl

end CoeffWrite

section Request

variable (hu : s.settleFade n = u)
include hu

/-- A request while a fade runs replaces the queue, or empties it where it names the fade's target (Table 7.3). -/
theorem State.eqRequest_fading (hf : u.flag (F.EQ_STAT.FADING n) = true) :
    s.eqRequest n k = if u.fld (F.EQ_STAT.FADE_TARGET n) = k then u.eqQueue n none else u.eqQueue n (some k) := by
  subst hu
  exact if_pos hf

variable (hf : u.flag (F.EQ_STAT.FADING n) = false)
include hf

/-- A request for the active bank with no fade running only withdraws one that waits (Table 7.3, R189). -/
theorem State.eqRequest_active (ha : u.fld (F.EQ_STAT.ACTIVE n) = k) :
    s.eqRequest n k = if u.eqWaits then u.eqQueue n none else u := by
  subst hu
  exact (if_neg (Bool.eq_false_iff.mp hf)).trans (if_pos ha)

/-- A request for the other bank with no fade running acts at the next boundary, or waits (Table 7.3, R189). -/
theorem State.eqRequest_other (ha : u.fld (F.EQ_STAT.ACTIVE n) ≠ k) :
    s.eqRequest n k = if u.eqWaits then u.eqQueue n (some k) else u.setDue n true := by
  subst hu
  exact (if_neg (Bool.eq_false_iff.mp hf)).trans (if_neg ha)

end Request

section Boundary

/-- Requests wait, or a fade runs (R188, R189). -/
theorem State.eqBegin_held (h : s.eqWaits = true ∨ s.flag (F.EQ_STAT.FADING n) = true) : s.eqBegin n = s :=
  if_pos (Bool.or_eq_true_iff.mpr h)

theorem State.eqBegin_unasked (h : s.eqAsked n = none) : s.eqBegin n = s := by
  rw [State.eqBegin, h, ite_self]

theorem State.eqBegin_asked (hw : s.eqWaits = false) (hf : s.flag (F.EQ_STAT.FADING n) = false)
    (ha : s.eqAsked n = some k) :
    s.eqBegin n =
      if k = s.fld (F.EQ_STAT.ACTIVE n) then (s.setDue n false).eqQueue n none
      else ((s.setDue n false).eqQueue n none).fadeStart n := by
  simp only [State.eqBegin, hw, hf, ha, Bool.or_self, Bool.false_eq_true, if_false]

end Boundary

section Fade

theorem State.fades_setFades_self (n : Nat) (l : List Fade) : (s.setFades n l).fades n = l :=
  SMap.get_set_self (fun _ => []) s.dec.fades n l

/-- A fade starts from the bank that is active, with the law and length of EQ_CTLn (R187). -/
theorem State.fades_fadeStart :
    (s.fadeStart n).fades n = ⟨s.frameNow false,
      fadeLength (s.fld (F.EQ_CTL.FADE_LAW n)) (s.fld (F.EQ_CTL.FADE_EXP n)), s.fld (F.EQ_CTL.FADE_LAW n),
      (List.range 128).map (fun t => s.sfld (coeffFld n (s.fld (F.EQ_STAT.ACTIVE n)) t)), none⟩ :: s.fades n :=
  State.fades_setFades_self n _

/-- The first index of the fade is the last that a fade's start writes. -/
theorem State.reg_fadeStart {o : Nat} (hlo : o ≠ R.EQ_FADE_IDX_LO n) (hhi : o ≠ R.EQ_FADE_IDX_LO n + 4) :
    (s.fadeStart n).reg o = ((s.setFlag (F.EQ_STAT.FADING n) true).setFld (F.EQ_STAT.FADE_TARGET n)
      (1 - s.fld (F.EQ_STAT.ACTIVE n))).reg o :=
  State.reg_setReg64_ne _ _ hlo hhi

theorem State.flag_fadeStart : (s.fadeStart n).flag (F.EQ_STAT.FADING n) = true := by
  have hlo : R.EQ_STAT n ≠ R.EQ_FADE_IDX_LO n := by simp only [R.EQ_STAT, R.EQ_FADE_IDX_LO]; omega
  have hhi : R.EQ_STAT n ≠ R.EQ_FADE_IDX_LO n + 4 := by simp only [R.EQ_STAT, R.EQ_FADE_IDX_LO]; omega
  rw [State.flag_congr (State.reg_fadeStart hlo hhi), State.flag_setFld_ne _ _ _ _ (by simp [Fld.apart]),
    State.flag_setFlag_own _ _ (by simp) rfl]

theorem State.reg64_fadeStart : (s.fadeStart n).reg64 (R.EQ_FADE_IDX_LO n) = s.time.idx % 2 ^ 64 :=
  State.reg64_setReg64_self _ _ _

theorem State.regsBut_fadeStart :
    s.regsBut (s.fadeStart n) [R.EQ_STAT n, R.EQ_FADE_IDX_LO n, R.EQ_FADE_IDX_LO n + 4] := by
  intro o ho
  simp only [List.mem_cons, List.not_mem_nil, or_false, not_or] at ho
  obtain ⟨hstat, hlo, hhi⟩ := ho
  rw [State.reg_fadeStart hlo hhi, State.reg_setFld_ne _ _ hstat, State.reg_setFlag_ne _ _ hstat]

/-- A fade whose end has come makes its target active and raises E115 (R187). -/
theorem State.settleFade_ends (hd : s.fadeDue n = true) (hf : s.flag (F.EQ_STAT.FADING n) = true) :
    s.settleFade n = ((s.setFld (F.EQ_STAT.ACTIVE n) (s.fld (F.EQ_STAT.FADE_TARGET n))).setFlag
      (F.EQ_STAT.FADING n) false).raisePF 115 (n + 16 * s.fld (F.EQ_STAT.FADE_TARGET n)) :=
  (if_pos hd).trans (if_pos hf)

theorem State.settleFade_idle (h : s.fadeDue n = false ∨ s.flag (F.EQ_STAT.FADING n) = false) : s.settleFade n = s := by
  rcases h with hd | hf
  · exact if_neg (Bool.eq_false_iff.mp hd)
  · rw [State.settleFade, State.fadeOver, if_neg (Bool.eq_false_iff.mp hf), ite_self]

end Fade

end Lemmas

end Sys2Proof.Machine
end

section
/-!
PROOFS. Channel delays (R192, R195).
-/
namespace Sys2Proof.Machine

section Lemmas

variable {s u : State}

theorem exec_eqDelayWrite {n : Fin 4} (v : Word) (h : s.runs = true) (hr : s.reachable (R.EQ_DELAY n) = true) :
    exec (.eqDelayWrite n v) s = .next (s.keep (s.delayWrite n v)) :=
  (s.act_running _ h).trans (by rw [s.atReg_reachable _ hr])

variable {n : Nat} {v : Word}

/-- A delay that no armed context captures or observes is set, and a joined module tells its partner (R195, R226). -/
theorem State.delayWrite_sets (hc : s.captured n = false) (ho : s.usedDets.any (fun k => (s.applied k).uses n) = false)
    (hu : ((s.setDelay n (getBits v 0 13) (getBits v 16 8)).markLate n).recomputeDT.showDets = u) :
    s.delayWrite n v = if u.joined then u.tell (.config (.delay u.ownDT)) else u := by
  subst hu
  exact if_neg (by rw [hc, ho]; decide)

theorem State.delayWrite_discarded (h : s.captured n = true ∨ s.usedDets.any (fun k => (s.applied k).uses n) = true) :
    s.delayWrite n v = s.setFlag (F.EQ_STAT.DELAY_DISCARD n) true :=
  if_pos (Bool.or_eq_true_iff.mpr h)

section SetDelay

variable {x y : Nat}

theorem State.fld_setDelay (f : Fld) :
    (s.setDelay n x y).fld f = ((s.setFld (F.EQ_DELAY.INT n) x).setFld (F.EQ_DELAY.FRAC n) y).fld f := by
  rw [State.setDelay, State.fld_with_dec]

/-- The delay before the write is kept for the words before its first index. -/
theorem State.delays_setDelay :
    SMap.get (fun _ => []) (s.setDelay n x y).dec.delays n =
      ⟨s.tapNext n, s.fld (F.EQ_DELAY.INT n), s.fld (F.EQ_DELAY.FRAC n)⟩ :: SMap.get (fun _ => []) s.dec.delays n := by
  simp only [State.setDelay, SMap.get_set_self]

variable (hx : x < 8192) (hy : y < 256)
include hx hy

/-- After a write the delay of a word follows from the write, and from those before it. -/
theorem State.delayOf_setDelay (i : Nat) :
    (s.setDelay n x y).delayOf n i = if s.tapNext n ≤ i then (x, y) else s.delayOf n i := by
  have hint : (s.setDelay n x y).fld (F.EQ_DELAY.INT n) = x := by
    rw [State.fld_setDelay, State.fld_setFld_ne _ _ _ _ (by simp [Fld.apart]),
      State.fld_setFld_self _ _ _ (by simp [Fld.fits])]
    exact Nat.mod_eq_of_lt hx
  have hfrac : (s.setDelay n x y).fld (F.EQ_DELAY.FRAC n) = y := by
    rw [State.fld_setDelay, State.fld_setFld_self _ _ _ (by simp [Fld.fits])]
    exact Nat.mod_eq_of_lt hy
  rw [State.delayOf, hint, hfrac, State.delays_setDelay, delayAt, State.delayOf]

end SetDelay

end Lemmas

end Sys2Proof.Machine
end

section
/-!
PROOFS. Writes to the registers of the decimation paths and restarts of paths (R205 to R207).
-/
namespace Sys2Proof.Machine

section Lemmas

variable {s u : State}

theorem exec_decPathWrite {reg : Fin 20} (v : Word) (h : s.runs = true) (hr : s.reachable (pathOff reg) = true) :
    exec (.decPathWrite reg v) s = .next (s.keep (s.pathWrite reg v)) :=
  (s.act_running _ h).trans (by rw [s.atReg_reachable _ hr])

section Write

variable {reg : Nat} {v : Word}

theorem State.pathWrite_refused (hh : s.pathHeld reg = true) :
    s.pathWrite reg v = s.setFlag
      (if 16 ≤ reg then ⟨R.DEC_STAT, 4 + (reg - 16) / 2, 1⟩ else ⟨R.DEC_STAT, reg / 4, 1⟩) true := if_pos hh

variable (hh : s.pathHeld reg = false)
include hh

theorem State.pathWrite_plain (hp : s.regPath reg = none) : s.pathWrite reg v = s.plainWrite (pathOff reg) v := by
  simp only [State.pathWrite, hh, hp, Bool.false_eq_true, if_false]

theorem State.pathWrite_sets {k : PathKind} {n : Nat} (hp : s.regPath reg = some (k, n)) :
    s.pathWrite reg v = s.pathSet k n (pathOff reg) v := by
  simp only [State.pathWrite, hh, hp, Bool.false_eq_true, if_false]

end Write

/-- The setting after a write acts at a common index of the old and the new grid, with a restart where it differs in what
R207 names. -/
theorem State.pathSet_eq {k : PathKind} {n off i j : Nat} {v : Word} {old new : PathSet}
    (hi : s.tapNext (s.pathInput k n s.time.idx) = i) (hold : s.pathAt k n (i - 1) = old)
    (hu : (s.dropWaiting k n i).plainWrite off v = u) (hnew : u.pathRegs k n = new)
    (hj : gridFrom s.p0 (2 ^ max (old.exp k) (new.exp k)) i = j) :
    s.pathSet k n off v = (
      let t := { u with dec := { u.dec with
        paths := SMap.set (fun _ => []) u.dec.paths (k.no n) (⟨j, old⟩ :: u.pathSteps (k.no n)) } }
      if old.key k == new.key k then t else t.restart true j k n) := by
  subst hi hold hu hnew hj
  rfl

section Restart

variable {k : PathKind} {n i : Nat} {w : Bool}

/-- A path without invalid outputs, or that produces none, takes no note of a restart (Table 7.11, R204). -/
theorem State.restart_unmarked (h : s.invalidOf k n i = 0 ∨ s.pathRuns k n i = false) : s.restart w i k n = s := by
  apply if_pos
  rcases h with h | h <;> simp [h]

/-- The restart of a sliding path that runs is put before the earlier ones and its invalid outputs are counted. -/
theorem State.restart_marked (w : Bool) (h0 : s.invalidOf k n i ≠ 0) (hr : s.pathRuns k n i = true) :
    ∃ earlier less, s.restart w i k n =
      (s.setRestarts (k.no n) (restartAt s.p0 i (2 ^ ((s.pathAt k n i).exp k + s.pathStep k n)) (s.invalidOf k n i) w
        :: earlier)).countInvalid (s.pathInput k n i) (s.invalidOf k n i) less :=
  ⟨_, _, if_neg (by simp [h0, hr])⟩

theorem State.restarts_setRestarts_self (p : Nat) (l : List Restart) : (s.setRestarts p l).restarts p = l :=
  SMap.get_set_self (fun _ => []) s.dec.restarts p l

theorem State.head_restarts_restart (h0 : s.invalidOf k n i ≠ 0) (hr : s.pathRuns k n i = true) :
    ((s.restart w i k n).restarts (k.no n)).head? =
      some (restartAt s.p0 i (2 ^ ((s.pathAt k n i).exp k + s.pathStep k n)) (s.invalidOf k n i) w) := by
  obtain ⟨earlier, less, heq⟩ := State.restart_marked w h0 hr
  have hl : ∀ t : State, (t.countInvalid (s.pathInput k n i) (s.invalidOf k n i) less).restarts (k.no n) =
    t.restarts (k.no n) := fun _ => rfl
  rw [heq, hl, State.restarts_setRestarts_self, List.head?_cons]

theorem State.regsBut_restart (w : Bool) : s.regsBut (s.restart w i k n) [R.DEC_INVALID (s.pathInput k n i)] := by
  intro o ho
  by_cases h : s.invalidOf k n i = 0 ∨ s.pathRuns k n i = false
  · rw [State.restart_unmarked h]
  · rw [not_or, Bool.not_eq_false] at h
    obtain ⟨earlier, less, heq⟩ := State.restart_marked w h.1 h.2
    rw [heq]
    exact State.reg_setReg_ne _ _ (List.ne_of_not_mem_cons ho)

/-- The invalid outputs after a restart are its first ones on the grid. -/
theorem early_restartAt_iff {p0 r count lab : Nat} :
    early (some (restartAt p0 i r count w)) lab = true ↔ lab ≤ gridFrom p0 r i + (count - 1) * r :=
  Nat.blt_eq.to_iff.trans Nat.lt_succ_iff

end Restart

end Lemmas

/-- Settles O22: the bank's state decides a coefficient write, Table 7.3 a request and a boundary, and the contexts and
detectors that use an input or a path decide whether its delay or its setting may change. -/
theorem equaliserAndPaths : Obligations.EqualiserAndPaths := by
  unfold Obligations.EqualiserAndPaths
  refine ⟨?coeffWrite, ?request, ?idleSwap, ?boundary, ?fadeStart, ?fadeEnd, ?delayWrite, ?delayActs, ?pathWrite,
    ?pathSet, ?restart, ?invalid⟩
  case coeffWrite =>
    intro s u n k t v hs hr hu
    rw [exec_eqCoeffWrite v hs hr]
    exact ⟨fun hl => by rw [State.coeffWrite_stores hu hl], fun hl => by rw [State.coeffWrite_discarded hu hl]⟩
  case request =>
    rintro s u n v k hs hr ⟨hq, rfl⟩ hu
    rw [exec_eqSwap_request hs hr hq]
    refine ⟨?target, ?away, ?active, ?withdrawn, ?waits, ?acts⟩
    case target => exact fun hf ht => by rw [State.eqRequest_fading hu hf, if_pos ht]
    case away => exact fun hf ht => by rw [State.eqRequest_fading hu hf, if_neg ht]
    case active => exact fun hf ha hw => by rw [State.eqRequest_active hu hf ha, if_neg (Bool.eq_false_iff.mp hw)]
    case withdrawn => exact fun hf ha hw => by rw [State.eqRequest_active hu hf ha, if_pos hw]
    case waits => exact fun hf ha hw => by rw [State.eqRequest_other hu hf ha, if_pos hw]
    case acts => exact fun hf ha hw => by rw [State.eqRequest_other hu hf ha, if_neg (Bool.eq_false_iff.mp hw)]
  case idleSwap => exact fun s n v hs hq => exec_eqSwap_idle hs hq
  case boundary =>
    intro s n
    refine ⟨State.eqBegin_held, ?starts, ?arrived, State.eqBegin_unasked⟩
    case starts => exact fun k hw hf ha hk => by rw [State.eqBegin_asked hw hf ha, if_neg hk]
    case arrived => exact fun hw hf ha => by rw [State.eqBegin_asked hw hf ha, if_pos rfl]
  case fadeStart =>
    intro s n
    refine ⟨?head, ?tail, State.flag_fadeStart, State.reg64_fadeStart, State.regsBut_fadeStart⟩
    case head => rw [State.fades_fadeStart, List.head?_cons]
    case tail => rw [State.fades_fadeStart, List.tail_cons]
  case fadeEnd => exact fun s n hs => ⟨exec_eqFadeEnd n hs, State.settleFade_ends, State.settleFade_idle⟩
  case delayWrite =>
    intro s u n v hs hr hu
    rw [exec_eqDelayWrite v hs hr]
    exact ⟨fun hc ho => by rw [State.delayWrite_sets hc ho hu], fun h => by rw [State.delayWrite_discarded h]⟩
  case delayActs =>
    rintro s n x y i ⟨hx, hy⟩
    rw [State.delayOf_setDelay hx hy]
    exact ⟨fun hi => if_pos hi, fun hi => if_neg (Nat.not_le.mpr hi)⟩
  case pathWrite =>
    intro s reg v hs hr
    rw [exec_decPathWrite v hs hr]
    refine ⟨?refused, ?plain, ?sets⟩
    case refused => exact fun hh => by rw [State.pathWrite_refused hh]
    case plain => exact fun hh hp => by rw [State.pathWrite_plain hh hp]
    case sets => exact fun k n hh hp => by rw [State.pathWrite_sets hh hp]
  case pathSet =>
    rintro s u k n off i j v old new ⟨hi, hold⟩ ⟨hu, hnew⟩ hj
    exact State.pathSet_eq hi hold hu hnew hj
  case restart =>
    exact fun s k n i w => ⟨State.restart_unmarked, State.head_restarts_restart, State.regsBut_restart w⟩
  case invalid =>
    rintro p0 i r count w ⟨hr, hc⟩
    have hmul : count * r = (count - 1) * r + r := by rw [Nat.sub_one_mul, Nat.sub_add_cancel (Nat.le_mul_of_pos_left r hc)]
    rw [← Bool.not_eq_true, early_restartAt_iff, early_restartAt_iff]
    omega

end Sys2Proof.Machine
end

section
/-!
PROOFS. Sluice ticks, step changes, gaps and SECOND records of streams (R206, R310 to R320).
-/
namespace Sys2Proof.Machine

section Lemmas

variable {s u v : State}

section Commands

variable (n : Fin 4) (h : s.runs = true)
include h

theorem exec_sluiceTick : exec (.sluiceTick n) s = .next (s.keep (s.sluTick n)) := s.act_running _ h

theorem exec_sluiceStepChange : exec (.sluiceStepChange n) s = .next (s.keep (s.stepChange n)) := s.act_running _ h

theorem exec_streamGapOpen : exec (.streamGapOpen n) s = .next (s.keep (s.gapAtFull n)) := s.act_running _ h

theorem exec_secondRecord : exec (.secondRecord n) s = .next (s.keep (s.secondRecord n)) := s.act_running _ h

end Commands

variable {n : Nat}

section Tick

/-- A context that does not run, or that has nothing for the sluice to act on, has no tick (R313, R320). -/
theorem State.sluTick_idle (h : s.armed n = false ∨ (s.ctx n).ending.isSome = true ∨ s.frozen = true ∨
    ((s.ctx n).streaming = false ∧ (s.ctx n).decEn = false)) : s.sluTick n = s := by
  apply if_pos
  rcases h with h | h | h | ⟨h, h'⟩ <;> simp [*]

/-- The context after a tick has noted its fill, the write buffer's occupancy, and whether the pressure has stayed high
(R310, R313). -/
def State.tickNoted (s : State) (n : Nat) : State :=
  s.setCtx n { s.ctx n with
    prevFill := if (s.ctx n).streaming then s.maxFill n else 0, prevOcc := s.occupancy
    maxSaid := (s.ctx n).maxSaid && Nat.ble (s.fld (F.ACQ_AC_SLU_THR.HI n)) (s.pressure n) }

section Running

variable (ha : s.armed n = true) (he : (s.ctx n).ending = none) (hz : s.frozen = false)
  (hd : (s.ctx n).streaming = true ∨ (s.ctx n).decEn = true)
include ha he hz hd

/-- In a gap the sluice takes no decision: the gap closes where it may. Elsewhere Table 12.2 decides (R313, R316, R320). -/
theorem State.sluTick_running (hu : s.tickNoted n = u) (hv : u.setFlag (F.ACQ_AC_SLU_STAT.AT_MAX n) false = v) :
    s.sluTick n =
      if u.gapOpen n then (if v.gapMayClose n then v.gapClose n (v.resumeAt n) else v)
      else if (s.ctx n).streaming || s.flag (F.ACQ_AC_SLU_CTL.EN n) then
        u.sluDecide n (s.pressure n)
          (Nat.blt (s.ctx n).prevFill (if (s.ctx n).streaming then s.maxFill n else 0)
            || Nat.blt (s.ctx n).prevOcc s.occupancy)
      else u := by
  have hruns : (!(s.armed n) || (s.ctx n).ending.isSome || s.frozen || !((s.ctx n).streaming || (s.ctx n).decEn)) =
      false := by
    rw [ha, he, hz, Bool.or_eq_true_iff.mpr hd]; rfl
  subst hu hv
  exact if_neg (Bool.eq_false_iff.mp hruns)

end Running

end Tick

section Decide

variable {p : Nat} {r : Bool}

/-- Low pressure lies at or below LO, and below HI (R313). -/
theorem State.sluLow_iff :
    s.sluLow n p = true ↔ p ≤ s.fld (F.ACQ_AC_SLU_THR.LO n) ∧ p < s.fld (F.ACQ_AC_SLU_THR.HI n) := by
  rw [State.sluLow, Bool.and_eq_true, Nat.ble_eq, Nat.blt_eq]

/-- Row 2 of Table 12.2: rising pressure at HI or above, below the highest step. -/
theorem State.sluDecide_up (hp : s.fld (F.ACQ_AC_SLU_THR.HI n) ≤ p) (hr : r = true)
    (hst : s.step n < (s.stepBounds n (s.ctx n)).2) (hroom : s.stepRoom n = true) (hmay : s.mayStepUp n = true) :
    s.sluDecide n p r = (s.setFlag (F.ACQ_AC_SLU_STAT.AT_MAX n) false).askUp n :=
  if_pos (by rw [Nat.ble_eq.mpr hp, hr, Nat.blt_eq.mpr hst, hroom, hmay]; rfl)

variable (hp : p < s.fld (F.ACQ_AC_SLU_THR.HI n))
include hp

/-- Row 3 of Table 12.2: sixteen low ticks in a row, above the lowest step. -/
theorem State.sluDecide_down (hlow : p ≤ s.fld (F.ACQ_AC_SLU_THR.LO n)) (ht : 16 ≤ (s.ctx n).lowTicks + 1)
    (hst : s.stepLow n < s.step n) (hroom : s.stepRoom n = true) (hmay : s.mayStepDown n = true) :
    s.sluDecide n p r = (s.setFlag (F.ACQ_AC_SLU_STAT.AT_MAX n) false).askDown n := by
  have hhi : Nat.ble (s.fld (F.ACQ_AC_SLU_THR.HI n)) p = false :=
    Bool.eq_false_iff.mpr (mt Nat.le_of_ble_eq_true (Nat.not_le.mpr hp))
  have hl : s.sluLow n p = true := State.sluLow_iff.mpr ⟨hlow, hp⟩
  refine (if_neg (by simp [hhi])).trans (if_pos ?_)
  rw [hl, Nat.ble_eq.mpr ht, Nat.blt_eq.mpr hst, hroom, hmay]
  rfl

/-- Between the thresholds the count of low ticks starts again (Table 12.2). -/
theorem State.sluDecide_between (hlow : s.fld (F.ACQ_AC_SLU_THR.LO n) < p) :
    s.sluDecide n p r =
      (s.setCtx n { s.ctx n with lowTicks := 0 }).setFlag (F.ACQ_AC_SLU_STAT.AT_MAX n) false := by
  have hhi : Nat.ble (s.fld (F.ACQ_AC_SLU_THR.HI n)) p = false :=
    Bool.eq_false_iff.mpr (mt Nat.le_of_ble_eq_true (Nat.not_le.mpr hp))
  have hl : s.sluLow n p = false := by rw [Bool.eq_false_iff, ne_eq, State.sluLow_iff]; omega
  simp only [State.sluDecide, hhi, hl, Bool.false_and, Bool.false_eq_true, if_false]

end Decide

section StepChange

/-- A step change is the oldest one requested; it takes effect on an armed context whose line before it is closed. -/
theorem State.stepChange_waits (h : (s.ctx n).stepReq = [] ∨ s.armed n = false) : s.stepChange n = s := by
  rw [State.stepChange]
  cases hq : (s.ctx n).stepReq with
  | nil => rfl
  | cons q l =>
    have ha : s.armed n = false := h.resolve_left (by rw [hq]; exact List.cons_ne_nil q l)
    exact if_pos (by rw [ha]; rfl)

variable {q : StepReq} {l : List StepReq} (hq : (s.ctx n).stepReq = q :: l)
include hq

theorem State.stepChange_early (hr : s.stepReady n q.pos = false) : s.stepChange n = s := by
  rw [State.stepChange, hq]
  exact if_pos (by rw [hr, Bool.not_false, Bool.or_true])

/-- The change is recorded, counted and shown; a CIC path restarts at its index, and the demand follows (R206, R314,
R352). -/
theorem State.stepChange_acts {old new : Nat} (ha : s.armed n = true) (hr : s.stepReady n q.pos = true)
    (hold : s.step n = old) (hnew : (if q.up then old + 1 else old - 1) = new)
    (hu : ((((s.sluLog n q.pos 0 new old).setFld (F.ACQ_AC_SLU_STAT.STEP n) new).bump (R.ACQ_AC_SLU_CHANGES n)).setCtx n
      { ((s.sluLog n q.pos 0 new old).setFld (F.ACQ_AC_SLU_STAT.STEP n) new).ctx n with
        stepReq := l, rateBit := true, lowTicks := 0, lastStep := some q.pos }) = u)
    (hv : (match u.decPath (s.ctx n) with
      | some (.cic, ins) => u.each ins (fun t m => t.restart false q.pos .cic m)
      | _ => u) = v) :
    s.stepChange n = (v.raise 165 (n + 16 * old + 256 * new) (v.routeCtx n)).demand := by
  subst hold hnew hu hv
  rw [State.stepChange, hq]
  exact if_neg (by rw [ha, hr]; decide)

end StepChange

section Gap

theorem State.gapAtFull_opens (ha : s.armed n = true) (hg : s.gapOpen n = false) (hf : s.streamFull n = true) :
    s.gapAtFull n = s.openGap n (s.ctx n).nextIdx :=
  if_pos (by rw [ha, hg, hf]; rfl)

theorem State.gapAtFull_stays (h : s.armed n = false ∨ s.gapOpen n = true ∨ s.streamFull n = false) :
    s.gapAtFull n = s := by
  apply if_neg
  rcases h with h | h | h <;> simp [h]

/-- A sluice record enters the log and changes no register (R318). -/
theorem State.reg_pushLog_record (dw : List Word) (o : Nat) : (s.pushLog n dw true).reg o = s.reg o := rfl

theorem State.log_pushLog_record (dw : List Word) :
    (s.pushLog n dw true).trg.log = logInsert ⟨n, withLoss (natBit s.trg.loss n) dw⟩ s.trg.log := rfl

/-- The phase resets that the packer has not reached are recorded after the gap has opened (R315, R316). -/
theorem State.openGap_eq {t : State} {i : Nat}
    (ht : (((s.pushLog n (sluiceRecord n i 1 (s.step n) (s.step n) (s.lineCount n)) true).setFlag
      (F.ACQ_AC_SLU_STAT.GAP_OPEN n) true).setFlag (F.ACQ_AC_SLU_STAT.GAP_SEEN n) true).bump (R.ACQ_AC_GAPS n) = t)
    (hu : (t.setCtx n { t.ctx n with gapStart := i, lowTicks := 0, phases := [] }).raise 166 n (t.routeCtx n) = u) :
    s.openGap n i = u.each (s.ctx n).phases (fun t p => t.phaseRecord n p) := by
  subst ht hu
  rfl

variable {dw : List Word} {c : Ctx} {l : List Nat}
  (hu : (((((s.pushLog n dw true).setFlag (F.ACQ_AC_SLU_STAT.GAP_OPEN n) true).setFlag
    (F.ACQ_AC_SLU_STAT.GAP_SEEN n) true).bump (R.ACQ_AC_GAPS n)).setCtx n c).raise 166 n l = u)
include hu

/-- Besides the registers of E166, an opening gap changes its two bits and its count. -/
theorem State.reg_gapOpened {o : Nat} (hseen : o ≠ R.EVT_SEEN (166 / 32)) (hlost : o ≠ R.EVT_QLOST) :
    u.reg o = ((((s.pushLog n dw true).setFlag (F.ACQ_AC_SLU_STAT.GAP_OPEN n) true).setFlag
      (F.ACQ_AC_SLU_STAT.GAP_SEEN n) true).bump (R.ACQ_AC_GAPS n)).reg o := by
  rw [← hu, State.reg_raise _ _ _ _ hseen hlost, State.setCtx_reg]

/-- The status word shows the two bits of the gap. -/
theorem State.reg_gapOpened_stat :
    u.reg (R.ACQ_AC_SLU_STAT n) = (((s.pushLog n dw true).setFlag (F.ACQ_AC_SLU_STAT.GAP_OPEN n) true).setFlag
      (F.ACQ_AC_SLU_STAT.GAP_SEEN n) true).reg (R.ACQ_AC_SLU_STAT n) := by
  rw [State.reg_gapOpened hu (by simp only [R.ACQ_AC_SLU_STAT, R.EVT_SEEN]; omega)
    (by simp only [R.ACQ_AC_SLU_STAT, R.EVT_QLOST]; omega),
    State.reg_bump_ne _ (by simp only [R.ACQ_AC_SLU_STAT, R.ACQ_AC_GAPS]; omega)]

theorem State.flag_gapOpened : u.flag (F.ACQ_AC_SLU_STAT.GAP_OPEN n) = true := by
  rw [State.flag_congr (State.reg_gapOpened_stat hu), State.flag_setFlag_apart _ _ (by simp),
    State.flag_setFlag_own _ _ (by simp) rfl]

theorem State.flag_gapOpened_seen : u.flag (F.ACQ_AC_SLU_STAT.GAP_SEEN n) = true := by
  rw [State.flag_congr (State.reg_gapOpened_stat hu), State.flag_setFlag_own _ _ (by simp) rfl]

theorem State.reg_gapOpened_count : u.reg (R.ACQ_AC_GAPS n) = s.reg (R.ACQ_AC_GAPS n) + 1 := by
  have hstat : R.ACQ_AC_GAPS n ≠ R.ACQ_AC_SLU_STAT n := by simp only [R.ACQ_AC_GAPS, R.ACQ_AC_SLU_STAT]; omega
  rw [State.reg_gapOpened hu (by simp only [R.ACQ_AC_GAPS, R.EVT_SEEN]; omega)
    (by simp only [R.ACQ_AC_GAPS, R.EVT_QLOST]; omega), State.reg_bump_self, State.reg_setFlag_ne _ _ hstat,
    State.reg_setFlag_ne _ _ hstat, State.reg_pushLog_record]

theorem State.seen_gapOpened : u.seen 166 = true := by rw [← hu, State.seen_raise]

theorem State.log_gapOpened : u.trg.log = logInsert ⟨n, withLoss (natBit s.trg.loss n) dw⟩ s.trg.log := by
  rw [← hu, State.raise_trg, State.setCtx_trg, State.bump_trg, State.setFlag_trg, State.setFlag_trg,
    State.log_pushLog_record]

theorem State.regsBut_gapOpened : s.regsBut u (R.ACQ_AC_SLU_STAT n :: R.ACQ_AC_GAPS n :: evtRegs 166) := by
  intro o ho
  simp only [evtRegs, List.mem_cons, List.not_mem_nil, or_false, not_or] at ho
  obtain ⟨hstat, hcount, hseen, hlost⟩ := ho
  rw [State.reg_gapOpened hu hseen hlost, State.reg_bump_ne _ hcount, State.reg_setFlag_ne _ _ hstat,
    State.reg_setFlag_ne _ _ hstat, State.reg_pushLog_record]

end Gap

section Second

/-- A running stream with SEC_REC and 64 free entries records a second that passes in the core cycle (R317 to R319). -/
theorem State.secondRecord_due {i sec : Nat} (ha : s.armed n = true) (hst : (s.ctx n).streaming = true)
    (hen : s.flag (F.ACQ_AC_SLU_CTL.SEC_REC n) = true) (hz : s.frozen = false) (hl : 64 ≤ s.logFree n)
    (hs : s.secondStrobe = some (i, sec)) :
    s.secondRecord n = s.pushLog n (sluiceRecord n i 4 (s.step n) (s.step n) sec) true := by
  have hroom : Nat.blt (s.logFree n) 64 = false := by rw [Bool.eq_false_iff, ne_eq, Nat.blt_eq]; omega
  simp only [State.secondRecord, ha, hst, hen, hz, hroom, hs, Bool.not_true, Bool.or_self, Bool.false_eq_true, if_false]

theorem State.secondRecord_none (h : s.armed n = false ∨ (s.ctx n).streaming = false ∨
    s.flag (F.ACQ_AC_SLU_CTL.SEC_REC n) = false ∨ s.frozen = true ∨ s.logFree n < 64 ∨ s.secondStrobe = none) :
    s.secondRecord n = s := by
  by_cases hs : s.secondStrobe = none
  · simp only [State.secondRecord, hs, ite_self]
  · exact if_pos (by simpa [hs, or_assoc] using h)

end Second

end Lemmas

/-- Settles O37: whether the context runs and whether a gap is open decide a tick, the oldest request a step change, a full
stream a gap, and the log's room and the strobe of a whole second a SECOND record. -/
theorem sluiceAndGaps : Obligations.SluiceAndGaps := by
  unfold Obligations.SluiceAndGaps
  refine ⟨?tick, ?idleTick, ?decide, ?step, ?noStep, ?gap, ?second, ?openGap⟩
  case tick =>
    rintro s u v n hs ⟨ha, he, hz⟩ hd hu hv
    rw [exec_sluiceTick n hs, State.sluTick_running ha he hz hd hu hv]
    refine ⟨?closes, ?stays, ?decides, ?notes⟩
    case closes => exact fun hg hc => by rw [if_pos hg, if_pos hc]
    case stays => exact fun hg hc => by rw [if_pos hg, if_neg (Bool.eq_false_iff.mp hc)]
    case decides => exact fun hg h => by rw [if_neg (Bool.eq_false_iff.mp hg), if_pos (Bool.or_eq_true_iff.mpr h)]
    case notes =>
      intro hg hst hen
      rw [if_neg (Bool.eq_false_iff.mp hg), if_neg (by rw [hst, hen]; decide)]
  case idleTick => exact fun s n hs h => by rw [exec_sluiceTick n hs, State.sluTick_idle h]
  case decide =>
    exact fun s n p r => ⟨State.sluDecide_up, fun hlow hp => State.sluDecide_down hp hlow,
      fun hlow hp => State.sluDecide_between hp hlow⟩
  case step =>
    rintro s u v n q l old new hs ⟨hq, ha, hr⟩ ⟨hold, hnew⟩ hu hv
    rw [exec_sluiceStepChange n hs, State.stepChange_acts hq ha hr hold hnew hu hv]
  case noStep =>
    intro s n hs
    rw [exec_sluiceStepChange n hs]
    exact ⟨fun h => by rw [State.stepChange_waits h], fun q l hq hr => by rw [State.stepChange_early hq hr]⟩
  case gap =>
    intro s n hs
    rw [exec_streamGapOpen n hs]
    exact ⟨fun ha hg hf => by rw [State.gapAtFull_opens ha hg hf], fun h => by rw [State.gapAtFull_stays h]⟩
  case second =>
    intro s n hs
    rw [exec_secondRecord n hs]
    exact ⟨fun i sec ha hst hen hz hl hstrobe => by rw [State.secondRecord_due ha hst hen hz hl hstrobe],
      fun h => by rw [State.secondRecord_none h]⟩
  case openGap =>
    rintro s t u n i rfl hu
    exact ⟨State.openGap_eq rfl hu, State.flag_gapOpened hu, State.flag_gapOpened_seen hu, State.seen_gapOpened hu,
      State.reg_gapOpened_count hu, State.log_gapOpened hu, State.regsBut_gapOpened hu⟩

end Sys2Proof.Machine
end

section
/-!
PROOFS. A comparator at a word: its crossings and its readinesses (R216, R217).
-/
namespace Sys2Proof.Machine

section Lemmas

variable {v h x : Int} {c : Cmp}

/-- An invalid word is no crossing and takes both readinesses away (R217). -/
theorem cmpStep_invalid (hx : x = -32768) : cmpStep v h c x = ({ c with rise := false, fall := false }, []) := if_pos hx

/-- The first word after a restart sets q, and only what that word itself makes ready is ready (R217). -/
theorem cmpStep_first (hx : x ≠ -32768) (hr : c.restart = true) :
    cmpStep v h c x = (⟨decide (v ≤ x), decide (x < v - h), decide (v + h < x), false⟩, []) := by
  simp only [cmpStep, if_neg hx, hr, Bool.not_true, Bool.false_and, Bool.false_or, if_true]

/-- A word beyond the band of hysteresis lies on that side of the level: it makes ready, but is not itself the crossing that
it makes ready for, so that a crossing needs a readiness from before and leaves none (R216). -/
theorem cmpStep_running (hh : 0 ≤ h) (hx : x ≠ -32768) (hr : c.restart = false) :
    cmpStep v h c x =
      (⟨if c.fall && decide (x ≤ v) then false else if c.rise && decide (v ≤ x) then true else c.q,
        decide (x < v - h) || (c.rise && decide (x < v)), decide (v + h < x) || (c.fall && decide (v < x)), false⟩,
        (if c.rise && decide (v ≤ x) then [true] else []) ++ (if c.fall && decide (x ≤ v) then [false] else [])) := by
  have hup : ((c.rise || decide (x < v - h)) && decide (v ≤ x)) = (c.rise && decide (v ≤ x)) := by
    rw [Bool.eq_iff_iff]; simp; omega
  have hdown : ((c.fall || decide (v + h < x)) && decide (x ≤ v)) = (c.fall && decide (x ≤ v)) := by
    rw [Bool.eq_iff_iff]; simp; omega
  have hrise : ((c.rise || decide (x < v - h)) && !(c.rise && decide (v ≤ x))) =
      (decide (x < v - h) || (c.rise && decide (x < v))) := by
    rw [Bool.eq_iff_iff]; cases c.rise <;> simp; omega
  have hfall : ((c.fall || decide (v + h < x)) && !(c.fall && decide (x ≤ v))) =
      (decide (v + h < x) || (c.fall && decide (v < x))) := by
    rw [Bool.eq_iff_iff]; cases c.fall <;> simp; omega
  simp only [cmpStep, if_neg hx, hr, Bool.not_false, Bool.true_and, Bool.false_eq_true, if_false, hup, hdown, hrise, hfall]

end Lemmas

/-- Settles O25: an invalid word, the first word after a restart and any later word each have one equation; the crossings and
readinesses are read off the last. -/
theorem comparatorRule : Obligations.ComparatorRule := by
  unfold Obligations.ComparatorRule
  intro v h x c hh
  refine ⟨cmpStep_invalid, cmpStep_first, fun hx hr => ?running⟩
  rw [cmpStep_running hh hx hr]
  refine ⟨?rising, ?falling, ?rise, ?fall, rfl⟩
  case rising => by_cases h : c.rise = true ∧ v ≤ x <;> simp [h]
  case falling => by_cases h : c.fall = true ∧ x ≤ v <;> simp [h]
  case rise => simp
  case fall => simp

end Sys2Proof.Machine
end

section
/-!
PROOFS. The detectors' core cycle, APPLY of a detector, and writes of pattern comparators and sequencer registers (R223,
R232 to R234, R245).
-/
namespace Sys2Proof.Machine

section Lemmas

variable {s : State}

section Commands

variable (h : s.runs = true)
include h

theorem exec_detectorFiring (first : BitVec 64) (obs : List (List (BitVec 16))) :
    exec (.detectorFiring first obs) s = .next (s.keep (s.detectCycle first.toNat obs)) := s.act_running _ h

theorem exec_trgApply (k : Fin 16) (hr : s.reachable (R.TRG_TD_APPLY k) = true) :
    exec (.trgApply k) s = .next (s.keep (s.trgApply k)) :=
  (s.act_running _ h).trans (by rw [s.atReg_reachable _ hr])

theorem exec_trgPthWrite (n : Fin 4) (v : Word) (hr : s.reachable (R.TRG_PTH n) = true) :
    exec (.trgPthWrite n v) s = .next (s.keep (s.pthWrite n v)) :=
  (s.act_running _ h).trans (by rw [s.atReg_reachable _ hr])

theorem exec_trgSeqRegWrite (n : Fin 4) (r : Fin 23) (v : Word) (hr : s.reachable (seqReg n r) = true) :
    exec (.trgSeqRegWrite n r v) s = .next (s.keep (s.seqWrite n r v)) :=
  (s.act_running _ h).trans (by rw [s.atReg_reachable _ hr])

end Commands

section Cycle

variable {first : Nat} {obs : List (List (BitVec 16))}

theorem State.detectCycle_samples (hz : s.frozen = false) :
    s.detectCycle first obs = ((s.purgeFires first).detectAll first obs).showDets := if_neg (Bool.eq_false_iff.mp hz)

theorem State.detectCycle_frozen (hz : s.frozen = true) : s.detectCycle first obs = s := if_pos hz

end Cycle

section Apply

variable {k : Nat}

/-- A follower takes its detectors from the leader (R456). -/
theorem State.trgApply_follower (hf : s.isFollower = true) :
    s.trgApply k = s.setFlag (F.TRG_TD_STAT.APPLY_DISCARD k) true := if_pos hf

/-- A detector that an armed context uses keeps its fixed fields (R234). -/
theorem State.trgApply_fixed (hf : s.isFollower = false) (hu : s.detUsed k = true)
    (hc : cfgFixed (dwAt (s.detStaged k) 0) ≠ cfgFixed ((s.applied k).w 0)) :
    s.trgApply k = (s.setFlag (F.TRG_TD_STAT.APPLY_DISCARD k) true).raisePF 130 k := by
  simp only [State.trgApply, hf, hu, bne_iff_ne.mpr hc, Bool.and_self, Bool.false_eq_true, if_false, if_true]

/-- Any other APPLY takes the staged words (R232, R233). -/
theorem State.trgApply_takes {u v : State} {d : DetSt} (hf : s.isFollower = false)
    (hc : s.detUsed k = false ∨ cfgFixed (dwAt (s.detStaged k) 0) = cfgFixed ((s.applied k).w 0))
    (hd : { cfg := s.detStaged k, fifth := Nat.ble 4 ((List.range 16).filter (fun j => j != k && (s.applied j).en &&
      (s.applied j).remote)).length } = d)
    (hu : ((s.detFrom k (s.applyIdx d) d).setReg64 (R.TRG_TD_APPLY_IDX_LO k) (s.applyIdx d)).showDets = u)
    (hv : (if u.isLeader && d.remote && u.detReason k == 0 then u.tell (.config (.detector k (s.detStaged k))) else u) = v) :
    s.trgApply k = if d.en && u.detReason k != 0 then v.raisePF 128 (k + 16 * u.detReason k) else v := by
  have hfree : (s.detUsed k && cfgFixed (dwAt (s.detStaged k) 0) != cfgFixed ((s.applied k).w 0)) = false := by
    rcases hc with hc | hc
    · rw [hc, Bool.false_and]
    · rw [hc, bne_self_eq_false, Bool.and_false]
  simp only [State.trgApply, hf, hfree, hd, hu, hv, Bool.false_eq_true, if_false]

end Apply

section Writes

variable {n r : Nat} {v : Word}

/-- The write restarts its own comparator, and reaches nothing else of the detectors (R223). -/
theorem State.pthWrite_eq :
    s.pthWrite n v = { s.setReg (R.TRG_PTH n) v with
      trg := { s.trg with pth := SMap.set (fun _ => {}) s.trg.pth n {} } } := rfl

theorem State.seqWrite_stores (ha : s.armed n = false) : s.seqWrite n r v = (s.plainWrite (seqReg n r) v).showDets :=
  if_neg (Bool.eq_false_iff.mp ha)

theorem State.seqWrite_discarded (ha : s.armed n = true) :
    s.seqWrite n r v = (s.setFlag (F.TRG_AC_STAT.WR_DISCARD n) true).raisePF 136 n := if_pos ha

end Writes

end Lemmas

/-- Settles O26: whether SAMPLE runs decides the core cycle, the role and the fixed fields an APPLY, whether the context is
armed a sequencer write; a comparator's write touches nothing else of the detectors. -/
theorem detectorWords : Obligations.DetectorWords := by
  unfold Obligations.DetectorWords
  refine ⟨?cycle, ?takes, ?discarded, ?pth, ?seq⟩
  case cycle =>
    intro s first obs hs
    rw [exec_detectorFiring hs]
    exact ⟨fun hz => by rw [State.detectCycle_samples hz], fun hz => by rw [State.detectCycle_frozen hz]⟩
  case takes =>
    rintro s u v k d hs ⟨hr, hf⟩ hc hd hu hv
    rw [exec_trgApply hs k hr, State.trgApply_takes hf hc hd hu hv]
  case discarded =>
    intro s k hs hr
    rw [exec_trgApply hs k hr]
    exact ⟨fun hf => by rw [State.trgApply_follower hf], fun hf hu hc => by rw [State.trgApply_fixed hf hu hc]⟩
  case pth =>
    rintro s n v u hs hr rfl
    rw [exec_trgPthWrite hs n v hr, State.pthWrite_eq]
  case seq =>
    intro s n r v hs hr
    rw [exec_trgSeqRegWrite hs n r v hr]
    exact ⟨fun ha => by rw [State.seqWrite_stores ha], fun ha => by rw [State.seqWrite_discarded ha]⟩

end Sys2Proof.Machine
end

section
/-!
PROOFS. Edges at digital lines, pulses of the trigger outputs, and reactive events (R212, R214, R249 to R251, R425, R428).
-/
namespace Sys2Proof.Machine

section Lemmas

variable {s u : State}

section Commands

variable (h : s.runs = true)
include h

theorem exec_triggerLineEdge (l : Fin 13) (rising : Bool) (ago : Nat) :
    exec (.triggerLineEdge l rising ago) s = .next (s.keep (s.triggerEdge l rising ago)) := s.act_running _ h

theorem exec_triggerOutputPulse (l : Fin 13) :
    exec (.triggerOutputPulse l) s = .next (s.keep (s.pulseRise l)) := s.act_running _ h

theorem exec_triggerPulseEnd (l : Fin 13) : exec (.triggerPulseEnd l) s = .next (s.keep (s.pulseEnd l)) := s.act_running _ h

theorem exec_reactiveEventPresent (l : Fin 4) (p : BitVec 64) :
    exec (.reactiveEventPresent l p) s = .next (s.keep (s.reactPresent l p.toNat)) := s.act_running _ h

end Commands

section Edge

variable {l ago : Nat} {rising : Bool}

/-- An edge that is not kept is discarded while SAMPLE is stopped, or lost behind one of its kind (R212, R214). -/
theorem State.lineEdge_dropped (he : s.lineEdge l rising ago = (u, false)) :
    u = s ∨ u = (s.bump R.TRG_XLOST).raiseOnce (F.TRG_XSTAT.LOST.bit l) 129 l routePF := by
  unfold State.lineEdge at he
  extract_lets up seen at he
  split_ifs at he with hz hseen
  · exact .inl (congrArg Prod.fst he).symm
  · exact .inr (congrArg Prod.fst he).symm
  · have hkept : true = false := congrArg Prod.snd he
    cases hkept

theorem State.triggerEdge_dropped (he : s.lineEdge l rising ago = (u, false)) : s.triggerEdge l rising ago = u := by
  simp only [State.triggerEdge, he, Bool.false_eq_true, if_false]

/-- A kept edge is stamped when rising, and then passed to the outputs that name its line (R425, R428). -/
theorem State.triggerEdge_kept {w : State} {t : Nat} (he : s.lineEdge l rising ago = (u, true))
    (ht : (((s.now : Int) + fsTime (-((ago * 8000 : Nat) : Rat))) % (2 ^ 80 : Nat)).toNat = t)
    (hw : (if rising then u.setTime (R.PEER_STAMP_0 l) t else u) = w) :
    s.triggerEdge l rising ago =
      w.each ((List.range 13).filter (fun o => Nat.ble 4 o && w.passes o l)) (fun w o => w.passEdge o rising t) := by
  simp only [State.triggerEdge, he, ht, hw, if_true]

end Edge

section Pulse

variable {l : Nat}

/-- Before its instant a pulse does nothing (R249). -/
theorem State.pulseRise_early
    (hp : s.trg.pulses.find? (fun p => p.line == l && p.phase == .due && s.passed p.ripe 0) = none) : s.pulseRise l = s := by
  simp only [State.pulseRise, hp]

section Due

variable {p : Pulse}
  (hp : s.trg.pulses.find? (fun p => p.line == l && p.phase == .due && s.passed p.ripe 0) = some p)
  (hu : { s with trg := { s.trg with pulses := s.trg.pulses.erase p } } = u)
include hp hu

/-- SAMPLE stopped, or an inactive CT or STAR output, lets the pulse fall away (R250, R425, log entry 97). -/
theorem State.pulseRise_falls (h : s.frozen = true ∨ (4 ≤ l ∧ s.outDriven l = false)) : s.pulseRise l = u := by
  have hc : (s.frozen || (Nat.ble 4 l && !(s.outDriven l))) = true := by simpa using h
  simp only [State.pulseRise, hp, hc, hu, if_true]

/-- At an output that can carry it, the pulse before it decides whether it begins or is merged (R250). -/
theorem State.pulseRise_reaches (hz : s.frozen = false) (ho : l < 4 ∨ s.outDriven l = true) :
    s.pulseRise l =
      if u.trg.pulses.any (fun q => q.line == l && q.phase != .due && Nat.blt p.start (q.stop + nsTime 2)) then
        u.pulseMerged l
      else { u with trg := { u.trg with pulses := u.trg.pulses.filter (fun q => q.line != l || q.phase == .due) ++
        [Pulse.mk l p.start (p.start + nsTime (s.outWidth l)) .active (!(s.outInv l)) p.ripe] } } := by
  have hc : (s.frozen || (Nat.ble 4 l && !(s.outDriven l))) = false := by
    rw [Bool.eq_false_iff]
    rcases ho with ho | ho <;> simp [hz, ho]
  subst hu
  simp only [State.pulseRise, hp, hc, Bool.false_eq_true, if_false]

end Due

end Pulse

section React

variable {l k : Nat}

theorem State.reactPresent_due {x : Reactive}
    (hx : s.trg.reacts.find? (fun x => x.line == l && s.passed x.ripe 0) = some x) :
    s.reactPresent l k =
      (({ s with trg := { s.trg with reacts := s.trg.reacts.erase x } }).stimReact l k).patReact l := by
  simp only [State.reactPresent, hx]

theorem State.reactPresent_early (hx : s.trg.reacts.find? (fun x => x.line == l && s.passed x.ripe 0) = none) :
    s.reactPresent l k = s := by
  simp only [State.reactPresent, hx]

end React

end Lemmas

/-- Settles O28: whether the edge is kept decides an edge, the oldest pulse due, its output and the pulse before it an output
pulse, and the oldest reactive event due a presentation. -/
theorem outputPulses : Obligations.OutputPulses := by
  unfold Obligations.OutputPulses
  refine ⟨?kept, ?dropped, ?pulse, ?noPulse, ?pulseEnd, ?react, ?noReact⟩
  case kept =>
    intro s u l rising ago t hs he ht
    rw [exec_triggerLineEdge hs, State.triggerEdge_kept he ht rfl]
    exact ⟨fun hr => by rw [if_neg (Bool.eq_false_iff.mp hr)], fun hr => by rw [if_pos hr]⟩
  case dropped =>
    intro s u l rising ago hs he
    rw [exec_triggerLineEdge hs, State.triggerEdge_dropped he]
    exact ⟨rfl, State.lineEdge_dropped he⟩
  case pulse =>
    intro s u l p hs hp hu
    rw [exec_triggerOutputPulse hs]
    refine ⟨?falls, ?merges, ?begins⟩
    case falls => exact fun h => by rw [State.pulseRise_falls hp hu h]
    case merges => exact fun hz ho hm => by rw [State.pulseRise_reaches hp hu hz ho, if_pos hm]
    case begins => exact fun hz ho hm => by rw [State.pulseRise_reaches hp hu hz ho, if_neg (Bool.eq_false_iff.mp hm)]
  case noPulse => exact fun s l hs hp => by rw [exec_triggerOutputPulse hs, State.pulseRise_early hp]
  case pulseEnd => exact fun s l hs => exec_triggerPulseEnd hs l
  case react => exact fun s l p x hs hx => by rw [exec_reactiveEventPresent hs, State.reactPresent_due hx]
  case noReact => exact fun s l p hs hx => by rw [exec_reactiveEventPresent hs, State.reactPresent_early hx]

end Sys2Proof.Machine
end

section
/-!
PROOFS. What a trigger sequencer does at an index, and the kind of a completion (R236, R238 to R243, R469).
-/
namespace Sys2Proof.Machine

section Lemmas

variable {s : State} {n j t : Nat}

theorem exec_sequencerDecision (n : Fin 4) (j : BitVec 64) (h : s.runs = true) :
    exec (.sequencerDecision n j) s = .next (s.keep (s.decideAt n j.toNat)) := s.act_running _ h

/-- An index that is not the sequencer's to decide (R236, R456, R469). -/
theorem State.decideAt_idle
    (h : s.armed n = false ∨ (s.ctx n).trigEn = false ∨ s.decides j = false ∨ j < (s.ctx n).seqNext) :
    s.decideAt n j = s := by
  have hc : (!(s.armed n) || !(s.ctx n).trigEn || !(s.decides j) || Nat.blt j (s.ctx n).seqNext) = true := by
    simpa [or_assoc] using h
  simp only [State.decideAt, hc, if_true]

section Decides

variable (ha : s.armed n = true) (ht : (s.ctx n).trigEn = true) (hd : s.decides j = true) (hj : (s.ctx n).seqNext ≤ j)
include ha ht hd hj

/-- None of the conditions under which the sequencer leaves an index alone holds (R236, R469). -/
theorem State.notIdle :
    (!(s.armed n) || !(s.ctx n).trigEn || !(s.decides j) || Nat.blt j (s.ctx n).seqNext) = false := by
  have hb : Nat.blt j (s.ctx n).seqNext = false := by simpa [Bool.eq_false_iff] using hj
  rw [ha, ht, hd, hb]; rfl

variable {r : SeqStep} {u : State}
  (hr : s.seqRun n j (bitsOf ((s.trg.fires.filter (fun f => f.idx == j)).map (·.det))) 8 (s.ctx n) 0 = r)
  (hu : ((s.setCtx n { r.ctx with seqNext := j + 1 }).bumpBy (R.TRG_AC_TIMEOUTS n) r.timeouts).bumpBy
    (R.TRG_AC_RESETS n) r.resets = u)
include hr hu

/-- Without a completion the stages alone are shown to the reactive lines (R251). -/
theorem State.decideAt_stages (hm : r.comp = none) :
    s.decideAt n j = (u.reactAll n j r.stages false false).showSeq n j := by
  simp only [State.decideAt, State.notIdle ha ht hd hj, hr, hu, hm, Bool.false_eq_true, if_false]

/-- A completion takes effect with the stages of its index (R240, R242). -/
theorem State.decideAt_completes {m : Nat} (hm : r.comp = some m) :
    s.decideAt n j = (u.complete2 (u.completionOf n j m) r.stages).showSeq n j := by
  simp only [State.decideAt, State.notIdle ha ht hd hj, hr, hu, hm, Bool.false_eq_true, if_false]

end Decides

section Kinds

/-- A context that does not stream, in a dead time or without a segment left, can open no segment (R242, R297, R298). -/
theorem State.noSegment_iff : (!(s.ctx n).streaming && (s.inDead n t || s.deadExtended n || s.noMoreSegs n)) = true ↔
    (s.ctx n).streaming = false ∧ (s.inDead n t = true ∨ s.deadExtended n = true ∨ s.noMoreSegs n = true) := by
  simp [or_assoc]

theorem State.hasSegment_iff : ¬ (!(s.ctx n).streaming && (s.inDead n t || s.deadExtended n || s.noMoreSegs n)) = true ↔
    (s.ctx n).streaming = true ∨ (s.inDead n t = false ∧ s.deadExtended n = false ∧ s.noMoreSegs n = false) := by
  simp [and_assoc, imp_iff_not_or]

/-- OVERLAP comes before the holdoffs (Table 9.2). -/
theorem State.kindOf_overlap_iff : s.kindOf n t = .overlap ↔
    (s.ctx n).streaming = false ∧ (s.inDead n t = true ∨ s.deadExtended n = true ∨ s.noMoreSegs n = true) := by
  rw [← State.noSegment_iff]
  unfold State.kindOf
  dsimp only
  split_ifs with ho hh <;> simp [ho]

/-- A completion that is no OVERLAP is accepted where neither holdoff holds (Table 9.2, R243). -/
theorem State.kindOf_accepted_iff : s.kindOf n t = .accepted ↔
    ((s.ctx n).streaming = true ∨ (s.inDead n t = false ∧ s.deadExtended n = false ∧ s.noMoreSegs n = false)) ∧
      s.timeHeld n t = false ∧ s.eventHeld n t = false := by
  rw [← State.hasSegment_iff]
  unfold State.kindOf
  dsimp only
  split_ifs with ho hh
  · simp [ho]
  · have hheld : ¬ (s.timeHeld n t = false ∧ s.eventHeld n t = false) := by simpa [imp_iff_not_or] using hh
    simp [hheld]
  · have hfree : s.timeHeld n t = false ∧ s.eventHeld n t = false := by simpa using hh
    simp [ho, hfree]

end Kinds

end Lemmas

/-- Settles O27: whether the sequencer is to decide the index, and whether Table 9.1 completes there, decide the command; the
order of Table 9.2's conditions decides the kind. -/
theorem sequencerDecisions : Obligations.SequencerDecisions := by
  unfold Obligations.SequencerDecisions
  refine ⟨?decides, ?idle, fun s n t => ⟨State.kindOf_overlap_iff, State.kindOf_accepted_iff⟩⟩
  case decides =>
    rintro s n j r u hs ⟨ha, ht, hd⟩ hj hr hu
    rw [exec_sequencerDecision n j hs]
    exact ⟨fun hm => by rw [State.decideAt_stages ha ht hd hj hr hu hm],
      fun m hm => by rw [State.decideAt_completes ha ht hd hj hr hu hm]⟩
  case idle => exact fun s n j hs h => by rw [exec_sequencerDecision n j hs, State.decideAt_idle h]

end Sys2Proof.Machine
end

section
/-!
PROOFS. Trigger skew calibration (R255 to R257).
-/
namespace Sys2Proof.Machine

section Lemmas

variable {s : State}

theorem exec_trigSkewcal {r : Fin 64} {d : Desc} (h : s.starts r 0x62 d = true) :
    exec (.trigSkewcal r) s = .next (s.keep ((s.begin r d).skewStart d.begun)) := State.act_start _ h

theorem exec_skewcalDone (r : Fin 64) (steps : List (List SkewStep)) (h : s.runs = true) :
    exec (.skewcalDone r steps) s = .next (s.keep (s.skewDone r steps)) := s.act_running _ h

section Start

variable {d : Desc} {bad : Bool}
  (hb : (d.context != 15 || !(d.reservedClear 2 [(2, 0xF), (3, 0xFFFF)]) || d.f 2 0 4 == 0
    || !((inputsOf (d.f 2 0 4)).all (sampledIn s.inp.route)) || s.ringOwner d.ring != 0) = bad)
include hb

theorem State.skewStart_bad (h : bad = true) : s.skewStart d = s.finish d .badDescriptor [] := if_pos (hb.trans h)

theorem State.skewStart_busy (h : bad = false) (hg : s.fgBusy (d.f 2 0 4) = true) : s.skewStart d = s.finish d .busy [] := by
  simp only [State.skewStart, hb.trans h, hg, Bool.false_eq_true, if_false, if_true]

/-- A calibration that may run connects the injectors of its inputs (R255). -/
theorem State.skewStart_begins (h : bad = false) (hg : s.fgBusy (d.f 2 0 4) = false) :
    s.skewStart d = ({ s with trg := { s.trg with
      skew := s.trg.skew ++ [SkewRun.mk d.seq d.ring (d.f 2 0 4) (max 1 (d.f 3 0 16))] } }).inject (d.f 2 0 4) true := by
  simp only [State.skewStart, hb.trans h, hg, Bool.false_eq_true, if_false]

end Start

section Done

variable {r : Nat} {steps : List (List SkewStep)}

theorem State.skewDone_none (hx : s.trg.skew.find? (fun x => x.ring == r) = none) : s.skewDone r steps = s := by
  simp only [State.skewDone, hx]

/-- The end releases the injectors, completes with the results and raises E133 (R257). -/
theorem State.skewDone_completes {t u : State} {x : SkewRun} {vals : List (List Rat)}
    (hx : s.trg.skew.find? (fun x => x.ring == r) = some x) (hv : s.skewAll x.inputs x.steps steps = (vals, t))
    (hu : ({ t with trg := { t.trg with skew := t.trg.skew.filter (fun y => y.seq != x.seq) } }).inject x.inputs false = u) :
    s.skewDone r steps = (u.finishSeq x.seq .ok (vals.map (fun l => BitVec.ofNat 32 (pattern 32 (skewMean l))) ++
      [BitVec.ofNat 32 ((List.range 4).foldl (fun a n => a + rmsOf (vals.getD n []) * 2 ^ (8 * n)) 0),
        BitVec.ofNat 32 x.steps])).raisePF 133 x.inputs := by
  simp only [State.skewDone, hx, hv, hu]

end Done

/-- A step's value is the instant of its crossing plus the launch delay of its input (R256). -/
theorem State.skewValue_crossing {n j : Nat} {words : List Int} {xp x : Int}
    (h : upCrossing s.skewHyst 0 0 false words = some (j, xp, x)) :
    s.skewValue n words = some (((1024 * (crossTrigger j 0 xp x).1 + (crossTrigger j 0 xp x).2 : Nat) : Rat) +
      s.launchDelay n) := by
  rw [State.skewValue, h, Option.map_some]

end Lemmas

/-- Settles O29: the descriptor's checks decide a start, whether the ring has a calibration under way an end, and the
crossing of code 0 a step's value. -/
theorem skewCalibration : Obligations.SkewCalibration := by
  unfold Obligations.SkewCalibration
  refine ⟨?start, ?done, ?none, ?value⟩
  case start =>
    rintro s u r d bad hs rfl hb
    rw [exec_trigSkewcal hs]
    exact ⟨fun h => by rw [State.skewStart_bad hb h], fun h hg => by rw [State.skewStart_busy hb h hg],
      fun h hg => by rw [State.skewStart_begins hb h hg]; rfl⟩
  case done =>
    intro s t u r x steps vals hs hx hv hu
    rw [exec_skewcalDone r steps hs, State.skewDone_completes hx hv hu]
  case none => exact fun s r steps hs hx => by rw [exec_skewcalDone r steps hs, State.skewDone_none hx]
  case value => exact fun s n j words xp x h => State.skewValue_crossing h

end Sys2Proof.Machine
end

section
/-!
PROOFS. The trigger log: which entry leaves the FIFO, where it is written, and how an entry enters (R252 to R254, R311,
R318).
-/
namespace Sys2Proof.Machine

section Lemmas

variable {s : State} {n : Nat} {dw : List Word}

theorem exec_tlogEntryWrite (h : s.runs = true) : exec .tlogEntryWrite s = .next (s.keep s.popLog) := s.act_running _ h

/-- The entry that leaves the FIFO does not wait (R311, R318). -/
theorem State.logWaits_popFrom {l rest : List LogEntry} {held : List Nat} {e : LogEntry}
    (h : s.popFrom l held = some (e, rest)) : s.logWaits e = false := by
  induction l generalizing held rest with
  | nil => cases h
  | cons x l ih =>
    rw [State.popFrom] at h
    split_ifs at h with hw
    · obtain ⟨⟨y, m⟩, hq, he⟩ := Option.map_eq_some_iff.mp h
      cases he
      exact ih hq
    · cases h
      simp only [Bool.or_eq_true, not_or, Bool.not_eq_true] at hw
      exact hw.2

section Write

/-- An entry that finds its partition full, with no LOG_WRAP, is lost (R253). -/
theorem State.writeLog_full (hs : (s.ctx n).streaming = false) (hw : s.flag (F.TRG_AC_SEQ.LOG_WRAP n) = false)
    (hq : 2 * s.ptLen (s.ctx n).logPart ≤ s.reg64 (R.TRG_AC_LOG_COUNT_LO n)) :
    s.writeLog n dw = s.bump (R.TRG_AC_LOG_LOST n) := by
  have hb := Nat.ble_eq_true_of_le hq
  simp only [State.writeLog, hs, hw, hb, Bool.not_false, Bool.and_self, Bool.false_eq_true, if_false, if_true]

variable {q a : Nat} (hq : s.reg64 (R.TRG_AC_LOG_COUNT_LO n) = q)
  (hr : if (s.ctx n).streaming then s.logFree n ≠ 0
    else s.flag (F.TRG_AC_SEQ.LOG_WRAP n) = true ∨ q < 2 * s.ptLen (s.ctx n).logPart)
  (ha : 32 * (s.ptBase (s.ctx n).logPart + q % (2 * s.ptLen (s.ctx n).logPart) / 2) + 16 * (q % 2) = a)
include hq hr ha

/-- With room, the entry is written at its place and counted (R252). -/
theorem State.writeLog_room :
    s.writeLog n dw =
      (((s.putBytes a (wordsBytes dw)).buffer (a / 32) 1).setReg64 (R.TRG_AC_LOG_COUNT_LO n) (q + 1)).logFilled n := by
  have hline : a / 32 = s.ptBase (s.ctx n).logPart + q % (2 * s.ptLen (s.ctx n).logPart) / 2 := by omega
  have hplace : 32 * (a / 32) + 16 * (q % 2) = a := by omega
  have hc : (if (s.ctx n).streaming then s.logFree n == 0 else
      !(s.flag (F.TRG_AC_SEQ.LOG_WRAP n)) && Nat.ble (2 * s.ptLen (s.ctx n).logPart) q) = false := by
    split_ifs at hr ⊢ with hs
    · exact beq_false_of_ne hr
    · rcases hr with hw | hl
      · rw [hw]; rfl
      · rw [Bool.and_eq_false_iff]; right
        simpa [Bool.eq_false_iff] using hl
  simp only [State.writeLog, hq, hc, Bool.false_eq_true, if_false, ← hline, hplace]

end Write

/-- The count of log entries is no part of the address hash (R348). -/
theorem State.byteAt_setReg64_logCount (x i : Nat) :
    (s.setReg64 (R.TRG_AC_LOG_COUNT_LO n) x).byteAt i = s.byteAt i := by
  refine congrArg (SMap.get memByte s.mem.bytes) (State.loc_congr (fun k hk => ?_) (fun k hk => ?_) i) <;>
  · refine State.reg_setReg64_ne s x ?_ ?_ <;>
    · simp only [R.MEM_HASH_PC, R.MEM_HASH_BK, R.TRG_AC_LOG_COUNT_LO]
      omega

/-- Writing an entry changes no byte outside its place (R252). -/
theorem State.byteAt_logged {a l p x i : Nat} {b : List Byte} (h : i < a ∨ a + b.length ≤ i) :
    ((((s.putBytes a b).buffer l p).setReg64 (R.TRG_AC_LOG_COUNT_LO n) x).logFilled n).byteAt i = s.byteAt i := by
  rw [State.byteAt_logFilled, State.byteAt_setReg64_logCount, State.byteAt_buffer,
    State.byteAt_putBytes_out s a b i (by omega)]

section Pop

theorem State.popLog_none (h : s.popFrom s.trg.log [] = none) : s.popLog = s := by
  simp only [State.popLog, h]

variable {e : LogEntry} {l : List LogEntry} (h : s.popFrom s.trg.log [] = some (e, l))
include h

theorem State.popLog_some : s.popLog = ({ s with trg := { s.trg with log := l } }).writeLog e.ctx e.dw := by
  simp only [State.popLog, h]

/-- A streaming entry leaves the FIFO only with room for it (R311). -/
theorem State.logFree_popFrom (hs : (s.ctx e.ctx).streaming = true) : s.logFree e.ctx ≠ 0 := by
  have hw := State.logWaits_popFrom h
  simp only [State.logWaits, hs, Bool.true_and, Bool.or_eq_false_iff] at hw
  exact ne_of_beq_false hw.2

theorem State.popLog_full (hs : (s.ctx e.ctx).streaming = false) (hw : s.flag (F.TRG_AC_SEQ.LOG_WRAP e.ctx) = false)
    (hq : 2 * s.ptLen (s.ctx e.ctx).logPart ≤ s.reg64 (R.TRG_AC_LOG_COUNT_LO e.ctx)) :
    s.popLog = ({ s with trg := { s.trg with log := l } }).bump (R.TRG_AC_LOG_LOST e.ctx) :=
  (State.popLog_some h).trans (State.writeLog_full hs hw hq)

theorem State.popLog_room {q a : Nat} (hq : s.reg64 (R.TRG_AC_LOG_COUNT_LO e.ctx) = q)
    (hr : (s.ctx e.ctx).streaming = true ∨ s.flag (F.TRG_AC_SEQ.LOG_WRAP e.ctx) = true ∨
      q < 2 * s.ptLen (s.ctx e.ctx).logPart)
    (ha : 32 * (s.ptBase (s.ctx e.ctx).logPart + q % (2 * s.ptLen (s.ctx e.ctx).logPart) / 2) + 16 * (q % 2) = a) :
    s.popLog = (((({ s with trg := { s.trg with log := l } }).putBytes a (wordsBytes e.dw)).buffer (a / 32) 1).setReg64
      (R.TRG_AC_LOG_COUNT_LO e.ctx) (q + 1)).logFilled e.ctx := by
  have hroom : if (s.ctx e.ctx).streaming then s.logFree e.ctx ≠ 0
      else s.flag (F.TRG_AC_SEQ.LOG_WRAP e.ctx) = true ∨ q < 2 * s.ptLen (s.ctx e.ctx).logPart := by
    split_ifs with hs
    · exact State.logFree_popFrom h hs
    · exact hr.resolve_left hs
  exact (State.popLog_some h).trans (State.writeLog_room hq hroom ha)

end Pop

section Filled

/-- A log that is streamed, wraps, or has room left is not full (R253). -/
theorem State.logFilled_room (h : (s.ctx n).streaming = true ∨ s.flag (F.TRG_AC_SEQ.LOG_WRAP n) = true ∨
    s.reg64 (R.TRG_AC_LOG_COUNT_LO n) < 2 * s.ptLen (s.ctx n).logPart) : s.logFilled n = s :=
  if_pos (by simpa [or_assoc] using h)

/-- Any other log fills with its last entry: LOG_FULL, and E132 once per arm (R253). -/
theorem State.logFilled_full (hs : (s.ctx n).streaming = false) (hw : s.flag (F.TRG_AC_SEQ.LOG_WRAP n) = false)
    (hq : 2 * s.ptLen (s.ctx n).logPart ≤ s.reg64 (R.TRG_AC_LOG_COUNT_LO n)) :
    s.logFilled n = if (s.ctx n).once.contains 132 then s.setFlag (F.TRG_AC_STAT.LOG_FULL n) true
      else ((s.setFlag (F.TRG_AC_STAT.LOG_FULL n) true).setCtx n { s.ctx n with once := 132 :: (s.ctx n).once }).raise 132 n
        ((s.setFlag (F.TRG_AC_STAT.LOG_FULL n) true).routeCtx n) :=
  if_neg (by simp [hs, hw, hq])

end Filled

section Push

variable {r : Bool}

/-- An entry with a place in the FIFO enters it by its index (R318). -/
theorem State.pushLog_enters (h : r = true ∨ s.trg.log.length < 4096) :
    s.pushLog n dw r = { s with trg := { s.trg with
      log := logInsert ⟨n, withLoss (natBit s.trg.loss n) dw⟩ s.trg.log, loss := putBit s.trg.loss n false } } :=
  if_neg (by simpa [imp_iff_not_or] using h)

section Lost

variable {u : State} (hr : r = false) (h : 4096 ≤ s.trg.log.length)
  (hu : ((s.bump (R.TRG_AC_LOG_LOST n)).setFlag (F.TRG_AC_STAT.LOG_LOSS n) true).raise 131 n (s.routeCtx n) = u)
include hr h hu

/-- An entry that is no sluice record and finds the FIFO full is lost (R254). -/
theorem State.pushLog_lost :
    s.pushLog n dw r = { u with trg := { u.trg with loss := putBit u.trg.loss n true } } := by
  subst hr hu
  exact if_pos (by simpa using h)

/-- The FIFO is as it was, and the next entry of the context will tell (R254, Table 9.6a). -/
theorem State.pushLog_lost_trg : (s.pushLog n dw r).trg = { s.trg with loss := putBit s.trg.loss n true } := by
  have ht : u.trg = s.trg := by rw [← hu, State.raise_trg, State.setFlag_trg, State.bump_trg]
  rw [State.pushLog_lost hr h hu, ht]

theorem State.pushLog_lost_regs : (s.pushLog n dw r).regs = u.regs := by rw [State.pushLog_lost hr h hu]

end Lost

end Push

end Lemmas

/-- Settles O30: what waits in the FIFO and what its partition holds decide the write of an entry, the count after it whether
the log is full, and the FIFO's length whether an entry enters. -/
theorem triggerLog : Obligations.TriggerLog := by
  unfold Obligations.TriggerLog
  refine ⟨?writes, ?full, fun u n => ⟨State.logFilled_room, State.logFilled_full⟩, ?none, ?push⟩
  case writes =>
    rintro s u e l q a hs hp hq hr ha rfl
    rw [exec_tlogEntryWrite hs, State.popLog_room hp hq hr ha]
    refine ⟨rfl, fun t ht i hi => ?bytes⟩
    cases ht
    exact State.byteAt_logged hi
  case full =>
    intro s e l hs hp hst hw hq
    rw [exec_tlogEntryWrite hs, State.popLog_full hp hst hw hq]
  case none => exact fun s hs hp => by rw [exec_tlogEntryWrite hs, State.popLog_none hp]
  case push =>
    intro s n dw r
    refine ⟨fun h => ?enters, fun hr h => ?lost⟩
    case enters => rw [State.pushLog_enters h]; exact ⟨rfl, rfl⟩
    case lost =>
      have ht := State.pushLog_lost_trg (n := n) (dw := dw) hr h rfl
      exact ⟨congrArg (·.log) ht, by rw [ht]; exact natBit_putBit_self _ _ _,
        State.pushLog_lost_regs hr h rfl⟩

end Sys2Proof.Machine
end

section
/-!
PROOFS. Applying the symbol trigger's configuration, its lock attempts, lock, and loss of lock (R261 to R264, R275 to R277).
-/
namespace Sys2Proof.Machine

section Lemmas

variable {s u : State} {l : SymLoop}

section Commands

variable (h : s.runs = true)
include h

theorem exec_symApply (hr : s.reachable R.SYM_APPLY = true) : exec .symApply s = .next (s.keep s.symApply) :=
  (s.act_running _ h).trans (by rw [s.atReg_reachable _ hr])

theorem exec_symLock : exec .symLock s = .next (s.keep s.symLock) := s.act_running _ h

theorem exec_symUnlock : exec .symUnlock s = .next (s.keep s.symUnlock) := s.act_running _ h

theorem exec_symLockRetry : exec .symLockRetry s = .next (s.keep s.symRetry) := s.act_running _ h

end Commands

section Apply

/-- An APPLY that would start a new lock attempt is discarded while an armed context uses the trigger (R275, R276). -/
theorem State.symApply_discarded (hk : symKey s.symStaged ≠ symKey s.trg.sym) (hu : s.symUsed = true) :
    s.symApply = (s.setFlag F.SYM_STAT.APPLY_DISCARD true).raisePF 140 0 :=
  if_pos (by rw [bne_iff_ne.mpr hk, hu, Bool.and_self])

variable {i : Nat} (hi : s.tapNext (getBits (s.reg R.SYM_CTL) 28 2) = i)
include hi

/-- A change of EN, INPUT, CODE or UI takes the words and starts a lock attempt (R276). -/
theorem State.symApply_relocks (hk : symKey s.symStaged ≠ symKey s.trg.sym) (hu : s.symUsed = false) :
    s.symApply = (((s.symTake i true).symClear.setFlag F.SYM_STAT.LOCKED false).symStart i).symJudge true := by
  simp only [State.symApply, hi, hu, bne_iff_ne.mpr hk, Bool.and_false, Bool.false_eq_true, if_false, if_true]

/-- An APPLY without such a change starts an attempt where it makes the trigger active (R276). -/
theorem State.symApply_retains (hk : symKey s.symStaged = symKey s.trg.sym) (hu : s.symTake i false = u) :
    s.symApply = (if !s.symActive && u.symActive then u.symStart i else u).symJudge true := by
  simp only [State.symApply, hi, hk, hu, bne_self_eq_false, Bool.false_and, Bool.false_eq_true, if_false]

theorem State.symApply_activates (hk : symKey s.symStaged = symKey s.trg.sym) (hu : s.symTake i false = u)
    (hs : s.symActive = false) (ha : u.symActive = true) : s.symApply = (u.symStart i).symJudge true := by
  rw [State.symApply_retains hi hk hu, if_pos (by rw [hs, ha]; rfl)]

theorem State.symApply_takes (hk : symKey s.symStaged = symKey s.trg.sym) (hu : s.symTake i false = u)
    (h : s.symActive = true ∨ u.symActive = false) : s.symApply = u.symJudge true := by
  rw [State.symApply_retains hi hk hu, if_neg]
  rcases h with h | h <;> simp [h]

end Apply

section Words

variable {i : Nat} {c : Int}

/-- A relocking APPLY leaves no symbol to the words before it (R276). -/
theorem State.symWords_relocked (c : Int) : (s.symTake i true).symWords c = s.symStaged := rfl

/-- From the index shown on, the words taken act (R276). -/
theorem State.symWords_taken (h : (i : Int) * 2 ^ 40 ≤ c) : (s.symTake i false).symWords c = s.symStaged :=
  if_neg (not_lt.mpr h)

/-- Before the index shown, the words applied before act (R276). -/
theorem State.symWords_before (h : c < (i : Int) * 2 ^ 40) (ho : s.trg.symOld = none) :
    (s.symTake i false).symWords c = s.trg.sym := by
  refine (if_pos h).trans ?_
  rw [ho]

theorem State.reg64_symTake (relock : Bool) : (s.symTake i relock).reg64 R.SYM_APPLY_IDX_LO = i % 2 ^ 64 :=
  State.reg64_setReg64_self _ _ _

end Words

section Start

variable {i : Nat}

/-- The loop that an attempt begins with: SYM_UI, and a centre within the first unit interval (R263, log entry 89). -/
theorem State.symStart_attempts (ha : s.symActive = true) (hin : s.symIdle = false) (hz : s.frozen = false) :
    (s.symStart i).trg.symLoop = some { ui := ((s.sw 1).toNat : Int) * 2 ^ 18
                                        centre := (i : Int) * 2 ^ 40
                                          + ((s.sw 1).toNat : Int) * 2 ^ 18 * ((s.draw 32).1.toNat : Int) / 2 ^ 32 } := by
  rw [State.symStart, if_pos (by rw [ha, hin, hz]; rfl)]; rfl

theorem State.symStart_none (h : s.symActive = false ∨ s.symIdle = true ∨ s.frozen = true) :
    s.symStart i = s.setSymLoop none := by
  refine if_neg ?_
  rcases h with h | h | h <;> simp [h]

/-- A free phase of 32 bits lies within one unit interval. -/
theorem free_phase_within (ui : Nat) (p : BitVec 32) :
    0 ≤ (ui : Int) * (p.toNat : Int) / 2 ^ 32 ∧ (ui : Int) * (p.toNat : Int) / 2 ^ 32 ≤ ui := by
  have hp : (p.toNat : Int) ≤ 2 ^ 32 := by exact_mod_cast p.isLt.le
  exact ⟨by positivity, Int.ediv_le_of_le_mul (by norm_num) (mul_le_mul_of_nonneg_left hp (Int.natCast_nonneg ui))⟩

end Start

section Lock

/-- The conditions of R263 as inequalities. -/
theorem State.symMayLock_iff : s.symMayLock l = true ↔
    4096 ≤ l.recs.length ∧ 10000 * errSquares l.recs ≤ 64 * 2 ^ 32 * errCount l.recs ∧
      4096 ≤ 16 * errCount l.recs ∧
      200 * ((uiMean l.recs : Int) - ((s.sw 1).toNat : Int)).natAbs ≤ uiMean l.recs := by
  simp only [State.symMayLock, State.symPullIn, Bool.and_eq_true, Nat.ble_eq, decide_eq_true_eq, and_assoc]

theorem State.symLock_none (hl : s.trg.symLoop = none) : s.symLock = s := by
  simp only [State.symLock, hl]

/-- An unlocked attempt that meets R263 locks; any other stays. -/
theorem State.symLock_running (hl : s.trg.symLoop = some l) :
    s.symLock = if !(s.flag F.SYM_STAT.LOCKED) && s.symMayLock l then s.symLocked l else s := by
  simp only [State.symLock, hl]

theorem State.symLock_locked (hf : s.flag F.SYM_STAT.LOCKED = true) : s.symLock = s := by
  cases hl : s.trg.symLoop with
  | none => exact State.symLock_none hl
  | some l => rw [State.symLock_running hl, hf]; rfl

end Lock

section Unlock

theorem State.symUnlock_none (hl : s.trg.symLoop = none) : s.symUnlock = s := by
  simp only [State.symUnlock, hl]

/-- Without a trip of R264 the loop is left alone. -/
theorem State.symUnlock_untripped (hl : s.trg.symLoop = some l) (ht : s.symTrips l = 0) : s.symUnlock = s := by
  simp only [State.symUnlock, hl, ht, bne_self_eq_false, Bool.false_eq_true, if_false]

theorem State.symUnlock_tripped (hl : s.trg.symLoop = some l) (ht : s.symTrips l ≠ 0) :
    s.symUnlock = s.symLost (s.symTrips l) := by
  simp only [State.symUnlock, hl, bne_iff_ne.mpr ht, if_true]

theorem State.symLost_locked (causes : Nat) (hf : s.flag F.SYM_STAT.LOCKED = true) :
    s.symLost causes = ((((s.setFlag F.SYM_STAT.LOCKED false).setFlag F.SYM_STAT.LOST_SEEN true).bump
      R.SYM_UNLOCKS).raisePF 138 causes).setSymLoop none := if_pos hf

theorem State.symLost_unlocked (causes : Nat) (hf : s.flag F.SYM_STAT.LOCKED = false) : s.symLost causes = s :=
  if_neg (Bool.eq_false_iff.mp hf)

/-- What is not locked cannot be lost (R264). -/
theorem State.symUnlock_unlocked (hf : s.flag F.SYM_STAT.LOCKED = false) : s.symUnlock = s := by
  cases hl : s.trg.symLoop with
  | none => exact State.symUnlock_none hl
  | some l =>
    by_cases ht : s.symTrips l = 0
    · exact State.symUnlock_untripped hl ht
    · rw [State.symUnlock_tripped hl ht, State.symLost_unlocked _ hf]

end Unlock

section Retry

theorem State.symRetry_unlocked (hf : s.flag F.SYM_STAT.LOCKED = false) : s.symRetry = s.symStart s.symNext :=
  if_neg (Bool.eq_false_iff.mp hf)

theorem State.symRetry_locked (hf : s.flag F.SYM_STAT.LOCKED = true) : s.symRetry = s := if_pos hf

end Retry

end Lemmas

/-- Settles O31: what an APPLY changes and whether the trigger is in use decide it; LOCKED and the loop's last symbols decide
a lock, a loss and a retry; a drawn phase lies within one unit interval. -/
theorem symbolTrigger : Obligations.SymbolTrigger := by
  unfold Obligations.SymbolTrigger
  refine ⟨?applies, ?discarded, ?words, ?attempts, ?locks, fun s l => ⟨State.symMayLock_iff, rfl⟩, ?loses, ?retries⟩
  case applies =>
    intro s u i hs hr hfree hi hu
    rw [exec_symApply hs hr]
    refine ⟨?relocks, ?activates, ?takes⟩
    case relocks =>
      intro hk
      rw [bne_iff_ne.mpr hk] at hu
      rw [State.symApply_relocks hi hk (hfree.resolve_left hk), hu]
    case activates =>
      intro hk ha hua
      rw [hk, bne_self_eq_false] at hu
      rw [State.symApply_activates hi hk hu ha hua]
    case takes =>
      intro hk h
      rw [hk, bne_self_eq_false] at hu
      rw [State.symApply_takes hi hk hu h]
  case discarded =>
    rintro s hs hr ⟨hk, hu⟩
    rw [exec_symApply hs hr, State.symApply_discarded hk hu]
  case words =>
    exact fun s i c => ⟨State.symWords_relocked c, State.symWords_taken, State.symWords_before, State.reg64_symTake false⟩
  case attempts =>
    refine fun s i => ⟨fun ha hin hz => ⟨_, State.symStart_attempts ha hin hz, rfl, ?within⟩, State.symStart_none⟩
    have hp := free_phase_within ((s.sw 1).toNat * 2 ^ 18) (s.draw 32).1
    push_cast at hp
    exact ⟨le_add_of_nonneg_right hp.1, Int.add_le_add_left hp.2 _⟩
  case locks =>
    intro s hs
    rw [exec_symLock hs]
    refine ⟨?meets, ?idle, ?fails⟩
    case meets => exact fun l hl hf hm => by rw [State.symLock_running hl, hf, hm]; rfl
    case idle =>
      rintro (hf | hl)
      · rw [State.symLock_locked hf]
      · rw [State.symLock_none hl]
    case fails => exact fun l hl hm => by rw [State.symLock_running hl, hm, Bool.and_false]; rfl
  case loses =>
    intro s hs
    rw [exec_symUnlock hs]
    refine ⟨?trips, ?idle, ?holds⟩
    case trips => exact fun l hl hf ht => by rw [State.symUnlock_tripped hl ht, State.symLost_locked _ hf]
    case idle =>
      rintro (hf | hl)
      · rw [State.symUnlock_unlocked hf]
      · rw [State.symUnlock_none hl]
    case holds => exact fun l hl ht => by rw [State.symUnlock_untripped hl ht]
  case retries =>
    intro s hs
    rw [exec_symLockRetry hs]
    exact ⟨fun hf => by rw [State.symRetry_unlocked hf], fun hf => by rw [State.symRetry_locked hf]⟩

end Sys2Proof.Machine
end

section
/-!
PROOFS. The symbol trigger's words, its symbols, and its level windows (R265 to R268, R270, R271, R274).
-/
namespace Sys2Proof.Machine

section Lemmas

variable {s : State} {l : SymLoop} {w : List Word} {y : Int}

section Words

variable {first : Nat} {words : List (BitVec 16)}

theorem exec_symMatch (first : BitVec 64) (words : List (BitVec 16)) (h : s.runs = true) :
    exec (.symMatch first words) s = .next (s.keep (s.symWordsIn first.toNat words)) := s.act_running _ h

/-- Words of a sampled input are recorded, and the symbols that they reach are decided (R259, R265). -/
theorem State.symWordsIn_sampled (hz : s.frozen = false) (hin : s.symIdle = false) :
    s.symWordsIn first words = State.symRun (words.length + 1) (first + words.length - 1)
      ((s.hearAll s.symInput first words).2.symSkip first) :=
  if_neg (by rw [hz, hin]; decide)

theorem State.symWordsIn_ignored (h : s.frozen = true ∨ s.symIdle = true) : s.symWordsIn first words = s :=
  if_pos (by simpa using h)

end Words

section Level

/-- An NRZ symbol is decided by the middle threshold alone (R265). -/
theorem symLevel_nrz (hp : symPam4 w = false) (y : Int) : symLevel w y = if symThr w 1 ≤ y then 1 else 0 :=
  if_neg (Bool.eq_false_iff.mp hp)

/-- A PAM4 symbol is decided by the middle threshold first (R265). -/
theorem symLevel_pam4 (hp : symPam4 w = true) (y : Int) :
    symLevel w y = if symThr w 1 ≤ y then (if symThr w 2 ≤ y then 3 else 2) else if symThr w 0 ≤ y then 1 else 0 :=
  if_pos hp

/-- Over ordered thresholds the levels of PAM4 are the four intervals between them (R265). -/
theorem symLevel_pam4_intervals (hp : symPam4 w = true) (hlo : symThr w 0 ≤ symThr w 1) (hhi : symThr w 1 ≤ symThr w 2) :
    (symLevel w y = 0 ↔ y < symThr w 0) ∧ (symLevel w y = 1 ↔ symThr w 0 ≤ y ∧ y < symThr w 1) ∧
      (symLevel w y = 2 ↔ symThr w 1 ≤ y ∧ y < symThr w 2) ∧ (symLevel w y = 3 ↔ symThr w 2 ≤ y) := by
  rw [symLevel_pam4 hp]
  split_ifs <;> grind

end Level

section Window

theorem exec_symLevelWindowEnd (h : s.runs = true) :
    exec .symLevelWindowEnd s = .next (s.keep s.symWindowEnd) := s.act_running _ h

theorem State.symWindowEnd_none (hl : s.trg.symLoop = none) : s.symWindowEnd = s := by
  simp only [State.symWindowEnd, hl]

/-- A full window of a locked loop ends; any other goes on (R267). -/
theorem State.symWindowEnd_running (hl : s.trg.symLoop = some l) :
    s.symWindowEnd = if s.flag F.SYM_STAT.LOCKED && Nat.ble 65536 l.count then s.symWindow l else s := by
  simp only [State.symWindowEnd, hl]

theorem State.symWindowEnd_full (hf : s.flag F.SYM_STAT.LOCKED = true) (hl : s.trg.symLoop = some l)
    (hc : 65536 ≤ l.count) : s.symWindowEnd = s.symWindow l := by
  rw [State.symWindowEnd_running hl, hf, Nat.ble_eq_true_of_le hc]; rfl

/-- A window that has not seen 65,536 symbols goes on (R267). -/
theorem State.symWindowEnd_filling (hl : s.trg.symLoop = some l) (hc : l.count < 65536) : s.symWindowEnd = s := by
  rw [State.symWindowEnd_running hl, if_neg]
  simpa using fun _ => hc

theorem State.symWindowEnd_unlocked (hf : s.flag F.SYM_STAT.LOCKED = false) : s.symWindowEnd = s := by
  cases hl : s.trg.symLoop with
  | none => exact State.symWindowEnd_none hl
  | some l => rw [State.symWindowEnd_running hl, hf]; rfl

variable {u : State}
  (hu : (s.each (List.range 4) (fun t k => (t.setFld (F.SYM_LVL.SEQ k) (s.fld (F.SYM_LVL.SEQ 0) + 1)).setFld
    (F.SYM_LVL.MEAN k) (levelMean (l.levels.getD k (0, 0))))).setSymLoop
      (some { l with count := 0, levels := [(0, 0), (0, 0), (0, 0), (0, 0)] }) = u)
include hu

/-- Without AUTO a window's end stores the means only (R267). -/
theorem State.symWindow_fixed (ha : u.symF 0 22 1 = 0) : s.symWindow l = u := by
  subst hu
  exact if_neg (by rw [ha]; decide)

/-- With AUTO it also moves the thresholds (R266). -/
theorem State.symWindow_auto (ha : u.symF 0 22 1 = 1) :
    s.symWindow l = { u with trg := { u.trg with sym := autoThresholds u.trg.sym (fun k => l.levels.getD k (0, 0)) } } := by
  subst hu
  exact if_pos (by rw [ha]; rfl)

end Window

end Lemmas

/-- Settles O32: whether the input is sampled decides what words do; the decision word's validity, the level and the match a
symbol; LOCKED, the count and AUTO a level window's end. -/
theorem symbolDecisions : Obligations.SymbolDecisions := by
  unfold Obligations.SymbolDecisions
  refine ⟨?words, ?decides, ?levels, ?full, ?idle⟩
  case words =>
    intro s first words hs
    rw [exec_symMatch first words hs]
    exact ⟨fun hz hin => by rw [State.symWordsIn_sampled hz hin], fun h => by rw [State.symWordsIn_ignored h]⟩
  case decides =>
    refine fun s l w => ⟨rfl, ?valid⟩
    rintro y h u rfl rfl
    rfl
  case levels =>
    rintro w y ⟨hlo, hhi⟩
    exact ⟨fun hp => symLevel_pam4_intervals hp hlo hhi, fun hp => symLevel_nrz hp y⟩
  case full =>
    rintro s u l hs ⟨hf, hl, hc⟩ hu
    rw [exec_symLevelWindowEnd hs, State.symWindowEnd_full hf hl hc]
    exact ⟨fun ha => by rw [State.symWindow_fixed hu ha], fun ha => by rw [State.symWindow_auto hu ha]⟩
  case idle =>
    intro s hs
    rw [exec_symLevelWindowEnd hs]
    refine ⟨?rests, fun l hl hc => by rw [State.symWindowEnd_filling hl hc]⟩
    rintro (hf | hl)
    · rw [State.symWindowEnd_unlocked hf]
    · rw [State.symWindowEnd_none hl]

end Sys2Proof.Machine
end

section
/-!
PROOFS. What one step does: the queue, the phase of the module, and the form of a module that does not run (R520, R552).
-/
namespace Sys2Proof.Machine

section Lemmas

variable {s t : State}

/-- Every command but the two of RST_N and THERMAL_SHUTDOWN has its effect in a running module only. -/
theorem exec_act {c : Instr} (ha : c ≠ .rstNAssert) (hd : c ≠ .thermalShutdown) (hr : ∀ b, c ≠ .rstNRise b) :
    ∃ f : State → State, ∀ s, exec c s = s.act f := by
  cases c
  case rstNAssert => exact absurd rfl ha
  case thermalShutdown => exact absurd rfl hd
  case rstNRise b => exact absurd rfl (hr b)
  all_goals exact ⟨_, fun _ => rfl⟩

theorem exec_rstNAssert (s : State) : exec .rstNAssert s = .next s.afterReset := rfl

/-- RST_N has an edge to rise with only where it is low (R520). -/
theorem exec_rstNRise_held (b : Bool) (h : s.phase = .held) : exec (.rstNRise b) s = .next (s.rise b) := by
  show Host.Outcome.next (match s.phase with | .held => s.rise b | _ => s) = _
  rw [h]

theorem exec_rstNRise_other (b : Bool) (h : s.phase ≠ .held) : exec (.rstNRise b) s = .next s := by
  show Host.Outcome.next (match s.phase with | .held => s.rise b | _ => s) = _
  cases hp : s.phase with
  | held => exact absurd hp h
  | running => rfl
  | stopped => rfl

/-- Only a module that runs has a clock to stop (R552). -/
theorem exec_thermalShutdown_running (h : s.runs = true) : exec .thermalShutdown s = .next s.shutdown := by
  have hp : s.phase = .running := by simpa [State.runs] using h
  show Host.Outcome.next (match s.phase with | .running => s.shutdown | _ => s) = _
  rw [hp]

theorem exec_thermalShutdown_other (h : s.runs = false) : exec .thermalShutdown s = .next s := by
  have hp : s.phase ≠ .running := by simpa [State.runs] using h
  show Host.Outcome.next (match s.phase with | .running => s.shutdown | _ => s) = _
  cases hph : s.phase with
  | held => rfl
  | running => exact absurd hph hp
  | stopped => rfl

/-- The module as the shutdown leaves it (R552). -/
theorem State.shutdown_due (h : (s.hlth.shutdownDue && s.passed s.hlth.shutAt (nanos 20000)) = true) :
    s.shutdown = { (s.setFlag F.HLTH_STAT.ALERT true) with
      phase := .stopped
      hif := { s.hif with linkUp := false, busMaster := [] }
      mem := { s.mem with bytes := [], poison := [] }
      pat := { s.pat with on := 0 } } := if_pos h

theorem State.shutdown_early (h : (s.hlth.shutdownDue && s.passed s.hlth.shutAt (nanos 20000)) = false) : s.shutdown = s :=
  if_neg (Bool.eq_false_iff.mp h)

theorem State.shutdown_pending (s : State) : s.shutdown.pending = s.pending := by
  cases h : s.hlth.shutdownDue && s.passed s.hlth.shutAt (nanos 20000) with
  | true => rw [State.shutdown_due h]; rfl
  | false => rw [State.shutdown_early h]

theorem State.rise_pending (s : State) (b : Bool) : (s.rise b).pending = s.pending := by
  cases b <;> rfl

theorem State.rise_phase (s : State) (b : Bool) : (s.rise b).phase = .running := by
  cases b <;> rfl

/-- Of a former state the reset keeps the flash, the queue and the host's trace (R520). -/
theorem State.afterReset_heldForm (s : State) : s.afterReset.heldForm := rfl

/-- Every command answers a next state and leaves the queue alone. -/
theorem exec_next (c : Instr) (s : State) : ∃ t, exec c s = .next t ∧ t.pending = s.pending := by
  by_cases ha : c = .rstNAssert
  · subst ha; exact ⟨_, exec_rstNAssert s, rfl⟩
  by_cases hd : c = .thermalShutdown
  · subst hd
    cases hs : s.runs with
    | true => exact ⟨_, exec_thermalShutdown_running hs, s.shutdown_pending⟩
    | false => exact ⟨_, exec_thermalShutdown_other hs, rfl⟩
  by_cases hr : ∃ b, c = .rstNRise b
  · obtain ⟨b, rfl⟩ := hr
    by_cases hp : s.phase = .held
    · exact ⟨_, exec_rstNRise_held b hp, s.rise_pending b⟩
    · exact ⟨_, exec_rstNRise_other b hp, rfl⟩
  obtain ⟨f, hf⟩ := exec_act ha hd (fun b h => hr ⟨b, h⟩)
  obtain ⟨t, ht, hq, _⟩ := s.act_next f
  exact ⟨t, (hf s).trans ht, hq⟩

theorem step_of_pending {c : Instr} {rest : List Instr} (h : s.pending = c :: rest) :
    step s = exec c { s with pending := rest } := by
  unfold step; rw [h]

theorem step_of_empty (h : s.pending = []) : step s = s.act State.cycle := by
  unfold step; rw [h]; rfl

/-- A step answers a next state and takes the front of the queue. -/
theorem step_next (s : State) : ∃ t, step s = .next t ∧ t.pending = s.pending.drop 1 := by
  cases hq : s.pending with
  | nil =>
    obtain ⟨t, ht, hp, _⟩ := s.act_next State.cycle
    exact ⟨t, (step_of_empty hq).trans ht, hp.trans hq⟩
  | cons c rest =>
    obtain ⟨t, ht, hp⟩ := exec_next c { s with pending := rest }
    exact ⟨t, (step_of_pending hq).trans ht, hp⟩

theorem State.afterSteps_succ {n : Nat} (h : Machine.step s = .next t) : s.afterSteps (n + 1) = t.afterSteps n := by
  simp only [State.afterSteps, h]

theorem State.afterSteps_pending (s : State) (n : Nat) : (s.afterSteps n).pending = s.pending.drop n := by
  induction n generalizing s with
  | zero => rfl
  | succ n ih =>
    obtain ⟨t, ht, hq⟩ := step_next s
    rw [State.afterSteps_succ ht, ih, hq, List.drop_drop, Nat.add_comm]

/-- What a module that does not run is required to look like does not speak of the queue. -/
theorem State.sound_with_pending (h : s.sound) (rest : List Instr) : State.sound { s with pending := rest } := by
  unfold State.sound at h ⊢
  cases hp : s.phase with
  | running => trivial
  | held =>
    have hf : s.heldForm := by simpa only [hp] using h
    show State.heldForm _
    unfold State.heldForm at hf ⊢
    rw [hf]
  | stopped =>
    have hf : s.stoppedForm := by simpa only [hp] using h
    exact hf

theorem State.sound_of_running (h : s.phase = .running) : s.sound := by
  unfold State.sound; rw [h]; trivial

/-- A shut down module has the form of one (R552). -/
theorem State.sound_shutdown (h : s.sound) : s.shutdown.sound := by
  cases hd : s.hlth.shutdownDue && s.passed s.hlth.shutAt (nanos 20000) with
  | true =>
    rw [State.shutdown_due hd]
    exact ⟨State.flag_setFlag_self s F.HLTH_STAT.ALERT true (by simp [Fld.fits]) rfl, rfl, rfl, rfl, rfl⟩
  | false => rwa [State.shutdown_early hd]

/-- An effect that acts in a running module only keeps the form of one that does not run. -/
theorem State.sound_whileRunning (h : s.sound) (f : State → State) : (s.whileRunning f).sound := by
  unfold State.whileRunning
  cases hp : s.phase with
  | running => exact State.sound_of_running rfl
  | held => exact h
  | stopped => exact h

/-- Every command keeps the form of a module that does not run. -/
theorem exec_sound {c : Instr} (h : s.sound) (he : exec c s = .next t) : t.sound := by
  by_cases ha : c = .rstNAssert
  · subst ha
    obtain rfl : s.afterReset = t := by simpa [exec_rstNAssert] using he
    exact s.afterReset_heldForm
  by_cases hd : c = .thermalShutdown
  · subst hd
    cases hs : s.runs with
    | true =>
      obtain rfl : s.shutdown = t := by simpa [exec_thermalShutdown_running hs] using he
      exact State.sound_shutdown h
    | false =>
      obtain rfl : s = t := by simpa [exec_thermalShutdown_other hs] using he
      exact h
  by_cases hr : ∃ b, c = .rstNRise b
  · obtain ⟨b, rfl⟩ := hr
    by_cases hp : s.phase = .held
    · obtain rfl : s.rise b = t := by simpa [exec_rstNRise_held b hp] using he
      exact State.sound_of_running (s.rise_phase b)
    · obtain rfl : s = t := by simpa [exec_rstNRise_other b hp] using he
      exact h
  obtain ⟨f, hf⟩ := exec_act ha hd (fun b h => hr ⟨b, h⟩)
  obtain rfl : s.whileRunning f = t := by simpa [hf s, State.act] using he
  exact State.sound_whileRunning h f

end Lemmas

/-- Settles O4: the reset and the shutdown leave their forms, RST_N's rise ends in a running module, and every other command
acts in a running module only. -/
theorem stoppedStaysSound : Obligations.StoppedStaysSound := by
  unfold Obligations.StoppedStaysSound
  intro s t hs ht
  cases hq : s.pending with
  | nil =>
    rw [step_of_empty hq] at ht
    obtain rfl : s.whileRunning State.cycle = t := by simpa [State.act] using ht
    exact State.sound_whileRunning hs _
  | cons c rest =>
    rw [step_of_pending hq] at ht
    exact exec_sound (State.sound_with_pending hs rest) ht

/-- Settles O2: a command answers a next state and leaves the queue alone, so a step takes the front of the queue; by
induction on the number of steps. -/
theorem queueInOrder : Obligations.QueueInOrder := by
  unfold Obligations.QueueInOrder
  exact ⟨step_next, fun s n _ => s.afterSteps_pending n⟩

/-- Settles O3: by the commands that act in a running module only; what a reset leaves is read off its definition. -/
theorem phaseRules : Obligations.PhaseRules := by
  unfold Obligations.PhaseRules
  refine ⟨?ignored, ?phase, ?forgets⟩
  case ignored =>
    rintro s c hp ⟨ha, hr⟩
    have hs : s.runs = false := by simpa [State.runs] using hp
    by_cases hd : c = .thermalShutdown
    · subst hd; exact exec_thermalShutdown_other hs
    · obtain ⟨f, hf⟩ := exec_act ha hd hr
      rw [hf s, s.act_not_running f hs]
  case phase =>
    rintro s t c he ⟨ha, hd, hr⟩
    obtain ⟨f, hf⟩ := exec_act ha hd hr
    obtain ⟨u, hu, _, hp⟩ := s.act_next f
    have heq : Host.Outcome.next u = Host.Outcome.next t := hu.symm.trans ((hf s).symm.trans he)
    injection heq with htu
    rw [← htu, hp]
  case forgets =>
    rintro s t ⟨hjs, hjt⟩ ⟨hflash, hfresh, hq⟩ ⟨hmsix, hwrites, hreads⟩
    simp only [exec_rstNAssert, State.afterReset, hjs, hjt, hflash, hfresh, hq, hmsix, hwrites, hreads]

/-- Settles O1: the front of the queue, or a core cycle where it is empty. -/
theorem stepRunsFront : Obligations.StepRunsFront := by
  unfold Obligations.StepRunsFront
  refine ⟨fun s c rest h => step_of_pending h, fun s h => ?empty⟩
  case empty =>
    rw [step_of_empty h]
    exact ⟨fun hs => s.act_running _ hs, fun hs => s.act_not_running _ hs⟩

/-- Settles O5: every field of the state after reset is its default, and an unlisted register reads its reset value. -/
theorem afterReset : Obligations.AfterReset := by
  unfold Obligations.AfterReset
  refine ⟨rfl, rfl, by decide, fun o => rfl, by decide, rfl, rfl, rfl, rfl, rfl, rfl, rfl, trivial⟩

end Sys2Proof.Machine
end

section
/-!
PROOFS. The line packer (R282, R289, R301, R307).
-/
namespace Sys2Proof.Machine

section Lemmas

variable {s t u : State} {n : Nat} {data : List (List (List (BitVec 16)))}

theorem exec_linePacked (n : Fin 4) (dec : Bool) (data : List (List (List (BitVec 16)))) (h : s.runs = true) :
    exec (.linePacked n dec data) s = .next (s.keep (s.packLine n dec data)) := s.act_running _ h

/-- No line is packed for a context that is not armed, or for a stream it has not, or past its end (R301). -/
theorem State.packLine_refused {dec : Bool} (h : s.packAllowed n dec = false) : s.packLine n dec data = s := by
  simp [State.packLine, h]

theorem State.packLine_stream {dec : Bool} (h : s.packAllowed n dec = true) (hs : (s.ctx n).streaming = true) :
    s.packLine n dec data = (s.streamLine n data).tryEnd n := by
  simp [State.packLine, h, hs]

theorem State.packLine_dec (h : s.packAllowed n true = true) (hs : (s.ctx n).streaming = false) :
    s.packLine n true data = ((s.packDec n data).takePhase n).tryEnd n := by
  simp [State.packLine, h, hs]

theorem State.packLine_raw (h : s.packAllowed n false = true) (hs : (s.ctx n).streaming = false) :
    s.packLine n false data = (s.packRaw n data).tryEnd n := by
  simp [State.packLine, h, hs]

/-- An acquisition that no cause ends goes on (R301). -/
theorem State.tryEnd_none (h : (s.ctx n).ending = none) : s.tryEnd n = s := by
  simp only [State.tryEnd, h]

/-- From s to t context n packs raw lines: but for its list of degraded lines and the occupancy registers nothing that
says where a line lies changes, and bytes that meet `out` stay. -/
structure PacksRaw (s t : State) (n : Nat) (out : Nat → Prop) : Prop where
  ctx : ∃ l, t.ctx n = { s.ctx n with degr := l }
  regs : ∀ o, o ≠ R.MEM_WB_OCC → o ≠ R.MEM_WB_PEAK → t.reg o = s.reg o
  bytes : ∀ i, out i → t.byteAt i = s.byteAt i

variable {out : Nat → Prop}

theorem PacksRaw.refl (s : State) (n : Nat) (out : Nat → Prop) : PacksRaw s s n out :=
  ⟨⟨(s.ctx n).degr, rfl⟩, fun _ _ _ => rfl, fun _ _ => rfl⟩

theorem PacksRaw.trans (a : PacksRaw s t n out) (b : PacksRaw t u n out) : PacksRaw s u n out := by
  obtain ⟨l, hl⟩ := a.ctx
  obtain ⟨m, hm⟩ := b.ctx
  exact ⟨⟨m, by rw [hm, hl]⟩, fun o h1 h2 => (b.regs o h1 h2).trans (a.regs o h1 h2),
    fun i hi => (b.bytes i hi).trans (a.bytes i hi)⟩

/-- Words heard are put on record, no more (R23). -/
theorem PacksRaw.rawWords (s : State) (n m i : Nat) (wins : List (List (BitVec 16))) :
    PacksRaw s (s.rawWords m i wins).2 n out := by
  have heard : ∀ l, PacksRaw s (s.hearAll m i l).2 n out := by
    intro l
    obtain ⟨d, hd⟩ := s.hearAll_eq m i l
    rw [hd]
    exact ⟨⟨(s.ctx n).degr, rfl⟩, fun _ _ _ => rfl, fun _ _ => rfl⟩
  exact heard _

theorem PacksRaw.writeLine (s : State) (n p l x : Nat) (h : ∀ i, out i → i < 32 * l ∨ 32 * l + 32 ≤ i) :
    PacksRaw s (s.writeLine p l x) n out :=
  ⟨⟨(s.ctx n).degr, s.ctx_writeLine p l x n⟩, fun _ h1 h2 => s.reg_writeLine p l x h1 h2,
    fun i hi => s.byteAt_writeLine_out p l x i (h i hi)⟩

theorem PacksRaw.noteDegraded (s : State) (n m i : Nat) : PacksRaw s (s.noteDegraded n m i) n out := by
  unfold State.noteDegraded
  dsimp only
  split
  · exact ⟨⟨_, State.ctx_setCtx_self s n _⟩, fun _ _ _ => rfl, fun _ _ => rfl⟩
  · exact PacksRaw.refl s n out

/-- Where a context packs, its lines go to the places they had (R289). -/
theorem PacksRaw.place {n : Fin 4} (a : PacksRaw s t n out) (m k f i : Nat) :
    t.ptBase ((s.ctx n).inPart m) + t.rawLineOf n k f i = s.ptBase ((s.ctx n).inPart m) + s.rawLineOf n k f i := by
  obtain ⟨l, hl⟩ := a.ctx
  have hbase : ∀ k, t.ptBase k = s.ptBase k := fun k => by
    rw [State.ptBase, State.fld, a.regs _ (by simp only [R.MEM_PT_BASE, R.MEM_WB_OCC]; omega)
      (by simp only [R.MEM_PT_BASE, R.MEM_WB_PEAK]; omega)]; rfl
  have hlen : ∀ k, t.ptLen k = s.ptLen k := fun k => by
    rw [State.ptLen, State.fld, a.regs _ (by simp only [R.MEM_PT_LEN, R.MEM_WB_OCC]; omega)
      (by simp only [R.MEM_PT_LEN, R.MEM_WB_PEAK]; omega)]; rfl
  have hn := n.isLt
  have hsl : t.slotSl n = s.slotSl n := by
    rw [State.slotSl, State.fld, a.regs _ (by simp only [R.ACQ_AC_SLOT, R.MEM_WB_OCC]; omega)
      (by simp only [R.ACQ_AC_SLOT, R.MEM_WB_PEAK]; omega)]; rfl
  have hk : t.slotK n = s.slotK n := by
    rw [State.slotK, State.fld, a.regs _ (by simp only [R.ACQ_AC_NSLOT, R.MEM_WB_OCC]; omega)
      (by simp only [R.ACQ_AC_NSLOT, R.MEM_WB_PEAK]; omega)]; rfl
  have hraw : t.rawLen (t.ctx n) = s.rawLen (s.ctx n) := by rw [hl]; exact hlen _
  simp only [State.rawLineOf, State.rawSlotLen, hbase, hsl, hk, hraw]

/-- A segmented raw line changes, per input, the line of the slot that holds its first index (R289). -/
theorem PacksRaw.foldInputs {n : Fin 4} {k f : Nat} (s0 : State) (l : List (Nat × List (List (BitVec 16))))
    (hout : ∀ e ∈ l, ∀ i, out i →
      i < 32 * (s0.ptBase ((s0.ctx n).inPart e.1) + s0.rawLineOf n k f (s0.ctx n).next) ∨
      32 * (s0.ptBase ((s0.ctx n).inPart e.1) + s0.rawLineOf n k f (s0.ctx n).next) + 32 ≤ i)
    (a : PacksRaw s0 s n out) :
    PacksRaw s0 (l.foldl (fun t e =>
      if Nat.blt k (t.slots n) then
        let w := t.rawWords e.1 (s0.ctx n).next e.2
        (w.2.writeLine 0 (t.ptBase ((s0.ctx n).inPart e.1) + t.rawLineOf n k f (s0.ctx n).next)
          (rawLine w.1 (t.tally n e.1 (s0.ctx n).next))).noteDegraded n e.1 (s0.ctx n).next
      else t) s) n out := by
  induction l generalizing s with
  | nil => exact a
  | cons e l ih =>
    rw [List.foldl_cons]
    refine ih (fun e' he' => hout e' (List.mem_cons_of_mem e he')) ?_
    split
    · dsimp only
      rw [a.place]
      exact ((a.trans (PacksRaw.rawWords s n _ _ _)).trans
        (PacksRaw.writeLine _ n _ _ _ (hout e List.mem_cons_self))).trans (PacksRaw.noteDegraded _ n _ _)
    · exact a

/-- A segmented raw line moves the packer on by its 21 indices (R282, R289). -/
theorem State.packRaw_packs {n : Fin 4} {k f : Nat} (hk : (s.ctx n).slotOf (s.ctx n).next = some (k, f)) :
    ∃ t, PacksRaw s t n (fun i => ∀ m ∈ (s.ctx n).inputs,
        i < 32 * (s.ptBase ((s.ctx n).inPart m) + s.rawLineOf n k f (s.ctx n).next) ∨
        32 * (s.ptBase ((s.ctx n).inPart m) + s.rawLineOf n k f (s.ctx n).next) + 32 ≤ i) ∧
      s.packRaw n data = t.setCtx n { t.ctx n with next := (s.ctx n).next + 21 } := by
  refine ⟨_, PacksRaw.foldInputs (k := k) (f := f) s ((s.ctx n).inputs.zip data) ?_ (PacksRaw.refl s n _), ?_⟩
  · exact fun e he i hi => hi e.1 (List.of_mem_zip he).1
  · simp only [State.packRaw, hk]

end Lemmas

/-- Settles O36: the gate and the kind of the stream decide which packer runs; the raw packer of a segmented acquisition
writes one line per input. -/
theorem linesPacked : Obligations.LinesPacked := by
  unfold Obligations.LinesPacked
  refine ⟨?gate, ?raw⟩
  case gate =>
    intro s n dec data hs
    simp only [exec_linePacked n _ data hs]
    exact ⟨fun h => by rw [State.packLine_refused h], fun h hst => by rw [State.packLine_stream h hst],
      fun h hst => by rw [State.packLine_dec h hst], fun h hst => by rw [State.packLine_raw h hst]⟩
  case raw =>
    rintro s n k f data hs ⟨ha, hst, he⟩ hk
    obtain ⟨t, ht, hp⟩ := State.packRaw_packs (data := data) hk
    obtain ⟨l, hl⟩ := ht.ctx
    have hend : ((t.setCtx n { t.ctx n with next := (s.ctx n).next + 21 }).ctx n).ending = none := by
      rw [State.ctx_setCtx_self, hl]; exact he
    refine ⟨_, exec_linePacked n false data hs, ?_, fun i hi => ?_⟩
    · rw [State.packLine_raw ha hst, hp, State.tryEnd_none hend]
      exact congrArg Ctx.next (State.ctx_setCtx_self t n _)
    · rw [State.packLine_raw ha hst, hp, State.tryEnd_none hend]
      exact ht.bytes i hi

end Sys2Proof.Machine
end

section
/-!
PROOFS. Lines of capture memory (R347, R360, R374).
-/
namespace Sys2Proof.Machine

section Lemmas

variable {s t : State}

/-- Reading bytes back to a number undoes spelling it (little-endian). -/
theorem bytesNat_natBytes (n x : Nat) : bytesNat (natBytes x n) = x % 256 ^ n := by
  induction n generalizing x with
  | zero => simp [natBytes, bytesNat, Nat.mod_one]
  | succ n ih =>
    rw [natBytes, bytesNat, ih, BitVec.toNat_ofNat, pow_succ' 256, Nat.mod_mul]

theorem State.memBytes_eq (a n : Nat) : s.memBytes a n = (List.range n).map (fun i => s.byteAt (a + i)) := rfl

/-- Where a line lies depends on the hash masks alone (R348). -/
theorem State.place_congr (h1 : ∀ k < 6, t.reg (R.MEM_HASH_PC k) = s.reg (R.MEM_HASH_PC k))
    (h2 : ∀ j < 4, t.reg (R.MEM_HASH_BK j) = s.reg (R.MEM_HASH_BK j)) (l : Nat) : t.place l = s.place l := by
  have h := State.loc_congr h1 h2 (32 * l)
  have hl : 32 * l / 32 = l := by omega
  unfold State.loc at h
  rw [hl] at h
  omega

theorem State.place_writeLine (p l x m : Nat) : (s.writeLine p l x).place m = s.place m :=
  State.place_congr
    (fun k hk => s.reg_writeLine p l x (by simp only [R.MEM_HASH_PC, R.MEM_WB_OCC]; omega)
      (by simp only [R.MEM_HASH_PC, R.MEM_WB_PEAK]; omega))
    (fun j hj => s.reg_writeLine p l x (by simp only [R.MEM_HASH_BK, R.MEM_WB_OCC]; omega)
      (by simp only [R.MEM_HASH_BK, R.MEM_WB_PEAK]; omega)) m

/-- A written line is no longer uncorrectable (R374). -/
theorem State.poisoned_writeLine {p l x : Nat} (hl : l < memLines) : (s.writeLine p l x).poisoned l = false := by
  rw [State.poisoned, State.place_writeLine, State.writeLine_poison s p l x hl]
  simp

/-- A written line reads the number written, as far as its 32 bytes hold it (R360). -/
theorem State.readLine_writeLine {p l x : Nat} (hl : l < memLines) : (s.writeLine p l x).readLine l = x % 2 ^ 256 := by
  have hbytes : (s.writeLine p l x).memBytes (32 * l) 32 = natBytes x 32 := by
    rw [State.memBytes_eq]
    refine List.ext_getElem (by simp [natBytes_length]) (fun i h1 h2 => ?_)
    have hi : i < 32 := by simpa using h1
    rw [List.getElem_map, List.getElem_range, s.byteAt_writeLine_in p l x i hl hi, ← natBytes_getD 32 x i hi,
      List.getD_eq_getElem _ _ h2]
  have hpow : (256 : Nat) ^ 32 = 2 ^ 256 := by norm_num
  rw [State.readLine, State.poisoned_writeLine hl, if_neg Bool.false_ne_true, hbytes, bytesNat_natBytes, hpow]

end Lemmas

/-- Settles O43: from what a byte reads after a write, and from the canonical form that writes keep. -/
theorem captureMemoryLines : Obligations.CaptureMemoryLines := by
  unfold Obligations.CaptureMemoryLines
  refine ⟨fun s p l x hl => ⟨?_, ?_, State.readLine_writeLine hl, fun hp => if_pos hp⟩, fun s p l x w i => ⟨?_, ?_, ?_⟩⟩
  · exact fun i hi => s.byteAt_writeLine_in p l x i hl hi
  · exact fun i hi => s.byteAt_writeLine_out p l x i hi
  · exact fun hl => if_pos hl
  · exact s.byteAt_bulkWrite w i
  · exact fun h => ⟨s.wf_writeLine p l x h, s.wf_bulkWrite w h⟩

end Sys2Proof.Machine
end

section
/-!
PROOFS. Completions of descriptors: what they leave alone (R389, R394), and MGMT_NOP (R406).
-/
namespace Sys2Proof.Machine

section Lemmas

variable {s : State} {d : Desc}

theorem RingsOnly.dropDesc (s : State) (d : Desc) : RingsOnly s (s.dropDesc d) :=
  RingsOnly.of_hif s _ ⟨rfl, rfl, rfl, rfl, rfl, rfl, rfl, rfl⟩ (fun _ h => List.mem_of_mem_filter h)

theorem RingsOnly.showHeld (s : State) {r : Nat} (hr : r < 64) : RingsOnly s (s.showHeld r) :=
  RingsOnly.setFlag s (F.HIF_RING_STAT.WAITING r) _ (hifOffset_ringStat hr)

theorem RingsOnly.sendCompletion (s : State) (w : Waiting) (hr : w.ring < 64) : RingsOnly s (s.sendCompletion w) := by
  unfold State.sendCompletion
  split
  · exact RingsOnly.writeCompletion s w hr
  · exact RingsOnly.of_hif s _ ⟨rfl, rfl, rfl, rfl, rfl, rfl, rfl, rfl⟩ (fun _ h => h)

/-- Past dropping the descriptor itself a completion changes what completions may change (R393, R394). -/
theorem RingsOnly.completeCode_dropped (s : State) (d : Desc) (code : Nat) (p : List Word) (hr : d.ring < 64) :
    RingsOnly (s.dropDesc d) (s.completeCode d code p) :=
  (RingsOnly.sendCompletion _ _ hr).trans (RingsOnly.showHeld _ hr)

theorem RingsOnly.completeCode (s : State) (d : Desc) (code : Nat) (p : List Word) (hr : d.ring < 64) :
    RingsOnly s (s.completeCode d code p) :=
  (RingsOnly.dropDesc s d).trans (RingsOnly.completeCode_dropped s d code p hr)

/-- The refused descriptors behind a completed one complete like any other (R388). -/
theorem RingsOnly.flushRefused (s : State) {r : Nat} (hr : r < 64) (n : Nat) : RingsOnly s (s.flushRefused r n) := by
  induction n generalizing s with
  | zero => exact RingsOnly.refl s
  | succ n ih =>
    rw [State.flushRefused]
    split
    · rename_i e he
      have hring : e.ring < 64 := by
        have := List.find?_some he
        simp only [beq_iff_eq] at this
        omega
      split
      · exact (RingsOnly.completeCode s e _ [] hring).trans (ih _)
      · exact RingsOnly.refl s
    · exact RingsOnly.refl s

theorem RingsOnly.finish_dropped (s : State) (d : Desc) (st : Status) (p : List Word) (hr : d.ring < 64) :
    RingsOnly (s.dropDesc d) (s.finish d st p) :=
  (RingsOnly.completeCode_dropped s d st.code p hr).trans (RingsOnly.flushRefused _ hr 8)

/-- A completed descriptor is outstanding no longer, and none becomes so. -/
theorem State.mem_descs_finish {st : Status} {p : List Word} {e : Desc} (hr : d.ring < 64)
    (he : e ∈ (s.finish d st p).hif.descs) : e ∈ s.hif.descs ∧ e.seq ≠ d.seq := by
  have h := (RingsOnly.finish_dropped s d st p hr).descs e he
  simpa [State.dropDesc] using h

theorem exec_mgmtNop_starts {r : Fin 64} (h : s.starts r 0x60 d = true) :
    exec (.mgmtNop r) s = .next (s.keep ((s.begin r d).nop d.begun)) := s.act_start _ h

/-- The reserved dwords of MGMT_NOP are all zero (R406). -/
theorem Desc.reservedClear_nil_iff : d.reservedClear 2 [] = true ↔ ∀ i, 2 ≤ i → i < 16 → dwAt d.dw i = 0 := by
  simp only [Desc.reservedClear, List.foldl_nil, List.all_eq_true, List.mem_range, Bool.or_eq_true, Nat.blt_eq, beq_iff_eq]
  have hmask : ∀ w : Word, w &&& ~~~(0 : Word) = w := fun w => by
    rw [show ~~~(0 : Word) = BitVec.allOnes 32 from rfl, BitVec.and_allOnes]
  simp only [hmask]
  exact ⟨fun h i h2 h16 => (h i h16).resolve_left (by omega),
    fun h i h16 => or_iff_not_imp_left.mpr (fun h2 => h i (by omega) h16)⟩

theorem State.nop_ok (hc : d.context = 15) (hz : ∀ i, 2 ≤ i → i < 16 → dwAt d.dw i = 0) :
    s.nop d = s.finish d .ok (eventTime s.now) := by
  simp [State.nop, hc, Desc.reservedClear_nil_iff.mpr hz]

theorem State.nop_bad (h : d.context ≠ 15 ∨ ∃ i, 2 ≤ i ∧ i < 16 ∧ dwAt d.dw i ≠ 0) :
    s.nop d = s.finish d .badDescriptor [] := by
  have hn : ¬ (d.context = 15 && d.reservedClear 2 []) = true := by
    simp only [Bool.and_eq_true, decide_eq_true_eq, Desc.reservedClear_nil_iff]
    rintro ⟨hc, hz⟩
    rcases h with h | ⟨i, h2, h16, hi⟩
    · exact h hc
    · exact hi (hz i h2 h16)
  exact if_neg hn

/-- A ring has something before a descriptor: it has not completed, or its completion is not written (R389). -/
theorem State.earlier_iff {r q : Nat} : s.earlier r q = true ↔
    (∃ e ∈ s.hif.descs, e.ring = r ∧ e.seq < q) ∨ (∃ w ∈ s.hif.waiting, w.ring = r ∧ w.seq < q) := by
  simp [State.earlier]

/-- A ring whose next descriptor may not start starts none (R389). -/
theorem State.withStart_held {r op : Nat} (f : Desc → State → State) (hd : s.headOf r = some d)
    (hm : s.mayStart r d = false) : s.withStart r op f = s := by
  simp [State.withStart, State.startNext, hd, hm]

theorem State.mayStart_fenced {r : Nat} (hf : d.fence = true) (he : s.earlier r d.seq = true) :
    s.mayStart r d = false := by
  simp [State.mayStart, hf, he]

end Lemmas

/-- Settles O46: dropping the descriptor, writing completions and showing what waits stay within the host interface. -/
theorem completionFrame : Obligations.CompletionFrame := by
  unfold Obligations.CompletionFrame
  intro s d st p hr
  have h : RingsOnly s (s.finish d st p) := (RingsOnly.dropDesc s d).trans (RingsOnly.finish_dropped s d st p hr)
  obtain ⟨hharv, hrel, hbar4, hreads, hlink, hbus, htail, hhead⟩ := h.hif
  exact ⟨h.rest, h.regs, hharv, hrel, hbar4, hreads, hlink, hbus, htail, hhead, fun e he => State.mem_descs_finish hr he⟩

/-- Settles O47: the reserved dwords decide the status, and a fence holds the descriptor while anything stands before it. -/
theorem ringNop : Obligations.RingNop := by
  unfold Obligations.RingNop
  refine ⟨?starts, ?fenced⟩
  case starts =>
    intro s r d hs
    rw [exec_mgmtNop_starts hs]
    refine ⟨fun hc hz => ?_, fun h => ?_⟩
    · rw [State.nop_ok (d := d.begun) hc hz]; rfl
    · rw [State.nop_bad (d := d.begun) h]
  case fenced =>
    rintro s r d hs ⟨hd, hf⟩ he
    have hm : s.mayStart r d = false := State.mayStart_fenced hf (State.earlier_iff.mpr he)
    show s.act _ = _
    rw [s.act_running _ hs, State.withStart_held _ hd hm]

end Sys2Proof.Machine
end

section
/-!
PROOFS. Events that arise, their records, and the fault log (R413, R415 to R420, R544 to R546).
-/
namespace Sys2Proof.Machine

section Lemmas

variable {s u v : State}

section Raise

variable {e : Nat}

/-- With its enable bit 0 an event sets its SEEN bit only (R413). -/
theorem State.raiseX_disabled (q : Nat) (fns : List Nat) (x : Option Nat)
    (h : (s.setFlag (seenBit e) true).flag (enBit e) = false) : s.raiseX e q fns x = s.setFlag (seenBit e) true :=
  if_neg (Bool.eq_false_iff.mp h)

theorem State.raiseX_enabled (q : Nat) (fns : List Nat) (x : Option Nat)
    (h : (s.setFlag (seenBit e) true).flag (enBit e) = true) :
    s.raiseX e q fns x = ((s.setFlag (seenBit e) true).mirrored fns).foldl
      (fun t f => t.enqueue ⟨e, BitVec.ofNat 32 q, t.now % 2 ^ 64, f, x, t.time.cycle⟩) (s.setFlag (seenBit e) true) :=
  if_pos h

/-- The SEEN bits and the enable bits lie in different registers. -/
theorem State.flag_enBit_seen : (s.setFlag (seenBit e) true).flag (enBit e) = s.flag (enBit e) :=
  State.flag_setFlag_ne s (enBit e) (seenBit e) true (.inl (by simp only [R.EVT_EN, R.EVT_SEEN]; omega))

/-- A record takes a place in the queue while more than one is free (R418). -/
theorem State.enqueue_room (r : EvRec) (h : s.evt.queue.length < 255) :
    s.enqueue r = { s with evt := { s.evt with queue := s.evt.queue ++ [r] } } := by
  unfold State.enqueue
  rw [if_neg]
  simp only [Nat.ble_eq, Nat.not_le]
  split <;> omega

/-- The records of one event enter the queue in the order of its route, each with the tide time of the core cycle (R413,
R415). -/
theorem State.enqueueAll (q : Nat) (x : Option Nat) (l : List Nat) (s : State) (h : s.evt.queue.length + l.length ≤ 255) :
    l.foldl (fun t f => t.enqueue ⟨e, BitVec.ofNat 32 q, t.now % 2 ^ 64, f, x, t.time.cycle⟩) s =
      { s with evt := { s.evt with
        queue := s.evt.queue ++ l.map (fun f => ⟨e, BitVec.ofNat 32 q, s.now % 2 ^ 64, f, x, s.time.cycle⟩) } } := by
  induction l generalizing s with
  | nil => simp
  | cons f l ih =>
    rw [List.length_cons] at h
    rw [List.foldl_cons, State.enqueue_room _ (by omega), ih _ (by simp only [List.length_append, List.length_singleton]; omega)]
    simp only [State.now, List.map_cons, List.append_assoc, List.singleton_append]

theorem State.loc_raiseX (q : Nat) (fns : List Nat) (x : Option Nat) (he : e < 288) (a : Nat) :
    (s.raiseX e q fns x).loc a = s.loc a := by
  refine State.loc_congr (fun k hk => State.reg_raiseX s e q fns x ?_ ?_) (fun k hk => State.reg_raiseX s e q fns x ?_ ?_) a
  · simp only [R.MEM_HASH_PC, R.EVT_SEEN]; omega
  · simp only [R.MEM_HASH_PC, R.EVT_QLOST]; omega
  · simp only [R.MEM_HASH_BK, R.EVT_SEEN]; omega
  · simp only [R.MEM_HASH_BK, R.EVT_QLOST]; omega

theorem State.regsBut_raiseX (q : Nat) (fns : List Nat) (x : Option Nat) : s.regsBut (s.raiseX e q fns x) (evtRegs e) := by
  intro o ho
  simp only [evtRegs, List.mem_cons, List.not_mem_nil, or_false, not_or] at ho
  exact State.reg_raiseX s e q fns x ho.1 ho.2

end Raise

section Next

/-- Lowest tide time first, then lowest event number (R417). -/
def EvRec.before (e r : EvRec) : Prop := e.tide < r.tide ∨ (e.tide = r.tide ∧ e.event ≤ r.event)

theorem EvRec.before_refl (e : EvRec) : e.before e := .inr ⟨rfl, Nat.le_refl _⟩

theorem EvRec.before_trans {a b c : EvRec} (h : a.before b) (k : b.before c) : a.before c := by
  unfold EvRec.before at *; omega

/-- The comparison that the record unit makes between two records (R417). -/
theorem EvRec.before_iff {x r : EvRec} :
    (x.tide < r.tide || (x.tide == r.tide && Nat.blt x.event r.event)) = true ↔ ¬ r.before x := by
  simp only [Bool.or_eq_true, decide_eq_true_eq, Bool.and_eq_true, beq_iff_eq, Nat.blt_eq]
  unfold EvRec.before; omega

theorem EvRec.before_of_not {x r : EvRec} (h : ¬ r.before x) : x.before r := by
  unfold EvRec.before at *; omega

theorem nextRec_least {l : List EvRec} {e : EvRec} (h : nextRec l = some e) : e ∈ l ∧ ∀ r ∈ l, e.before r := by
  induction l generalizing e with
  | nil => cases h
  | cons r l ih =>
    rw [nextRec] at h
    cases hl : nextRec l with
    | none =>
      have hnil : l = [] := by
        cases l with
        | nil => rfl
        | cons y l => rw [nextRec] at hl; cases hy : nextRec l <;> simp [hy] at hl
      simp only [hl, Option.some.injEq] at h
      subst hnil h
      exact ⟨List.mem_cons_self, fun x hx => by rw [List.mem_singleton.mp hx]; exact EvRec.before_refl _⟩
    | some x =>
      obtain ⟨hx, hmin⟩ := ih hl
      simp only [hl, Option.some.injEq] at h
      by_cases hb : r.before x
      · rw [if_neg (fun hc => EvRec.before_iff.mp hc hb)] at h
        subst h
        refine ⟨List.mem_cons_self, fun y hy => ?_⟩
        rcases List.mem_cons.mp hy with rfl | hy
        · exact EvRec.before_refl _
        · exact EvRec.before_trans hb (hmin y hy)
      · rw [if_pos (EvRec.before_iff.mpr hb)] at h
        subst h
        refine ⟨List.mem_cons_of_mem r hx, fun y hy => ?_⟩
        rcases List.mem_cons.mp hy with rfl | hy
        · exact EvRec.before_of_not hb
        · exact hmin y hy

end Next

section Write

variable {e : EvRec}

theorem exec_eventRecordWrite (h : s.runs = true) : exec .eventRecordWrite s = .next (s.keep s.writeEvent) :=
  s.act_running _ h

theorem State.writeEvent_some (he : nextRec s.ripe = some e) :
    s.writeEvent = (({ s with evt := { s.evt with queue := dropFirst e s.evt.queue } }).deliver e).overflowEvent := by
  simp only [State.writeEvent, he]

/-- A record of the present core cycle is not written yet (R417). -/
theorem State.writeEvent_none (h : ∀ e ∈ s.evt.queue, e.cycle = s.time.cycle) : s.writeEvent = s := by
  have hr : s.ripe = [] := by
    simp only [State.ripe, List.filter_eq_nil_iff, bne_iff_ne, ne_eq, not_not]
    exact h
  simp only [State.writeEvent, hr, nextRec]

/-- E001 reports discarded records once the queue has fallen to 128 (R418). -/
theorem State.overflowEvent_waits (h : s.evt.discarded = 0 ∨ 128 < s.evt.queue.length) : s.overflowEvent = s := by
  refine if_neg ?_
  simp only [Bool.and_eq_true, bne_iff_ne, ne_eq, Nat.ble_eq, not_and, Nat.not_le]
  omega

theorem State.overflowEvent_reports (hd : s.evt.discarded ≠ 0) (hq : s.evt.queue.length ≤ 128) :
    s.overflowEvent = ({ s with evt := { s.evt with discarded := 0 } }).raise 1 s.evt.discarded s.routeAll := by
  refine if_pos ?_
  simp only [Bool.and_eq_true, bne_iff_ne, ne_eq, Nat.ble_eq]
  exact ⟨hd, hq⟩

section Deliver

variable {rings : List Nat}
  (hr : (s.eventRings e.func (e.event / 32)).filter (fun r => some r != e.excl) = rings)
  (hu : { (if e.tide < s.evt.lastTide then s.setFlag F.EVT_STAT.REORDER_LATE true else s) with
    evt := { s.evt with lastTide := e.tide } } = u)
include hr hu

/-- Where a record goes: to each of its rings, or into the count of records lost (R379, R396). -/
theorem State.deliver_eq : s.deliver e =
    if rings.isEmpty || !(s.busMasterOn e.func) then u.bump (R.HIF_EVDROP e.func)
    else rings.foldl (fun t r => t.writeRecord e r) u := by
  subst hr hu
  unfold State.deliver
  split <;> rfl

theorem State.deliver_lost (h : rings = [] ∨ s.busMasterOn e.func = false) :
    s.deliver e = u.bump (R.HIF_EVDROP e.func) := by
  rw [State.deliver_eq hr hu, if_pos]
  rcases h with h | h <;> simp [h]

theorem State.deliver_written (h : rings ≠ []) (hb : s.busMasterOn e.func = true) :
    s.deliver e = rings.foldl (fun t r => t.writeRecord e r) u := by
  rw [State.deliver_eq hr hu, if_neg]
  simp [h, hb]

end Deliver

section Full

variable {r : Nat}
  (hu : ({ s.bump (R.HIF_RING_LOST r) with evt := { s.evt with
    lost := SMap.set zero s.evt.lost r (SMap.get zero s.evt.lost r + 1) } } : State) = u)
  (hf : s.ringSize r ≤ SMap.get zero s.hif.cqUsed r)
include hu hf

/-- A full ring counts a loss, and shows it with E036 the first time (R397, R419). -/
theorem State.writeRecord_full : s.writeRecord e r =
    if u.flag (F.HIF_RING_STAT.EVT_LOST r) then u
    else (u.setFlag (F.HIF_RING_STAT.EVT_LOST r) true).raiseX 36 r (u.routeRing r) (some r) := by
  subst hu
  exact if_pos hf

end Full

/-- A ring with room takes the record, dword 0 last (R394, R395). -/
theorem State.writeRecord_room {r a : Nat} (ha : s.cqSlot r (s.fld (F.HIF_RING_PTR.CQ_TAIL r)) 16 = a)
    (hv : ({ (s.post (s.ringOwner r) (a + 4) (e.qual :: eventTime e.tide)).post (s.ringOwner r) a
      [BitVec.ofNat 32 (s.fld (F.HIF_RING_STAT.PHASE r) * 2 ^ 31 + satNat 255 (SMap.get zero s.evt.lost r) * 2 ^ 16 +
        e.event)] with evt := { s.evt with lost := SMap.set zero s.evt.lost r 0 } } : State) = v)
    (hf : SMap.get zero s.hif.cqUsed r < s.ringSize r) :
    s.writeRecord e r = ((v.advanceCq r 1).bump (R.HIF_RING_DONE r)).cover r (s.flag (urgBit e.event)) := by
  subst ha hv
  exact if_neg (by omega)

end Write

section Test

theorem exec_evtTestGo (v : Word) (h : s.runs = true) :
    exec (.evtTestGo v) s = .next (s.keep (s.evtTestWrite (v ||| 0x80000000#32))) := s.act_running _ h

variable {v : Word} (hgo : getBits v 31 1 = 1)
include hgo

theorem State.evtTestWrite_assigned (ha : assigned (getBits v 0 9) = true) :
    s.evtTestWrite v =
      (s.plainWrite R.EVT_TEST v).raisePF (getBits v 0 9) (s.reg R.EVT_TEST_QUAL).toNat := by
  have hq : (s.plainWrite R.EVT_TEST v).reg R.EVT_TEST_QUAL = s.reg R.EVT_TEST_QUAL :=
    State.reg_plainWrite_ne _ (by decide)
  simp [State.evtTestWrite, hgo, ha, hq]

/-- A test of an event that is not assigned stores nothing (log entry 96). -/
theorem State.evtTestWrite_unassigned (ha : assigned (getBits v 0 9) = false) : s.evtTestWrite v = s := by
  simp [State.evtTestWrite, hgo, ha]

end Test

/-- The write of the command has GO=1. -/
theorem getBits_go (v : Word) : getBits (v ||| 0x80000000#32) 31 1 = 1 := by
  have : (v ||| 0x80000000#32).extractLsb' 31 1 = 1#1 := by
    refine BitVec.eq_of_getLsbD_eq (fun i hi => ?_)
    have h0 : i = 0 := by omega
    subst h0
    simp
  rw [getBits, this]; rfl

/-- A fault leaves its entry in the log after what its class counts (R544 to R546). -/
theorem State.fault_eq {code inst : Nat} (hu : (if code < 0x100 then (s.raisePF 277 code).healthCountOpt (faultCounter code)
      else (((s.raisePF 278 code).healthCount 15).healthCountOpt (faultCounter code)).setFlag F.HLTH_STAT.OUTSIDE true) = u) :
    s.fault code inst = u.logFault code inst := by
  subst hu; rfl

end Lemmas

/-- Settles O48: the enable bit decides whether records are formed, and their number whether all enter. -/
theorem eventsArise : Obligations.EventsArise := by
  unfold Obligations.EventsArise
  refine ⟨fun s e q fns x => s.seen_raiseX e q fns x, ?records, ?frame⟩
  case records =>
    rintro s u e q fns x - rfl
    refine ⟨fun hd => ?_, fun hen hq => ?_⟩
    · exact State.raiseX_disabled q fns x (by rwa [State.flag_enBit_seen])
    · rw [State.raiseX_enabled q fns x (by rwa [State.flag_enBit_seen]), State.enqueueAll q x _ _ hq]
      rfl
  case frame =>
    intro s e q fns x he
    refine ⟨State.regsBut_raiseX q fns x, State.raiseX_hif s e q fns x, State.raiseX_acq s e q fns x, fun a => ?_⟩
    rw [State.byteAt, State.byteAt, State.raiseX_mem, State.loc_raiseX q fns x he]

/-- Settles O49: the least ripe record is written, its rings and their room decide where it goes, and each fault leaves its
entry. -/
theorem eventRecords : Obligations.EventRecords := by
  unfold Obligations.EventRecords
  refine ⟨fun l e h => nextRec_least h, ?write, ?none, ?deliver, ?record, ?test, ?fault⟩
  case write =>
    rintro s u e hs ⟨he, _⟩ rfl
    rw [exec_eventRecordWrite hs, State.writeEvent_some he]
    exact ⟨fun h => by rw [State.overflowEvent_waits h], fun hd hq => by rw [State.overflowEvent_reports hd hq]⟩
  case none => exact fun s hs h => by rw [exec_eventRecordWrite hs, State.writeEvent_none h]
  case deliver =>
    intro s u e rings hr hu
    exact ⟨State.deliver_lost hr hu, State.deliver_written hr hu⟩
  case record =>
    intro s u v e r a hu ha hv
    exact ⟨fun hf hl => by rw [State.writeRecord_full hu hf, if_pos hl],
      fun hf hl => by rw [State.writeRecord_full hu hf, if_neg (Bool.eq_false_iff.mp hl)],
      fun hf => State.writeRecord_room ha hv hf⟩
  case test =>
    rintro s u v hs rfl
    rw [exec_evtTestGo v hs]
    exact ⟨fun ha => by rw [State.evtTestWrite_assigned (getBits_go v) ha],
      fun ha => by rw [State.evtTestWrite_unassigned (getBits_go v) ha]⟩
  case fault =>
    rintro s u code inst hu
    rw [State.fault_eq hu]
    rfl

end Sys2Proof.Machine
end

section
/-!
PROOFS. Arming: the checks of Table 11.5, and an arm taking effect (R293 to R295, R306, R369, R371, R460).
-/
namespace Sys2Proof.Machine

section Lemmas

variable {s u : State}

section Start

variable {d : Desc} {strm : Bool} {c : Ctx}

theorem exec_arm_starts {r : Fin 64} (h : s.starts r (if strm then 0x03 else 0x01) d = true) :
    exec (if strm then .acqStream r else .acqArm r) s = .next (s.keep ((s.begin r d).armStart d.begun strm)) := by
  cases strm with
  | false => exact s.act_start (fun d u => u.armStart d false) h
  | true => exact s.act_start (fun d u => u.armStart d true) h

/-- What an arm that passes its checks leaves pending in its context (R295). -/
def Ctx.pend (old : Ctx) (strm : Bool) (d : Desc) (now : Nat) : Ctx :=
  { old with
    phase := .pending
    stops := []
    req := some ⟨strm, d.seq, d.ring, d.dw, (match Ctx.armAt { streaming := strm, dw := d.dw } with
      | some i => decide (i < now)
      | none => false), none⟩ }

/-- The status of Table 11.5 decides an arm; one that passes waits for its partner's in a twin (R293, R295, R460). -/
theorem State.armStart_eq (hc : (s.ctx d.context).pend strm d s.time.idx = c) :
    s.armStart d strm = match s.armStatus d c.asked with
      | some st => s.finish d st []
      | none => if s.joined then (s.setCtx d.context c).twinWait d.context else s.setCtx d.context c := by
  subst hc; rfl

/-- The rows of Table 11.5, first to last (R293). -/
theorem State.armStatus_eq : s.armStatus d c =
    if (if c.streaming then s.streamBad d c else s.armBad d c) then some .badDescriptor
    else if s.compat && (s.seqNames d.context 16 || s.usesTwin d.context) then some .notSupportedCompat
    else if s.flag F.CLK_STAT.BYPASS then some .clockLost
    else if s.armBusy d.context c then some .busy
    else if !(s.armParts d.context (s.ringOwner d.ring) c) then some .partitionFault
    else if !(c.inputs.all s.refsReady) then some .refNotReady
    else none := rfl

end Start

section Effect

variable {n : Nat}

theorem exec_armTakeEffect (n : Fin 4) (h : s.runs = true) :
    exec (.armTakeEffect n) s = .next (s.keep (if s.armDue n then s.armEffect n else s)) := s.act_running _ h

/-- The status register of an arm that takes effect, before its index is put (R294). -/
def State.armStat (s : State) (n own : Nat) : State :=
  ((s.setFlag (F.ACQ_AC_STAT.ARMED n) true).setFld (F.ACQ_AC_STAT.OWNER n) own).setFld (F.ACQ_AC_STAT.INPUTS n)
    ((s.ctx n).a 2 0 4)

theorem State.armRegs_eq (s : State) (n : Nat) : ∃ own, s.armRegs n =
    (if (s.ctx n).late then (s.armStat n own).setFlag (F.ACQ_AC_STAT.ARM_LATE n) true else s.armStat n own).setReg64
      (R.ACQ_AC_ARM_IDX_LO n) s.time.idx := ⟨_, rfl⟩

/-- The status register shows the arm (R294). -/
structure ShowsArm (s t : State) (n : Nat) : Prop where
  armed : t.flag (F.ACQ_AC_STAT.ARMED n) = true
  inputs : t.fld (F.ACQ_AC_STAT.INPUTS n) = (s.ctx n).a 2 0 4
  others : ∀ o, o ≠ R.ACQ_AC_STAT n → t.reg o = s.reg o

theorem ShowsArm.armStat (s : State) (n own : Nat) : ShowsArm s (s.armStat n own) n where
  armed := by
    rw [State.armStat, State.flag_setFld_ne _ _ _ _ (by simp [Fld.apart]), State.flag_setFld_ne _ _ _ _ (by simp [Fld.apart]),
      State.flag_setFlag_self _ _ _ (by simp [Fld.fits]) rfl]
  inputs := by
    rw [State.armStat, State.fld_setFld_self _ _ _ (by simp [Fld.fits])]
    exact Nat.mod_eq_of_lt (getBits_lt _ _ _)
  others := fun o ho => by
    rw [State.armStat, State.reg_setFld_ne _ _ ho, State.reg_setFld_ne _ _ ho, State.reg_setFlag_ne _ _ ho]

theorem ShowsArm.late {t : State} (a : ShowsArm s t n) : ShowsArm s (t.setFlag (F.ACQ_AC_STAT.ARM_LATE n) true) n where
  armed := by rw [State.flag_setFlag_ne _ _ _ _ (by simp [Fld.apart])]; exact a.armed
  inputs := by rw [State.fld_setFlag_ne _ _ _ _ (by simp [Fld.apart])]; exact a.inputs
  others := fun o ho => by rw [State.reg_setFlag_ne _ _ ho]; exact a.others o ho

/-- Before the arm index is put, the arm shows in its status register, with its late mark (R294). -/
theorem State.armRegs_shows (s : State) (n : Nat) : ∃ t, ShowsArm s t n ∧
    ((s.ctx n).late = true → t.flag (F.ACQ_AC_STAT.ARM_LATE n) = true) ∧
    s.armRegs n = t.setReg64 (R.ACQ_AC_ARM_IDX_LO n) s.time.idx := by
  obtain ⟨own, ho⟩ := s.armRegs_eq n
  rw [ho]
  cases hl : (s.ctx n).late with
  | true =>
    exact ⟨_, (ShowsArm.armStat s n own).late, fun _ => State.flag_setFlag_self _ _ _ (by simp [Fld.fits]) rfl, rfl⟩
  | false => exact ⟨_, ShowsArm.armStat s n own, fun h => absurd h Bool.false_ne_true, rfl⟩

/-- Putting the arm index leaves the status register alone. -/
theorem State.reg_stat_armIdx (x : Nat) :
    (s.setReg64 (R.ACQ_AC_ARM_IDX_LO n) x).reg (R.ACQ_AC_STAT n) = s.reg (R.ACQ_AC_STAT n) :=
  s.reg_setReg64_ne x (by simp only [R.ACQ_AC_STAT, R.ACQ_AC_ARM_IDX_LO]; omega)
    (by simp only [R.ACQ_AC_STAT, R.ACQ_AC_ARM_IDX_LO]; omega)

/-- The registers that an arm sets to 0 (R236). -/
def armZeroed (n : Nat) : List Nat :=
  [R.TRG_AC_COMPL n, R.TRG_AC_OVERLAP n, R.TRG_AC_HELD n, R.TRG_AC_TIMEOUTS n, R.TRG_AC_RESETS n,
    R.TRG_AC_LOG_LOST n, R.TRG_AC_LOG_COUNT_LO n, R.TRG_AC_LOG_COUNT_HI n, R.ACQ_AC_SEGS n, R.ACQ_AC_NONOK n,
    R.ACQ_AC_DEADEXT n]

theorem State.reg_zeroAll (l : List Nat) (s : State) (o : Nat) :
    (l.foldl (fun t off => t.setReg off 0) s).reg o = if o ∈ l then 0 else s.reg o := by
  induction l generalizing s with
  | nil => simp
  | cons a l ih =>
    rw [List.foldl_cons, ih, State.reg_setReg]
    by_cases ha : o = a <;> by_cases hl : o ∈ l <;> simp [ha, hl]

theorem State.clearSeq_eq : s.clearSeq n =
    ((((armZeroed n).foldl (fun t off => t.setReg off 0) s).setFlag (F.TRG_AC_STAT.LOG_FULL n) false).setFld
      (F.TRG_AC_STAT.STAGE n) 0).setFlag (F.TRG_AC_STAT.HOLDING n) false := rfl

/-- The sequencer's counters and the counts of segments read 0 after an arm (R236). -/
theorem State.reg_clearSeq_zero {o : Nat} (hz : o ∈ armZeroed n) (ho : o ≠ R.TRG_AC_STAT n) :
    (s.clearSeq n).reg o = 0 := by
  rw [State.clearSeq_eq, State.reg_setFlag_ne _ _ ho, State.reg_setFld_ne _ _ ho, State.reg_setFlag_ne _ _ ho,
    State.reg_zeroAll, if_pos hz]

theorem State.flag_clearSeq_logFull : (s.clearSeq n).flag (F.TRG_AC_STAT.LOG_FULL n) = false := by
  rw [State.clearSeq_eq, State.flag_setFlag_ne _ _ _ _ (by simp [Fld.apart]), State.flag_setFld_ne _ _ _ _ (by simp [Fld.apart]),
    State.flag_setFlag_self _ _ _ (by simp [Fld.fits]) rfl]

theorem State.fld_clearSeq_stage : (s.clearSeq n).fld (F.TRG_AC_STAT.STAGE n) = 0 := by
  rw [State.clearSeq_eq, State.fld_setFlag_ne _ _ _ _ (by simp [Fld.apart]), State.fld_setFld_self _ _ _ (by simp [Fld.fits]), Nat.zero_mod]

/-- Without a SPILL partition an arm says so; with one it starts learning the load offsets where nothing is known of them
(R369, R371). -/
theorem State.armMemory_eq : s.armMemory =
    if s.spill.isNone then s.raisePF 204 0
    else if s.flag F.MEM_STAT.OFFSETS || s.mem.offsetPc.isSome then s
    else { s with mem := { s.mem with offsetPc := some 0 } } := rfl

end Effect

end Lemmas

/-- Settles O33: the rows of Table 11.5 in their order, whether an arm is due, and what its registers and capture memory take
from it. -/
theorem arming : Obligations.Arming := by
  unfold Obligations.Arming
  refine ⟨?start, ?status, ?effect, ?regs, ?seq, ?memory⟩
  case start =>
    rintro s u r d strm c hs rfl hc
    rw [exec_arm_starts hs, State.armStart_eq (d := d.begun) hc]
    exact ⟨fun st h => by rw [h], fun h hj => by rw [h, hj]; rfl, fun h hj => by rw [h, hj]; rfl⟩
  case status =>
    intro s d c bad compat hbad hcompat
    rw [State.armStatus_eq, hbad, hcompat]
    exact ⟨fun h1 => by simp [h1], fun h1 h2 => by simp [h1, h2], fun h1 h2 h3 => by simp [h1, h2, h3],
      fun h1 h2 h3 h4 => by simp [h1, h2, h3, h4], fun h1 h2 h3 h4 h5 => by simp [h1, h2, h3, h4, h5],
      fun h1 h2 h3 h4 h5 h6 => by simp only [h1, h2, h3, h4, h5, h6]; rfl,
      fun h1 h2 h3 h4 h5 h6 => by simp only [h1, h2, h3, h4, h5, h6]; rfl⟩
  case effect =>
    intro s n hs
    rw [exec_armTakeEffect n hs]
    exact ⟨fun h => by rw [if_pos h], fun h => by rw [if_neg (Bool.eq_false_iff.mp h)]⟩
  case regs =>
    intro s n
    obtain ⟨t, ht, hlate, he⟩ := s.armRegs_shows n
    rw [he]
    simp only [State.flag, State.fld, State.reg_stat_armIdx]
    refine ⟨ht.armed, ht.inputs, hlate, State.reg64_setReg64_self _ _ _, fun o ho => ?_⟩
    simp only [List.mem_cons, List.not_mem_nil, or_false, not_or] at ho
    rw [State.reg_setReg64_ne _ _ ho.2.1 ho.2.2, ht.others o ho.1]
  case seq =>
    intro s n
    refine ⟨?_, ?_, ?_, ?_, ?_, ?_, State.flag_clearSeq_logFull, State.fld_clearSeq_stage⟩ <;>
      refine State.reg_clearSeq_zero (by simp [armZeroed]) ?_ <;>
      simp only [R.TRG_AC_STAT, R.TRG_AC_COMPL, R.TRG_AC_OVERLAP, R.TRG_AC_HELD, R.TRG_AC_TIMEOUTS, R.TRG_AC_RESETS,
        R.ACQ_AC_SEGS] <;> omega
  case memory =>
    intro s
    rw [State.armMemory_eq]
    refine ⟨fun h => ?_, fun h hf ho => ?_, fun h hf => ?_⟩
    · rw [h]; rfl
    · rw [if_neg (by simpa using h), if_neg (by simp [hf, ho])]
    · rw [if_neg (by simpa using h), if_pos (by simpa [Option.isSome_iff_ne_none] using hf)]

end Sys2Proof.Machine
end

section
/-!
PROOFS. Segments, their index entries, and the ends and stops of an acquisition (R283, R296, R299 to R302, R321, R354).
-/
namespace Sys2Proof.Machine

section Lemmas

variable {s u v w : State} {n : Nat}

section Close

theorem exec_segmentClose (n : Fin 4) (h : s.runs = true) : exec (.segmentClose n) s = .next (s.keep (s.segClose n)) :=
  s.act_running _ h

section Packed

variable {g : Seg} {rest : List Seg} (hg : (s.ctx n).segs = g :: rest) (hp : s.segPacked n g = true)
  (hu : (({ s with acq := { s.acq with queue := s.acq.queue ++
      [IdxItem.mk n (s.segEntries n g (State.segStatus (s.ctx n) g))] } }).setCtx n { s.ctx n with
    segs := rest
    entries := (s.ctx n).entries + (s.segEntries n g (State.segStatus (s.ctx n) g)).length
    closed := (s.ctx n).closed + 1
    degr := (s.ctx n).degr.filter (fun e => Nat.blt g.last (e.lab + (e.count - 1) * e.ratio))
    dlines := (s.ctx n).dlines.filter (fun l => Nat.blt g.last (l.lab + (l.count - 1) * l.ratio)) }).setFlag
      (F.ACQ_AC_STAT.SEG_OPEN n) (!rest.isEmpty) = u)
  (hv : u.setFld (F.ACQ_AC_SEGS.V n) (u.fld (F.ACQ_AC_SEGS.V n) + 1) = v)
  (hw : (if State.segStatus (s.ctx n) g == .ok then v
    else (v.bump (R.ACQ_AC_NONOK n)).raise 162 (n + 2 ^ 16 * (State.segStatus (s.ctx n) g).code) (v.routeCtx n)).notify n
      = w)
include hg hp hu hv hw

/-- A packed segment closes; its number and the stop under way decide whether the acquisition is to end (R296, R301). -/
theorem State.segClose_packed : s.segClose n =
    (if g.num + 1 = (s.ctx n).nseg then w.endFor n 0 g.last
      else if g.num + 1 = w.slots n then w.endFor n 1 g.last
      else if (s.ctx n).stopping && rest.isEmpty then w.endFor n 2 g.last
      else w).tryEnd n := by
  subst hu hv hw
  simp only [State.segClose, hg, hp, Bool.not_true, Bool.false_eq_true, if_false]

end Packed

/-- Without an open segment, or before its last sample is packed, nothing closes (R296). -/
theorem State.segClose_waits
    (h : (s.ctx n).segs = [] ∨ ∃ g l, (s.ctx n).segs = g :: l ∧ s.segPacked n g = false) : s.segClose n = s := by
  rcases h with hg | ⟨g, l, hg, hp⟩
  · simp only [State.segClose, hg]
  · simp [State.segClose, hg, hp]

/-- What ends an acquisition: its core cycle past, its lines packed, no tail update left (R283, R301, R321). -/
theorem State.tryEnd_ending {row e cyc : Nat} (h : (s.ctx n).ending = some (row, e, cyc)) :
    s.tryEnd n = if Nat.blt cyc s.time.cycle && s.drained n e && !s.tailsWait then s.acqEnd n row else s := by
  simp only [State.tryEnd, h]

end Close

section Index

theorem exec_indexEntryWrite (h : s.runs = true) : exec .indexEntryWrite s = .next (s.keep s.popIndex) := s.act_running _ h

variable {x : IdxItem} {r : List IdxItem}

/-- Tail updates come before index entries (R283, R299). -/
theorem State.popIndex_waits (h : s.acq.queue = [] ∨ s.tailsWait = true) : s.popIndex = s := by
  unfold State.popIndex
  split
  · rfl
  · rename_i x r hq
    rw [if_pos (h.resolve_left (by simp [hq]))]

variable (hq : s.acq.queue = x :: r) (ht : s.tailsWait = false)
include hq ht

theorem State.popIndex_empty (hx : x.lines = []) : s.popIndex = { s with acq := { s.acq with queue := r } } := by
  simp only [State.popIndex, hq, ht, hx, Bool.false_eq_true, if_false]

/-- The oldest entry of the oldest item is written as a whole line (R299). -/
theorem State.popIndex_entry {e : Nat × Nat} {l : List (Nat × Nat)} (hx : x.lines = e :: l) :
    s.popIndex = ({ s with acq := { s.acq with
      queue := if l.isEmpty then r else { x with lines := l } :: r } }).writeLine 1 e.1 e.2 := by
  simp only [State.popIndex, hq, ht, hx, Bool.false_eq_true, if_false]

end Index

section Stop

variable {d : Desc}

theorem exec_acqStop_starts {r : Fin 64} (h : s.starts r 0x02 d = true) :
    exec (.acqStop r) s = .next (s.keep ((s.begin r d).acqStop d.begun)) := s.act_start _ h

theorem State.acqStop_bad (h : 4 ≤ d.context ∨ d.reservedClear 2 [(2, 1)] = false) :
    s.acqStop d = s.finish d .badDescriptor [] := by
  refine if_pos ?_
  rcases h with h | h
  · have hb : Nat.blt 3 d.context = true := by rw [Nat.blt_eq]; omega
    rw [hb, Bool.true_or]
  · rw [h, Bool.not_false, Bool.or_true]

/-- The phase of its context decides what a well-formed ACQ_STOP does (R302, R321). -/
theorem State.acqStop_phase (h : d.context < 4 ∧ d.reservedClear 2 [(2, 1)] = true) :
    s.acqStop d = match (s.ctx d.context).phase with
      | .idle => s.finish d .ok [0]
      | .pending => ((s.setCtx d.context { s.ctx d.context with stops := (s.ctx d.context).stops ++ [d.seq] }).armCancel
          d.context .truncated).twinWithdraw d.context 3
      | .armed => if s.fld (F.ACQ_AC_STAT.OWNER d.context) != s.ringOwner d.ring then s.finish d .badDescriptor []
          else (s.setCtx d.context { s.ctx d.context with stops := (s.ctx d.context).stops ++ [d.seq] }).stopRequest
            d.context (if d.f 2 0 1 = 1 then 7 else 2) := by
  have hb : Nat.blt 3 d.context = false := by
    rw [Bool.eq_false_iff, ne_eq, Nat.blt_eq]; omega
  refine if_neg ?_
  rw [hb, h.2]
  decide

theorem exec_acqCtlEnClear (n : Fin 4) (h : s.runs = true) (hr : s.reachable (R.ACQ_AC_CTL n) = true) :
    exec (.acqCtlEnClear n) s = .next (s.keep (s.acqCtlWrite n (s.reg (R.ACQ_AC_CTL n) &&& 0xFFFFFFFE#32))) :=
  (s.act_running _ h).trans (by rw [s.atReg_reachable _ hr])

/-- The command writes EN=0. -/
theorem getBits_enClear (v : Word) : getBits (v &&& 0xFFFFFFFE#32) 0 1 = 0 := by
  have : (v &&& 0xFFFFFFFE#32).extractLsb' 0 1 = 0#1 := by
    refine BitVec.eq_of_getLsbD_eq (fun i hi => ?_)
    have h0 : i = 0 := by omega
    subst h0
    simp
  rw [getBits, this]; rfl

theorem State.acqCtlWrite_off {v : Word} (hv : getBits v 0 1 = 0) (hu : s.plainWrite (R.ACQ_AC_CTL n) v = u) :
    s.acqCtlWrite n v = if u.armed n then u.stopRequest n 3 else u.stopCtx n 3 := by
  subst hu
  exact if_pos hv

theorem exec_writeBufferReserve (h : s.runs = true) :
    exec .writeBufferReserve s = .next (s.keep (if 53248 ≤ s.occupancy then s.reserveStop else s)) := s.act_running _ h

end Stop

end Lemmas

/-- Settles O34: the oldest open segment, its number and the stop under way decide a close; the oldest item of the index queue
decides what is written. -/
theorem segmentsAndEntries : Obligations.SegmentsAndEntries := by
  unfold Obligations.SegmentsAndEntries
  refine ⟨?close, ?waits, ?entry, ?noEntry, ?ends⟩
  case close =>
    rintro s u v w n g rest hs ⟨hg, hp⟩ hu hv hw
    rw [exec_segmentClose n hs, State.segClose_packed hg hp hu hv hw]
    refine ⟨fun h0 => ?_, fun h0 h1 => ?_, fun h0 h1 h2 => ?_, fun h0 h1 h2 => ?_⟩
    · rw [if_pos h0]
    · rw [if_neg h0, if_pos h1]
    · rw [if_neg h0, if_neg h1, if_pos (by simp [h2])]
    · rw [if_neg h0, if_neg h1, if_neg (by rcases h2 with h2 | h2 <;> simp [h2])]
  case waits => exact fun s n hs h => by rw [exec_segmentClose n hs, State.segClose_waits h]
  case entry =>
    rintro s u x r e l hs ⟨hq, hx, ht⟩ rfl
    refine ⟨?_, fun i hi => ?_, fun i hl hi => ?_⟩
    · rw [exec_indexEntryWrite hs, State.popIndex_entry hq ht hx]
    · exact State.byteAt_writeLine_out _ _ _ _ i hi
    · exact State.byteAt_writeLine_in _ _ _ _ i hl hi
  case noEntry =>
    intro s hs
    rw [exec_indexEntryWrite hs]
    exact ⟨fun h => by rw [State.popIndex_waits h], fun x r hq hx ht => by rw [State.popIndex_empty hq ht hx]⟩
  case ends =>
    intro s n row e cyc h
    rw [State.tryEnd_ending h]
    refine ⟨fun hc hd ht => if_pos (by simp [hc, hd, ht]), fun hn => if_neg ?_⟩
    simp only [Bool.and_eq_true, Nat.blt_eq, Bool.not_eq_true', not_and]
    rcases hn with hc | hd | ht
    · exact fun h => absurd h.1 (by omega)
    · exact fun h => absurd (hd.symm.trans h.2) Bool.false_ne_true
    · exact fun _ => by simp [ht]

/-- Settles O35: the descriptor's form and the phase of its context decide an ACQ_STOP, whether it is armed a clearing of EN,
the occupancy a stop for want of room. -/
theorem acquisitionStops : Obligations.AcquisitionStops := by
  unfold Obligations.AcquisitionStops
  refine ⟨?stop, ?bad, ?disable, ?reserve⟩
  case stop =>
    rintro s u r d hs rfl hd
    rw [exec_acqStop_starts hs, State.acqStop_phase hd]
    refine ⟨fun hi => by rw [hi], fun hp => by rw [hp]; rfl, fun ha ho => ?_, fun ha ho => ?_⟩
    · rw [ha]
      dsimp only
      rw [if_neg (by simpa [Desc.begun] using ho)]
      rfl
    · rw [ha]
      dsimp only
      rw [if_pos (by simpa [Desc.begun] using ho)]
  case bad => exact fun s r d hs h => by rw [exec_acqStop_starts hs, State.acqStop_bad h]
  case disable =>
    intro s u n hs hr hu
    rw [exec_acqCtlEnClear n hs hr, State.acqCtlWrite_off (getBits_enClear _) hu]
  case reserve =>
    intro s hs
    rw [exec_writeBufferReserve hs]
    exact ⟨fun h => by rw [if_pos h], fun h => by rw [if_neg (by omega)]⟩

end Sys2Proof.Machine
end

section
/-!
PROOFS. Hash masks, partitions, panics and command slots of capture memory (R284, R285, R350, R357, R358).
-/
namespace Sys2Proof.Machine

section Lemmas

variable {s u : State}

section Writes

theorem exec_memHashWrite (j : Fin 10) (v : Word) (h : s.runs = true) (hr : s.reachable (hashFld j).off = true) :
    exec (.memHashWrite j v) s = .next (s.keep (s.hashWrite j v)) :=
  (s.act_running _ h).trans (by rw [s.atReg_reachable _ hr])

/-- The masks stay while a partition is valid (R350). -/
theorem State.hashWrite_eq {j : Nat} {v : Word} : s.hashWrite j v =
    if (List.range 16).any s.ptValid then s.setFlag F.MEM_STAT.HASH_DISCARD true
    else (s.setFld (hashFld j) (getBits v 0 20)).showXlate := rfl

theorem exec_memPtWrite (k : Fin 16) (r : Fin 3) (v : Word) (h : s.runs = true)
    (hr : s.reachable (R.MEM_PT_BASE k) = true) : exec (.memPtWrite k r v) s = .next (s.keep (s.ptWrite k r v)) :=
  (s.act_running _ h).trans (by rw [s.atReg_reachable _ hr])

section Partition

variable {k r : Nat} {v : Word}

theorem State.ptWrite_inUse (h : s.ptInUse k = true) : s.ptWrite k r v = s := if_pos h

variable (hi : s.ptInUse k = false) (hu : s.plainWrite (R.MEM_PT_BASE k + 4 * r) v = u)
include hi hu

/-- A write that leaves the partition invalid, or meets R284, is accepted (R284, R285). -/
theorem State.ptWrite_accepted
    (h : u.ptValid k = false ∨ s.ptGood k (u.ptBase k) (u.ptLen k) (u.reg (R.MEM_PT_CFG k)).toNat = true) :
    s.ptWrite k r v = u.showSpill := by
  subst hu
  simp only [State.ptWrite, hi, Bool.false_eq_true, if_false]
  rcases h with h | h
  · simp [h]
  · simp [h]

/-- One that breaks R284 sets ERR; only an invalid partition takes what it writes (R284). -/
theorem State.ptWrite_broken (hv : u.ptValid k = true)
    (hg : s.ptGood k (u.ptBase k) (u.ptLen k) (u.reg (R.MEM_PT_CFG k)).toNat = false) :
    s.ptWrite k r v = (if s.ptValid k then s else u.setFlag (F.MEM_PT_CFG.VALID k) false).setFlag
      (F.MEM_PT_CFG.ERR k) true := by
  subst hu
  simp only [State.ptWrite, hi, hv, hg, Bool.false_eq_true, if_false, Bool.not_true]
  split <;> rfl

end Partition

end Writes

section Panic

variable {p : Nat} {m : Option Nat}

theorem exec_portPanic (p : Fin 8) (m : Option Nat) (h : s.runs = true) :
    exec (.portPanic p m) s = .next (s.keep (s.portPanic p m)) := s.act_running _ h

theorem State.portPanic_ends (h : s.mustPanic p m = false) :
    s.portPanic p m = s.setFlag (F.MEM_PORT_STAT.PANIC p) false := by
  simp [State.portPanic, h]

theorem State.portPanic_goesOn (h : s.mustPanic p m = true) (hp : s.panics p = true) : s.portPanic p m = s := by
  simp [State.portPanic, h, hp]

theorem State.portPanic_starts (h : s.mustPanic p m = true) (hp : s.panics p = false)
    (hu : (s.setFlag (F.MEM_PORT_STAT.PANIC p) true).bump (R.MEM_PORT_PANICS p) = u) :
    s.portPanic p m = if p < 4 then u.raiseOnce (F.MEM_PORT_STAT.PANIC_SEEN p) 206 p routePF else u := by
  subst hu
  simp [State.portPanic, h, hp]

/-- When a port is to panic (R357). -/
theorem State.mustPanic_iff : s.mustPanic p m = true ↔
    p ≠ 7 ∧ s.flag (F.MEM_PORT_CTL.PANIC_EN p) = true ∧ ∃ x, m = some x ∧
      (if p = 2 ∨ p = 3 then x < s.fld (F.MEM_PORT_CTL.PANIC_THR p) else s.fld (F.MEM_PORT_CTL.PANIC_THR p) ≤ x) := by
  cases m with
  | none => simp [State.mustPanic]
  | some x =>
    simp only [State.mustPanic, Bool.and_eq_true, bne_iff_ne, ne_eq, Option.some.injEq, exists_eq_left', and_assoc,
      Bool.or_eq_true, decide_eq_true_eq]
    split <;> simp

end Panic

section Slot

variable {pc wait : Nat}

theorem exec_commandSlot (pc : Fin 64) (wait : Nat) (h : s.runs = true) :
    exec (.commandSlot pc wait) s = .next (s.keep (if s.clk.memNext.isSome then s else s.commandSlot pc wait)) :=
  s.act_running _ h

theorem State.commandSlot_inactive (h : s.memActive = false) : s.commandSlot pc wait = s := by
  simp [State.commandSlot, h]

/-- The work that a command slot of a PC finds in the classes of Table 14.5 (R358): a bank over its limit, a panicking
real-time port, a panicking port, a due bank that no request is for, the round of the ports, and a due bank. -/
structure SlotWork where
  ov : Option Nat
  rt : Option Nat
  anyp : Option Nat
  idle : Option Nat
  round : Option (Nat × State)
  due : Option Nat

def State.slotWork (s : State) (pc : Nat) : SlotWork where
  ov := (List.range 48).find? (fun b => Nat.blt (s.fld (limitFld (pc / 32))) (s.refCount pc b))
  rt := s.firstPort ((s.portsFor pc).filter (fun p => Nat.blt p 4 && s.panics p))
  anyp := s.firstPort ((s.portsFor pc).filter s.panics)
  idle := (List.range 48).find? (fun b => s.refCount pc b != 0 &&
    !(((s.bufferedLines.map (·.1) ++ s.mem.reads.map (·.line)).filterMap (fun l =>
      if s.pcOf l == pc then some (s.bank48 l) else none)).contains b))
  round := s.roundPort pc (s.portsFor pc)
  due := (List.range 48).find? (fun b => s.refCount pc b != 0)

/-- The first class that has work is served (R358). -/
def State.serve (s : State) (w : SlotWork) (pc wait : Nat) : State :=
  match w.ov, w.rt, w.anyp, w.idle, w.round, w.due with
  | some b, _, _, _, _, _ => s.refreshBank pc b
  | none, some p, _, _, _, _ => s.issue pc p wait
  | none, none, some p, _, _, _ => s.issue pc p wait
  | none, none, none, some b, _, _ => s.refreshBank pc b
  | none, none, none, none, some r, _ => r.2.issue pc r.1 wait
  | none, none, none, none, none, some b => s.refreshBank pc b
  | none, none, none, none, none, none => s

theorem State.commandSlot_active (h : s.memActive = true) : s.commandSlot pc wait = s.serve (s.slotWork pc) pc wait := by
  unfold State.commandSlot
  rw [if_neg (by simp [h])]
  rcases hw : s.slotWork pc with ⟨ov, rt, anyp, idle, round, due⟩
  simp only [State.slotWork, SlotWork.mk.injEq] at hw
  obtain ⟨hov, hrt, hany, hidle, hround, hdue⟩ := hw
  simp only [hov, hrt, hany, hidle, hround, hdue]
  cases ov with
  | some b => rfl
  | none =>
  cases rt with
  | some p => rfl
  | none =>
  cases anyp with
  | some p => rfl
  | none =>
  cases idle with
  | some b => rfl
  | none =>
  cases round with
  | some r => rfl
  | none =>
  cases due with
  | some b => rfl
  | none => rfl

/-- A port issues its oldest write of the PC (R351, R358). -/
theorem State.issue_write {p : Nat} {slots : List WbSlot} {e : Nat × Nat}
    (he : (s.waitingLines pc).find? (fun e => e.2 == p) = some e)
    (hs : (s.mem.slots.foldl (fun (a : List WbSlot × Bool) x =>
      if !a.2 && x.group == e.1 / 16 && x.lines.contains (e.1 % 16, p) then
        (a.1 ++ [{ x with lines := x.lines.filter (fun y => y != (e.1 % 16, p)), draining := true }], true)
      else (a.1 ++ [x], a.2)) ([], false)).1.filter (fun x => !x.lines.isEmpty) = slots) :
    s.issue pc p wait =
      ((({ s with mem := { s.mem with slots := slots } }).showOcc.noteWait p wait).admitLines 16).admitBulk 64 := by
  subst hs
  simp only [State.issue, he]

/-- Without a write it issues its oldest read. -/
theorem State.issue_read {p : Nat} {r : MemRead} (he : (s.waitingLines pc).find? (fun e => e.2 == p) = none)
    (hr : (s.waitingReads pc).find? (fun r => r.port == p) = some r) :
    s.issue pc p wait = (({ s with mem := { s.mem with reads := s.mem.reads.erase r } }).noteWait p wait).readDone r := by
  simp only [State.issue, he, hr]

end Slot

end Lemmas

/-- Settles O41: valid partitions decide a write of a hash mask, the partition's state one of its registers, the port's measure
a panic, and the first class of Table 14.5 with work a command slot. -/
theorem memoryConfiguration : Obligations.MemoryConfiguration := by
  unfold Obligations.MemoryConfiguration
  refine ⟨?hash, ?partition, ?panic, ?slot, ?write, ?read⟩
  case hash =>
    intro s j v hs hr
    rw [exec_memHashWrite j v hs hr, State.hashWrite_eq]
    exact ⟨fun h => by rw [if_pos h], fun h => by rw [if_neg (Bool.eq_false_iff.mp h)]⟩
  case partition =>
    rintro s u k r v good hs hr hu rfl
    rw [exec_memPtWrite k r v hs hr]
    refine ⟨fun hi => ?_, fun hi h => ?_, fun hi hv hg ho => ?_, fun hi hv hg ho => ?_⟩
    · rw [State.ptWrite_inUse hi]
    · rw [State.ptWrite_accepted hi hu h]
    · rw [State.ptWrite_broken hi hu hv hg, if_pos ho]
    · rw [State.ptWrite_broken hi hu hv hg, if_neg (Bool.eq_false_iff.mp ho)]
  case panic =>
    intro s u p m hs hu
    rw [exec_portPanic p m hs]
    exact ⟨fun h => by rw [State.portPanic_ends h], fun h hp => by rw [State.portPanic_starts h hp hu],
      fun h hp => by rw [State.portPanic_goesOn h hp], State.mustPanic_iff⟩
  case slot =>
    rintro s pc wait ov rt anyp idle due round busy hs rfl ⟨rfl, rfl⟩ rfl ⟨rfl, rfl⟩ rfl
    rw [exec_commandSlot pc wait hs]
    refine ⟨fun hn ha => ?_, fun h => ?_⟩
    · rw [hn, if_neg (by decide), State.commandSlot_active ha]
      rfl
    · rcases h with hn | ha
      · rw [if_pos (Option.isSome_iff_ne_none.mpr hn)]
      · rw [State.commandSlot_inactive ha, ite_self]
  case write => exact fun s pc p wait slots e he hs => State.issue_write he hs
  case read => exact fun s pc p wait r he hr => State.issue_read he hr

end Sys2Proof.Machine
end

section
/-!
PROOFS. Refresh, temperature, self-refresh, retraining and the error log of capture memory (R361 to R375).
-/
namespace Sys2Proof.Machine

section Lemmas

variable {s u v w : State}

section Commands

variable (h : s.runs = true)
include h

theorem exec_refreshInterval (k : Fin 2) : exec (.refreshInterval k) s = .next (s.keep (s.refreshInterval k)) :=
  s.act_running _ h

theorem exec_stackTempRead (k : Fin 2) (x : BitVec 8) :
    exec (.stackTempRead k x) s = .next (s.keep (s.stackTemp k x.toNat)) := s.act_running _ h

theorem exec_selfRefreshEntry : exec .selfRefreshEntry s = .next (s.keep s.selfRefreshEntry) := s.act_running _ h

theorem exec_selfRefreshExit : exec .selfRefreshExit s = .next (s.keep s.selfRefreshExit) := s.act_running _ h

theorem exec_retrainStep (found : Option Int) : exec (.retrainStep found) s = .next (s.keep (s.retrainStep found)) :=
  s.act_running _ h

theorem exec_loadOffsetRetrain (found : List (Option Int)) :
    exec (.loadOffsetRetrain found) s = .next (s.keep (s.offsetTrain found)) := s.act_running _ h

theorem exec_hbmEccCorrected (l : Nat) (p : Fin 8) (wd : Fin 4) (sy : BitVec 8) :
    exec (.hbmEccCorrected l p wd sy) s = .next (s.keep (s.eccCorrected l p wd sy.toNat)) := s.act_running _ h

theorem exec_hbmEccUncorrectable (l : Nat) (p : Fin 8) (wd : Fin 4) (sy : BitVec 8) :
    exec (.hbmEccUncorrectable l p wd sy) s = .next (s.keep (s.eccUncorrectable l p wd sy.toNat)) := s.act_running _ h

end Commands

section Refresh

variable {k : Nat}

/-- No count rises in self-refresh (R361, R365). -/
theorem State.refreshInterval_inactive (h : s.memActive = false) : s.refreshInterval k = s :=
  if_neg (Bool.eq_false_iff.mp h)

theorem State.refreshInterval_active (h : s.memActive = true)
    (hu : { s with mem := { s.mem with
      refBase := SMap.set zero s.mem.refBase k (SMap.get zero s.mem.refBase k + 1) } } = u) :
    s.refreshInterval k = (if u.fld (maxoutFld k) < satNat 15 (u.refMax k) then
      u.setFld (maxoutFld k) (satNat 15 (u.refMax k)) else u).checkCatchup k := by
  subst hu
  exact if_pos h

section Temp

variable {x : Nat} (hu : s.setFld (tempFld k) x = u)
include hu

/-- Above 85 degrees a stack becomes hot, below 82 normal again (R362). -/
theorem State.stackTemp_eq : s.stackTemp k x =
    if !(u.flag (hotFld k)) && decide (85 < signed 8 x) then
      (((u.setFlag (hotFld k) true).setFld (limitFld k) 4).raisePF 199 (k + 2)).checkCatchup k
    else if u.flag (hotFld k) && decide (signed 8 x < 82) then
      ((u.setFlag (hotFld k) false).setFld (limitFld k) 8).raisePF 199 k
    else u := by
  subst hu; rfl

theorem State.stackTemp_hot (hf : u.flag (hotFld k) = false) (hx : 85 < signed 8 x) :
    s.stackTemp k x = (((u.setFlag (hotFld k) true).setFld (limitFld k) 4).raisePF 199 (k + 2)).checkCatchup k := by
  rw [State.stackTemp_eq hu, if_pos (by simp [hf, hx])]

theorem State.stackTemp_normal (hf : u.flag (hotFld k) = true) (hx : signed 8 x < 82) :
    s.stackTemp k x = ((u.setFlag (hotFld k) false).setFld (limitFld k) 8).raisePF 199 k := by
  rw [State.stackTemp_eq hu, if_neg (by simp [hf]), if_pos (by simp [hf, hx])]

theorem State.stackTemp_stays
    (h : (u.flag (hotFld k) = false ∧ signed 8 x ≤ 85) ∨ (u.flag (hotFld k) = true ∧ 82 ≤ signed 8 x)) :
    s.stackTemp k x = u := by
  rw [State.stackTemp_eq hu]
  rcases h with ⟨hf, hx⟩ | ⟨hf, hx⟩
  · rw [if_neg (by simp [hf, hx]), if_neg (by simp [hf])]
  · rw [if_neg (by simp [hf]), if_neg (by simp [hf, hx])]

end Temp

/-- The idle conditions of R365 decide the entry. -/
theorem State.selfRefreshEntry_eq : s.selfRefreshEntry =
    if s.flag F.MEM_CTL.SR_AUTO && s.memActive && !s.anyArmed && !s.playing && !s.memRequested
      && !(s.flag F.CLK_STAT.RATE_CHANGING) then s.enterSelfRefresh 0 else s := rfl

theorem State.selfRefreshExit_leaves (h : s.flag F.MEM_STAT.SR = true) (hf : s.flag F.MEM_STAT.SR_FAULT = false) :
    s.selfRefreshExit = s.leaveSelfRefresh := if_pos (by simp [h, hf])

/-- A fault self-refresh ends otherwise (R372). -/
theorem State.selfRefreshExit_stays (h : s.flag F.MEM_STAT.SR = false ∨ s.flag F.MEM_STAT.SR_FAULT = true) :
    s.selfRefreshExit = s := if_neg (by rcases h with h | h <;> simp [h])

end Refresh

section Training

/-- When retraining may run (R88, R369, R370). -/
theorem State.canTrain_iff : s.canTrain = true ↔ s.memActive = true ∧ s.clk.memNext = none ∧
    s.flag F.CLK_STAT.MEM_BACKUP = false ∧
      ¬(s.flag F.CLK_STAT.BYPASS = true ∧ s.flag F.MEM_STAT.SR_FAULT = true) ∧ ∃ k, s.spill = some k := by
  simp [State.canTrain, and_assoc, Option.isSome_iff_exists, or_iff_not_imp_left]

section Step

variable {found : Option Int} {pc : Nat}

theorem State.retrainStep_off (h : s.canTrain = false ∨ s.flag F.MEM_CTL.RETRAIN_EN = false ∨ s.mem.offsetPc ≠ none) :
    s.retrainStep found = s := by
  refine if_pos ?_
  rcases h with h | h | h
  · simp [h]
  · simp [h]
  · simp [Option.isSome_iff_ne_none.mpr h]

/-- The state once a retraining step has its result (R369, R370). -/
def State.stepResult (s : State) (found : Option Int) (pc c : Nat) : State :=
  match found with
  | some x => s.trainSet pc c x
  | none => s.trainFail pc

variable (ht : s.canTrain = true) (he : s.flag F.MEM_CTL.RETRAIN_EN = true) (ho : s.mem.offsetPc = none)
  (hpc : s.mem.trnPc.getD s.nextPc = pc)
include ht he ho hpc

/-- A step waits for the rows of Table 14.5 above its own (R358). -/
theorem State.retrainStep_on : s.retrainStep found =
    if s.stepWaits pc then s
    else
      let u := if s.mem.trnPc.isNone && pc == s.fld F.MEM_TRN_STAT.NEXT_PC then
        s.setFld F.MEM_TRN_STAT.NEXT_PC (pc + 1) else s
      let v := (({ u with mem := { u.mem with trnPc := some pc, trnStep := s.mem.trnStep + 1 } }).testLine pc
        s.mem.trnStep).stepResult found pc s.mem.trnStep
      if s.mem.trnStep + 1 = 32 then v.trainDone pc else v := by
  subst hpc
  unfold State.retrainStep
  rw [if_neg (by simp [ht, he, ho])]
  cases found <;> rfl

end Step

theorem State.offsetTrain_off {found : List (Option Int)} (h : s.mem.offsetPc = none ∨ s.canTrain = false) :
    s.offsetTrain found = s := by
  unfold State.offsetTrain
  split
  · rfl
  · rename_i pc hpc
    rw [if_pos]
    rcases h with h | h
    · rw [hpc] at h; cases h
    · rw [h]; rfl

/-- One PC after another learns its load offsets (R371). -/
theorem State.offsetTrain_on {found : List (Option Int)} {pc : Nat} (hpc : s.mem.offsetPc = some pc)
    (ht : s.canTrain = true)
    (hu : (s.each (List.range 32) (fun t c => match found.getD c none with
      | some x => (t.testLine pc c).offsetSet pc c x
      | none => (t.testLine pc c).trainFail pc)).trainDone pc = u) :
    s.offsetTrain found =
      if pc < 63 then { u with mem := { u.mem with offsetPc := some (pc + 1) } }
      else ({ u with mem := { u.mem with offsetPc := none } }).setFlag F.MEM_STAT.OFFSETS true := by
  subst hu
  unfold State.offsetTrain
  rw [hpc]
  exact if_neg (by simp [ht])

end Training

section Errors

variable {l p wd sy : Nat} (hl : l < memLines)
include hl

/-- A corrected error raises E196 once in a millisecond (R373), and its line may be written back. -/
theorem State.eccCorrected_eq (hu : (s.bumpSat F.MEM_ECC_CE.V 1).eccLog false l p wd sy = u)
    (hv : (if (match u.mem.eccAt with
        | some t => decide (t + millisecond ≤ u.time.elapsed)
        | none => true) then
      ({ u with mem := { u.mem with eccAt := some u.time.elapsed } }).raisePF 196 l else u) = v)
    (hw : v.fault 0x0007 (s.pcOf l) = w) :
    s.eccCorrected l p wd sy = if w.flag F.MEM_CTL.ECC_WB && !(w.inBuffer l) then w.buffer l 7 else w := by
  subst hu hv hw
  exact if_neg (by omega)

/-- An uncorrectable line is poison (R374). -/
theorem State.eccUncorrectable_eq (hu : ((s.bumpSat F.MEM_ECC_UE.V 1).raisePF 197 l).eccLog true l p wd sy = u) :
    s.eccUncorrectable l p wd sy = (if u.poisoned l then u
      else { u with mem := { u.mem with poison := u.place l :: u.mem.poison } }).fault 0x0105 (s.pcOf l) := by
  subst hu
  exact if_neg (by omega)

end Errors

end Lemmas

/-- Settles O42: whether the stacks are active decides an interval, the reading and the stack's state a temperature, the
conditions of R365 self-refresh, and whether retraining may run, and need not wait, a step. -/
theorem refreshAndTraining : Obligations.RefreshAndTraining := by
  unfold Obligations.RefreshAndTraining
  refine ⟨?interval, ?temp, ?entry, ?exit, ?step, ?noStep, ?offset, ?corrected, ?uncorrectable⟩
  case interval =>
    intro s u k hs hu
    rw [exec_refreshInterval hs]
    exact ⟨fun h => by rw [State.refreshInterval_active h hu], fun h => by rw [State.refreshInterval_inactive h]⟩
  case temp =>
    intro s u k x hs hu
    rw [exec_stackTempRead hs]
    exact ⟨fun hf hx => by rw [State.stackTemp_hot hu hf hx], fun hf hx => by rw [State.stackTemp_normal hu hf hx],
      fun h => by rw [State.stackTemp_stays hu h]⟩
  case entry =>
    rintro s idle hs rfl
    rw [exec_selfRefreshEntry hs, State.selfRefreshEntry_eq]
    exact ⟨fun h => by rw [if_pos h]; rfl, fun h => by rw [if_neg (Bool.eq_false_iff.mp h)]⟩
  case exit =>
    intro s hs
    rw [exec_selfRefreshExit hs]
    exact ⟨fun h hf => by rw [State.selfRefreshExit_leaves h hf]; rfl, fun h => by rw [State.selfRefreshExit_stays h]⟩
  case step =>
    rintro s u v found pc hs ⟨ht, he, ho⟩ ⟨hpc, hw⟩ rfl rfl
    rw [exec_retrainStep hs, State.retrainStep_on ht he ho hpc, if_neg (Bool.eq_false_iff.mp hw)]
    cases found <;> rfl
  case noStep =>
    intro s found l hs
    rw [exec_retrainStep hs, exec_loadOffsetRetrain hs]
    refine ⟨fun h => ?_, fun h => by rw [State.offsetTrain_off h], State.canTrain_iff⟩
    by_cases hoff : s.canTrain = false ∨ s.flag F.MEM_CTL.RETRAIN_EN = false ∨ s.mem.offsetPc ≠ none
    · rw [State.retrainStep_off hoff]
    · simp only [not_or, Bool.not_eq_false, ne_eq, not_not] at hoff
      obtain ⟨ht, he, ho⟩ := hoff
      have hw : s.stepWaits (s.mem.trnPc.getD s.nextPc) = true := by simpa [ht, he, ho] using h
      rw [State.retrainStep_on ht he ho rfl, if_pos hw]
  case offset =>
    rintro s u found pc hs ⟨hpc, ht⟩ hu
    rw [exec_loadOffsetRetrain hs, State.offsetTrain_on hpc ht hu]
  case corrected =>
    intro s u v w l p wd sy hs hl hu hv hw
    rw [exec_hbmEccCorrected hs, State.eccCorrected_eq hl hu hv hw]
  case uncorrectable =>
    intro s u l p wd sy hs hl hu
    rw [exec_hbmEccUncorrectable hs, State.eccUncorrectable_eq hl hu]

end Sys2Proof.Machine
end

section
/-!
PROOFS. The descriptors of the accumulation pans (Table 13.6, R338 to R345).
-/
namespace Sys2Proof.Machine

section Lemmas

variable {s : State} {d : Desc}

section Commands

variable {r : Fin 64}

theorem exec_panAttach (h : s.starts r 0x31 d = true) :
    exec (.panAttach r) s = .next (s.keep ((s.begin r d).panAttach d.begun)) := s.act_start _ h

theorem exec_panSwap (h : s.starts r 0x32 d = true) :
    exec (.panSwap r) s = .next (s.keep ((s.begin r d).panSwap d.begun)) := s.act_start _ h

theorem exec_panDetach (h : s.starts r 0x34 d = true) :
    exec (.panDetach r) s = .next (s.keep ((s.begin r d).panDetach d.begun)) := s.act_start _ h

theorem exec_panHarvest (h : s.starts r 0x33 d = true) :
    exec (.panHarvest r) s = .next (s.keep ((s.begin r d).panHarvest d.begun)) := s.act_start _ h

theorem exec_panClear (h : s.starts r 0x35 d = true) :
    exec (.panClear r) s = .next (s.keep ((s.begin r d).panClear d.begun)) := s.act_start _ h

theorem exec_panSelftest (h : s.starts r 0x36 d = true) :
    exec (.panSelftest r) s = .next (s.keep ((s.begin r d).panTest d.begun)) := s.act_start _ h

end Commands

section Attach

theorem State.panAttach_refused {st : Status} (h : s.attachStatus d = some st) : s.panAttach d = s.finish d st [] := by
  unfold State.panAttach
  rw [h]

variable (h : s.attachStatus d = none)
include h

theorem State.panAttach_free (hg : s.gang (d.f 2 0 3) = none) :
    s.panAttach d = (s.assign (d.f 2 0 3) (d.f 2 4 2) (s.ringOwner d.ring) d.context d.asg true {}).finish d .ok
      [BitVec.ofNat 32 ((s.assign (d.f 2 0 3) (d.f 2 4 2) (s.ringOwner d.ring) d.context d.asg true {}).fld
        (F.PAN_STAT.PEPOCH (d.f 2 0 3)))] := by
  unfold State.panAttach
  rw [h]
  dsimp only
  rw [hg]

variable {g : Gang} (hg : s.gang (d.f 2 0 3) = some g)
include hg

/-- A gang that is attached, or awaits a migration, migrates; a detached one is assigned at once (R338, R339). -/
theorem State.panAttach_owned : s.panAttach d =
    if g.attached || !g.migrate.isEmpty then
      (s.setGang (d.f 2 0 3) (some { g with
        migrate := g.migrate ++ [⟨d.context, d.asg, d.seq, s.time.cycle, true⟩] })).closeFilling (d.f 2 0 3) 3
    else (s.assign (d.f 2 0 3) (d.f 2 4 2) g.owner d.context d.asg true g).finish d .ok
      [BitVec.ofNat 32 ((s.assign (d.f 2 0 3) (d.f 2 4 2) g.owner d.context d.asg true g).fld
        (F.PAN_STAT.PEPOCH (d.f 2 0 3)))] := by
  unfold State.panAttach
  rw [h]
  dsimp only
  rw [hg]

end Attach

section Swap

variable {bad : Bool}
  (hb : (!(d.reservedClear 2 [(2, 0x37)]) || s.gangBad d (d.f 2 0 3) (d.f 2 4 2) || d.context != 15) = bad)
include hb

theorem State.panSwap_bad (h : bad = true) : s.panSwap d = s.finish d .badDescriptor [] := if_pos (hb.trans h)

/-- A swap acts on the FILLING buffer of the gang it names (R341). -/
theorem State.panSwap_good (h : bad = false) :
    s.panSwap d = match s.namedGang (d.f 2 0 3) (d.f 2 4 2), s.filling (d.f 2 0 3) with
      | some g, some b => (s.setGang (d.f 2 0 3) (some { g with swaps := g.swaps ++ [(d.seq, b)] })).closeBuf
          (d.f 2 0 3) b 0
      | _, _ => s.finish d .ok [0xFFFFFFFF, 0] := if_neg (Bool.eq_false_iff.mp (hb.trans h))

theorem State.panSwap_closes {g : Gang} {b : Nat} (h : bad = false)
    (hg : s.namedGang (d.f 2 0 3) (d.f 2 4 2) = some g) (hf : s.filling (d.f 2 0 3) = some b) :
    s.panSwap d = (s.setGang (d.f 2 0 3) (some { g with swaps := g.swaps ++ [(d.seq, b)] })).closeBuf
      (d.f 2 0 3) b 0 := by
  rw [State.panSwap_good hb h, hg, hf]

theorem State.panSwap_nothing (h : bad = false)
    (hn : s.namedGang (d.f 2 0 3) (d.f 2 4 2) = none ∨ s.filling (d.f 2 0 3) = none) :
    s.panSwap d = s.finish d .ok [0xFFFFFFFF, 0] := by
  rw [State.panSwap_good hb h]
  rcases hn with hn | hn
  · rw [hn]
  · rw [hn]; cases s.namedGang (d.f 2 0 3) (d.f 2 4 2) <;> rfl

theorem State.panDetach_bad (h : bad = true) : s.panDetach d = s.finish d .badDescriptor [] := if_pos (hb.trans h)

/-- A detach drops what waits of the gang and closes its FILLING buffer (R343). -/
theorem State.panDetach_good (h : bad = false) :
    s.panDetach d = match s.namedGang (d.f 2 0 3) (d.f 2 4 2) with
      | some g => (((s.setGang (d.f 2 0 3) (some { g with
          attached := false, detaches := g.detaches ++ [d.seq],
          migrate := g.migrate.map (fun m => { m with live := false }) })).panFld (d.f 2 0 3) (d.f 2 4 2)
            (fun k => F.PAN_STAT.ATTACHED k) 0).closeFilling (d.f 2 0 3) 4).checkDetach (d.f 2 0 3)
      | none => s.finish d .ok [] := if_neg (Bool.eq_false_iff.mp (hb.trans h))

end Swap

section Harvest

/-- The named buffer does not exist, or is larger than the descriptor allows (Table 13.6, R342). -/
def State.harvestTooBig (s : State) (d : Desc) (g : Gang) : Bool :=
  (d.f 2 8 1 == 1 && !(asgPing g.dw)) || Nat.blt (d.n 6)
    (if s.bufState (d.f 2 0 3) (d.f 2 8 1) = 0 then { g.buf (d.f 2 8 1) with dw := g.dw } else g.buf (d.f 2 8 1)).bytes

theorem State.harvestTooBig_iff {g : Gang} : s.harvestTooBig d g = true ↔ (d.f 2 8 1 = 1 ∧ asgPing g.dw = false) ∨
    d.n 6 < (if s.bufState (d.f 2 0 3) (d.f 2 8 1) = 0 then { g.buf (d.f 2 8 1) with dw := g.dw }
      else g.buf (d.f 2 8 1)).bytes := by
  simp [State.harvestTooBig, -Nat.blt_eq, Nat.blt_eq]

variable {bad : Bool}
  (hb : (!(d.reservedClear 2 [(2, 0x337), (4, 0xFFFFFFFF), (5, 0xFFFFFFFF), (6, 0xFFFFFFFF)])
    || s.gangBad d (d.f 2 0 3) (d.f 2 4 2) || d.context != 15 || dw64 d.dw 4 % 64 != 0) = bad)
include hb

theorem State.panHarvest_bad (h : bad = true) : s.panHarvest d = s.finish d .badDescriptor [] :=
  if_pos (by rw [hb, h, Bool.true_or])

variable (h : bad = false)
include h

theorem State.panHarvest_unnamed (hg : s.namedGang (d.f 2 0 3) (d.f 2 4 2) = none) :
    s.panHarvest d = s.finish d .busy [] := by
  simp only [State.panHarvest, hb, h, hg, Bool.or_self, Bool.false_eq_true, if_false]

variable {g : Gang} (hg : s.namedGang (d.f 2 0 3) (d.f 2 4 2) = some g)
include hg

/-- A well-formed harvest of a gang is refused by its length, waits for nothing, or starts (R342). -/
theorem State.panHarvest_named :
    s.panHarvest d = if s.harvestTooBig d g then s.finish d .badDescriptor []
      else if s.bufBusy (d.f 2 0 3) (d.f 2 4 2) (d.f 2 8 1) then s.finish d .busy []
      else s.setGang (d.f 2 0 3) (some { g with harvests := g.harvests ++ [(d.seq, d.f 2 8 1, d.f 2 9 1 == 1)] }) := by
  simp only [State.panHarvest, hb, h, hg, Bool.false_or]
  rfl

end Harvest

section Clear

variable {bad : Bool}
  (hb : (!(d.reservedClear 2 [(2, 0x137)]) || s.gangBad d (d.f 2 0 3) (d.f 2 4 2) || d.context != 15) = bad)
include hb

theorem State.panClear_bad (h : bad = true) : s.panClear d = s.finish d .badDescriptor [] := if_pos (hb.trans h)

/-- A clear starts on a CLOSED buffer of a named gang that nothing else empties (R344). -/
theorem State.panClear_good (h : bad = false) :
    s.panClear d = match s.namedGang (d.f 2 0 3) (d.f 2 4 2) with
      | some g => if s.bufBusy (d.f 2 0 3) (d.f 2 4 2) (d.f 2 8 1) then s.finish d .busy []
          else s.setGang (d.f 2 0 3) (some { g with clears := g.clears ++ [(d.seq, d.f 2 8 1)] })
      | none => s.finish d .busy [] := if_neg (Bool.eq_false_iff.mp (hb.trans h))

end Clear

/-- A self-test of the PF runs on pans that no gang owns (R345). -/
theorem State.panTest_eq : s.panTest d =
    if !(d.reservedClear 2 [(2, 0xFF)]) || d.context != 15 || s.ringOwner d.ring != 0 then s.finish d .badDescriptor []
    else if (bitsSet (d.f 2 0 8) 8).any s.panOwned then s.finish d .busy []
    else (bitsSet (d.f 2 0 8) 8).foldl (fun t k => t.setFlag (F.PAN_STAT.TESTING k) true)
      { s with pan := { s.pan with tests := s.pan.tests ++ [(d.seq, d.ring, d.f 2 0 8)] } } := rfl

end Lemmas

/-- Settles O39: each descriptor is refused by its rows of Table 13.6, and else acts on the gang it names as that gang's
state asks. -/
theorem panDescriptors : Obligations.PanDescriptors := by
  unfold Obligations.PanDescriptors
  refine ⟨?attach, ?swap, ?detach, ?harvest, ?clear, ?test⟩
  case attach =>
    rintro s u r d f code hs rfl ⟨rfl, rfl⟩
    rw [exec_panAttach hs]
    refine ⟨fun st h => ?_, fun h hg => ?_, fun g h hg hd => ?_, fun g h hg hm => ?_⟩
    · rw [State.panAttach_refused h]
    · rw [State.panAttach_free h hg]; rfl
    · rw [State.panAttach_owned h hg, if_neg (by simp [hd])]
    · rw [State.panAttach_owned h hg, if_pos (by simpa using hm)]; rfl
  case swap =>
    rintro s u r d f bad hs rfl rfl hb
    rw [exec_panSwap hs]
    refine ⟨fun h => ?_, fun g b h hg hf => ?_, fun h hn => ?_⟩
    · rw [State.panSwap_bad hb h]
    · rw [State.panSwap_closes hb h hg hf]; rfl
    · rw [State.panSwap_nothing hb h hn]
  case detach =>
    rintro s u r d f bad hs rfl rfl hb
    rw [exec_panDetach hs]
    refine ⟨fun h => ?_, fun h hg => ?_, fun g h hg => ?_⟩
    · rw [State.panDetach_bad hb h]
    · rw [State.panDetach_good hb h, hg]
    · rw [State.panDetach_good hb h, hg]; rfl
  case harvest =>
    rintro s u r d f code bad hs rfl ⟨rfl, rfl⟩ hb
    rw [exec_panHarvest hs]
    refine ⟨fun h => ?_, fun g h hg hx => ?_, fun g h hg hp hx => ?_, fun h hg => ?_⟩
    · rw [State.panHarvest_bad hb h]
    · rw [State.panHarvest_named hb h hg, if_pos (State.harvestTooBig_iff.mpr hx)]
    · rw [State.panHarvest_named hb h hg, if_neg]
      · rfl
      · rw [State.harvestTooBig_iff]
        rintro (⟨hi, hn⟩ | hlt)
        · rcases hp with hp | hp
          · exact hp hi
          · rw [hp] at hn; exact Bool.noConfusion hn
        · omega
    · rw [State.panHarvest_unnamed hb h hg]
  case clear =>
    rintro s u r d f bad hs rfl rfl hb
    rw [exec_panClear hs]
    refine ⟨fun h => ?_, fun h hn => ?_, fun g h hg hy => ?_⟩
    · rw [State.panClear_bad hb h]
    · rw [State.panClear_good hb h]
      cases hg : State.namedGang (s.begin r d) (d.begun.f 2 0 3) (d.begun.f 2 4 2) with
      | none => rfl
      | some g => exact congrArg (fun t => Host.Outcome.next (s.keep t)) (if_pos (hn.resolve_left (by simp [hg])))
    · rw [State.panClear_good hb h, hg]
      exact congrArg (fun t => Host.Outcome.next (s.keep t)) (if_neg (Bool.eq_false_iff.mp hy))
  case test =>
    rintro s u r d pans bad hs rfl rfl hb
    rw [exec_panSelftest hs, State.panTest_eq]
    change (!(d.begun.reservedClear 2 [(2, 0xFF)]) || d.begun.context != 15 || (s.begin r d).ringOwner d.begun.ring != 0) =
      bad at hb
    refine ⟨fun h => ?_, fun h hp => ?_, fun h hp => ?_⟩
    · rw [if_pos (hb.trans h)]
    · rw [if_neg (Bool.eq_false_iff.mp (hb.trans h)), if_pos hp]
    · rw [if_neg (Bool.eq_false_iff.mp (hb.trans h)), if_neg (Bool.eq_false_iff.mp hp)]; rfl

end Sys2Proof.Machine
end

section
/-!
PROOFS. Passes of the accumulation pans, their harvests, clears and tests, and errors of their cells (R327 to R345, R549).
-/
namespace Sys2Proof.Machine

section Lemmas

variable {s u : State}

section Commands

variable (h : s.runs = true)
include h

theorem exec_panPassComplete (f : Fin 8) (ws : List (BitVec 16)) :
    exec (.panPassComplete f ws) s = .next (s.keep (s.passComplete f ws)) := s.act_running _ h

theorem exec_panHarvestComplete (r : Fin 64) : exec (.panHarvestComplete r) s = .next (s.keep (s.panHarvested r)) :=
  s.act_running _ h

theorem exec_panClearComplete (r : Fin 64) : exec (.panClearComplete r) s = .next (s.keep (s.panCleared r)) :=
  s.act_running _ h

theorem exec_panSelftestComplete (r : Fin 64) (fails : List Nat) :
    exec (.panSelftestComplete r fails) s = .next (s.keep (s.panTestDone r fails)) := s.act_running _ h

theorem exec_panCellEccError (k : Fin 8) (bank : Fin 48) (cell : Fin 43692) (dbl : Bool) :
    exec (.panCellEccError k bank cell dbl) s = .next (s.keep (s.cellError k bank cell dbl)) := s.act_running _ h

end Commands

section Passes

variable {f : Nat} {g : Gang} {ws : List (BitVec 16)}

theorem State.passComplete_oldest {p : Pass} {rest : List Pass} (hg : s.gang f = some g) (hp : g.passes = p :: rest) :
    s.passComplete f ws = ((s.setGang f (some { g with passes := rest })).accumulate f p (asgPoints (g.buf p.buf).dw)
      ws).gangDue f := by
  simp only [State.passComplete, hg, hp]

theorem State.passComplete_none (h : s.gang f = none ∨ ∃ g, s.gang f = some g ∧ g.passes = []) :
    s.passComplete f ws = s := by
  rcases h with hg | ⟨g, hg, hp⟩
  · simp only [State.passComplete, hg]
  · simp only [State.passComplete, hg, hp]

/-- A pass has one word for each point it takes (R329). -/
theorem State.passWords_length (dw : List Word) (t n : Nat) :
    ∀ (s : State) (q : Nat) (ws : List (BitVec 16)), (s.passWords dw t q n ws).1.length = n := by
  induction n with
  | zero => exact fun _ _ _ => rfl
  | succ n ih => exact fun _ _ _ => congrArg (· + 1) (ih _ _ _)

/-- A pass updates the buffer it entered, and counts there when one of its words was degraded (R327, R332). -/
theorem State.accumulate_owned {t : State} {n : Nat} {p : Pass} {l : List Int} (hg : s.gang f = some g)
    (hw : s.passWords (g.buf p.buf).dw p.t 0 n ws = (l, t)) :
    s.accumulate f p n ws = t.setGang f (some (g.setBuf p.buf { (g.buf p.buf).updates 0 l with
      deg := ((g.buf p.buf).updates 0 l).deg + (if s.passDegraded (g.buf p.buf).dw p.t n then 1 else 0) })) := by
  simp only [State.accumulate, hg, hw]

theorem State.migrated_due (hg : s.gang f = some g) (hp : g.passes = []) (hm : ∀ m ∈ g.migrate, m.cycle < s.time.cycle) :
    s.migrated f = g.migrate.foldl (fun t m =>
      (t.assign f g.code g.owner m.ctx m.dw m.live { (t.gang f).getD g with migrate := [] }).finishSeq m.seq .ok
        [BitVec.ofNat 32 ((t.assign f g.code g.owner m.ctx m.dw m.live
          { (t.gang f).getD g with migrate := [] }).fld (F.PAN_STAT.PEPOCH f))]) s := by
  unfold State.migrated
  rw [hg]
  refine if_pos ?_
  simpa [hp] using hm

/-- Migrations wait for the passes of the old assignment, and for their core cycle to pass (R338). -/
theorem State.migrated_waits (hg : s.gang f = some g)
    (h : g.passes ≠ [] ∨ ∃ m ∈ g.migrate, s.time.cycle ≤ m.cycle) : s.migrated f = s := by
  unfold State.migrated
  rw [hg]
  refine if_neg ?_
  rcases h with h | ⟨m, hm, hc⟩
  · simp [h]
  · intro ha
    rw [Bool.and_eq_true, List.all_eq_true] at ha
    have hlt := Nat.blt_eq.mp (ha.2 m hm)
    omega

end Passes

section Cells

variable {b : PanBuf} {q : Nat} {x : Int}

/-- The value that stands for an invalid word is counted only (R327). -/
theorem PanBuf.update_invalid (hx : x = -32768) : b.update q x = { b with inv := satNat (2 ^ 32 - 1) (b.inv + 1) } :=
  if_pos hx

/-- A word is added to the cell of its point, but not to a poisoned one (R327, R328). -/
theorem PanBuf.update_sum (hx : x ≠ -32768) (hm : asgMode b.dw = 0) : b.update q x = { b with
    cells := if SMap.get (clearedCell 0) b.cells q = 0x80000000#32 then b.cells
      else SMap.set (clearedCell 0) b.cells q (SMap.get (clearedCell 0) b.cells q + BitVec.ofInt 32 x) } := by
  unfold PanBuf.update
  rw [hm]
  exact if_neg hx

end Cells

section Harvest

variable {r : Nat} {d : Desc} {f b : Nat} {g : Gang}

theorem State.panHarvested_none (h : s.running r 0x33 = none) : s.panHarvested r = s := by
  simp only [State.panHarvested, h]

/-- A harvest posts its data, completes, and frees its buffer where it clears; without a bus master it waits (R342). -/
theorem State.panHarvested_runs {clear : Bool} {data : List Word} (hd : s.running r 0x33 = some d)
    (hg : s.gangWhere (fun g => g.harvests.any (fun e => e.1 == d.seq)) = some (f, g))
    (he : g.harvests.find? (fun e => e.1 == d.seq) = some (d.seq, b, clear))
    (hx : (g.buf b).header f g.code b ++ (g.buf b).cellList = data)
    (hu : ((((s.postData (s.ringOwner r) (dw64 d.dw 4) data).flushReads (s.ringOwner r) (dw64 d.dw 4)
      (4 * data.length)).setGang f (some { g with harvests := g.harvests.filter (fun e => e.1 != d.seq) })).finish d .ok
        [BitVec.ofNat 32 (g.buf b).bytes]) = u) :
    s.panHarvested r = if !(s.busMasterOn (s.ringOwner r)) then s else if clear then u.freeBuf f b else u := by
  subst hx hu
  simp only [State.panHarvested, hd, hg, he]

theorem State.panCleared_runs {q : Nat} (hd : s.running r 0x35 = some d)
    (hg : s.gangWhere (fun g => g.clears.any (fun e => e.1 == d.seq)) = some (f, g))
    (he : g.clears.find? (fun e => e.1 == d.seq) = some (q, b)) :
    s.panCleared r = ((s.setGang f (some { g with clears := g.clears.filter (fun e => e.1 != d.seq) })).freeBuf f
      b).finish d .ok [] := by
  simp only [State.panCleared, hd, hg, he, Option.map_some, Option.getD_some]

theorem State.panTestDone_runs {fails : List Nat} {q rg m : Nat}
    (h : s.pan.tests.find? (fun e => e.2.1 == r) = some (q, rg, m)) :
    s.panTestDone r fails = (((bitsSet m 8).foldl (fun (t : State) (k : Nat) => t.panTested k (fails.getD k 0))
        { s with pan := { s.pan with tests := s.pan.tests.filter (fun e => e.1 != q) } }).raisePF 195
        (m + 2 ^ 8 * bitsOf ((bitsSet m 8).filter (fun k => fails.getD k 0 != 0)))).finishSeq q .ok
      [BitVec.ofNat 32 m, BitVec.ofNat 32 (bitsOf ((bitsSet m 8).filter (fun k => fails.getD k 0 != 0)))] := by
  simp only [State.panTestDone, h]

end Harvest

section CellError

variable {k bank cell : Nat} {dbl : Bool}
  (hu : (if dbl then (((s.bumpSat (F.PAN_ECC.UNCORR k) 1).setFlag (F.PAN_FLAGS.ECC_UNC k) true).raise 194 (k + 8 * bank)
      (s.routeGang k)).fault 0x010F k
    else ((s.bumpSat (F.PAN_ECC.CORR k) 1).setFlag (F.PAN_FLAGS.ECC_CORR k) true).fault 0x0009 k) = u)
include hu

theorem State.cellError_unowned (hg : u.gangOf k = none) : s.cellError k bank cell dbl = u := by
  subst hu
  simp only [State.cellError, hg]

/-- The buffer of the cell counts the error, and a double-bit one poisons the cell (R328). -/
theorem State.cellError_owned {f b c : Nat} {g : Gang} (hg : u.gangOf k = some (f, g))
    (hp : cellPlace g (u.splitBanks f g) f k bank cell = (b, c)) :
    s.cellError k bank cell dbl = u.setGang f (some (g.setBuf b (if dbl then { g.buf b with
      eccU := (g.buf b).eccU + 1
      cells := if Nat.blt c (asgPoints (g.buf b).dw * asgRows (g.buf b).dw) then
        SMap.set (clearedCell (asgMode (g.buf b).dw)) (g.buf b).cells c 0x80000000#32 else (g.buf b).cells }
      else { g.buf b with eccC := (g.buf b).eccC + 1 }))) := by
  subst hu
  simp only [State.cellError, hg, hp]

end CellError

end Lemmas

/-- Settles O40: each command acts on the gang and the buffer that its pass, harvest, clear, test or cell names, and on
nothing where none is named. -/
theorem panPasses : Obligations.PanPasses := by
  unfold Obligations.PanPasses
  refine ⟨?pass, ?words, ?migrate, ?noPass, ?update, ?harvest, ?noHarvest, ?clear, ?test, ?cell⟩
  case pass =>
    rintro s f ws g p rest hs ⟨hg, hp⟩
    rw [exec_panPassComplete hs, State.passComplete_oldest hg hp]
  case words =>
    intro s t f n p ws g l hg hw
    refine ⟨State.accumulate_owned hg hw, ?_⟩
    rw [← s.passWords_length (g.buf p.buf).dw p.t n 0 ws, hw]
  case migrate =>
    exact fun s f g hg => ⟨fun ⟨hp, hm⟩ => State.migrated_due hg hp hm, State.migrated_waits hg⟩
  case noPass =>
    intro s f ws hs h
    rw [exec_panPassComplete hs, State.passComplete_none h]
  case update =>
    refine fun b q x => ⟨PanBuf.update_invalid, fun hx hm hc => ?_, fun hx hm hc => ?_⟩
    · rw [PanBuf.update_sum hx hm, if_neg hc]
    · rw [PanBuf.update_sum hx hm, if_pos hc]
  case harvest =>
    rintro s u r d f b g clear data hs ⟨hd, hg⟩ he hx hu
    rw [exec_panHarvestComplete hs, State.panHarvested_runs hd hg he hx hu]
    exact ⟨fun hb => by rw [hb]; rfl, fun hb => by rw [hb]; rfl⟩
  case noHarvest =>
    intro s r hs hd
    rw [exec_panHarvestComplete hs, State.panHarvested_none hd]
  case clear =>
    rintro s r d f b q g hs ⟨hd, hg⟩ he
    rw [exec_panClearComplete hs, State.panCleared_runs hd hg he]
  case test =>
    intro s r fails q rg m hs h
    rw [exec_panSelftestComplete hs, State.panTestDone_runs h]
  case cell =>
    intro s u k bank cell dbl hs hu
    rw [exec_panCellEccError hs]
    exact ⟨fun hg => by rw [State.cellError_unowned hu hg],
      fun f g b c hg hp => by rw [State.cellError_owned hu hg hp]⟩

end Sys2Proof.Machine
end

section
/-!
PROOFS. Harvests: their start, their claims and their ends; releases; timeouts of peer reads (R399 to R404, R441).
-/
namespace Sys2Proof.Machine

section Lemmas

variable {s u : State} {d : Desc} {h : Harvest}

section Commands

variable {r : Fin 64}

theorem exec_harvRange (hs : s.starts r 0x20 d = true) :
    exec (.harvRange r) s = .next (s.keep ((s.begin r d).harvRange d.begun)) := s.act_start _ hs

theorem exec_harvStream (hs : s.starts r 0x21 d = true) :
    exec (.harvStream r) s = .next (s.keep ((s.begin r d).harvStream d.begun)) := s.act_start _ hs

theorem exec_acqRelease (hs : s.starts r 0x04 d = true) :
    exec (.acqRelease r) s = .next (s.keep ((s.begin r d).releaseStart d.begun)) := s.act_start _ hs

variable (r) (hs : s.runs = true)
include hs

theorem exec_harvStreamWaitEnd : exec (.harvStreamWaitEnd r) s = .next (s.keep (s.harvWaitEnd r)) := s.act_running _ hs

theorem exec_harvestComplete : exec (.harvestComplete r) s = .next (s.keep (s.harvComplete r)) := s.act_running _ hs

theorem exec_p2pReadTimeout : exec (.p2pReadTimeout r) s = .next (s.keep (s.peerTimeout r)) := s.act_running _ hs

end Commands

section Range

theorem State.harvRange_bad
    (hb : rangeBad d 0 = true ∨ (s.ptValid (d.f 2 0 4) = true ∧ s.regionBad d = true)) :
    s.harvRange d = s.finish d .badDescriptor [] := if_pos (by simpa using hb)

variable (hb : rangeBad d 0 = false)
include hb

/-- A harvest of a range needs a valid partition of its function that is no LOG partition (R399). -/
theorem State.harvRange_partition (hp : s.ptValid (d.f 2 0 4) = false ∨ (s.regionBad d = false ∧
      (s.ptType (d.f 2 0 4) = 6 ∨ s.ptOwner (d.f 2 0 4) ≠ s.ringOwner d.ring))) :
    s.harvRange d = s.finish d .partitionFault [] := by
  refine (if_neg ?_).trans (if_pos ?_)
  · rcases hp with hv | ⟨hr, -⟩
    · rw [hb, hv]; exact Bool.false_ne_true
    · rw [hb, hr]; simp
  · rcases hp with hv | ⟨-, ht | ho⟩
    · simp [hv]
    · simp [ht]
    · simp [ho]

theorem State.harvRange_starts (hv : s.ptValid (d.f 2 0 4) = true) (hr : s.regionBad d = false)
    (ht : s.ptType (d.f 2 0 4) ≠ 6) (ho : s.ptOwner (d.f 2 0 4) = s.ringOwner d.ring)
    (hh : (⟨d.seq, d.ring, .range, 0, d.f 2 0 4, 0, d.f 5 0 31, d.f 6 0 31, false, false, dw64 d.dw 8,
      s.ptBase (d.f 2 0 4) + d.f 3 0 31, s.regionLen d⟩ : Harvest) = h) :
    s.harvRange d = (s.addHarvest h).harvReads h := by
  subst hh
  exact (if_neg (by rw [hb, hr]; simp)).trans (if_neg (by simp [hv, ht, ho]))

end Range

section Stream

theorem State.harvStream_bad (hb : s.streamHarvBad d = true) : s.harvStream d = s.finish d .badDescriptor [] := if_pos hb

variable (hb : s.streamHarvBad d = false)
  (hh : (⟨d.seq, d.ring, .stream, d.context, d.f 2 0 5, (s.ctx d.context).arms, 0, d.n 3, true, false, dw64 d.dw 8,
    (s.targetSpan d.context (d.f 2 0 5)).1, (s.targetSpan d.context (d.f 2 0 5)).2⟩ : Harvest) = h)
include hb hh

/-- NOWAIT claims what there is; without it the harvest joins those that wait (R400, R401). -/
theorem State.harvStream_good : s.harvStream d =
    if d.f 2 8 1 = 1 then s.claim h (min h.count (s.remains h)) false
    else ((s.addHarvest h).tryClaim h).showHeld d.ring := by
  subst hh
  exact if_neg (Bool.eq_false_iff.mp hb)

end Stream

section Claim

theorem State.tryClaim_whole (ha : (s.ctx h.ctx).arms = h.arm) (hr : h.count ≤ s.remains h) :
    s.tryClaim h = s.claim h h.count false := if_pos (by simp [ha, hr])

/-- With too few lines left only an ended acquisition lets a harvest claim (R401). -/
theorem State.tryClaim_short (hr : s.remains h < h.count) :
    s.tryClaim h = if s.harvEnded h then s.claim h (s.remains h) true else s := if_neg (by simp [hr])

theorem State.harvWaitEnd_waiting {r : Nat} (hf : s.hif.harvests.find? (fun h => h.ring == r && h.waits) = some h) :
    s.harvWaitEnd r = (s.tryClaim h).showHeld r := by
  simp only [State.harvWaitEnd, hf]

theorem State.harvWaitEnd_none {r : Nat} (hf : s.hif.harvests.find? (fun h => h.ring == r && h.waits) = none) :
    s.harvWaitEnd r = s := by
  simp only [State.harvWaitEnd, hf]

end Claim

section Complete

variable {r : Nat}

section Drained

variable (hu : s.pairDrain s.pair.lines.length = u)
include hu

theorem State.harvComplete_none
    (hf : u.hif.harvests.find? (fun h => h.ring == r && !h.waits && h.kind != .pair) = none) : s.harvComplete r = u := by
  subst hu
  simp only [State.harvComplete, hf]

/-- What a harvest needs to complete (R360, R372, R379, R402). -/
theorem State.harvComplete_some (hf : u.hif.harvests.find? (fun h => h.ring == r && !h.waits && h.kind != .pair) = some h)
    (hd : u.descOf h.seq = some d) :
    s.harvComplete r =
      if u.memActive && u.busMasterOn (u.ringOwner r) && u.harvFirst h && !(u.readsWait (· == .harvest h.seq)) then
        (if h.count = 0 then u else (u.postData (u.ringOwner r) h.haddr (u.harvData h)).flushReads (u.ringOwner r) h.haddr
          h.bytes).harvFinish h d (u.harvPoison h)
      else u := by
  subst hu
  simp only [State.harvComplete, hf, hd]

end Drained

section Timeout

theorem State.peerTimeout_harvest
    (hf : s.hif.harvests.find? (fun h => h.ring == r && !h.waits && h.kind != .pair) = some h)
    (hd : s.descOf h.seq = some d) :
    s.peerTimeout r = if s.touchesPeer h.haddr h.bytes then
        (if s.busMasterOn (s.ringOwner r) then (s.postData (s.ringOwner r) h.haddr (s.harvData h)).flushReads
          (s.ringOwner r) h.haddr h.bytes else s).harvAbort h d h.bytes
      else s := by
  simp only [State.peerTimeout, hf, hd]

variable (hf : s.hif.harvests.find? (fun h => h.ring == r && !h.waits && h.kind != .pair) = none)
include hf

theorem State.peerTimeout_panHarvest (hd : s.running r 0x33 = some d)
    (ht : s.touchesPeer (dw64 d.dw 4) (4 * (s.panHarvData d.seq).length) = true) :
    s.peerTimeout r = s.panHarvAbort d (s.panHarvData d.seq).length := by
  simp only [State.peerTimeout, hf, hd, ht, if_true]

theorem State.peerTimeout_none (hd : s.running r 0x33 = none) : s.peerTimeout r = s := by
  simp only [State.peerTimeout, hf, hd]

end Timeout

end Complete

section Release

/-- A release that is refused, or has no harvest before it, acts at once (R402). -/
theorem State.releaseStart_now (h : s.releaseAfter d = [] ∨ s.releaseBad d = true) :
    s.releaseStart d = s.releaseNow d := if_pos (by simpa using h)

theorem State.releaseStart_waits (ha : s.releaseAfter d ≠ []) (hb : s.releaseBad d = false) :
    s.releaseStart d = { s with hif := { s.hif with
      releases := s.hif.releases ++ [(d.seq, d.context, s.releaseAfter d)] } } := if_neg (by simp [ha, hb])

theorem State.harvRelease_range (hk : h.kind = .range) : s.harvRelease h = s := if_neg (by simp [hk])

/-- A harvest of a stream releases what it carried, in its own acquisition only (R402). -/
theorem State.harvRelease_stream (hk : h.kind = .stream) (ha : (s.ctx h.ctx).arms = h.arm) :
    s.harvRelease h = s.setReleased h.ctx h.target (s.released h.ctx h.target + h.count) := if_pos (by simp [hk, ha])

end Release

end Lemmas

/-- Settles O38: Tables 15.8 and 15.9 decide the starts, the cursor a claim, and what R402 asks for a completion; the rest is
what each command leaves. -/
theorem harvestsAndReleases : Obligations.HarvestsAndReleases := by
  unfold Obligations.HarvestsAndReleases
  refine ⟨?range, ?stream, ?claim, ?waitEnd, ?complete, ?noHarvest, ?release, ?timeout, ?data⟩
  case range =>
    rintro s u r d k h hs rfl rfl hh
    rw [exec_harvRange hs]
    refine ⟨fun hb => ?_, fun hb hp => ?_, fun hb hv hr ht ho => ?_⟩
    · rw [State.harvRange_bad hb]
    · rw [State.harvRange_partition hb hp]
    · rw [State.harvRange_starts hb hv hr ht ho hh]
  case stream =>
    rintro s u r d h hs rfl hh
    rw [exec_harvStream hs]
    refine ⟨fun hb => ?_, fun hb hn => ?_, fun hb hn => ?_⟩
    · rw [State.harvStream_bad hb]
    · rw [State.harvStream_good hb hh, if_pos hn]
    · rw [State.harvStream_good hb hh, if_neg hn]; rfl
  case claim =>
    refine fun s h => ⟨State.tryClaim_whole, fun hr he => ?_, fun hr he => ?_⟩
    · rw [State.tryClaim_short hr, if_pos he]
    · rw [State.tryClaim_short hr, if_neg (Bool.eq_false_iff.mp he)]
  case waitEnd =>
    intro s r hs
    rw [exec_harvStreamWaitEnd r hs]
    exact ⟨fun h hf => by rw [State.harvWaitEnd_waiting hf], fun hf => by rw [State.harvWaitEnd_none hf]⟩
  case complete =>
    rintro s u r h d hs hu ⟨hf, hd⟩
    rw [exec_harvestComplete r hs, State.harvComplete_some hu hf hd]
    refine ⟨fun hm hb hq hw => ?_, fun hn => ?_⟩
    · rw [if_pos (by simp [hm, hb, hq, hw])]
    · rw [if_neg (by rcases hn with hn | hn | hn | hn <;> simp [hn])]
  case noHarvest =>
    intro s u r hs hu hf
    rw [exec_harvestComplete r hs, State.harvComplete_none hu hf]
  case release =>
    rintro s u r d hs rfl
    rw [exec_acqRelease hs]
    refine ⟨fun h => ?_, fun ha hb => ?_⟩
    · rw [State.releaseStart_now h]
    · rw [State.releaseStart_waits ha hb]; rfl
  case timeout =>
    intro s r hs
    rw [exec_p2pReadTimeout r hs]
    refine ⟨fun h d hf hd ht => ?_, fun h d hf hd ht => ?_, fun d hf hd ht => ?_, fun hf hd => ?_⟩
    · rw [State.peerTimeout_harvest hf hd, if_pos ht]
    · rw [State.peerTimeout_harvest hf hd, if_neg (Bool.eq_false_iff.mp ht)]
    · rw [State.peerTimeout_panHarvest hf hd ht]
    · rw [State.peerTimeout_none hf hd]
  case data =>
    exact fun s h x => ⟨fun _ => rfl, rfl, State.harvRelease_range, State.harvRelease_stream⟩

end Sys2Proof.Machine
end

section
/-!
PROOFS. The link, Bus Master Enable, Function Level Reset, PERST_N and the window of BAR4 (R372, R378 to R382, R409, R411, R523).
-/
namespace Sys2Proof.Machine

section Lemmas

variable {s u v : State}

section Commands

variable (h : s.runs = true)
include h

theorem exec_pcieLinkDown (p : BitVec 64) (n : Nat) :
    exec (.pcieLinkDown p n) s = .next (s.keep (if s.hif.linkUp then s.linkDown p.toNat n else s)) := s.act_running _ h

theorem exec_pcieLinkUp (sp : Fin 16) (w : Fin 32) : exec (.pcieLinkUp sp w) s = .next (s.keep (s.linkTrain sp w)) :=
  s.act_running _ h

theorem exec_perstNPulse : exec .perstNPulse s = .next (s.keep s.perst) := s.act_running _ h

theorem exec_busMasterEnableChange (f v : Fin 9) (on : Bool) :
    exec (.busMasterEnableChange f on v) s = .next (s.keep (s.busMasterChange f on v)) := s.act_running _ h

theorem exec_functionLevelReset (f : Fin 9) (p : BitVec 64) (n : Nat) :
    exec (.functionLevelReset f p n) s = .next (s.keep (s.flr f p.toNat n)) := s.act_running _ h

theorem exec_functionLevelResetDone (f : Fin 9) :
    exec (.functionLevelResetDone f) s = .next (s.keep (s.flrDone f)) := s.act_running _ h

theorem exec_bar4Read (o n : Nat) : exec (.bar4Read o n) s = .next (s.keep (s.bar4Read o n)) := s.act_running _ h

theorem exec_bar4Write (o : Nat) (data : List Byte) :
    exec (.bar4Write o data) s = .next (s.keep (s.bar4Write o data)) := s.act_running _ h

theorem exec_bar4ReadTimeout : exec .bar4ReadTimeout s = .next (s.keep s.bar4Timeout) := s.act_running _ h

end Commands

section Link

/-- Training after a loss resets the HIF block first; what changes of speed and width is stored and reported (R378, R411). -/
theorem State.linkTrain_eq {sp w : Nat}
    (hu : (if s.hif.linkUp = false ∧ s.flag F.HIF_STAT.LINK_LOST = true then s.hifReset true else s) = u)
    (hv : { u with hif := { u.hif with linkUp := true } } = v) :
    s.linkTrain sp w = if v.fld F.HIF_STAT.SPEED = sp ∧ v.fld F.HIF_STAT.WIDTH = w then v
      else ((v.setFld F.HIF_STAT.SPEED sp).setFld F.HIF_STAT.WIDTH w).raise 37 (sp + 2 ^ 8 * w) v.routeAll := by
  have hu' : (if !s.hif.linkUp && s.flag F.HIF_STAT.LINK_LOST then s.hifReset true else s) = u := by
    rw [← hu]
    simp only [Bool.and_eq_true, Bool.not_eq_true']
  unfold State.linkTrain
  rw [hu']
  simp only [hv, Bool.and_eq_true, decide_eq_true_eq]
  rfl

end Link

section Reset

variable {f p n : Nat}

theorem State.flr_pf (hf : f = 0) (hu : (List.range 9).foldl (fun t g => t.funcReset g p n) s = u) :
    s.flr f p n = u.hifReset (u.flag F.HIF_STAT.LINK_LOST) := by
  subst hu
  exact if_pos hf

/-- A VF that exists and is not in a reset already begins one (R409). -/
theorem State.flr_vf (hf : f ≠ 0) : s.flr f p n = if f ≤ s.hif.numVfs ∧ f ∉ s.hif.inFlr then
    ({ s with hif := { s.hif with inFlr := f :: s.hif.inFlr } }).funcReset f p n else s := by
  unfold State.flr
  rw [if_neg hf]
  simp only [Bool.and_eq_true, decide_eq_true_eq, Bool.not_eq_true', List.contains_eq_mem, decide_eq_false_iff_not]

theorem State.flrDone_eq : s.flrDone f = if f ∈ s.hif.inFlr then
    ({ s with hif := { s.hif with inFlr := s.hif.inFlr.filter (fun x => x != f) } }).raisePF 38 f else s := by
  simp only [State.flrDone, List.contains_eq_mem, decide_eq_true_eq]

end Reset

section Window

/-- A read of the window is answered at once, or waits with its lines (R360, R372, R381). -/
theorem State.bar4Read_eq {o n a : Nat} {ls : List Nat}
    (ha : 32 * (s.fld F.HIF_BAR4_BASE.BASE * 2048) + o % 2 ^ 32 / 4 * 4 = a)
    (hl : (List.range (ceilDiv (a % 32 + 4 * n) 32)).map (· + a / 32) = ls)
    (hu : { s with mem := { s.mem with
      reads := s.mem.reads ++ (ls.filter s.hasEntry).map (fun l => ⟨6, l, .bar4 a n⟩) } } = u) :
    s.bar4Read o n = if s.memActive && !(ls.any s.hasEntry) then s.bar4Answer a n
      else { u with hif := { u.hif with bar4 := u.hif.bar4 ++ [(a, n)] } } := by
  subst ha hl hu
  rfl

section Write

variable {o a : Nat} {data b : List Byte} (ha : 32 * (s.fld F.HIF_BAR4_BASE.BASE * 2048) + o % 2 ^ 32 = a)
  (hb : data.take (32 * memLines - a) = b)
include ha hb

theorem State.bar4Write_nothing (h : b = []) : s.bar4Write o data = s := by
  subst ha
  exact if_pos (List.isEmpty_iff.mpr (hb.trans h))

/-- A write of the window must lie outside the partitions in use (R353, R382). -/
theorem State.bar4Write_some (h : b ≠ []) : s.bar4Write o data =
    match s.firstInUse (a / 32) ((a + b.length - 1) / 32 - a / 32 + 1) with
    | some l => s.raiseOnce F.HIF_STAT.BAR4_DISCARD 39 l routePF
    | none => ({ s with mem := { s.mem with
        bulk := s.mem.bulk ++ [({ addr := a, bytes := b } : BulkWrite)] } }).admitBulk (s.mem.bulk.length + 1) := by
  subst ha hb
  exact if_neg (fun he => h (List.isEmpty_iff.mp he))

end Write

theorem State.bar4Timeout_ends {a n : Nat} {l : List (Nat × Nat)} (hb : s.hif.bar4 = (a, n) :: l)
    (hf : s.flag F.MEM_STAT.SR_FAULT = true) :
    s.bar4Timeout = ({ s with
      hif := { s.hif with bar4 := l, reads := ⟨[], false, true⟩ :: s.hif.reads }
      mem := { s.mem with reads := s.mem.reads.filter (fun r => r.who != ReadFor.bar4 a n) } }).raisePF 40 (a / 32) := by
  simp only [State.bar4Timeout, hb, hf, if_true]

theorem State.bar4Timeout_none (h : s.hif.bar4 = [] ∨ s.flag F.MEM_STAT.SR_FAULT = false) : s.bar4Timeout = s := by
  unfold State.bar4Timeout
  split
  · rename_i e l hb
    exact if_neg (Bool.eq_false_iff.mp (h.resolve_left (by simp [hb])))
  · rfl

end Window

end Lemmas

/-- Settles O44: each command is one operation on the host interface, and the reset of the HIF block leaves what the laws of
`hifReset` say. -/
theorem linkAndWindow : Obligations.LinkAndWindow := by
  unfold Obligations.LinkAndWindow
  refine ⟨?down, ?up, ?perst, ?master, ?flr, ?flrDone, ?read, ?write, ?timeout⟩
  case down =>
    rintro s u p n hs rfl
    rw [exec_pcieLinkDown hs]
    exact ⟨fun h => by rw [if_pos h]; rfl, fun h => by rw [if_neg (Bool.eq_false_iff.mp h)],
      fun o => State.reg_hifReset_in _ _, State.flag_hifReset_lost _ _, rfl, rfl, rfl, rfl⟩
  case up =>
    intro s u v sp w hs hu hv
    rw [exec_pcieLinkUp hs, State.linkTrain_eq hu hv]
    refine ⟨fun h => by rw [if_pos h], fun h => by rw [if_neg (fun ⟨h1, h2⟩ => h.elim (· h1) (· h2))]⟩
  case perst =>
    rintro s u hs rfl
    exact ⟨exec_perstNPulse hs, fun o => State.reg_hifReset_in _ _, rfl, rfl, rfl⟩
  case master =>
    rintro s u f v hs rfl
    exact ⟨exec_busMasterEnableChange hs f v false, exec_busMasterEnableChange hs f v true⟩
  case flr =>
    intro s u f p n hs hu
    rw [exec_functionLevelReset hs]
    refine ⟨fun hf => ?_, fun hf hn hi => ?_, fun hf hn => ?_⟩
    · rw [State.flr_pf hf hu]
    · rw [State.flr_vf hf, if_pos ⟨hn, hi⟩]
    · rw [State.flr_vf hf, if_neg]
      exact fun ⟨h1, h2⟩ => hn.elim (by omega) h2
  case flrDone =>
    intro s f hs
    rw [exec_functionLevelResetDone hs, State.flrDone_eq]
    exact ⟨fun h => by rw [if_pos h], fun h => by rw [if_neg h]⟩
  case read =>
    intro s t o n a ls hs ha hl ht
    rw [exec_bar4Read hs, State.bar4Read_eq ha hl ht]
    refine ⟨fun hm hn => ?_, fun h => ?_⟩
    · rw [if_pos (by simpa [hm] using hn)]; rfl
    · rw [if_neg]
      simpa [or_iff_not_imp_left] using h
  case write =>
    intro s o a data b hs ha hb
    rw [exec_bar4Write hs]
    refine ⟨fun h => ?_, fun l h hl => ?_, fun h hl => ?_⟩
    · rw [State.bar4Write_nothing ha hb h]
    · rw [State.bar4Write_some ha hb h, hl]
    · rw [State.bar4Write_some ha hb h, hl]
  case timeout =>
    intro s hs
    rw [exec_bar4ReadTimeout hs]
    exact ⟨fun a n l hb hf => by rw [State.bar4Timeout_ends hb hf], fun h => by rw [State.bar4Timeout_none h]⟩

end Sys2Proof.Machine
end

section
/-!
PROOFS. Rings: the writes of HIF_RINGr_CTL, draining, doorbells, fetches and signals (R385 to R398, R407, R408).
-/
namespace Sys2Proof.Machine

section Lemmas

variable {s u v : State} {r : Nat}

section Commands

variable (h : s.runs = true)
include h

theorem exec_ringEnable (f : Fin 9) (r : Fin 64) (y : Word) :
    exec (.ringEnable f r y) s = .next (s.keep (s.ringCtlWrite f r (y ||| 0x80000000#32) 0 0)) := s.act_running _ h

theorem exec_ringDisable (f : Fin 9) (r : Fin 64) (y : Word) :
    exec (.ringDisable f r y) s = .next (s.keep (s.ringCtlWrite f r (y &&& 0x3FFFFFFF#32) 0 0)) := s.act_running _ h

theorem exec_ringAbort (f : Fin 9) (r : Fin 64) (y : Word) (p : BitVec 64) (n : Nat) :
    exec (.ringAbort f r y p n) s = .next (s.keep (s.ringCtlWrite f r (putBits y 30 2 1) p.toNat n)) := s.act_running _ h

theorem exec_ringDrained (r : Fin 64) : exec (.ringDrained r) s = .next (s.keep (s.ringDrained r)) := s.act_running _ h

theorem exec_sqTailDoorbell (f : Fin 9) (r : Fin 64) (x : Word) :
    exec (.sqTailDoorbell f r x) s = .next (s.keep (s.sqDoorbell f r x.toNat)) := s.act_running _ h

theorem exec_cqHeadDoorbell (f : Fin 9) (r : Fin 64) (x : Word) :
    exec (.cqHeadDoorbell f r x) s = .next (s.keep (s.cqDoorbell f r x.toNat)) := s.act_running _ h

theorem exec_descriptorFetch (r : Fin 64) (err : Bool) (ws : List Word) :
    exec (.descriptorFetch r err ws) s = .next (s.keep (s.fetch r err ws)) := s.act_running _ h

theorem exec_irqCoalTimer (r : Fin 64) : exec (.irqCoalTimer r) s = .next (s.keep (s.coalTimer r)) := s.act_running _ h

/-- The three commands that write HIF_RINGr_CTL, by the value they write. -/
theorem exec_ringWrite {f : Fin 9} {r : Fin 64} {y a : Word} {p : BitVec 64} {n k m : Nat} {c : Instr}
    (hc : (c = .ringEnable f r y ∧ a = y ||| 0x80000000#32 ∧ k = 0 ∧ m = 0) ∨
      (c = .ringDisable f r y ∧ a = y &&& 0x3FFFFFFF#32 ∧ k = 0 ∧ m = 0) ∨
      (c = .ringAbort f r y p n ∧ a = putBits y 30 2 1 ∧ k = p.toNat ∧ m = n)) :
    exec c s = .next (s.keep (s.ringCtlWrite f r a k m)) := by
  rcases hc with ⟨rfl, rfl, rfl, rfl⟩ | ⟨rfl, rfl, rfl, rfl⟩ | ⟨rfl, rfl, rfl, rfl⟩
  · exact exec_ringEnable h f r y
  · exact exec_ringDisable h f r y
  · exact exec_ringAbort h f r y p _

end Commands

section Values

theorem getBits_one (x : Word) (i : Nat) : getBits x i 1 = (x.getLsbD i).toNat := by
  rw [getBits, BitVec.extractLsb'_toNat, BitVec.getLsbD, Nat.toNat_testBit, Nat.shiftRight_eq_div_pow]

/-- Who writes a ring's set-up does not touch EN and ABORT (Table 15.3). -/
theorem State.ringValue_bit {f i : Nat} (x : Word) (hi : 20 ≤ i) : getBits (s.ringValue f r x) i 1 = getBits x i 1 := by
  unfold State.ringValue
  split
  · rfl
  · exact getBits_putBits_ne _ _ _ _ _ _ (Or.inr hi)

/-- RING_DISABLE writes EN=0 and ABORT=0. -/
theorem getBits_disable (y : Word) {i : Nat} (hi : i = 30 ∨ i = 31) : getBits (y &&& 0x3FFFFFFF#32) i 1 = 0 := by
  rw [getBits_one]
  rcases hi with rfl | rfl <;> simp

/-- RING_ABORT writes EN=0 and ABORT=1. -/
theorem getBits_abort (y : Word) : getBits (putBits y 30 2 1) 30 1 = 1 ∧ getBits (putBits y 30 2 1) 31 1 = 0 := by
  rw [getBits_one, getBits_one, getLsbD_putBits, getLsbD_putBits]
  exact ⟨rfl, rfl⟩

end Values

section Write

variable {f p n : Nat} {v0 x : Word}

theorem State.ringCtlWrite_foreign (hf : f ≠ 0) (ho : f ≠ s.ringOwner r) : s.ringCtlWrite f r v0 p n = s :=
  if_pos (by simp [hf, ho])

/-- A draining ring is not enabled again (R385). -/
theorem State.ringIdle_of_accepted (he : s.ringEn r = false) (h : s.enableRefused r x = false) : s.ringIdle r = true := by
  have hd : s.flag (F.HIF_RING_STAT.DRAINING r) = false := by
    by_contra hc
    rw [Bool.not_eq_false] at hc
    simp [State.enableRefused, hc] at h
  simp [State.ringIdle, he, hd]

section Own

variable (hf : f = 0 ∨ f = s.ringOwner r) (hx : s.ringValue f r v0 = x)
include hf hx

/-- The rows of a write of HIF_RINGr_CTL by a function that the ring obeys (R385, R407, R408). -/
theorem State.ringCtlWrite_own : s.ringCtlWrite f r v0 p n =
    if (getBits x 30 1 = 1 ∧ getBits x 31 1 = 1) ∨
      (s.ringIdle r = false ∧ ((x ^^^ s.reg (R.HIF_RING_CTL r)) &&& ringSetup) ≠ 0) then s.ringDiscard r
    else if getBits x 31 1 = 1 ∧ s.ringEn r = false then
      (if s.enableRefused r x then s.ringDiscard r else s.ringOn r x)
    else if getBits x 31 1 ≠ 1 ∧ s.ringEn r = true then s.ringOff r x (getBits x 30 1 == 1) p n
    else if getBits x 30 1 = 1 ∧ s.flag (F.HIF_RING_STAT.DRAINING r) = true then s.ringAbort r p n
    else s.plainWrite (R.HIF_RING_CTL r) x := by
  subst hx
  refine (if_neg ?_).trans ?_
  · rcases hf with h | h <;> simp [h]
  · simp only [Bool.or_eq_true, Bool.and_eq_true, Bool.not_eq_true', beq_iff_eq, bne_iff_ne, beq_eq_false_iff_ne, ne_eq]

theorem State.ringCtlWrite_discarded (h : (getBits x 30 1 = 1 ∧ getBits x 31 1 = 1) ∨
      (s.ringIdle r = false ∧ ((x ^^^ s.reg (R.HIF_RING_CTL r)) &&& ringSetup) ≠ 0)) :
    s.ringCtlWrite f r v0 p n = s.setFlag (F.HIF_RING_STAT.WR_DISCARD r) true := by
  rw [State.ringCtlWrite_own hf hx, if_pos h]
  rfl

/-- A refused enabling shows WR_DISCARD only. -/
theorem State.ringCtlWrite_refused (h1 : getBits x 31 1 = 1) (he : s.ringEn r = false)
    (h : getBits x 30 1 = 1 ∨ s.enableRefused r x = true) :
    s.ringCtlWrite f r v0 p n = s.setFlag (F.HIF_RING_STAT.WR_DISCARD r) true := by
  by_cases hd : (getBits x 30 1 = 1 ∧ getBits x 31 1 = 1) ∨
      (s.ringIdle r = false ∧ ((x ^^^ s.reg (R.HIF_RING_CTL r)) &&& ringSetup) ≠ 0)
  · exact State.ringCtlWrite_discarded hf hx hd
  · rw [State.ringCtlWrite_own hf hx, if_neg hd, if_pos ⟨h1, he⟩,
      if_pos (h.resolve_left (fun h0 => hd (Or.inl ⟨h0, h1⟩)))]
    rfl

theorem State.ringCtlWrite_enables (h1 : getBits x 31 1 = 1) (h0 : getBits x 30 1 = 0) (he : s.ringEn r = false)
    (h : s.enableRefused r x = false) : s.ringCtlWrite f r v0 p n = s.ringOn r x := by
  rw [State.ringCtlWrite_own hf hx, if_neg, if_pos ⟨h1, he⟩, if_neg (Bool.eq_false_iff.mp h)]
  simp [h0, State.ringIdle_of_accepted he h]

theorem State.ringCtlWrite_stores (h0 : getBits x 30 1 ≠ 1) (h1 : getBits x 31 1 = 1) (he : s.ringEn r = true)
    (hs : ((x ^^^ s.reg (R.HIF_RING_CTL r)) &&& ringSetup) = 0) :
    s.ringCtlWrite f r v0 p n = s.plainWrite (R.HIF_RING_CTL r) x := by
  rw [State.ringCtlWrite_own hf hx, if_neg (by simp [h0, hs]), if_neg (by simp [he]), if_neg (by simp [h1]),
    if_neg (by simp [h0])]

theorem State.ringCtlWrite_disabled (h1 : getBits x 31 1 ≠ 1) (he : s.ringEn r = false)
    (hs : s.ringIdle r = true ∨ ((x ^^^ s.reg (R.HIF_RING_CTL r)) &&& ringSetup) = 0) :
    s.ringCtlWrite f r v0 p n = if getBits x 30 1 = 1 ∧ s.flag (F.HIF_RING_STAT.DRAINING r) = true then s.ringAbort r p n
      else s.plainWrite (R.HIF_RING_CTL r) x := by
  rw [State.ringCtlWrite_own hf hx, if_neg, if_neg (by simp [h1]), if_neg (by simp [he])]
  rcases hs with hs | hs <;> simp [h1, hs]

theorem State.ringCtlWrite_off (h1 : getBits x 31 1 = 0) (he : s.ringEn r = true)
    (hs : ((x ^^^ s.reg (R.HIF_RING_CTL r)) &&& ringSetup) = 0) :
    s.ringCtlWrite f r v0 p n = s.ringOff r x (getBits x 30 1 == 1) p n := by
  rw [State.ringCtlWrite_own hf hx, if_neg (by simp [h1, hs]), if_neg (by simp [he]), if_pos (by simp [h1, he])]

end Own

end Write

/-- Enabling restarts the pointers, the doorbells and what is to be signalled (R385, R522). -/
theorem State.ringOn_eq {x : Word} (hu : ((((s.plainWrite (R.HIF_RING_CTL r) x).setReg (R.HIF_RING_PTR r) 0).setFlag
      (F.HIF_RING_STAT.PHASE r) true).setFlag (F.HIF_RING_STAT.FETCH_ERR r) false).setFlag (F.HIF_RING_STAT.RUNNING r) true
        = u) :
    s.ringOn r x = { u.setFlag F.GLB_STAT.RING_SEEN true with hif := { u.hif with
      sqTail := SMap.set zero u.hif.sqTail r 0, cqHead := SMap.set zero u.hif.cqHead r 0
      cqUsed := SMap.set zero u.hif.cqUsed r 0, uncovered := SMap.set zero u.hif.uncovered r 0
      coverAt := SMap.erase u.hif.coverAt r } } := by
  subst hu
  simp only [State.ringOn, State.setFlag_hif]

section Ends

theorem State.abortOne_gone {p n : Nat} {d : Desc} (h : s.descOf d.seq = none) : s.abortOne p n d = s := by
  simp only [State.abortOne, h]

/-- A descriptor that has not started completes without acting (R408). -/
theorem State.abortOne_held {p n : Nat} {d e : Desc} (h : s.descOf d.seq = some e) :
    s.abortOne p n d = if e.started then s.abortStarted p n e else s.finish e .aborted [] := by
  simp only [State.abortOne, h]

theorem State.ringClear_iff : s.ringClear r = true ↔ (∀ d ∈ s.hif.descs, d.ring ≠ r) ∧ ∀ w ∈ s.hif.waiting, w.ring ≠ r := by
  simp [State.ringClear]

theorem State.drainEnd_eq (hu : (s.setFlag (F.HIF_RING_STAT.DRAINING r) false).setFlag (F.HIF_RING_STAT.ABORTING r) false
      = u) :
    s.drainEnd r = ({ u with hif := { u.hif with abortedRings := s.hif.abortedRings.filter (fun x => x != r) } }).raise 34
      (r + (if r ∈ s.hif.abortedRings then 2 ^ 8 else 0)) (s.routeRing r) := by
  subst hu
  simp only [State.drainEnd, List.contains_eq_mem, decide_eq_true_eq, State.setFlag_hif]

/-- A disabled ring has drained when nothing of it is outstanding (R407). -/
theorem State.ringDrained_ends (hd : s.flag (F.HIF_RING_STAT.DRAINING r) = true) (hc : s.ringClear r = true) :
    s.ringDrained r = s.drainEnd r := if_pos (by simp [hd, hc])

theorem State.ringDrained_waits (h : s.flag (F.HIF_RING_STAT.DRAINING r) = false ∨ s.ringClear r = false) :
    s.ringDrained r = s := if_neg (by rcases h with h | h <;> simp [h])

end Ends

section Doorbells

variable {f x n : Nat}

theorem State.dbError_owner {w : Nat} (hf : f = s.ringOwner r) :
    s.dbError f r w = ((s.bump R.HIF_DBERR_COUNT).setFlag (F.HIF_RING_STAT.DB_ERR r) true).raise 32
      (r + w * 2 ^ 8 + f * 2 ^ 16) ((s.bump R.HIF_DBERR_COUNT).routeRing r) := if_pos hf

theorem State.dbError_foreign {w : Nat} (hf : f ≠ s.ringOwner r) :
    s.dbError f r w = (s.bump R.HIF_DBERR_COUNT).raisePF 32 (r + w * 2 ^ 8 + f * 2 ^ 16) := if_neg hf

theorem State.sqDoorbell_sets (hf : f = s.ringOwner r) (hx : x < s.ringSize r) (ht : s.ringType r ≠ 2)
    (he : s.ringEn r = true) :
    s.sqDoorbell f r x = { s with hif := { s.hif with sqTail := SMap.set zero s.hif.sqTail r x } } :=
  if_neg (by simp [hf, hx, ht, he])

theorem State.sqDoorbell_error
    (h : f ≠ s.ringOwner r ∨ s.ringSize r ≤ x ∨ s.ringType r = 2 ∨ s.ringEn r = false) :
    s.sqDoorbell f r x = s.dbError f r 0 := if_pos (by rcases h with h | h | h | h <;> simp [h])

theorem State.clearStall_eq : s.clearStall r = if SMap.get zero s.hif.stalls r ≤ s.cqRoom r then
    s.setFlag (F.HIF_RING_STAT.CQ_STALL r) false else s := by
  simp only [State.clearStall, Nat.ble_eq]

variable (hn : (x + s.ringSize r - SMap.get zero s.hif.cqHead r) % s.ringSize r = n)
include hn

theorem State.cqDoorbell_returns (hf : f = s.ringOwner r) (hx : x < s.ringSize r)
    (hl : n ≤ SMap.get zero s.hif.cqUsed r)
    (hu : { s with hif := { s.hif with
      cqHead := SMap.set zero s.hif.cqHead r x
      cqUsed := SMap.set zero s.hif.cqUsed r (SMap.get zero s.hif.cqUsed r - n) } } = u) :
    s.cqDoorbell f r x = u.clearStall r := by
  subst hn hu
  exact if_neg (by simp [hf, hx, hl])

theorem State.cqDoorbell_error
    (h : f ≠ s.ringOwner r ∨ s.ringSize r ≤ x ∨ SMap.get zero s.hif.cqUsed r < n) :
    s.cqDoorbell f r x = s.dbError f r 1 := by
  subst hn
  exact if_pos (by rcases h with h | h | h <;> simp [h])

end Doorbells

section Fetch

variable {err : Bool} {ws : List Word}

theorem State.fetch_not (h : s.mayFetch r = false) : s.fetch r err ws = s := if_pos (by rw [h]; rfl)

variable (h : s.mayFetch r = true)
include h

/-- A fetch of a ring that may: an error, a stall of the CQ, or the descriptor (R389, R391, R392). -/
theorem State.fetch_may : s.fetch r err ws =
    if err then (s.setFlag (F.HIF_RING_STAT.FETCH_ERR r) true).raise 33 r (s.routeRing r)
    else if s.cqRoom r < s.slotsOf r (getBits (dwAt ws 0) 0 8) then
      ({ s with hif := { s.hif with
        stalls := SMap.set zero s.hif.stalls r (s.slotsOf r (getBits (dwAt ws 0) 0 8)) } }).raiseOnce
        (F.HIF_RING_STAT.CQ_STALL r) 35 r (s.routeRing r)
    else s.takeDesc r ws := if_neg (by rw [h]; exact Bool.false_ne_true)

end Fetch

section Take

variable {ws : List Word} {d : Desc}

/-- The descriptor that is fetched completes at once where it is refused, on a HARV ring in its turn (R388, R389). -/
theorem State.takeDesc_eq
    (hd : ({ ring := r, seq := s.hif.nextSeq, dw := ((ws ++ List.replicate 16 0).take (if s.ringV1 r then 8 else 16)
      ++ List.replicate 8 0).take 16, started := false, refused := none } : Desc) = d)
    (hu : (s.setFld (F.HIF_RING_PTR.SQ_HEAD r) ((s.fld (F.HIF_RING_PTR.SQ_HEAD r) + 1) % s.ringSize r)).setFlag
      (F.HIF_RING_STAT.CQ_STALL r) false = u)
    (hv : { u with hif := { u.hif with
      nextSeq := s.hif.nextSeq + 1, descs := s.hif.descs ++ [{ d with refused := s.fetchRefusal r d }] } } = v) :
    s.takeDesc r ws = match s.fetchRefusal r d with
      | some code => if v.isHarvRing r then v.flushRefused r 8 else v.completeCode { d with refused := some code } code []
      | none => v.showHeld r := by
  subst hd hu hv
  unfold State.takeDesc
  dsimp only
  cases s.fetchRefusal r _ with
  | some code => rfl
  | none => rfl

end Take

section Coal

theorem State.coalDue_iff : s.coalDue r = true ↔ s.fld (F.HIF_RING_IRQ.COAL_TIME r) ≠ 0 ∧
    SMap.get zero s.hif.uncovered r ≠ 0 ∧ s.fld (F.HIF_RING_IRQ.COAL_TIME r) * 2 ^ 64
      ≤ (s.time.elapsed - SMap.get zero s.hif.coverAt r) * 1000000 := by
  simp only [State.coalDue, Bool.and_eq_true, bne_iff_ne, Nat.ble_eq, and_assoc]

/-- A signal is due with interrupts on, the time passed, and a bus master (R379, R398). -/
theorem State.coalTimer_signals (hi : s.flag (F.HIF_RING_IRQ.IRQ_EN r) = true) (hd : s.coalDue r = true)
    (hb : s.busMasterOn (s.ringOwner r) = true) : s.coalTimer r = s.signal r := if_pos (by simp [hi, hd, hb])

theorem State.coalTimer_waits
    (h : s.flag (F.HIF_RING_IRQ.IRQ_EN r) = false ∨ s.coalDue r = false ∨ s.busMasterOn (s.ringOwner r) = false) :
    s.coalTimer r = s := if_neg (by rcases h with h | h | h <;> simp [h])

theorem State.signal_message (h : s.fld (F.HIF_RING_IRQ.VECTOR r) ≤ (if s.ringOwner r = 0 then 63 else 7)) :
    s.signal r = { s with hif := { s.hif with
      msix := (s.ringOwner r, s.fld (F.HIF_RING_IRQ.VECTOR r)) :: s.hif.msix
      uncovered := SMap.set zero s.hif.uncovered r 0, coverAt := SMap.erase s.hif.coverAt r } } :=
  if_neg (Nat.not_lt.mpr h)

theorem State.signal_noVector (h : (if s.ringOwner r = 0 then 63 else 7) < s.fld (F.HIF_RING_IRQ.VECTOR r)) :
    s.signal r = s.raiseOnce (F.HIF_RING_STAT.VEC_ERR r) 41 r (s.routeRing r) := if_pos h

end Coal

section Written

theorem State.advanceCq_writes (n : Nat) : (s.advanceCq r n).hif.writes = s.hif.writes := by
  unfold State.advanceCq
  dsimp only
  split <;> rfl

theorem State.signal_writes : (s.signal r).hif.writes = s.hif.writes := by
  by_cases h : (if s.ringOwner r = 0 then 63 else 7) < s.fld (F.HIF_RING_IRQ.VECTOR r)
  · rw [State.signal_noVector h, State.raiseOnce_hif]
  · rw [State.signal_message (Nat.not_lt.mp h)]

theorem State.cover_writes (b : Bool) : (s.cover r b).hif.writes = s.hif.writes := by
  unfold State.cover
  dsimp only
  rw [apply_ite State.hif, apply_ite HifSt.writes, State.signal_writes, ite_self]

/-- A completion is written with dword 0 last (R394). -/
theorem State.writeCompletion_writes {w : Waiting} : (s.writeCompletion w).hif.writes =
    { func := s.ringOwner w.ring, addr := s.cqSlot w.ring (s.fld (F.HIF_RING_PTR.CQ_TAIL w.ring)) 32
      data := [putBits (dwAt w.dw 0) 31 1 (s.fld (F.HIF_RING_STAT.PHASE w.ring))] } ::
    (if w.ext then [{
      func := s.ringOwner w.ring
      addr := s.cqSlot w.ring ((s.fld (F.HIF_RING_PTR.CQ_TAIL w.ring) + 1) % s.ringSize w.ring) 32
      data := (w.dw.drop 8).take 8 }] else []) ++
    { func := s.ringOwner w.ring, addr := s.cqSlot w.ring (s.fld (F.HIF_RING_PTR.CQ_TAIL w.ring)) 32 + 4
      data := (w.dw.drop 1).take 7 } :: s.hif.writes := by
  unfold State.writeCompletion
  dsimp only
  rw [State.cover_writes, State.bump_hif, State.advanceCq_writes]
  cases w.ext with
  | true => rfl
  | false => rfl

end Written

end Lemmas

/-- Settles O45: the rows of a write of HIF_RINGr_CTL, and for each other command the one condition that decides it. -/
theorem descriptorRings : Obligations.DescriptorRings := by
  unfold Obligations.DescriptorRings
  refine ⟨?enable, ?foreign, ?write, ?off, ?abort, ?drained, ?sqTail, ?cqHead, ?fetch, ?coal, ?written⟩
  case enable =>
    rintro s u f r v w hs hw ⟨hf, he⟩ hu
    have h1 : getBits w 31 1 = 1 := by
      rw [← hw, State.ringValue_bit _ (by omega), getBits_go]
    rw [exec_ringEnable hs]
    refine ⟨fun h0 hr => ?_, fun h => ?_⟩
    · rw [State.ringCtlWrite_enables hf hw h1 h0 he hr, State.ringOn_eq hu]
    · rw [State.ringCtlWrite_refused hf hw h1 he h]
  case foreign =>
    rintro s f r v p n hs ⟨hf, ho⟩
    rw [exec_ringEnable hs, exec_ringDisable hs, exec_ringAbort hs, State.ringCtlWrite_foreign hf ho,
      State.ringCtlWrite_foreign hf ho, State.ringCtlWrite_foreign hf ho]
    exact ⟨rfl, rfl, rfl⟩
  case write =>
    intro s f r y a v p n k m c hs hc hv hf
    rw [exec_ringWrite hs hc]
    refine ⟨fun h => ?_, fun h0 h1 he hp => ?_, fun h1 he hp => ?_⟩
    · rw [State.ringCtlWrite_discarded hf hv h]
    · rw [State.ringCtlWrite_stores hf hv h0 h1 he hp]
    · rw [State.ringCtlWrite_disabled hf hv h1 he hp]
  case off =>
    rintro s u v x f r y z p n hs ⟨hf, he⟩ hy ⟨hz, hp⟩ rfl rfl rfl
    have h0 := getBits_abort y
    have hz0 : getBits z 30 1 = 1 := by rw [← hz, State.ringValue_bit _ (by omega), h0.1]
    have hz1 : getBits z 31 1 = 0 := by rw [← hz, State.ringValue_bit _ (by omega), h0.2]
    rw [exec_ringDisable hs, exec_ringAbort hs, State.ringCtlWrite_off hf hz hz1 he hp, hz0,
      State.ringCtlWrite_off hf rfl (by rw [State.ringValue_bit _ (by omega), getBits_disable y (Or.inr rfl)]) he hy,
      State.ringValue_bit _ (by omega), getBits_disable y (Or.inl rfl)]
    exact ⟨rfl, rfl⟩
  case abort =>
    intro s r p n d e h
    refine ⟨rfl, fun hs => ?_, fun hs => ?_, State.abortOne_gone⟩
    · rw [State.abortOne_held h, if_neg (Bool.eq_false_iff.mp hs)]
    · rw [State.abortOne_held h, if_pos hs]
  case drained =>
    intro s u r hs hu
    rw [exec_ringDrained hs]
    refine ⟨fun hd hc hw => ?_, fun h => ?_⟩
    · rw [State.ringDrained_ends hd (State.ringClear_iff.mpr ⟨hc, hw⟩), State.drainEnd_eq hu]
    · rw [State.ringDrained_waits]
      refine h.imp_right (fun h => ?_)
      rw [Bool.eq_false_iff, Ne, State.ringClear_iff]
      rintro ⟨h1, h2⟩
      rcases h with ⟨d, hd, hr⟩ | ⟨w, hw, hr⟩
      · exact h1 d hd hr
      · exact h2 w hw hr
  case sqTail =>
    intro s f r v hs
    rw [exec_sqTailDoorbell hs]
    refine ⟨fun hf hx ht he => ?_, fun hf h => ?_, fun hf => ?_⟩
    · rw [State.sqDoorbell_sets hf hx ht he]
    · rw [State.sqDoorbell_error (Or.inr h), State.dbError_owner hf, Nat.zero_mul, Nat.add_zero]
    · rw [State.sqDoorbell_error (Or.inl hf), State.dbError_foreign hf, Nat.zero_mul, Nat.add_zero]
  case cqHead =>
    intro s u f r v n hs hn hu
    rw [exec_cqHeadDoorbell hs]
    refine ⟨fun hf hx hl => ?_, fun hf h => ?_, fun hf => ?_⟩
    · rw [State.cqDoorbell_returns hn hf hx hl hu, State.clearStall_eq]
    · rw [State.cqDoorbell_error hn (Or.inr h), State.dbError_owner hf, Nat.one_mul]
    · rw [State.cqDoorbell_error hn (Or.inl hf), State.dbError_foreign hf, Nat.one_mul]
  case fetch =>
    intro s u v r err ws d hs hd hu hv
    rw [exec_descriptorFetch hs]
    refine ⟨fun h => ?_, fun h he => ?_, fun h he hc => ?_, fun h he hc => ?_⟩
    · rw [State.fetch_not h]
    · rw [State.fetch_may h, if_pos he]
    · rw [State.fetch_may h, if_neg (Bool.eq_false_iff.mp he), if_pos hc]
    · rw [State.fetch_may h, if_neg (Bool.eq_false_iff.mp he), if_neg (Nat.not_lt.mpr hc), State.takeDesc_eq hd hu hv] <;> rfl
  case coal =>
    intro s r hs
    rw [exec_irqCoalTimer hs]
    refine ⟨fun hi hd hb hv => ?_, fun hi hd hb hv => ?_, fun h => ?_, State.coalDue_iff⟩
    · rw [State.coalTimer_signals hi hd hb, State.signal_message hv]
    · rw [State.coalTimer_signals hi hd hb, State.signal_noVector hv]
    · rw [State.coalTimer_waits h]
  case written =>
    intro s w
    rw [State.writeCompletion_writes]
    exact ⟨fun h => by rw [h]; rfl, fun h => by rw [h]; rfl⟩

end Sys2Proof.Machine
end

section
/-!
PROOFS. The flash: storing, pushing and reading images, firmware updates, and their ends (R529 to R543).
-/
namespace Sys2Proof.Machine

section Lemmas

variable {s u v w : State} {d : Desc}

section Commands

section Starts

variable {r : Fin 64}

theorem exec_cfgCommit (h : s.starts r 0x63 d = true) :
    exec (.cfgCommit r) s = .next (s.keep ((s.begin r d).cfgCommit d.begun)) := s.act_start _ h

theorem exec_cfgPush (image : List Byte) (h : s.starts r 0x64 d = true) :
    exec (.cfgPush r image) s = .next (s.keep ((s.begin r d).cfgPush d.begun image)) := s.act_start _ h

theorem exec_cfgRead (h : s.starts r 0x65 d = true) :
    exec (.cfgRead r) s = .next (s.keep ((s.begin r d).cfgRead d.begun)) := s.act_start _ h

theorem exec_fwUpdate (image : List Byte) (h : s.starts r 0x66 d = true) :
    exec (.fwUpdate r image) s = .next (s.keep ((s.begin r d).fwUpdate d.begun image)) := s.act_start _ h

theorem exec_fwSelect (h : s.starts r 0x67 d = true) :
    exec (.fwSelect r) s = .next (s.keep ((s.begin r d).fwSelect d.begun)) := s.act_start _ h

end Starts

variable (bad : List (Nat × Byte)) (h : s.runs = true)
include h

theorem exec_commitWriteDone : exec (.commitWriteDone bad) s = .next (s.keep (s.slotWritten 0 bad)) := s.act_running _ h

theorem exec_pushWriteDone : exec (.pushWriteDone bad) s = .next (s.keep (s.slotWritten 1 bad)) := s.act_running _ h

theorem exec_fwUpdateWriteDone : exec (.fwUpdateWriteDone bad) s = .next (s.keep (s.bankWritten bad)) := s.act_running _ h

end Commands

/-- Programming erases its region whole and stores the bytes from its start (R535, R541). -/
theorem State.flash_program (a n i : Nat) (b : List Byte) :
    SMap.get flashByte (s.program a n b).cfg.flash i =
      if a ≤ i ∧ i < a + b.length then b.getD (i - a) 0
      else if a ≤ i ∧ i < a + n then 0xFF else SMap.get flashByte s.cfg.flash i := by
  have hf := SMap.get_filter flashByte (fun k => !(Nat.blt k a || Nat.ble (a + n) k)) s.cfg.flash i
  simp only [Bool.not_not] at hf
  have hr : (!(Nat.blt i a || Nat.ble (a + n) i)) = true ↔ a ≤ i ∧ i < a + n := by
    rw [Bool.not_eq_true', Bool.or_eq_false_iff, Bool.eq_false_iff, Bool.eq_false_iff, Ne, Ne, Nat.blt_eq, Nat.ble_eq]
    omega
  unfold State.program
  dsimp only
  rw [SMap.get_setList, hf]
  by_cases hi : a ≤ i ∧ i < a + b.length
  · rw [if_pos hi, if_pos hi]
    obtain ⟨h1, h2⟩ := hi
    simp [List.getD_eq_getElem?_getD, List.getElem?_eq_getElem (show i - a < b.length by omega)]
  · rw [if_neg hi, if_neg hi]
    by_cases h : a ≤ i ∧ i < a + n
    · rw [if_pos h, if_pos (hr.mpr h)]; rfl
    · rw [if_neg h, if_neg (fun hc => h (hr.mp hc))]

section Refusals

/-- The rows that refuse a CFG_COMMIT, and the job of one that passes (R534, R538, R543). -/
theorem State.cfgCommit_eq : s.cfgCommit d =
    if cfgBad d [(2, 1)] then s.finish d .badDescriptor []
    else if s.flag F.CFG_STAT.FLASH_BUSY || s.fld F.CAL_STAT.FG_ACTIVE != 0 || s.flag F.INP_MODE_STAT.CHANGING
      || s.flag F.CLK_STAT.RATE_CHANGING then s.finish d .busy []
    else s.startJob ⟨0, d.seq, s.newSlot, s.commitImage (d.f 2 0 1 == 1), false⟩ := rfl

variable {image b : List Byte} {n k : Nat} {bad : Bool}

section Push

variable (hn : d.n 2 = n) (hi : image.take n = b)
  (hb : (cfgBad d ((2, 0xFFFFFFFF) :: haddrMasks) || d.f 8 0 6 != 0 || !(lengthOk n)) = bad)
include hn hi hb

theorem State.cfgPush_eq : s.cfgPush d image =
    if bad then s.finish d .badDescriptor []
    else if s.flag F.CFG_STAT.FLASH_BUSY then s.finish d .busy []
    else if b.length != n || !(imageGood b s.identity) then s.finish d .badDescriptor []
    else s.startJob ⟨1, d.seq, s.newSlot, regenerate b s.newGen, false⟩ := by
  subst hn hi hb
  rfl

end Push

theorem State.cfgRead_eq (hk : d.f 2 0 1 = k)
    (hn : min (if lengthOk (s.slotLength k) then s.slotLength k else 64) (d.n 3) = n)
    (hb : (cfgBad d ((2, 1) :: (3, 0xFFFFFFFF) :: haddrMasks) || d.f 8 0 6 != 0 || decide (d.n 3 < 64)) = bad) :
    s.cfgRead d =
      if bad then s.finish d .badDescriptor []
      else if s.flag F.CFG_STAT.FLASH_BUSY then s.finish d .busy []
      else ({ s with hif := { s.hif with writes := {
          func := s.ringOwner d.ring, addr := dw64 d.dw 8
          data := (List.range (n / 4)).map (byteDw (s.flashBytes (slotBase k) n))
          tail := (s.flashBytes (slotBase k) n).drop (4 * (n / 4)) } :: s.hif.writes } }).finish d .ok
        [BitVec.ofNat 32 n, if s.slotGood k then 1 else 0] := by
  subst hk hn hb
  rfl

theorem State.fwUpdate_eq (hn : d.n 3 = n) (hi : image.take n = b) (hk : s.fld F.CFG_STAT.FW_BANK = k)
    (hb : (cfgBad d ((2, 1) :: (3, 0xFFFFFFFF) :: haddrMasks) || d.f 8 0 6 != 0 || Nat.blt bankSize n) = bad) :
    s.fwUpdate d image =
      if bad then s.finish d .badDescriptor []
      else if s.flag F.CFG_STAT.FLASH_BUSY then s.finish d .busy []
      else if b.length != n || !(firmwareGood b) then s.finish d .badDescriptor []
      else s.startJob ⟨2, d.seq, 1 - k, regenerate b (((s.reg (R.CFG_FW_GEN_A + 4 * k)).toNat + 1) % 2 ^ 32),
        d.f 2 0 1 == 1⟩ := by
  subst hn hi hk hb
  rfl

theorem State.fwSelect_eq (hk : d.f 2 0 1 = k) (hb : cfgBad d [(2, 1)] = bad) :
    s.fwSelect d =
      if bad then s.finish d .badDescriptor []
      else if s.flag F.CFG_STAT.FLASH_BUSY then s.finish d .busy []
      else if s.bankGood k then ((({ s with cfg := { s.cfg with wdogAt := none } }).setFlag F.CFG_STAT.FW_FALLBACK
        false).restartFw k false).finish d .ok []
      else (s.raisePF 7 k).finish d .aborted [] := by
  subst hk hb
  rfl

end Refusals

section Ends

variable {bad : List (Nat × Byte)} {j : FlashJob} {kind : Nat}

theorem State.finishSeq_some {q : Nat} {st : Status} {pay : List Word} (hd : s.descOf q = some d) :
    s.finishSeq q st pay = s.finish d st pay := by
  unfold State.finishSeq
  rw [hd]

theorem State.finishSeq_none {q : Nat} {st : Status} {pay : List Word} (hd : s.descOf q = none) :
    s.finishSeq q st pay = s := by
  unfold State.finishSeq
  rw [hd]

theorem State.slotWritten_none (h : s.cfg.job = none) : s.slotWritten kind bad = s := by
  unfold State.slotWritten
  rw [h]

theorem State.slotWritten_other (hj : s.cfg.job = some j) (hk : j.kind ≠ kind) : s.slotWritten kind bad = s := by
  unfold State.slotWritten
  rw [hj]
  exact if_pos (bne_iff_ne.mpr hk)

/-- A slot that reads back well becomes current; one that does not is reported; then the descriptor completes (R534, R536). -/
theorem State.slotWritten_job {g : State} {pay : List Word} (hj : s.cfg.job = some j) (hk : j.kind = kind)
    (hp : [BitVec.ofNat 32 j.target, BitVec.ofNat 32 (imageGen j.image), BitVec.ofNat 32 j.image.length] = pay)
    (hu : s.endJob.program (slotBase j.target) slotSize (patched j.image bad) = u)
    (hg : (((u.setFlag (slotOkFld j.target) true).setFld F.CFG_STAT.SLOT j.target).setFlag F.CFG_STAT.CFG_DEFAULTED
      false).setReg R.CFG_GEN (BitVec.ofNat 32 (imageGen j.image)) = g)
    (hv : (if u.slotGood j.target then
        (if kind = 0 then g.raisePF 3 (j.target + 2 ^ 8 * (imageGen j.image % 2 ^ 24)) else g.raisePF 5 j.target)
      else ((u.setFlag (slotOkFld j.target) false).raisePF 4 j.target).fault 0x000D j.target) = v) :
    s.slotWritten kind bad = v.finishSeq j.seq (if u.slotGood j.target then .ok else .aborted) pay := by
  unfold State.slotWritten
  rw [hj]
  dsimp only
  rw [if_neg (by simpa using hk), hu, hp]
  cases hs : u.slotGood j.target with
  | true =>
    rw [hs, if_pos rfl] at hv
    rw [if_pos rfl, hg, hv]
    rfl
  | false =>
    rw [hs, if_neg Bool.false_ne_true] at hv
    rw [if_neg Bool.false_ne_true, hv]
    rfl

theorem State.bankWritten_other (h : s.cfg.job = none ∨ ∃ j, s.cfg.job = some j ∧ j.kind ≠ 2) :
    s.bankWritten bad = s := by
  unfold State.bankWritten
  rcases h with hj | ⟨j, hj, hk⟩
  · rw [hj]
  · rw [hj]
    exact if_pos (bne_iff_ne.mpr hk)

/-- A bank that reads back well is started where the update asked for it; one that does not is reported (R541). -/
theorem State.bankWritten_job {good : Bool} (hj : s.cfg.job = some j) (hk : j.kind = 2)
    (hu : (s.endJob.program (bankBase j.target) bankSize (patched j.image bad)).showBankGen j.target = u)
    (hg : u.bankGood j.target = good)
    (hv : (if good then (if j.restart then u.restartFw j.target false else u)
      else (u.raisePF 7 j.target).fault 0x000D j.target) = v) :
    s.bankWritten bad = v.finishSeq j.seq (if good then .ok else .aborted)
      [BitVec.ofNat 32 j.target, BitVec.ofNat 32 (imageGen j.image)] := by
  unfold State.bankWritten
  rw [hj]
  dsimp only
  rw [if_neg (by simpa using hk), hu, hg, hv]
  rfl

end Ends

end Lemmas

/-- Settles O52: Table 21.6 refuses a flash descriptor row by row, the kind of the job under way decides the end of a write,
and a programmed region holds its bytes and erased flash. -/
theorem storedConfiguration : Obligations.StoredConfiguration := by
  unfold Obligations.StoredConfiguration
  refine ⟨?commit, ?slot, ?push, ?read, ?update, ?noJob, ?bank, ?select, ?program⟩
  case commit =>
    rintro s u r d bad busy hs rfl rfl rfl
    rw [exec_cfgCommit hs, State.cfgCommit_eq]
    refine ⟨fun h => ?_, fun h hb => ?_, fun h hb => ?_⟩
    · rw [if_pos h]
    · rw [if_neg (Bool.eq_false_iff.mp h), if_pos hb]
    · rw [if_neg (Bool.eq_false_iff.mp h), if_neg (Bool.eq_false_iff.mp hb)]; rfl
  case slot =>
    rintro s u g v w bad j pay hs ⟨hj, hp⟩ hu hg hv hw
    rw [exec_commitWriteDone bad hs, exec_pushWriteDone bad hs]
    refine ⟨fun hk => ?_, fun hk => ?_, fun hk => ?_, fun hk => ?_⟩
    · rw [State.slotWritten_job (kind := 0) hj hk hp hu hg hv]; rfl
    · rw [State.slotWritten_job (kind := 1) hj hk hp hu hg hw]; rfl
    · rw [State.slotWritten_other hj hk]
    · rw [State.slotWritten_other hj hk]
  case push =>
    rintro s u r d image b n bad hs rfl ⟨hn, hi⟩ hb
    rw [exec_cfgPush image hs, State.cfgPush_eq hn hi hb]
    refine ⟨fun h => ?_, fun h hf => ?_, fun h hf hx => ?_, fun h hf hl hx => ?_⟩
    · rw [if_pos h]
    · rw [if_neg (Bool.eq_false_iff.mp h), if_pos hf]
    · rw [if_neg (Bool.eq_false_iff.mp h), if_neg (Bool.eq_false_iff.mp hf), if_pos (by simpa using hx)]
    · rw [if_neg (Bool.eq_false_iff.mp h), if_neg (Bool.eq_false_iff.mp hf), if_neg (by simp [hl, hx])]; rfl
  case read =>
    rintro s u r d n k bad hs rfl ⟨hk, hn⟩ hb
    rw [exec_cfgRead hs, State.cfgRead_eq hk hn hb]
    refine ⟨fun h => ?_, fun h hf => ?_, fun h hf => ?_⟩
    · rw [if_pos h]
    · rw [if_neg (Bool.eq_false_iff.mp h), if_pos hf]
    · rw [if_neg (Bool.eq_false_iff.mp h), if_neg (Bool.eq_false_iff.mp hf)]; rfl
  case update =>
    rintro s u r d image b n k bad hs rfl ⟨hn, hi, hk⟩ hb
    rw [exec_fwUpdate image hs, State.fwUpdate_eq hn hi hk hb]
    refine ⟨fun h => ?_, fun h hf => ?_, fun h hf hx => ?_, fun h hf hl hx => ?_⟩
    · rw [if_pos h]
    · rw [if_neg (Bool.eq_false_iff.mp h), if_pos hf]
    · rw [if_neg (Bool.eq_false_iff.mp h), if_neg (Bool.eq_false_iff.mp hf), if_pos (by simpa using hx)]
    · rw [if_neg (Bool.eq_false_iff.mp h), if_neg (Bool.eq_false_iff.mp hf), if_neg (by simp [hl, hx])]; rfl
  case noJob =>
    intro s bad hs
    rw [exec_commitWriteDone bad hs, exec_pushWriteDone bad hs, exec_fwUpdateWriteDone bad hs]
    refine ⟨fun hj => ?_, fun h => ?_⟩
    · rw [State.slotWritten_none hj, State.slotWritten_none hj]
      exact ⟨rfl, rfl⟩
    · rw [State.bankWritten_other h]
  case bank =>
    rintro s u v bad j good hs ⟨hj, hk⟩ hu hg hv
    rw [exec_fwUpdateWriteDone bad hs, State.bankWritten_job hj hk hu hg hv]
    exact ⟨fun d hd => by rw [State.finishSeq_some hd], fun hd => by rw [State.finishSeq_none hd]⟩
  case select =>
    rintro s u r d k bad hs rfl hk hb
    rw [exec_fwSelect hs, State.fwSelect_eq hk hb]
    refine ⟨fun h => ?_, fun h hf => ?_, fun h hf hg => ?_, fun h hf hg => ?_⟩
    · rw [if_pos h]
    · rw [if_neg (Bool.eq_false_iff.mp h), if_pos hf]
    · rw [if_neg (Bool.eq_false_iff.mp h), if_neg (Bool.eq_false_iff.mp hf), if_pos hg]
    · rw [if_neg (Bool.eq_false_iff.mp h), if_neg (Bool.eq_false_iff.mp hf), if_neg (Bool.eq_false_iff.mp hg)]
  case program => exact fun s a n i b _ => State.flash_program a n i b

end Sys2Proof.Machine
end

section
/-!
PROOFS. Junction temperatures, supplies, age and SMBus (R550 to R555, R572).
-/
namespace Sys2Proof.Machine

section Lemmas

variable {s u v w z : State}

section Commands

variable (h : s.runs = true)
include h

theorem exec_sensorRead (k : Fin 10) (x : BitVec 8) (p : BitVec 64) (n : Nat) :
    exec (.sensorRead k x p n) s = .next (s.keep (s.sensorRead k x.toNat p.toNat n)) := s.act_running _ h

theorem exec_railCheck (r : Fin 11) (mv : BitVec 16) :
    exec (.railCheck r mv) s = .next (s.keep (s.railCheck r mv.toNat)) := s.act_running _ h

theorem exec_ageTick : exec .ageTick s = .next (s.keep (if s.passed s.hlth.secondAt (2 ^ 64) then s.ageTick else s)) :=
  s.act_running _ h

theorem exec_smbusTransaction (a : BitVec 7) :
    exec (.smbusTransaction a) s = .next (s.keep (s.smbus a.toNat)) := s.act_running _ h

end Commands

section Sensors

variable {k x p n : Nat}

/-- A reading is stored as the sensor's last, its highest, and the highest of its second (R550, R555). -/
theorem State.storeTemp_eq
    (hz : ({ s with hlth := { s.hlth with hottest := some (match s.hlth.hottest with
      | some y => max y (signed 8 x)
      | none => signed 8 x) } } : State) = z) :
    s.storeTemp k x = if s.sfld (F.HLTH_TEMP.MAX k) < signed 8 x then
      (z.setFld (F.HLTH_TEMP.TEMP k) x).setFld (F.HLTH_TEMP.MAX k) x else z.setFld (F.HLTH_TEMP.TEMP k) x := by
  subst hz
  rfl

theorem State.shutStep_eq : s.shutStep k x = if 110 ≤ signed 8 x ∧ s.hlth.shutdownDue = false then
      (({ s with hlth := { s.hlth with shutdownDue := true, shutAt := s.time.elapsed } }).raise 274 (k + 2 ^ 8 * x)
        s.routeAll).fault 0x010E k
    else s := by
  simp only [State.shutStep, thermQual, Bool.and_eq_true, decide_eq_true_eq, Bool.not_eq_true']

section Warn

theorem State.warnStep_high (h : s.warnLimit ≤ signed 8 x) : s.warnStep k x =
    if s.flag F.HLTH_STAT.ALERT then s
    else ((s.setFlag F.HLTH_STAT.ALERT true).setFlag F.HLTH_STAT.WARN_SEEN true).raise 272 (k + 2 ^ 8 * x) s.routeAll :=
  if_pos h

/-- Below the limit the alert ends once every sensor is far enough below (R551). -/
theorem State.warnStep_low (h : signed 8 x < s.warnLimit) : s.warnStep k x =
    if s.flag F.HLTH_STAT.ALERT && s.allBelow (s.warnLimit - 4) then
      (s.setFlag F.HLTH_STAT.ALERT false).raise 279 (k + 2 ^ 8 * x) s.routeAll
    else s := if_neg (by omega)

end Warn

/-- The critical limit acts once, until every sensor has been below 100 (R551). -/
theorem State.critStep_eq
    (hu : (if s.allBelow 100 then { s with hlth := { s.hlth with critSeen := false } } else s) = u)
    (hv : ((({ u with hlth := { u.hlth with critSeen := true } }).setFlag F.HLTH_STAT.CRIT_SEEN true).raise 273
      (k + 2 ^ 8 * x) u.routeAll).fault 0x010D k = v) :
    s.critStep k x p n = if 105 ≤ signed 8 x && !u.hlth.critSeen then
      (if v.flag F.HLTH_CTL.CRIT_STOP then v.critStop p n else v) else u := by
  subst hu hv
  rfl

end Sensors

section Rails

variable {r mv : Nat}
  (hu : (s.setFld (F.HLTH_RAIL.V r) mv).setFlag (F.HLTH_STAT.RAIL.bit r) (railLow r mv || railHigh r mv) = u)
include hu

/-- A rail is reported when it leaves its limits (R553). -/
theorem State.railCheck_eq : s.railCheck r mv =
    if (railLow r mv || railHigh r mv) && !s.flag (F.HLTH_STAT.RAIL.bit r) then
      ((u.setFlag F.HLTH_STAT.SUPPLY_SEEN true).raisePF 275 (r + (if railHigh r mv then 16 else 0))).fault 0x010C r
    else u := by
  subst hu
  rfl

end Rails

section Age

theorem State.ageTick_eq
    (hu : (({ s with hlth := { s.hlth with hottest := none, secondAt := s.hlth.secondAt + 2 ^ 64 } } : State).setReg64
      R.HLTH_AGE_LO (s.reg64 R.HLTH_AGE_LO + ageWeight s.secondMax)).bumpSat F.HLTH_UPTIME.V 1 = u) :
    s.ageTick = if s.warnLimit ≤ s.secondMax then u.healthCount 13 else u := by
  subst hu
  rfl

theorem State.secondMax_some {x : Int} (h : s.hlth.hottest = some x) : s.secondMax = x := by
  unfold State.secondMax
  rw [h]

/-- A running maximum is at least its start and each of its entries. -/
theorem le_foldl_max (f : Nat → Int) (l : List Nat) (a : Int) :
    a ≤ l.foldl (fun b k => max b (f k)) a ∧ ∀ k ∈ l, f k ≤ l.foldl (fun b k => max b (f k)) a := by
  induction l generalizing a with
  | nil => simp
  | cons i l ih =>
    obtain ⟨h1, h2⟩ := ih (max a (f i))
    refine ⟨(le_max_left _ _).trans h1, fun k hk => ?_⟩
    rcases List.mem_cons.mp hk with rfl | hk
    · exact (le_max_right _ _).trans h1
    · exact h2 k hk

/-- A second without a reading takes the highest of the last readings (R555). -/
theorem State.le_secondMax {k : Nat} (h : s.hlth.hottest = none) (hk : k < 10) :
    s.sfld (F.HLTH_TEMP.TEMP k) ≤ s.secondMax := by
  unfold State.secondMax
  rw [h]
  exact (le_foldl_max (fun k => s.sfld (F.HLTH_TEMP.TEMP k)) _ _).2 k (List.mem_range.mpr hk)

theorem ageWeight_values :
    ageWeight 90 = 0x10000 ∧ ageWeight 100 = 0x20000 ∧ ageWeight 80 = 0x8000 ∧ ageWeight 60 = 0x2000 := by
  decide +kernel

end Age

section Smbus

variable {a : Nat}

/-- The firmware answers at its own address, while it runs, with a value of its own (R540, R572). -/
theorem State.smbus_eq : s.smbus a = if a = 0x58 ∧ s.flag F.CFG_STAT.FW_RUNNING = true then
      { s with fresh := s.fresh + 1, hlth := { s.hlth with smbusAck := true, smbusData := Config.freeValue 8 s.fresh } }
    else { s with hlth := { s.hlth with smbusAck := false } } := by
  simp only [State.smbus, Bool.and_eq_true, decide_eq_true_eq]
  rfl

end Smbus

end Lemmas

/-- Settles O53: the limits of R551 act in turn on what a reading leaves, and each of the other commands has one condition. -/
theorem moduleHealth : Obligations.ModuleHealth := by
  unfold Obligations.ModuleHealth
  refine ⟨?sensor, ?warn, ?crit, ageWeight_values, ?shutdown, ?rail, ?age, ?smbus⟩
  case sensor =>
    rintro s z u v w k x p n hs hz rfl rfl rfl
    rw [exec_sensorRead hs, ← State.storeTemp_eq hz, ← State.shutStep_eq]
    rfl
  case warn =>
    refine fun s k x => ⟨fun h ha => ?_, fun h ha => ?_, fun h ha hb => ?_, fun h hn => ?_⟩
    · rw [State.warnStep_high h, if_pos ha]
    · rw [State.warnStep_high h, if_neg (Bool.eq_false_iff.mp ha)]
    · rw [State.warnStep_low h, if_pos (by simp [ha, hb])]
    · rw [State.warnStep_low h, if_neg (by rcases hn with hn | hn <;> simp [hn])]
  case crit =>
    intro s u v k x p n hu hv
    rw [State.critStep_eq hu hv]
    refine ⟨fun h hc => ?_, fun h => ?_⟩
    · rw [if_pos (by simp [h, hc])]
    · rw [if_neg (by rcases h with h | h <;> simp [h])]
  case shutdown =>
    refine fun s => ⟨fun hp hd ht => ?_, fun h => ?_⟩
    · rw [exec_thermalShutdown_running (by simp [State.runs, hp]), State.shutdown_due (by simp [hd, ht])]
    · cases hr : s.runs with
      | false => exact exec_thermalShutdown_other hr
      | true =>
        have hp : s.phase = .running := by simpa [State.runs] using hr
        rw [exec_thermalShutdown_running hr, State.shutdown_early]
        rcases h.resolve_left (not_not_intro hp) with h | h <;> simp [h]
  case rail =>
    intro s u r mv hs hu
    rw [exec_railCheck hs, State.railCheck_eq hu]
    refine ⟨fun ho hf => ?_, fun h => ?_⟩
    · rw [if_pos (by simp [ho, hf])]
    · rw [if_neg (by rcases h with h | h <;> simp [h])]
  case age =>
    intro s u hs hu
    rw [exec_ageTick hs, State.ageTick_eq hu]
    refine ⟨fun hp hw => ?_, fun hp hw => ?_, fun hp => ?_, fun x => State.secondMax_some, fun k => State.le_secondMax⟩
    · rw [if_pos hp, if_pos hw]
    · rw [if_pos hp, if_neg (by omega)]
    · rw [if_neg (Bool.eq_false_iff.mp hp)]
  case smbus =>
    intro s a hs
    rw [exec_smbusTransaction hs, State.smbus_eq]
    refine ⟨fun ha hf => by rw [if_pos ⟨ha, hf⟩], fun h => ?_⟩
    rw [if_neg (fun ⟨h1, h2⟩ => h.elim (· h1) (fun h => by simp [h] at h2))]

end Sys2Proof.Machine
end

section
/-!
PROOFS. RST_N, the steps of start-up, the start of the firmware and its watchdog (R520 to R542).
-/
namespace Sys2Proof.Machine

section Lemmas

variable {s u v : State}

section Commands

variable (h : s.runs = true)
include h

theorem exec_startupFlashReadDone : exec .startupFlashReadDone s = .next (s.keep s.flashRead) := s.act_running _ h

theorem exec_startupLockDone (gap : Nat) : exec (.startupLockDone gap) s = .next (s.keep (s.lockDone gap)) :=
  s.act_running _ h

theorem exec_hbmBootTrainingDone (failed : Nat) :
    exec (.hbmBootTrainingDone failed) s = .next (s.keep (s.trainEnd failed)) := s.act_running _ h

theorem exec_firmwareStart : exec .firmwareStart s = .next (s.keep s.firmwareStart) := s.act_running _ h

theorem exec_watchdogExpire : exec .watchdogExpire s = .next (s.keep s.watchdog) := s.act_running _ h

end Commands

section Slots

theorem State.pickSlot_both (h0 : s.slotGood 0 = true) (h1 : s.slotGood 1 = true) :
    s.pickSlot = some (if newer (imageGen (s.slotImage 1)) (imageGen (s.slotImage 0)) then 1 else 0) := by
  unfold State.pickSlot
  rw [h0, h1]

theorem State.pickSlot_first (h0 : s.slotGood 0 = true) (h1 : s.slotGood 1 = false) : s.pickSlot = some 0 := by
  unfold State.pickSlot
  rw [h0, h1]

theorem State.pickSlot_second (h0 : s.slotGood 0 = false) (h1 : s.slotGood 1 = true) : s.pickSlot = some 1 := by
  unfold State.pickSlot
  rw [h0, h1]

theorem State.pickSlot_none (h0 : s.slotGood 0 = false) (h1 : s.slotGood 1 = false) : s.pickSlot = none := by
  unfold State.pickSlot
  rw [h0, h1]

end Slots

section FlashRead

theorem State.flashRead_late (h : 1 < s.fld F.CFG_STAT.STEP) : s.flashRead = s := if_pos (Nat.blt_eq.mpr h)

/-- Steps 1 and 2 of Table 21.2 on the image chosen, or on the OTP values (R530, R532). -/
theorem State.flashRead_reads {ref : Word} (h : s.fld F.CFG_STAT.STEP ≤ 1) (hu : s.chooseOnce.slotFlags = u)
    (hr : (match u.pickSlot with | some k => byteDw (u.slotImage k) 6 &&& 0xF#32 | none => 0) = ref)
    (hv : (match u.pickSlot with | some k => u.applyImage k | none => u.defaulted) = v) :
    s.flashRead = ((((v.each (List.range 8) (fun t b => t.buildMap b (t.fld (F.CNV_BANK_STAT.RETIRED b)))).showTrim).refCtlWrite
      ref).each (List.range 4) State.startLock).setFld F.CFG_STAT.STEP 3 := by
  have hstep : ¬ Nat.blt 1 (s.fld F.CFG_STAT.STEP) = true := by rw [Nat.blt_eq]; omega
  unfold State.flashRead
  dsimp only
  rw [if_neg hstep, hu]
  cases hp : u.pickSlot with
  | some k =>
    rw [hp] at hr hv
    dsimp only at hr hv ⊢
    rw [hr, hv]
  | none =>
    rw [hp] at hr hv
    dsimp only at hr hv ⊢
    rw [hr, hv]

end FlashRead

section Lock

variable {gap : Nat}

/-- Step 3 ends with the memory loop and a sample loop locked (Table 21.2). -/
theorem State.lockDone_locked (h : s.fld F.CFG_STAT.STEP = 3) (hm : s.locked 2 = true)
    (hs : s.locked 0 = true ∨ s.locked 1 = true) :
    s.lockDone gap = (s.setFld F.CFG_STAT.STEP 4).restartOn (if s.locked 0 then 0 else 1) gap :=
  if_pos (by simpa [h, hm] using hs)

theorem State.lockDone_waits
    (h : s.fld F.CFG_STAT.STEP ≠ 3 ∨ s.locked 2 = false ∨ (s.locked 0 = false ∧ s.locked 1 = false)) :
    s.lockDone gap = s := by
  refine if_neg ?_
  rcases h with h | h | ⟨h0, h1⟩
  · simp [h]
  · simp [h]
  · simp [h0, h1]

end Lock

section Done

/-- What E000 reports of the start-up (Table 16.2). -/
def State.bootQual (s : State) : Nat :=
  (if s.flag F.CFG_STAT.CFG_DEFAULTED then 1 else 0)
    + (if !(s.flag F.CFG_STAT.CFG_DEFAULTED) && s.fld F.CFG_STAT.SLOT == 1 then 2 else 0) + (if s.compat then 4 else 0)

/-- The events that waited for E000 follow it (R521, R532). -/
def State.raiseHeld (s : State) (c : CfgSt) : State :=
  let t := match c.pend2 with
    | some m => s.raisePF 2 m
    | none => s
  if c.pend8 then t.raisePF 8 1 else t

theorem State.startupDone_eq {m16 : Nat} (hm : satNat 0xFFFF (u.time.elapsed * 1000 / 2 ^ 64) = m16)
    (hv : ((u.setFld F.CFG_STAT.STEP 6).setFlag F.CFG_STAT.READY true).setReg R.CFG_BOOT_MS (BitVec.ofNat 32 m16) = v) :
    u.startupDone = { (v.raisePF 0 (v.bootQual + 2 ^ 16 * m16)).raiseHeld u.cfg with
      cfg := { ((v.raisePF 0 (v.bootQual + 2 ^ 16 * m16)).raiseHeld u.cfg).cfg with pend2 := none, pend8 := false } } := by
  subst hm hv
  rfl

theorem State.raiseHeld_eq {c : CfgSt} : s.raiseHeld c =
    match c.pend2, c.pend8 with
    | none, false => s
    | some m, false => s.raisePF 2 m
    | none, true => s.raisePF 8 1
    | some m, true => (s.raisePF 2 m).raisePF 8 1 := by
  unfold State.raiseHeld
  cases c.pend2 <;> cases c.pend8 <;> rfl

variable {failed : Nat}

theorem State.trainEnd_due (h : s.fld F.CFG_STAT.STEP = 4)
    (hu : ((presetPairs (((s.trainResult failed).setFld F.CFG_STAT.STEP 5).memCheck.currentImage)).foldl State.preset
      ((s.trainResult failed).setFld F.CFG_STAT.STEP 5).memCheck) = u) : s.trainEnd failed = u.startupDone := by
  subst hu
  exact if_pos h

theorem State.trainEnd_early (h : s.fld F.CFG_STAT.STEP ≠ 4) : s.trainEnd failed = s := if_neg h

end Done

section Firmware

theorem State.firmwareStart_none (hu : s.chooseOnce = u) (h : u.cfg.restart = none) : s.firmwareStart = u := by
  unfold State.firmwareStart
  rw [hu]
  dsimp only
  rw [h]

/-- The bank that is to run shows, with E006 (R539, R540). -/
theorem State.firmwareStart_some {k : Nat} (hu : s.chooseOnce = u) (h : u.cfg.restart = some k) :
    s.firmwareStart = (((({ u with cfg := { u.cfg with restart := none, fallback := false } }).setFlag
      F.CFG_STAT.FW_RUNNING true).setFld F.CFG_STAT.FW_BANK k).setReg R.CFG_FW_VER (byteDw (u.bankImage k) 4)).raisePF 6
        (k + (if u.cfg.fallback then 2 else 0)) := by
  unfold State.firmwareStart
  rw [hu]
  dsimp only
  rw [h]

theorem State.watchdog_halted (h : s.flag F.CFG_STAT.FW_RUNNING = false) : s.watchdog = s := if_pos (by rw [h]; rfl)

/-- A second expiry within the minute changes to the other bank where that is good (R540). -/
theorem State.watchdog_running {second other : Bool} (h : s.flag F.CFG_STAT.FW_RUNNING = true)
    (hs : (match s.cfg.wdogAt with | some t => Nat.ble s.time.elapsed (t + 60 * 2 ^ 64) | none => false) = second)
    (ho : (second && s.bankGood (1 - s.fld F.CFG_STAT.FW_BANK)) = other)
    (hu : ({ ((s.bump R.CFG_WDOG).raisePF 9 0).fault 0x000C 0 with
      cfg := { (((s.bump R.CFG_WDOG).raisePF 9 0).fault 0x000C 0).cfg with
        wdogAt := if second then none else some s.time.elapsed } } : State) = u) :
    s.watchdog = (if other then u.setFlag F.CFG_STAT.FW_FALLBACK true else u).restartFw
      (if other then 1 - s.fld F.CFG_STAT.FW_BANK else s.fld F.CFG_STAT.FW_BANK) true := by
  subst hs ho hu
  exact if_neg (by rw [h]; exact Bool.false_ne_true)

end Firmware

end Lemmas

/-- Settles O51: the reset leaves `afterReset`, the STEP reached decides what each report of start-up does, and the bank
chosen and the last expiry what the firmware does. -/
theorem resetAndStartUp : Obligations.ResetAndStartUp := by
  unfold Obligations.ResetAndStartUp
  refine ⟨?assert, ?rise, ?flash, ?slots, ?lock, ?train, ?firmware, ?watchdog⟩
  case assert =>
    rintro s t rfl
    exact ⟨s.afterReset, exec_rstNAssert s, rfl, s.afterReset_heldForm, fun _ => rfl, rfl, rfl, rfl, rfl, fun _ => rfl⟩
  case rise =>
    rintro s u rfl
    refine ⟨fun h => ?_, fun h => ?_, fun b h => exec_rstNRise_other b h⟩
    · rw [exec_rstNRise_held false h]; rfl
    · rw [exec_rstNRise_held true h]; rfl
  case flash =>
    intro s u v ref hs hu hr hv
    rw [exec_startupFlashReadDone hs]
    exact ⟨fun h => by rw [State.flashRead_reads h hu hr hv], fun h => by rw [State.flashRead_late h]⟩
  case slots =>
    exact fun s => ⟨rfl, rfl, State.pickSlot_both, State.pickSlot_first, State.pickSlot_second, State.pickSlot_none⟩
  case lock =>
    intro s gap hs
    rw [exec_startupLockDone hs]
    refine ⟨fun h hm h0 => ?_, fun h hm h0 h1 => ?_, fun h => by rw [State.lockDone_waits h]⟩
    · rw [State.lockDone_locked h hm (Or.inl h0), if_pos h0]
    · rw [State.lockDone_locked h hm (Or.inr h1), if_neg (Bool.eq_false_iff.mp h0)]
  case train =>
    intro s u v failed m16 hs hu hv hm
    rw [exec_hbmBootTrainingDone hs]
    refine ⟨fun h => ⟨v.bootQual, (v.raisePF 0 (v.bootQual + 2 ^ 16 * m16)).raiseHeld u.cfg, ?_, rfl, ?_, ?_, ?_, ?_⟩,
      fun h => by rw [State.trainEnd_early h]⟩
    · rw [State.trainEnd_due h hu, State.startupDone_eq hm hv]
    · intro h2 h8; rw [State.raiseHeld_eq, h2, h8]
    · intro m h2 h8; rw [State.raiseHeld_eq, h2, h8]
    · intro h2 h8; rw [State.raiseHeld_eq, h2, h8]
    · intro m h2 h8; rw [State.raiseHeld_eq, h2, h8]
  case firmware =>
    intro s u hs hu
    rw [exec_firmwareStart hs]
    exact ⟨fun h => by rw [State.firmwareStart_none hu h], fun k h => by rw [State.firmwareStart_some hu h]⟩
  case watchdog =>
    intro s u second other hs h2 ho hu
    rw [exec_watchdogExpire hs]
    refine ⟨fun h => by rw [State.watchdog_halted h], fun h hx => ?_, fun h hx => ?_⟩
    · rw [State.watchdog_running h h2 ho hu, if_pos hx, if_pos hx]
    · rw [State.watchdog_running h h2 ho hu, if_neg (Bool.eq_false_iff.mp hx), if_neg (Bool.eq_false_iff.mp hx)]

end Sys2Proof.Machine
end

section
/-!
PROOFS. Chassis peers: software pulses, the state of the peer bus, frames and the partner table (R425 to R439).
-/
namespace Sys2Proof.Machine

section Lemmas

variable {s t u v z : State}

section Commands

variable (h : s.runs = true)
include h

theorem exec_peerSoftPulse (o : Fin 9) (x : Word) :
    exec (.peerSoftPulse o x) s = .next (s.keep (s.outWrite o (x ||| 0x20#32))) := s.act_running _ h

theorem exec_peerCtlWrite (x : Word) : exec (.peerCtlWrite x) s = .next (s.keep (s.peerCtlWrite x)) := s.act_running _ h

theorem exec_peerListenEnd : exec .peerListenEnd s = .next (s.keep s.listenEnd) := s.act_running _ h

theorem exec_rollFrameSend : exec .rollFrameSend s = .next (s.keep s.rollSend) := s.act_running _ h

theorem exec_trigFrameSend : exec .trigFrameSend s = .next (s.keep s.trigSend) := s.act_running _ h

theorem exec_leaveFrameSend : exec .leaveFrameSend s = .next (s.keep s.leaveSend) := s.act_running _ h

theorem exec_partnerAgeOut (e : Fin 64) : exec (.partnerAgeOut e) s = .next (s.keep (s.ageOut e)) := s.act_running _ h

/-- The four commands of a frame that has been received: its own bytes say what it is. -/
theorem exec_frameRx {b : List Byte} {c : Instr}
    (hc : c ∈ [.rollFrameRx b, .trigFrameRx b, .leaveFrameRx b, .peerFrameReject b]) :
    exec c s = .next (s.keep (s.frameRx b)) := by
  simp only [List.mem_cons, List.not_mem_nil, or_false] at hc
  rcases hc with rfl | rfl | rfl | rfl
  · exact s.act_running _ h
  · exact s.act_running _ h
  · exact s.act_running _ h
  · exact s.act_running _ h

end Commands

section Outputs

/-- The write of the command has PULSE=1. -/
theorem getBits_pulse (x : Word) : getBits (x ||| 0x20#32) 5 1 = 1 := by
  rw [getBits_one]
  simp

variable {o : Nat} {x : Word} (hu : s.plainWrite (outReg o) (x ||| 0x20#32) = u)
include hu

/-- A software pulse needs the SRC written to be 22 (R425). -/
theorem State.outWrite_pulse : s.outWrite o (x ||| 0x20#32) =
    if getBits (u.reg (outReg o)) 0 5 = 22 then u.pulseDue (o + 4) u.softEdge else u := by
  subst hu
  simp only [State.outWrite, getBits_pulse, decide_true, Bool.true_and, beq_iff_eq]

end Outputs

section States

variable {x : Word} (hu : s.plainWrite R.PEER_CTL x = u)
include hu

theorem State.peerCtlWrite_on (h : u.flag F.PEER_CTL.EN = true) :
    s.peerCtlWrite x = if u.peerState = 0 then
      ({ u with peer := { u.peer with listenAt := u.time.elapsed } }).setFld F.PEER_STAT.STATE 1 else u := by
  subst hu
  simp only [State.peerCtlWrite, h, if_true, State.peerListen, Bool.true_and, beq_iff_eq]
  rfl

/-- A seated module leaves with a frame, another at once (R433). -/
theorem State.peerCtlWrite_off (h : u.flag F.PEER_CTL.EN = false) :
    s.peerCtlWrite x = if u.peerState = 2 then { u with peer := { u.peer with leaving := true } } else u.peerOff := by
  subst hu
  simp only [State.peerCtlWrite, h, Bool.false_eq_true, if_false, beq_iff_eq]

end States

section Seats

theorem State.freeSeat_spec {k : Nat} (h : s.freeSeat = some k) :
    (∀ e, e < 64 → s.entryValid e = true → s.entrySeat e ≠ k) ∧ k < 64 := by
  have hk := List.mem_of_find?_eq_some h
  have hp := List.find?_some h
  refine ⟨fun e he hv hs => ?_, List.mem_range.mp hk⟩
  have hf := List.all_eq_true.mp hp e (List.mem_range.mpr he)
  simp [hv, hs] at hf

theorem State.takeSeat_some {k : Nat} (h : s.freeSeat = some k)
    (hu : (s.setFld F.PEER_STAT.SEAT k).setFld F.PEER_STAT.STATE 2 = u) :
    s.takeSeat = { u with peer := { u.peer with
      lfsr := lfsrSeed ((s.setFld F.PEER_STAT.SEAT k).reg R.PEER_ID_LO), seatAt := s.time.elapsed, rolls := 0 } } := by
  have hr : u.reg R.PEER_ID_LO = (s.setFld F.PEER_STAT.SEAT k).reg R.PEER_ID_LO := by
    rw [← hu, State.reg_setFld_ne _ _ (by decide)]
  have ht : u.time.elapsed = s.time.elapsed := by rw [← hu]; rfl
  have he : s.takeSeat = { u with peer := { u.peer with
      lfsr := lfsrSeed (u.reg R.PEER_ID_LO), seatAt := u.time.elapsed, rolls := 0 } } := by
    subst hu
    unfold State.takeSeat
    rw [h]
    rfl
  rw [he, hr, ht]

theorem State.takeSeat_none (h : s.freeSeat = none) : s.takeSeat = s.setFld F.PEER_STAT.STATE 3 := by
  unfold State.takeSeat
  rw [h]
  rfl

theorem State.listenEnd_due (h : s.peerState = 1) (ht : s.since s.peer.listenAt 8000 = true) :
    s.listenEnd = s.takeSeat := if_pos (by simp [h, ht])

theorem State.listenEnd_early (h : s.peerState ≠ 1 ∨ s.since s.peer.listenAt 8000 = false) : s.listenEnd = s :=
  if_neg (by rcases h with h | h <;> simp [h])

end Seats

section Send

theorem State.busFree_iff {n : Nat} : s.busFree n = true ↔ s.peer.busEnd ≤ s.time.elapsed ∧
    (2 + n + s.fld F.PEER_STAT.SEAT) * 2 ^ 64 ≤ (s.time.elapsed - s.peer.busEnd) * 100000000 := by
  rw [State.busFree, Bool.and_eq_true, Nat.ble_eq, Nat.ble_eq]

theorem State.rollDue_iff {us : Nat} : s.rollDue us = true ↔
    (1000 * s.peer.rolls + s.peer.lfsr.toNat % 900 + us) * 2 ^ 64 ≤ (s.time.elapsed - s.peer.seatAt) * 1000000 := by
  rw [State.rollDue, State.since, Nat.ble_eq]
  rfl

section Live

variable {live : Bool} (hl : (!(s.flag F.CLK_STAT.REF_ABSENT) && s.peerState == 2 && !s.peer.leaving) = live)
include hl

/-- Who sends: a seated module that stays, with REF100_IN present (R429, R433). -/
theorem State.sends_eq : (s.peerState == 2 && s.busLive && !s.peer.leaving) = live := by
  rw [← hl, State.busLive, Bool.and_comm (s.peerState == 2)]

/-- One ROLL frame in each roll period, from its offset on (R431, R434). -/
theorem State.rollSend_eq (hu : s.sendFrame 0 (s.rollPayload s.rollState) = u) : s.rollSend =
    if live && s.rollDue 0 && s.busFree (if s.rollDue 500 then 4 else 72) then
      { u with peer := { u.peer with lfsr := lfsrStep u.peer.lfsr, rolls := u.peer.rolls + 1 } }
    else s := by
  subst hu
  rw [← State.sends_eq hl]
  rfl

theorem State.trigSend_next {x : TrigFrame} {r : List TrigFrame} (hq : s.peer.txq = x :: r) : s.trigSend =
    if live && !(s.rollDue 500) && s.busFree 4 then
      ({ s with peer := { s.peer with txq := r } }).sendFrame 1 x.payload
    else s := by
  rw [← State.sends_eq hl]
  unfold State.trigSend
  rw [hq]

end Live

theorem State.trigSend_none (h : s.peer.txq = []) : s.trigSend = s := by
  unfold State.trigSend
  rw [h]

/-- The LEAVE frame of a module that leaves, and OFF (R433). -/
theorem State.leaveSend_eq (hv : (s.sendFrame 2 (s.rollPayload 0)).peerOff = v) : s.leaveSend =
    if s.peer.leaving && !(s.flag F.CLK_STAT.REF_ABSENT) && s.busFree 72 then v.peerListen else s := by
  subst hv
  rfl

end Send

section Table

variable {seat seq id caps st : Nat}

theorem State.tableRoll_known {e : Nat} (h : s.entryOf id = some e) : s.tableRoll seat seq id caps st =
    if s.entrySeat e = seat then s.setEntry e seat seq id caps st (getBits (s.reg (R.PARTNER e 0)) 30 1 == 1)
    else (s.setEntry e seat seq id caps st true).raisePF 259 e := by
  unfold State.tableRoll
  rw [h]
  dsimp only
  by_cases hs : s.entrySeat e = seat
  · have hb : (s.entrySeat e != seat) = false := by simp [hs]
    rw [hb, if_pos hs, if_neg Bool.false_ne_true, Bool.false_or]
  · have hb : (s.entrySeat e != seat) = true := by simp [hs]
    rw [hb, if_neg hs, if_pos rfl, Bool.true_or]

theorem State.tableRoll_new {e : Nat} (h : s.entryOf id = none)
    (he : (List.range 64).find? (fun e => !(s.entryValid e)) = some e) :
    s.tableRoll seat seq id caps st = (s.setEntry e seat seq id caps st false).raisePF 256 e := by
  unfold State.tableRoll
  rw [h]
  dsimp only
  rw [he]

/-- An identity for which the table has no room is reported once (R436). -/
theorem State.tableRoll_full (h : s.entryOf id = none)
    (he : (List.range 64).find? (fun e => !(s.entryValid e)) = none) :
    s.tableRoll seat seq id caps st = if s.peer.noRoom.contains id then s
      else ({ s with peer := { s.peer with noRoom := id :: s.peer.noRoom } }).raisePF 258 (id % 2 ^ 32) := by
  unfold State.tableRoll
  rw [h]
  dsimp only
  rw [he]

theorem State.rollRx_own (h : s.peerState = 2) (hi : id = s.peerId) :
    s.rollRx seat seq id caps st = (s.setFlag F.PEER_STAT.DUP_ID true).raisePF 259 0x3F := if_pos (by simp [h, hi])

/-- A lower identity on the own seat takes it (R435). -/
theorem State.rollRx_yields (h : s.peerState = 2) (hs : seat = s.fld F.PEER_STAT.SEAT) (hi : id < s.peerId) :
    s.rollRx seat seq id caps st = ((s.bump R.PEER_SEATCHG).startListen.tableRoll seat seq id caps st).seatFree := by
  have hc : (s.peerState == 2 && seat == s.fld F.PEER_STAT.SEAT && Nat.blt id s.peerId) = true := by
    rw [Bool.and_eq_true, Bool.and_eq_true, beq_iff_eq, beq_iff_eq, Nat.blt_eq]
    exact ⟨⟨h, hs⟩, hi⟩
  unfold State.rollRx
  rw [if_neg (by simp [Nat.ne_of_lt hi]), if_pos hc]

theorem State.rollRx_table
    (h : s.peerState ≠ 2 ∨ (id ≠ s.peerId ∧ (seat ≠ s.fld F.PEER_STAT.SEAT ∨ s.peerId ≤ id))) :
    s.rollRx seat seq id caps st = (s.tableRoll seat seq id caps st).seatFree := by
  unfold State.rollRx
  rcases h with h | ⟨hi, h⟩
  · rw [if_neg (by simp [h]), if_neg (by simp [h])]
  · rw [if_neg (by simp [hi]), if_neg]
    rw [Bool.and_eq_true, Bool.and_eq_true, beq_iff_eq, beq_iff_eq, Nat.blt_eq]
    rintro ⟨⟨-, hs⟩, hl⟩
    exact h.elim (· hs) (Nat.not_le.mpr hl)

end Table

section Receive

variable {b p : List Byte} {h : Nat}

/-- A LEAVE frame frees the entry of its sender (R436). -/
def State.leaveRx (s : State) (p : List Byte) : State :=
  match s.entryOf (bytesNat (p.take 8)) with
  | some e => s.freeEntry e
  | none => s

/-- What an accepted frame does, by its type (R435, R436, R439). -/
def State.frameTake (s : State) (h : Nat) (p : List Byte) : State :=
  match h % 16 with
  | 0 => s.rollRx (h / 16 % 64) (h / 1024) (bytesNat (p.take 8)) (bytesNat ((p.drop 8).take 2))
      (bytesNat ((p.drop 10).take 2))
  | 1 => s.trigRx (h / 16 % 64) (h / 1024) p
  | _ => s.leaveRx p

theorem State.frameTake_roll (hh : h % 16 = 0) : s.frameTake h p = s.rollRx (h / 16 % 64) (h / 1024)
    (bytesNat (p.take 8)) (bytesNat ((p.drop 8).take 2)) (bytesNat ((p.drop 10).take 2)) := by
  unfold State.frameTake
  rw [hh]
  rfl

theorem State.frameTake_trig (hh : h % 16 = 1) : s.frameTake h p = s.trigRx (h / 16 % 64) (h / 1024) p := by
  unfold State.frameTake
  rw [hh]
  rfl

theorem State.frameTake_leave {e : Nat} (hh : h % 16 = 2) (he : s.entryOf (bytesNat (p.take 8)) = some e) :
    s.frameTake h p = s.freeEntry e := by
  have hl : s.frameTake h p = s.leaveRx p := by
    unfold State.frameTake
    rw [hh]
    rfl
  rw [hl, State.leaveRx, he]

variable
  (hs : ({ z with peer := { z.peer with busEnd := z.time.elapsed + 0 * 2 ^ 64 / 1000000000 } } : State).ageAll = s)
include hs

theorem State.frameRx_eq : z.frameRx b =
    if s.peerState == 0 || !(s.flag F.PEER_CTL.EN) || !s.busLive then s
    else if !(frameGood b) then s.frameReject
    else s.frameTake (bytesNat ((b.drop 3).take 2)) ((b.drop 5).take 16) := by
  subst hs
  rfl

/-- A module that is OFF, leaves, or has no reference takes no frame (R429, R433). -/
theorem State.frameRx_deaf (hd : s.peerState = 0 ∨ s.flag F.PEER_CTL.EN = false ∨ s.flag F.CLK_STAT.REF_ABSENT = true) :
    z.frameRx b = s := by
  rw [State.frameRx_eq hs, if_pos (by rcases hd with hd | hd | hd <;> simp [State.busLive, hd])]

section Hears

variable (hp : s.peerState ≠ 0) (he : s.flag F.PEER_CTL.EN = true) (hr : s.flag F.CLK_STAT.REF_ABSENT = false)
include hp he hr

theorem State.frameRx_hears : z.frameRx b = if !(frameGood b) then s.frameReject
    else s.frameTake (bytesNat ((b.drop 3).take 2)) ((b.drop 5).take 16) := by
  rw [State.frameRx_eq hs, if_neg (by simpa [State.busLive, he, hr] using hp)]

theorem State.frameRx_rejects (ht : s.bump R.PEER_REJECT = t) (hg : frameGood b = false) :
    z.frameRx b = t.raiseOnce F.PEER_STAT.REJECT_SEEN 260 (t.fld F.PEER_REJECT.V % 2 ^ 16) routePF := by
  rw [State.frameRx_hears hs hp he hr, hg, ← ht]
  rfl

theorem State.frameRx_accepts (hb : bytesNat ((b.drop 3).take 2) = h) (hq : (b.drop 5).take 16 = p)
    (hg : frameGood b = true) : z.frameRx b = s.frameTake h p := by
  rw [State.frameRx_hears hs hp he hr, hg, hb, hq]
  rfl

end Hears

end Receive

section Trig

variable {seat seq : Nat} {p : List Byte} {e : Option Nat} (he : s.entryAt seat = e) (hu : s.noteSeq e seq = u)
include he hu

/-- A TRIG frame enters the receive ring while it is enabled and has room (R439). -/
theorem State.trigRx_eq : s.trigRx seat seq p =
    if !(u.flag F.PEER_CTL.RX_EN) then u
    else if u.reg R.PEER_BRX_WPTR - u.reg R.PEER_BRX_RPTR = 64#32 then u.bump R.PEER_BRX_LOST
    else ((u.setRegs (R.BRX ((u.reg R.PEER_BRX_WPTR).toNat % 64) 0) (u.brxEntry e p)).bump R.PEER_BRX_WPTR).raisePF 261
      (e.getD 0x3F) := by
  subst he hu
  rfl

end Trig

section Age

variable {e : Nat}

theorem State.ageOut_young (h : s.entryValid e = false ∨ s.since (SMap.get zero s.peer.rollAt e) 8000 = false) :
    s.ageOut e = s := if_neg (by rcases h with h | h <;> simp [h])

/-- An entry that ages out frees its seat, for a module without one too (R436). -/
theorem State.ageOut_old (hv : s.entryValid e = true) (ht : s.since (SMap.get zero s.peer.rollAt e) 8000 = true)
    (hu : ({ ((s.setReg (R.PARTNER e 0) (putBits (s.reg (R.PARTNER e 0)) 31 1 0)).showPartners).raisePF 257 e with
      peer := { s.peer with noRoom := [] } } : State) = u) :
    s.ageOut e = if u.peerState = 3 then u.takeSeat else u := by
  have hp : (((s.setReg (R.PARTNER e 0) (putBits (s.reg (R.PARTNER e 0)) 31 1 0)).showPartners).raisePF 257 e).peer
      = s.peer := State.raisePF_peer _ _ _
  subst hu
  refine (if_pos (by rw [hv, ht]; rfl)).trans ?_
  unfold State.freeEntry
  dsimp only
  rw [hp]
  simp only [beq_iff_eq]

end Age

end Lemmas

/-- Settles O54: the state of the bus decides what is sent and taken, the partner table what a ROLL frame does, and every
other command has one condition. -/
theorem chassisPeers : Obligations.ChassisPeers := by
  unfold Obligations.ChassisPeers
  refine ⟨?pulse, ?control, ?listen, ?send, ?bus, ?frame, ?receive, ?roll, ?trig, ?age⟩
  case pulse =>
    intro s u o x hs hu
    rw [exec_peerSoftPulse hs, State.outWrite_pulse hu]
    exact ⟨fun h => by rw [if_pos h], fun h => by rw [if_neg h]⟩
  case control =>
    intro s u v hs hu
    rw [exec_peerCtlWrite hs]
    refine ⟨fun h hp => ?_, fun h hp => ?_, fun h hp => ?_, fun h hp => ?_⟩
    · rw [State.peerCtlWrite_on hu h, if_pos hp]
    · rw [State.peerCtlWrite_on hu h, if_neg hp]
    · rw [State.peerCtlWrite_off hu h, if_pos hp]
    · rw [State.peerCtlWrite_off hu h, if_neg hp]
  case listen =>
    intro s u hs
    rw [exec_peerListenEnd hs]
    refine ⟨fun k h ht hk hu => ⟨?_, State.freeSeat_spec hk⟩, fun h ht hk => ?_, fun h => ?_⟩
    · rw [State.listenEnd_due h ht, State.takeSeat_some hk hu]
    · rw [State.listenEnd_due h ht, State.takeSeat_none hk]
    · rw [State.listenEnd_early h]
  case send =>
    intro s u v live hs hl hu hv
    rw [exec_rollFrameSend hs, exec_trigFrameSend hs, exec_leaveFrameSend hs, State.rollSend_eq hl hu,
      State.leaveSend_eq hv]
    refine ⟨fun h hd hb => ?_, fun h => ?_, fun x r h hd hb hq => ?_, fun h => ?_, fun h hr hb => ?_, fun h => ?_⟩
    · rw [if_pos (by simp [h, hd, hb])]
    · rw [if_neg (by rcases h with h | h | h <;> simp [h])]
    · rw [State.trigSend_next hl hq, if_pos (by simp [h, hd, hb])]
    · cases hq : s.peer.txq with
      | nil => rw [State.trigSend_none hq]
      | cons x r =>
        rw [State.trigSend_next hl hq, if_neg]
        rcases h with h | h | h | h
        · simp [h]
        · simp [h]
        · simp [h]
        · simp [hq] at h
    · rw [if_pos (by simp [h, hr, hb])]
    · rw [if_neg (by rcases h with h | h | h <;> simp [h])]
  case bus => exact fun s n us => ⟨State.busFree_iff, State.rollDue_iff⟩
  case frame => exact fun s type p => rfl
  case receive =>
    rintro z s t b p h c hz hs hc ⟨hb, hp⟩ ht
    rw [exec_frameRx hz hc]
    refine ⟨fun hd => ?_, fun h0 he hr hg => ?_, fun h0 he hr hg hh => ?_, fun h0 he hr hg hh => ?_,
      fun e h0 he hr hg hh hx => ?_⟩
    · rw [State.frameRx_deaf hs hd]
    · rw [State.frameRx_rejects hs h0 he hr ht hg]
    · rw [State.frameRx_accepts hs h0 he hr hb hp hg, State.frameTake_roll hh]
    · rw [State.frameRx_accepts hs h0 he hr hb hp hg, State.frameTake_trig hh]
    · rw [State.frameRx_accepts hs h0 he hr hb hp hg, State.frameTake_leave hh hx]
  case roll =>
    refine fun s seat seq id caps st => ⟨State.rollRx_own, State.rollRx_yields, State.rollRx_table, fun e h hs => ?_,
      fun e h hs => ?_, fun e => State.tableRoll_new, State.tableRoll_full⟩
    · rw [State.tableRoll_known h, if_pos hs]
    · rw [State.tableRoll_known h, if_neg hs]
  case trig =>
    intro s u seat seq p e he hu
    rw [State.trigRx_eq he hu]
    refine ⟨fun h => ?_, fun h hw => ?_, fun h hw => ?_⟩
    · rw [if_pos (by simp [h])]
    · rw [if_neg (by simp [h]), if_pos hw]
    · rw [if_neg (by simp [h]), if_neg hw]
  case age =>
    intro s u e hs hu
    rw [exec_partnerAgeOut hs]
    refine ⟨fun hv ht hp => ?_, fun hv ht hp => ?_, fun h => ?_⟩
    · rw [State.ageOut_old hv ht hu, if_neg hp]
    · rw [State.ageOut_old hv ht hu, if_pos hp]
    · rw [State.ageOut_young h]

end Sys2Proof.Machine
end

section
/-!
PROOFS. The pair link: presence, training, its timers, blocks and lanes, and its loss (R445 to R449).
-/
namespace Sys2Proof.Machine

section Lemmas

variable {s u z : State}

section Commands

variable (h : s.runs = true)
include h

theorem exec_pairPresentChange (b : Bool) : exec (.pairPresentChange b) s = .next (s.keep (s.presentChange b)) :=
  s.act_running _ h

theorem exec_pairLinkTrained (id : BitVec 64) (cyc : Nat) (skew : Int) :
    exec (.pairLinkTrained id cyc skew) s = .next (s.keep (s.linkTrained id.toNat cyc skew)) := s.act_running _ h

theorem exec_pairTrainTimeout : exec .pairTrainTimeout s = .next (s.keep s.trainTimeout) := s.act_running _ h

theorem exec_pairSilenceTimeout : exec .pairSilenceTimeout s = .next (s.keep s.silence) := s.act_running _ h

theorem exec_pairRetrainTimer : exec .pairRetrainTimer s = .next (s.keep s.mayRetrain) := s.act_running _ h

theorem exec_pairCtlWrite (v : Word) : exec (.pairCtlWrite v) s = .next (s.keep (s.plainWrite R.PAIR_CTL v).pairTrain) :=
  s.act_running _ h

theorem exec_pairBlockRx (ls : List (BitVec 128)) : exec (.pairBlockRx ls) s = .next (s.keep (s.blockRx ls)) :=
  s.act_running _ h

end Commands

section Presence

variable {b : Bool}

theorem State.presentChange_same (h : s.flag F.PAIR_STAT.PRESENT = b) : s.presentChange b = s := if_pos (by simp [h])

/-- A rise lets the link train, a fall loses it (R447, R449). -/
theorem State.presentChange_new (hu : (s.setFlag F.PAIR_STAT.PRESENT b).raisePF 270 (if b then 1 else 0) = u)
    (h : s.flag F.PAIR_STAT.PRESENT ≠ b) : s.presentChange b = if b then u.pairTrain else u.linkLost 2 := by
  subst hu
  exact if_neg (by simpa using h)

end Presence

section Train

theorem State.linkLost_up {cause : Nat}
    (hu : ((((s.setFlag F.PAIR_STAT.LINK_UP false).setFlag F.PAIR_STAT.LOST_SEEN true).bump R.PAIR_LOSSES).raisePF 266
      (2 ^ cause)).fault 0x0109 0 = u) (h : s.flag F.PAIR_STAT.LINK_UP = true) :
    s.linkLost cause = ({ u with pair := { u.pair with restAt := some u.time.elapsed } }).twinLost.pairTrain := by
  unfold State.linkLost
  dsimp only
  rw [if_pos h, hu]

theorem State.linkLost_down {cause : Nat} (h : s.flag F.PAIR_STAT.LINK_UP = false) : s.linkLost cause = s.pairTrain :=
  if_neg (Bool.eq_false_iff.mp h)

/-- TRAINING follows the conditions of R447 and R449; a training that starts notes when. -/
theorem State.pairTrain_eq {on : Bool} (h : (s.flag F.PAIR_CTL.EN && s.flag F.PAIR_STAT.PRESENT
      && !(s.flag F.CLK_STAT.BYPASS) && !(s.flag F.PAIR_STAT.LINK_UP) && s.pair.restAt.isNone) = on) :
    s.pairTrain = (if on = true ∧ s.flag F.PAIR_STAT.TRAINING = false then
      { s with pair := { s.pair with trainAt := s.time.elapsed } } else s).setFlag F.PAIR_STAT.TRAINING on := by
  subst h
  simp only [State.pairTrain, State.pairReady, Bool.and_eq_true, Bool.not_eq_true']

/-- A training that ends brings the link up with every lane good (R446 to R448). -/
theorem State.linkTrained_training {id cyc : Nat} {skew : Int} {al : Bool}
    (ha : (cyc == s.coreNo && decide (4 * ((skew.natAbs : Nat) : Rat) ≤ s.corePeriod)) = al)
    (hu : (((((s.setFlag F.PAIR_STAT.LINK_UP true).setFlag F.PAIR_STAT.TRAINING false).setFlag F.PAIR_STAT.SPARE_USED
      false).setFld F.PAIR_STAT.FAILED 15).setFlag F.PAIR_STAT.UNALIGNED (!al)).setReg64 R.PAIR_PARTNER_ID_LO id = u)
    (h : s.flag F.PAIR_STAT.TRAINING = true) :
    s.linkTrained id cyc skew = ({ u.showLat with
      pair := { s.pair with errs := [], blockAt := s.time.elapsed } }).raisePF 264 (8 * 2 ^ 8) := by
  subst ha hu
  exact if_pos h

theorem State.linkTrained_idle {id cyc : Nat} {skew : Int} (h : s.flag F.PAIR_STAT.TRAINING = false) :
    s.linkTrained id cyc skew = s := if_neg (Bool.eq_false_iff.mp h)

end Train

section Timers

theorem State.trainTimeout_due (h : s.flag F.PAIR_STAT.TRAINING = true) (ht : s.since s.pair.trainAt 2000 = true) :
    s.trainTimeout = ({ s with pair := { s.pair with trainAt := s.time.elapsed } }).bump R.PAIR_TRAIN_FAILS :=
  if_pos (by rw [h, ht]; rfl)

theorem State.trainTimeout_early (h : s.flag F.PAIR_STAT.TRAINING = false ∨ s.since s.pair.trainAt 2000 = false) :
    s.trainTimeout = s := if_neg (by rcases h with h | h <;> simp [h])

theorem State.silence_due (h : s.flag F.PAIR_STAT.LINK_UP = true) (ht : s.since s.pair.blockAt 1 = true) :
    s.silence = s.linkLost 3 := if_pos (by rw [h, ht]; rfl)

theorem State.silence_early (h : s.flag F.PAIR_STAT.LINK_UP = false ∨ s.since s.pair.blockAt 1 = false) :
    s.silence = s := if_neg (by rcases h with h | h <;> simp [h])

theorem State.mayRetrain_rested {t : Nat} (h : s.pair.restAt = some t) : s.mayRetrain =
    if s.since t 1000 then ({ s with pair := { s.pair with restAt := none } }).pairTrain else s := by
  unfold State.mayRetrain
  rw [h]

theorem State.mayRetrain_none (h : s.pair.restAt = none) : s.mayRetrain = s := by
  unfold State.mayRetrain
  rw [h]

end Timers

section Blocks

/-- A block shows more bad lanes than the spare can stand for (R446, R449). -/
def State.blockFails (s : State) (bad : List Nat) : Bool :=
  if s.flag F.PAIR_STAT.SPARE_USED then bad.any (fun k => k != s.fld F.PAIR_STAT.FAILED) else Nat.blt 1 bad.length

/-- A block that the lanes can stand is judged by its first bad lane, or by the spare (R445, R446). -/
def State.laneVerdict (s : State) (ls : List (BitVec 128)) (bad : List Nat) : State :=
  match bad with
  | k :: _ => s.laneError k
  | [] =>
    if (List.range 8).foldl (fun a k => a ^^^ ls.getD k 0) (0 : BitVec 128) != ls.getD 8 0 then s.laneError 8 else s

theorem State.laneVerdict_nil {ls : List (BitVec 128)} : s.laneVerdict ls [] =
    if (List.range 8).foldl (fun a k => a ^^^ ls.getD k 0) (0 : BitVec 128) = ls.getD 8 0 then s else s.laneError 8 := by
  simp only [State.laneVerdict, bne_iff_ne, ne_eq, ite_not]

theorem blt_length_filter {α : Type} (p : α → Bool) (l : List α) : Nat.blt 0 (l.filter p).length = l.any p := by
  rw [Bool.eq_iff_iff, Nat.blt_eq, List.length_pos_iff, List.any_eq_true, ne_eq, List.filter_eq_nil_iff]
  simp

theorem State.blockRx_down {ls : List (BitVec 128)} (h : z.flag F.PAIR_STAT.LINK_UP = false) : z.blockRx ls = z :=
  if_pos (by rw [h]; rfl)

section Up

variable {ls : List (BitVec 128)} {bad : List Nat} (h : z.flag F.PAIR_STAT.LINK_UP = true)
  (hb : (List.range 8).filter (fun k => !(laneGood (ls.getD k 0))) = bad)
  (hs : (if bad.length = 8 then z else { z with pair := { z.pair with blockAt := z.time.elapsed } }) = s)
include h hb hs

theorem State.blockRx_up : z.blockRx ls = if s.blockFails bad then s.linkLost 1 else s.laneVerdict ls bad := by
  have hz : ¬((!(z.flag F.PAIR_STAT.LINK_UP)) = true) := by rw [h]; exact Bool.false_ne_true
  have hf : (if (if s.flag F.PAIR_STAT.SPARE_USED then some (s.fld F.PAIR_STAT.FAILED) else none).isSome then
      Nat.blt 0 (bad.filter (fun k => some k != (if s.flag F.PAIR_STAT.SPARE_USED then
        some (s.fld F.PAIR_STAT.FAILED) else none))).length
      else Nat.blt 1 bad.length) = s.blockFails bad := by
    unfold State.blockFails
    cases s.flag F.PAIR_STAT.SPARE_USED with
    | true => exact blt_length_filter _ _
    | false => rfl
  rw [← hf]
  subst hb hs
  exact if_neg hz

theorem State.blockRx_fails (hf : s.blockFails bad = true) : z.blockRx ls = s.linkLost 1 := by
  rw [State.blockRx_up h hb hs, if_pos hf]

theorem State.blockRx_lane {k : Nat} (hk : bad = [k])
    (hf : s.flag F.PAIR_STAT.SPARE_USED = false ∨ k = s.fld F.PAIR_STAT.FAILED) : z.blockRx ls = s.laneError k := by
  have hn : s.blockFails bad = false := by
    unfold State.blockFails
    subst hk
    cases hu : s.flag F.PAIR_STAT.SPARE_USED with
    | true => simpa using hf.resolve_left (by simp [hu])
    | false => rfl
  rw [State.blockRx_up h hb hs, hn, hk]
  rfl

theorem State.blockRx_good (hn : bad = []) : z.blockRx ls =
    if (List.range 8).foldl (fun a k => a ^^^ ls.getD k 0) (0 : BitVec 128) = ls.getD 8 0 then s else s.laneError 8 := by
  have hf : s.blockFails bad = false := by
    unfold State.blockFails
    rw [hn]
    cases s.flag F.PAIR_STAT.SPARE_USED <;> rfl
  rw [State.blockRx_up h hb hs, hf, hn, ← State.laneVerdict_nil]
  rfl

end Up

end Blocks

section Lanes

variable {k : Nat} (hu : { s.bump (R.PAIR_LANE_ERR k) with pair := { s.pair with
    errs := (k, s.time.elapsed) :: s.pair.errs.filter (fun e => decide (s.time.elapsed < e.2 + millisecond)) } } = u)
include hu

/-- A lane fails at ERR_THR errors within 1 ms, while the spare is free (R446). -/
theorem State.laneError_eq : s.laneError k =
    if u.flag F.PAIR_STAT.SPARE_USED || Nat.blt (u.laneErrors k) (max 1 (u.fld F.PAIR_CTL.ERR_THR)) then u
    else ((((u.setFlag F.PAIR_STAT.SPARE_USED true).setFld F.PAIR_STAT.FAILED k).raisePF 265 (k + 16)).fault 0x000B
      k).tell (.control (.laneFailed k)) := by
  subst hu
  rfl

end Lanes

end Lemmas

/-- Settles O55: each change of presence, training, timer and block has its condition, and the lanes that a block shows as bad
decide whether the link stands. -/
theorem pairLink : Obligations.PairLink := by
  unfold Obligations.PairLink
  refine ⟨?present, ?lost, ?trained, ?timers, ?block, ?lane⟩
  case present =>
    intro s u b hs hu
    rw [exec_pairPresentChange hs]
    refine ⟨fun h => ?_, fun h hb => ?_, fun h hb => ?_⟩
    · rw [State.presentChange_same h]
    · rw [State.presentChange_new hu h, if_pos hb]
    · rw [State.presentChange_new hu h, if_neg (Bool.eq_false_iff.mp hb)]
  case lost =>
    exact fun s u cause hu => ⟨State.linkLost_up hu, State.linkLost_down, fun on => State.pairTrain_eq⟩
  case trained =>
    intro s u id cyc skew al hs ha hu
    rw [exec_pairLinkTrained hs]
    exact ⟨fun h => by rw [State.linkTrained_training ha hu h], fun h => by rw [State.linkTrained_idle h]⟩
  case timers =>
    intro s v hs
    rw [exec_pairTrainTimeout hs, exec_pairSilenceTimeout hs, exec_pairRetrainTimer hs]
    refine ⟨fun h ht => ?_, fun h => ?_, fun h ht => ?_, fun h => ?_, fun t h ht => ?_, fun h => ?_,
      exec_pairCtlWrite hs v⟩
    · rw [State.trainTimeout_due h ht]
    · rw [State.trainTimeout_early h]
    · rw [State.silence_due h ht]
    · rw [State.silence_early h]
    · rw [State.mayRetrain_rested h, if_pos ht]
    · rcases h with h | ⟨t, h, ht⟩
      · rw [State.mayRetrain_none h]
      · rw [State.mayRetrain_rested h, if_neg (Bool.eq_false_iff.mp ht)]
  case block =>
    intro z s ls bad hz hb hs
    rw [exec_pairBlockRx hz]
    refine ⟨fun h => ?_, fun h hf hl => ?_, fun k h hk hf => ?_, fun h hn => ?_, fun h hf hx => ?_⟩
    · rw [State.blockRx_down h]
    · rw [State.blockRx_fails h hb hs]
      simp only [State.blockFails, hf, Bool.false_eq_true, if_false, Nat.blt_eq, hl]
    · rw [State.blockRx_lane h hb hs hk hf]
    · rw [State.blockRx_good h hb hs hn]
    · rw [State.blockRx_fails h hb hs]
      obtain ⟨k, hk, hne⟩ := hx
      simp only [State.blockFails, hf, if_true, List.any_eq_true, bne_iff_ne]
      exact ⟨k, hk, hne⟩
  case lane =>
    intro s u k hu
    rw [State.laneError_eq hu]
    refine ⟨fun h => ?_, fun hs hl => ?_⟩
    · rw [if_pos]
      rwa [Bool.or_eq_true, Nat.blt_eq]
    · rw [if_neg]
      rw [hs, Bool.false_or, Nat.blt_eq]
      omega

end Sys2Proof.Machine
end

section
/-!
PROOFS. Joining, leaving and handing over a twin (R451 to R454, R464, R468, R469).
-/
namespace Sys2Proof.Machine

section Lemmas

variable {s u v : State} {d : Desc}

section Commands

section Starts

variable {r : Fin 64}

/-- A block acts on descriptors in their order: a TWIN_JOIN starts where none waits (R389). -/
theorem exec_twinJoin (h : s.starts r 0x70 d = true) (hj : s.pair.join = none) :
    exec (.twinJoin r) s = .next (s.keep ((s.begin r d).twinJoin d.begun)) := by
  refine (s.act_running _ (State.starts_runs h)).trans ?_
  rw [hj, if_neg (by decide), State.withStart_eq _ h]

theorem exec_twinSplit (h : s.starts r 0x71 d = true) (hj : s.pair.split = none) :
    exec (.twinSplit r) s = .next (s.keep ((s.begin r d).twinSplit d.begun)) := by
  refine (s.act_running _ (State.starts_runs h)).trans ?_
  rw [hj, if_pos (by decide), State.withStart_eq _ h]

theorem exec_twinHandover (h : s.starts r 0x74 d = true) (hj : s.pair.handover = none) :
    exec (.twinHandover r) s = .next (s.keep ((s.begin r d).twinHandover d.begun)) := by
  refine (s.act_running _ (State.starts_runs h)).trans ?_
  rw [hj, if_neg (by decide), State.withStart_eq _ h]

end Starts

variable (h : s.runs = true)
include h

theorem exec_twinJoinTimeout : exec .twinJoinTimeout s = .next (s.keep s.joinTimeout) := s.act_running _ h

theorem exec_twinJoinEffect : exec .twinJoinEffect s = .next (s.keep s.joinEffect) := s.act_running _ h

theorem exec_twinPhaseOk (x : Int) : exec (.twinPhaseOk x) s = .next (s.keep (s.phaseMeasured x)) := s.act_running _ h

theorem exec_twinHandoverEffect : exec .twinHandoverEffect s = .next (s.keep s.handoverEffect) := s.act_running _ h

end Commands

section Join

/-- The rows of Table 18.4 that the module checks alone, in their order (R451, R452). -/
theorem State.twinJoin_eq {bad : Bool}
    (hb : (d.context != 15 || !(d.reservedClear 2 [(2, 0x11), (3, 0xFFFF)]) || s.joined) = bad) : s.twinJoin d =
    if bad then s.finish d .badDescriptor []
    else if s.compat then s.finish d .notSupportedCompat []
    else if s.joinBusy then s.finish d .busy []
    else if !(s.flag F.PAIR_STAT.LINK_UP) then s.finish d .pairLost []
    else (({ s with pair := { s.pair with
        join := some ⟨d.seq, d.f 2 0 1 == 1, d.f 2 4 1 == 1, d.f 3 0 16, s.time.elapsed⟩ } }).tell
      (.control (.join (s.joinReq (d.f 2 0 1 == 1) (d.f 2 4 1 == 1))))).joinBoth := by
  subst hb
  rfl

section Both

variable {own : JoinRun} {p : JoinReq} (ho : s.pair.join = some own) (hp : s.pair.partner = some p)
include ho hp

/-- With both requests present, equal roles end both joins and the leader checks the rest (R452, R453). -/
theorem State.joinBoth_eq : s.joinBoth =
    if own.leader == p.leader then s.joinEnd .badDescriptor
    else if !own.leader then s
    else if s.joinBad own p then (s.tell (.control (.joined false 0))).joinEnd .badDescriptor
    else (({ s with pair := { s.pair with joinAt := some s.joinIndex } }).tell (.control (.joined true s.joinIndex))).tell
      (.time (s.joinIndex / s.perCycle - s.dL) (.rate (s.sfld F.TIME_RATE_ADJ.V))) := by
  unfold State.joinBoth
  rw [ho, hp]

theorem State.joinEffect_eq {j : Nat} (hj : s.pair.joinAt = some j)
    (hu : (s.setFld F.PAIR_STAT.ROLE (if own.leader then 1 else 2)).setFlag F.PAIR_STAT.FORM own.interleave = u)
    (hv : (if own.leader then u.reseed (u.reg (R.CLK_SYN_SEED 0)) (u.reg (R.CLK_SYN_SEED 1))
      else u.reseed p.seedA p.seedB).roleEffect.symRole = v) :
    s.joinEffect = if s.time.idx < j then s
      else if own.interleave then
        (({ v with pair := { v.pair with joinAt := none, partner := none } }).phaseTo false).judgePhase
      else ({ v with pair := { v.pair with joinAt := none, partner := none } }).joinDone := by
  subst hu hv
  unfold State.joinEffect
  rw [ho, hp, hj]

end Both

theorem State.joinTimeout_none (h : s.pair.join = none) : s.joinTimeout = s := by
  unfold State.joinTimeout
  rw [h]

/-- A request that the partner has not sent within TIMEOUT ends the join (R451, R452). -/
theorem State.joinTimeout_some {j : JoinRun} (h : s.pair.join = some j) : s.joinTimeout =
    if s.pair.partner.isNone && s.since j.start (1000 * (if j.timeout = 0 then 1000 else j.timeout)) then
      (s.tell (.control .leave)).joinEnd .pairLost else s := by
  unfold State.joinTimeout
  rw [h]

end Join

section Phase

section Measured

variable {x : Int} (hu : { s with pair := { s.pair with offset := x } } = u)
include hu

theorem State.phaseMeasured_follower (hf : s.isFollower = true) (ht : s.flag F.PAIR_STAT.FORM = true) :
    s.phaseMeasured x = if u.onTarget = s.flag F.PAIR_STAT.PHASE_OK then u
      else (u.tell (.control (.phaseOk u.onTarget))).phaseTo u.onTarget := by
  have hm : s.phaseMeasured x = u.judgePhase := by
    rw [← hu]
    exact if_pos (by rw [hf, State.twinForm, ht]; rfl)
  have hf' : u.isFollower = true := by
    rw [← hf, ← hu, State.isFollower, State.isFollower, State.fld_with_pair]
  have ht' : u.twinForm = true := by rw [← ht, ← hu, State.twinForm, State.flag_with_pair]
  have hp : u.flag F.PAIR_STAT.PHASE_OK = s.flag F.PAIR_STAT.PHASE_OK := by rw [← hu, State.flag_with_pair]
  rw [hm, State.judgePhase, hf', ht', hp, Bool.true_and, Bool.true_and]
  simp only [bne_iff_ne, ne_eq, ite_not]

theorem State.onTarget_iff : u.onTarget = true ↔
    (x : Rat) - (8 * s.samplePeriod + (clampInt (-800000) 800000 (s.sfld F.PAIR_TWIN_PHASE.V) : Int)) ≤ 160 ∧
      -160 ≤ (x : Rat) - (8 * s.samplePeriod + (clampInt (-800000) 800000 (s.sfld F.PAIR_TWIN_PHASE.V) : Int)) := by
  subst hu
  rw [State.onTarget, Bool.and_eq_true, decide_eq_true_eq, decide_eq_true_eq]
  rfl

end Measured

theorem State.phaseMeasured_other {x : Int} (h : s.isFollower = false ∨ s.flag F.PAIR_STAT.FORM = false) :
    s.phaseMeasured x = s := if_neg (by rcases h with h | h <;> simp [State.twinForm, h])

theorem State.phaseTo_on (hu : s.setFlag F.PAIR_STAT.PHASE_OK true = u) :
    s.phaseTo true = if u.pair.join.isSome then (u.degOff .phase (u.frameNow false)).joinDone
      else u.degOff .phase (u.frameNow false) := by
  subst hu
  rfl

/-- Samples are degraded from the first loss of the phase on (R464). -/
theorem State.phaseTo_off : s.phaseTo false =
    if ∃ x ∈ s.inp.spans, x.cause = .phase ∧ x.stop = none then s.setFlag F.PAIR_STAT.PHASE_OK false
    else (s.setFlag F.PAIR_STAT.PHASE_OK false).degOn .phase ((s.setFlag F.PAIR_STAT.PHASE_OK false).frameNow false) := by
  have hp : ((s.setFlag F.PAIR_STAT.PHASE_OK false).inp.spans.any (fun x => decide (x.cause = .phase ∧ x.stop = none)))
      = true ↔ ∃ x ∈ s.inp.spans, x.cause = .phase ∧ x.stop = none := by
    simp only [State.setFlag_inp, List.any_eq_true, decide_eq_true_eq]
  unfold State.phaseTo
  dsimp only
  rw [if_neg Bool.false_ne_true]
  exact if_congr hp rfl rfl

end Phase

section Split

theorem State.twinSplit_joined (hc : d.context = 15) (hr : d.reservedClear 2 [] = true) (hj : s.joined = true) :
    s.twinSplit d = (s.tell (.control .split)).splitStart (some d.seq) := if_neg (by simp [hc, hr, hj])

theorem State.twinSplit_bad (h : d.context ≠ 15 ∨ d.reservedClear 2 [] = false ∨ s.joined = false) :
    s.twinSplit d = s.finish d .badDescriptor [] := if_pos (by rcases h with h | h | h <;> simp [h])

theorem State.trySplit_none (h : s.pair.split = none) : s.trySplit = s := by
  unfold State.trySplit
  rw [h]

section Try

variable {own : Option Nat} (h : s.pair.split = some own)
  (hu : (if s.pair.ready.isSome || s.anyBusy || s.armUnwritten then s else
    ({ s with pair := { s.pair with ready := some s.coreNo } }).tell (.control (.splitReady s.coreNo))) = u)
include h hu

theorem State.trySplit_waits (hw : u.pair.ready = none ∨ u.pair.partnerReady = none) : s.trySplit = u := by
  unfold State.trySplit
  rw [h]
  dsimp only
  rw [hu]
  rcases hw with hw | hw
  · rw [hw]
  · rw [hw]
    cases u.pair.ready <;> rfl

/-- Both modules leave 4 D_L core cycles after the later one was ready (R468, log entry 98). -/
theorem State.trySplit_both {a b : Nat} (ha : u.pair.ready = some a) (hb : u.pair.partnerReady = some b) :
    s.trySplit = if max a b + 4 * u.dL ≤ u.coreNo then (u.twinLeave.raisePF 268 0).finishOpt own .ok [] else u := by
  unfold State.trySplit
  rw [h]
  dsimp only
  rw [hu, ha, hb]
  simp only [Nat.ble_eq]

end Try

end Split

section Handover

/-- The rows of Table 18.9 for a handover, and what it sends (R469). -/
theorem State.twinHandover_eq {bad : Bool} {h : Nat}
    (hb : (d.context != 15 || !(d.reservedClear 2 []) || !s.isLeader || s.flag F.PAIR_STAT.FORM) = bad)
    (hh : (s.coreNo + 512) * s.perCycle = h) : s.twinHandover d =
    if bad then s.finish d .badDescriptor []
    else if Nat.blt 4 ((List.range 16).filter (fun k => (s.applied k).swapRemote)).length then s.finish d .busy []
    else ({ s with pair := { s.pair with handover := some (d.seq, h) } }).tell (.config (.handover h
      ((List.range 16).map (fun k => swapped (s.applied k).cfg))
      ((List.range 4).map (fun n => (List.range 23).map (fun i => s.reg (seqReg n i)))))) := by
  subst hb hh
  rfl

theorem State.handoverEffect_own {q h : Nat} (hh : s.pair.handover = some (q, h)) : s.handoverEffect =
    if s.isLeader then (if Nat.ble h s.time.idx then s.handAway h else s)
    else if Nat.ble (s.handEnd h) s.coreNo then s.handDone q else s := by
  unfold State.handoverEffect
  rw [hh]

theorem State.handoverEffect_taken {x : HandState} (hh : s.pair.handover = none) (hx : s.pair.handIn = some x) :
    s.handoverEffect = if s.isFollower && Nat.ble x.h s.time.idx then s.handTake x else s := by
  unfold State.handoverEffect
  rw [hh, hx]

theorem State.handoverEffect_none (hh : s.pair.handover = none) (hx : s.pair.handIn = none) : s.handoverEffect = s := by
  unfold State.handoverEffect
  rw [hh, hx]

end Handover

end Lemmas

/-- Settles O56: Table 18.4 decides a join, the target a measured phase, the two ready cycles a split, and the index H a
handover. -/
theorem twinJoining : Obligations.TwinJoining := by
  unfold Obligations.TwinJoining
  refine ⟨?join, ?both, ?timeout, ?effect, ?measured, ?phase, ?split, ?trySplit, ?handover, ?handEffect⟩
  case join =>
    rintro s u r d bad ⟨hs, hj⟩ rfl hb
    rw [exec_twinJoin hs hj, State.twinJoin_eq hb]
    refine ⟨fun h => ?_, fun h hc => ?_, fun h hc hy => ?_, fun h hc hy hl => ?_, fun h hc hy hl => ?_⟩
    · rw [if_pos h]
    · rw [if_neg (Bool.eq_false_iff.mp h), if_pos hc]
    · rw [if_neg (Bool.eq_false_iff.mp h), if_neg (Bool.eq_false_iff.mp hc), if_pos hy]
    · rw [if_neg (Bool.eq_false_iff.mp h), if_neg (Bool.eq_false_iff.mp hc), if_neg (Bool.eq_false_iff.mp hy),
        if_pos (by rw [hl]; rfl)]
    · rw [if_neg (Bool.eq_false_iff.mp h), if_neg (Bool.eq_false_iff.mp hc), if_neg (Bool.eq_false_iff.mp hy),
        if_neg (by rw [hl]; exact Bool.false_ne_true)]
      rfl
  case both =>
    rintro s own p j ⟨ho, hp, rfl⟩
    rw [State.joinBoth_eq ho hp]
    refine ⟨fun h => ?_, fun h1 h2 => ?_, fun h1 h2 hb => ?_, fun h1 h2 hb => ?_⟩
    · rw [if_pos (by simp [h])]
    · rw [h1, h2]; rfl
    · rw [h1, h2, hb]; rfl
    · rw [h1, h2, hb]; rfl
  case timeout =>
    intro s hs
    rw [exec_twinJoinTimeout hs]
    refine ⟨fun j hj hp ht => ?_, fun j hj h => ?_, fun hj => ?_⟩
    · rw [State.joinTimeout_some hj, if_pos (by rw [hp, ht]; rfl)]
    · rw [State.joinTimeout_some hj, if_neg]
      rcases h with h | h
      · simp [h]
      · rw [h, Bool.and_false]; exact Bool.false_ne_true
    · rw [State.joinTimeout_none hj]
  case effect =>
    rintro s u v own p j hs ⟨ho, hp, hj⟩ hu hv
    rw [exec_twinJoinEffect hs, State.joinEffect_eq ho hp hj hu hv]
    refine ⟨fun h => ?_, fun h hi => ?_, fun h hi => ?_⟩
    · rw [if_pos h]
    · rw [if_neg (Nat.not_lt.mpr h), if_pos hi]
    · rw [if_neg (Nat.not_lt.mpr h), if_neg (Bool.eq_false_iff.mp hi)]
  case measured =>
    intro s u x hs hu
    rw [exec_twinPhaseOk hs]
    refine ⟨fun hf ht ho => ?_, fun hf ht ho => ?_, fun h => ?_, State.onTarget_iff hu⟩
    · rw [State.phaseMeasured_follower hu hf ht, if_pos ho]
    · rw [State.phaseMeasured_follower hu hf ht, if_neg ho]
    · rw [State.phaseMeasured_other h]
  case phase =>
    intro s u hu
    refine ⟨State.phaseTo_on hu, fun h => ?_, fun h => ?_⟩
    · rw [State.phaseTo_off, if_neg (fun ⟨x, hx, hp⟩ => h x hx hp)]
    · rw [State.phaseTo_off, if_pos h]
  case split =>
    rintro s u r d ⟨hs, hj⟩ rfl
    rw [exec_twinSplit hs hj]
    refine ⟨fun hc hr h => ?_, fun h => ?_⟩
    · rw [State.twinSplit_joined hc hr h]; rfl
    · rw [State.twinSplit_bad h]
  case trySplit =>
    exact fun s u own hu => ⟨State.trySplit_none, fun h => State.trySplit_waits h hu,
      fun a b h => State.trySplit_both h hu⟩
  case handover =>
    rintro s u r d bad h ⟨hs, hj⟩ rfl hb hh
    rw [exec_twinHandover hs hj, State.twinHandover_eq hb hh]
    refine ⟨fun h => ?_, fun h hn => ?_, fun h hn => ?_⟩
    · rw [if_pos h]
    · rw [if_neg (Bool.eq_false_iff.mp h), if_pos (Nat.blt_eq.mpr hn)]
    · rw [if_neg (Bool.eq_false_iff.mp h), if_neg (by rw [Nat.blt_eq]; omega)]
      rfl
  case handEffect =>
    intro s hs
    rw [exec_twinHandoverEffect hs]
    refine ⟨fun q h hh hl hi => ?_, fun q h hh hl hi => ?_, fun q h hh hl => ?_, fun x hh hx hf hi => ?_, fun hh hn => ?_⟩
    · rw [State.handoverEffect_own hh, if_pos hl, if_pos (Nat.ble_eq.mpr hi)]
    · rw [State.handoverEffect_own hh, if_pos hl, if_neg (by rw [Nat.ble_eq]; omega)]
    · rw [State.handoverEffect_own hh, if_neg (Bool.eq_false_iff.mp hl)]
      simp only [Nat.ble_eq]
      rfl
    · rw [State.handoverEffect_taken hh hx, if_pos (by rw [hf, Bool.true_and, Nat.ble_eq]; exact hi)]
    · cases hx : s.pair.handIn with
      | none => rw [State.handoverEffect_none hh hx]
      | some x =>
        rw [State.handoverEffect_taken hh hx, if_neg]
        rw [Bool.and_eq_true, Nat.ble_eq]
        rintro ⟨hf, hi⟩
        rcases hn with hn | hn | ⟨y, hy, hlt⟩
        · simp [hx] at hn
        · simp [hf] at hn
        · obtain rfl : x = y := by simpa [hx] using hy
          omega

end Sys2Proof.Machine
end

section
/-!
PROOFS. Twin operation: the skew calibration, the merged harvest and the messages of the pair link (R446 to R469).
-/
namespace Sys2Proof.Machine

section Lemmas

variable {s u v w : State} {d : Desc}

section Commands

section Starts

variable {r : Fin 64}

theorem exec_twinSkewcal (h : s.starts r 0x72 d = true) (hc : s.pair.cal = none) :
    exec (.twinSkewcal r) s = .next (s.keep ((s.begin r d).twinCalStart d.begun)) := by
  refine (s.act_running _ (State.starts_runs h)).trans ?_
  rw [hc, if_neg (by decide), State.withStart_eq _ h]

theorem exec_harvPair (h : s.starts r 0x73 d = true) :
    exec (.harvPair r) s = .next (s.keep ((s.begin r d).harvPair d.begun)) := s.act_start _ h

/-- A descriptor that starts is one of its ring. -/
theorem State.starts_ring {r op : Nat} (h : s.starts r op d = true) : d.ring = r := by
  have hd : s.headOf r = some d := by
    simp only [State.starts, Bool.and_eq_true, beq_iff_eq] at h
    exact h.1.1.2
  have hp := List.find?_some hd
  rw [Bool.and_eq_true, beq_iff_eq] at hp
  exact hp.1

end Starts

variable (h : s.runs = true)
include h

theorem exec_twinSkewcalDone (st : List (List SkewStep)) (bl : List (Nat × List (BitVec 16))) :
    exec (.twinSkewcalDone st bl) s = .next (s.keep (s.twinCalDone st bl)) := s.act_running _ h

theorem exec_lineMsgRx (x : Nat) (po : Bool) : exec (.lineMsgRx x po) s = .next (s.keep (s.lineRx x po)) :=
  s.act_running _ h

theorem exec_samplesMsgRx (f : BitVec 64) (ws ls : List (BitVec 16)) :
    exec (.samplesMsgRx f ws ls) s = .next (s.keep (s.samplesRx f.toNat ws ls)) := s.act_running _ h

theorem exec_firingMsgRx (k : Fin 16) (f : BitVec 64) (be : Bool) (fr : BitVec 10) :
    exec (.firingMsgRx k f be fr) s = .next (s.keep (s.firingRx k f.toNat be fr.toNat)) := s.act_running _ h

theorem exec_decisionMsgRx (n : Fin 4) (f : BitVec 64) (off : Int) (fr : BitVec 10) (mask : BitVec 16) (sy : Bool) :
    exec (.decisionMsgRx n f off fr mask sy) s = .next (s.keep (s.decisionRx n f.toNat off fr.toNat mask.toNat)) :=
  s.act_running _ h

theorem exec_timeMsgRx (cy : Nat) (m : TimeMsg) : exec (.timeMsgRx cy m) s = .next (s.keep (s.timeRx cy m)) :=
  s.act_running _ h

theorem exec_configMsgRx (m : ConfigMsg) : exec (.configMsgRx m) s = .next (s.keep (s.configRx m)) := s.act_running _ h

theorem exec_armMsgRx (m : ArmMsg) : exec (.armMsgRx m) s = .next (s.keep (s.armRx m)) := s.act_running _ h

theorem exec_controlMsgRx (m : ControlMsg) : exec (.controlMsgRx m) s = .next (s.keep (s.controlRx m)) := s.act_running _ h

end Commands

section Calibration

/-- The rows of Table 18.8, and the leader's share of a calibration (R466). -/
theorem State.twinCalStart_eq {m n : Nat} {bad : Bool} (hm : d.f 2 0 8 = m) (hn : max 1 (d.f 3 0 16) = n)
    (hb : (d.context != 15 || !(d.reservedClear 2 [(2, 0xFF), (3, 0xFFFF)]) || !s.isLeader || (!s.twinForm && (m == 0
      || !((inputsOf (m % 16)).all (sampledIn s.inp.route)) || !((inputsOf (m / 16)).all (sampledIn s.inp.route))))) = bad) :
    s.twinCalStart d =
      if bad then s.finish d .badDescriptor []
      else if s.twinForm then ({ s with pair := { s.pair with
        cal := some { seq := some d.seq, own := 0, other := 0, steps := n } } }).tell (.control (.skewRun 0 n))
      else if s.fgBusy (m % 16) then s.finish d .busy []
      else (({ s with pair := { s.pair with
        cal := some { seq := some d.seq, own := m % 16, other := m / 16, steps := n } } }).inject (m % 16) true).tell
          (.control (.skewRun (m / 16) n)) := by
  subst hm hn hb
  rfl

variable {st : List (List SkewStep)} {bl : List (Nat × List (BitVec 16))} {c : TwinCal}

theorem State.twinCalDone_none (hc : s.pair.cal = none) : s.twinCalDone st bl = s := by
  unfold State.twinCalDone
  rw [hc]

section Form

variable (hc : s.pair.cal = some c) (ht : s.twinForm = true)
  (hu : ({ s with pair := { s.pair with cal := none } } : State) = u)
include hc ht hu

/-- The leader of the interleave form applies the estimate of its blocks, once they have all arrived (R466). -/
theorem State.twinCalDone_leader {q : Nat} (hq : c.seq = some q) : s.twinCalDone st bl =
    if c.blocks < c.steps then s
    else (u.twinApply (s.twinEstimate c.sums 1) false).finishSeq q .ok [BitVec.ofNat 32 c.blocks,
      BitVec.ofNat 32 (pattern 32 ((s.twinEstimate c.sums 1).1 - s.pair.twin.1)),
      BitVec.ofNat 32 (s.twinEstimate c.sums 1).2.1, BitVec.ofNat 32 (s.twinEstimate c.sums 1).2.2] := by
  subst hu
  unfold State.twinCalDone
  rw [hc]
  dsimp only
  rw [if_pos ht, hq]
  rfl

theorem State.twinCalDone_follower (hq : c.seq = none) : s.twinCalDone st bl = u.sendBlocks (bl.take c.steps) := by
  subst hu
  unfold State.twinCalDone
  rw [hc]
  dsimp only
  rw [if_pos ht, hq]

end Form

section Inputs

variable {vals : List (List Rat)} (hc : s.pair.cal = some c) (ht : s.twinForm = false)
  (hv : s.skewAll c.own c.steps st = (vals, v))
include hc ht hv

/-- In the input form each module measures its own inputs (R466). -/
theorem State.twinCalDone_measured {q : Nat} (hq : c.seq = some q) : s.twinCalDone st bl =
    (({ v with pair := { v.pair with cal := some { c with mine := some (vals.map skewMean) } } }).inject c.own
      false).skewBoth := by
  unfold State.twinCalDone
  rw [hc]
  dsimp only
  rw [if_neg (Bool.eq_false_iff.mp ht), hv]
  dsimp only
  rw [hq]

theorem State.twinCalDone_reports (hq : c.seq = none) : s.twinCalDone st bl =
    (({ v with pair := { v.pair with cal := none } }).inject c.own false).tell
      (.control (.skewDone (vals.map skewMean))) := by
  unfold State.twinCalDone
  rw [hc]
  dsimp only
  rw [if_neg (Bool.eq_false_iff.mp ht), hv]
  dsimp only
  rw [hq]

end Inputs

theorem State.sendBlocks_cons {i : Nat} {ws l : List (BitVec 16)} (h : s.hearAll 0 i ws = (l, v)) :
    s.sendBlocks ((i, ws) :: bl) = (v.tell (.samples i (l.map (fun w => w.toInt)))).sendBlocks bl := by
  rw [State.sendBlocks]
  dsimp only
  rw [h]

end Calibration

section Harvest

variable {k : Nat} {bad : Bool}

/-- A merged harvest needs a valid partition of the descriptor's function that is no LOG partition (R467). -/
theorem State.harvPair_eq (hk : d.f 2 0 4 = k)
    (hb : (rangeBad d 0xF || !s.isLeader || (s.ptValid k && s.regionBad d)) = bad) :
    s.harvPair d =
      if bad then s.finish d .badDescriptor []
      else if !(s.ptValid k) || s.ptType k == 6 || s.ptOwner k != s.ringOwner d.ring then s.finish d .partitionFault []
      else ((s.addHarvest ⟨d.seq, d.ring, .pair, 0, k, 0, d.f 5 0 31, d.f 6 0 31, false, false, dw64 d.dw 8,
          s.ptBase k + d.f 3 0 31, s.regionLen d⟩).harvReads ⟨d.seq, d.ring, .pair, 0, k, 0, d.f 5 0 31, d.f 6 0 31, false,
          false, dw64 d.dw 8, s.ptBase k + d.f 3 0 31, s.regionLen d⟩).tell
        (.control (.linesFor (d.f 7 0 4) (d.f 3 0 31) (s.regionLen d) (d.f 5 0 31) (d.f 6 0 31))) := by
  subst hk hb
  rfl

theorem State.lineRx_pair {x : Nat} {po : Bool} (h : ∃ h ∈ s.hif.harvests, h.kind = .pair) : s.lineRx x po =
    ({ s with pair := { s.pair with lines := s.pair.lines ++ [(x % 2 ^ 256, po)] } }).pairDrain
      (s.pair.lines.length + 1) := by
  refine (if_pos (by simpa using h)).trans ?_
  dsimp only
  rw [List.length_append]
  rfl

theorem State.lineRx_none {x : Nat} {po : Bool} (h : ∀ h ∈ s.hif.harvests, h.kind ≠ .pair) : s.lineRx x po = s :=
  if_neg (by simpa using h)

end Harvest

section Samples

variable {f : Nat} {ws ls l : List (BitVec 16)}

theorem State.samplesRx_other (h : s.isLeader = false ∨ s.twinForm = false) : s.samplesRx f ws ls = s :=
  if_pos (by rcases h with h | h <;> simp [h])

/-- The leader of the interleave form hears its own words beside the follower's (R23, R466). -/
theorem State.samplesRx_leader (hl : s.isLeader = true) (ht : s.twinForm = true)
    (hv : s.hearFrom 0 ((f : Int) - 6) ls = (l, v)) : s.samplesRx f ws ls = v.samplesIn ws l := by
  refine (if_neg (by simp [hl, ht])).trans ?_
  dsimp only
  rw [hv]

theorem State.samplesIn_cal {c : TwinCal} (hc : s.pair.cal = some c) : s.samplesIn ws l = { s with pair := { s.pair with
    cal := some { c with blocks := c.blocks + 1, sums := c.sums.block ws l } } } := by
  unfold State.samplesIn
  rw [hc]

theorem State.samplesIn_off (hc : s.pair.cal = none) (ht : s.flag F.PAIR_CTL.TRACK = false) : s.samplesIn ws l = s := by
  unfold State.samplesIn
  rw [hc]
  exact if_pos (by rw [ht]; rfl)

/-- The background estimate is applied at its 4,096th block, where it has a signal (R466). -/
theorem State.samplesIn_track (hc : s.pair.cal = none) (ht : s.flag F.PAIR_CTL.TRACK = true)
    (hw : { s with pair := { s.pair with trackN := 0, track := {} } } = w) : s.samplesIn ws l =
    if s.pair.trackN + 1 < 4096 then
      { s with pair := { s.pair with trackN := s.pair.trackN + 1, track := s.pair.track.block ws l } }
    else if (s.pair.track.block ws l).signal then w.twinApply (w.twinEstimate (s.pair.track.block ws l) 8) true
    else w.bump R.PAIR_STARVED := by
  subst hw
  unfold State.samplesIn
  rw [hc]
  exact if_neg (by rw [ht]; exact Bool.false_ne_true)

end Samples

section Events

variable {k f n : Nat}

/-- A remote firing counts on the leader, and after a handover on the follower for what lies before its index (R455). -/
theorem State.firingRx_counts {be : Bool} {fr : Nat}
    (hu : (s.bump (R.TRG_TD_COUNT k)).setReg64 (R.TRG_TD_LAST_IDX_LO k) f = u) (ht : s.twinForm = false)
    (h : (s.isLeader = true ∧ (s.applied k).remote = true) ∨ (s.isFollower = true ∧ s.firesHere f = true)) :
    s.firingRx k f be fr = { u with trg := { s.trg with
      fires := s.trg.fires ++ [⟨k, f, if be then f - 1 else f, fr⟩] } } := by
  subst hu
  exact if_pos (by simpa [ht] using h)

theorem State.firingRx_other {be : Bool} {fr : Nat} (h : s.twinForm = true ∨
      ((s.isLeader = false ∨ (s.applied k).remote = false) ∧ (s.isFollower = false ∨ s.firesHere f = false))) :
    s.firingRx k f be fr = s := by
  refine if_neg ?_
  rcases h with h | ⟨h1 | h1, h2 | h2⟩
  · simp [h]
  · simp [h1, h2]
  · simp [h1, h2]
  · simp [h1, h2]
  · simp [h1, h2]

variable {off : Int} {fr mask : Nat}

theorem State.decisionRx_acts (h : s.isFollower = true ∨ s.pair.handWait = true) (ha : s.armed n = true) :
    s.decisionRx n f off fr mask = ((s.acceptTrigger n ((f : Int) + off).toNat fr mask).drive n ((f : Int) + off).toNat
      fr true).reactAll n f [] true true := if_pos (by simpa [ha] using h)

theorem State.decisionRx_other (h : (s.isFollower = false ∧ s.pair.handWait = false) ∨ s.armed n = false) :
    s.decisionRx n f off fr mask = s := by
  refine if_neg ?_
  rcases h with ⟨h1, h2⟩ | h
  · simp [h1, h2]
  · simp [h]

/-- A change of time acts D_L core cycles after it arose (R457). -/
theorem State.timeRx_eq {cy : Nat} {m : TimeMsg} : s.timeRx cy m =
    if s.isFollower = true ∨ s.pair.join ≠ none then
      ({ s with time := { s.time with due := s.time.due ++ [(cy + s.dL, m)] } }).applyDue else s := by
  simp only [State.timeRx, Bool.or_eq_true, Option.isSome_iff_ne_none]

end Events

section Config

variable {k h : Nat} {w : List Word} {dets seqs : List (List Word)} {arms : List HandCtx}

theorem State.configRx_detector : s.configRx (.detector k w) =
    if s.isFollower = true ∧ s.twinForm = false then s.detectorRx (k % 16) w else s := by
  simp only [State.configRx, Bool.and_eq_true, Bool.not_eq_true']

theorem State.configRx_delay : s.configRx (.delay h) =
    if s.joined = true ∨ s.pair.join ≠ none then ({ s with pair := { s.pair with partnerDT := h } }).showDets else s := by
  simp only [State.configRx, Bool.or_eq_true, Option.isSome_iff_ne_none]

theorem State.configRx_handover : s.configRx (.handover h dets seqs) =
    if s.isFollower then { s with pair := { s.pair with handIn := some ⟨h, dets, seqs⟩ } } else s := rfl

theorem State.configRx_handArms : s.configRx (.handArms arms) =
    if s.pair.handWait then arms.foldl State.takeCtx { s with pair := { s.pair with handWait := false } } else s := rfl

end Config

section Arms

variable {a : ArmSummary} {n x cause : Nat}

theorem State.armRx_summary : s.armRx (.summary a) = if s.joined then ({ s with pair := { s.pair with
    theirs := s.pair.theirs.filter (fun (b : ArmSummary) => b.ctx != a.ctx) ++ [a] } }).twinCompare a.ctx else s := rfl

theorem State.armRx_go : s.armRx (.go n x) = if s.isFollower && s.twinWaits n then s.twinGo n x else s := rfl

theorem State.armRx_unequal : s.armRx (.unequal n) = if s.isFollower then s.twinUnequal n else s := rfl

theorem State.armRx_withdraw : s.armRx (.withdraw n) = if s.joined then s.withdrawn n else s := rfl

theorem State.armRx_stop : s.armRx (.stop n cause) = if s.joined then s.stopFor n cause else s := rfl

end Arms

section Control

variable {i m n : Nat} {ok : Bool}

theorem State.controlRx_join {j : JoinReq} : s.controlRx (.join j) =
    if s.joined then s else ({ s with pair := { s.pair with partner := some j } }).joinBoth := rfl

/-- Only the one of unequal roles takes the leader's answer (R453). -/
theorem State.controlRx_joined {own : JoinRun} (h : s.pair.join = some own) : s.controlRx (.joined ok i) =
    if own.leader then s
    else if ok then { s with pair := { s.pair with joinAt := some i } } else s.joinEnd .badDescriptor := by
  rw [State.controlRx]
  rw [h]

theorem State.controlRx_joined_none (h : s.pair.join = none) : s.controlRx (.joined ok i) = s := by
  rw [State.controlRx]
  rw [h]

theorem State.controlRx_phaseOk : s.controlRx (.phaseOk ok) = if s.isLeader && s.twinForm then s.phaseTo ok else s := rfl

theorem State.controlRx_split : s.controlRx .split =
    if s.joined && s.pair.split == none then s.splitStart none else s := rfl

theorem State.controlRx_splitReady : s.controlRx (.splitReady i) =
    if s.joined then ({ s with pair := { s.pair with partnerReady := some i } }).trySplit else s := rfl

theorem State.controlRx_twinState {p : Int} {g o : Nat} : s.controlRx (.twinState p g o) =
    if s.isLeader || s.pair.join.isSome then { s with pair := { s.pair with twin := (p, g, o) } } else s := rfl

theorem State.controlRx_linesFor {k b l a c : Nat} : s.controlRx (.linesFor k b l a c) =
    if s.isFollower then s.linesFor k b l a c else s := rfl

theorem State.controlRx_twinSet {p : Int} {g o : Nat} {ramp : Bool} : s.controlRx (.twinSet p g o ramp) =
    if s.isFollower && s.twinForm then ((((s.setReg R.PAIR_TWIN_PHASE (BitVec.ofNat 32 (pattern 32 p))).setFld
      F.PAIR_TWIN_GAIN.V g).setFld F.PAIR_TWIN_OFF.V o).twinRetarget ramp (s.twinAt (s.frameNow false))).judgePhase
    else s := rfl

/-- The follower's share of a calibration: its settings, a refusal, or the injection (R466). -/
theorem State.controlRx_skewRun : s.controlRx (.skewRun m n) =
    if !s.isFollower then s
    else if s.twinForm then ({ s with pair := { s.pair with
      cal := some { seq := none, own := m % 16, other := 0, steps := n } } }).tellTwin
    else if s.fgBusy (m % 16) then s.tell (.control .skewBusy)
    else ({ s with pair := { s.pair with
      cal := some { seq := none, own := m % 16, other := 0, steps := n } } }).inject (m % 16) true := rfl

section Cal

variable {c : TwinCal} {l : List Int}

theorem State.controlRx_skewBusy (hc : s.pair.cal = some c) : s.controlRx .skewBusy =
    (({ s with pair := { s.pair with cal := none } }).inject c.own false).finishOpt c.seq .busy [] := by
  rw [State.controlRx, State.skewBusyRx, hc]

theorem State.controlRx_skewDone (hc : s.pair.cal = some c) : s.controlRx (.skewDone l) =
    ({ s with pair := { s.pair with cal := some { c with partner := some l } } }).skewBoth := by
  rw [State.controlRx]
  rw [hc]

theorem State.controlRx_skewBusy_none (hc : s.pair.cal = none) : s.controlRx .skewBusy = s := by
  rw [State.controlRx, State.skewBusyRx, hc]

theorem State.controlRx_skewDone_none (hc : s.pair.cal = none) : s.controlRx (.skewDone l) = s := by
  rw [State.controlRx]
  rw [hc]

end Cal

end Control

end Lemmas

/-- Settles O57: each message and descriptor acts in the role it concerns, by the equation of its command, and changes
nothing in another. -/
theorem twinOperation : Obligations.TwinOperation := by
  unfold Obligations.TwinOperation
  refine ⟨?start, ?done, ?blocks, ?noCal, ?harvest, ?messages, ?config, ?arms, ?control, ?controlOther⟩
  case start =>
    rintro s u r d m n bad ⟨hs, hc⟩ rfl ⟨hm, hn⟩ hb
    rw [exec_twinSkewcal hs hc, State.twinCalStart_eq hm hn hb]
    refine ⟨fun h => ?_, fun h ht => ?_, fun h ht hf => ?_, fun h ht hf => ?_⟩
    · rw [if_pos h]
    · rw [if_neg (Bool.eq_false_iff.mp h), if_pos ht]; rfl
    · rw [if_neg (Bool.eq_false_iff.mp h), if_neg (Bool.eq_false_iff.mp ht), if_pos hf]
    · rw [if_neg (Bool.eq_false_iff.mp h), if_neg (Bool.eq_false_iff.mp ht), if_neg (Bool.eq_false_iff.mp hf)]; rfl
  case done =>
    intro s u v st bl c vals hs hc hu hv
    rw [exec_twinSkewcalDone hs]
    refine ⟨fun q ht hq hn => ?_, fun q ht hq hn => ?_, fun ht hq => ?_, fun q ht hq => ?_, fun ht hq => ?_⟩
    · rw [State.twinCalDone_leader hc ht hu hq, if_neg (Nat.not_lt.mpr hn)]
    · rw [State.twinCalDone_leader hc ht hu hq, if_pos hn]
    · rw [State.twinCalDone_follower hc ht hu hq]
    · rw [State.twinCalDone_measured hc ht hv hq]
    · rw [State.twinCalDone_reports hc ht hv hq]
  case blocks => exact fun s v bl i ws l h => ⟨rfl, State.sendBlocks_cons h⟩
  case noCal =>
    intro s st bl hs hc
    rw [exec_twinSkewcalDone hs, State.twinCalDone_none hc]
  case harvest =>
    rintro s u r d k bad hs rfl hk hb
    rw [exec_harvPair hs, State.harvPair_eq hk hb]
    have hr : d.begun.ring = r := State.starts_ring (d := d) hs
    refine ⟨fun h => ?_, fun h hp => ?_, fun h hv ht ho => ?_⟩
    · rw [if_pos h]
    · rw [if_neg (Bool.eq_false_iff.mp h), if_pos]
      rw [hr]
      rcases hp with hp | hp | hp <;> simp [hp]
    · rw [if_neg (Bool.eq_false_iff.mp h), if_neg]
      · rfl
      · change ¬((!((s.begin r d).ptValid k) || (s.begin r d).ptType k == 6
          || (s.begin r d).ptOwner k != (s.begin r d).ringOwner d.ring) = true)
        simp [hv, ht, ho]
  case messages =>
    intro s u v w x po f ws ls l k be fr n off mask sy cy tm hs hu hl hw
    rw [exec_lineMsgRx hs, exec_samplesMsgRx hs, exec_firingMsgRx hs, exec_decisionMsgRx hs, exec_timeMsgRx hs,
      State.timeRx_eq]
    refine ⟨fun h => ?_, fun h => ?_, fun hi ht c hc => ?_, fun hi ht hc hk => ?_, fun hi ht hc hk => ?_, fun h => ?_,
      fun ht h => ?_, fun h => ?_, fun h ha => ?_, fun h => ?_, fun h => ?_, fun hf hj => ?_⟩
    · rw [State.lineRx_pair h]
    · rw [State.lineRx_none h]
    · rw [State.samplesRx_leader hi ht hl, State.samplesIn_cal hc]
    · rw [State.samplesRx_leader hi ht hl, State.samplesIn_track hc hk hw]
    · rw [State.samplesRx_leader hi ht hl, State.samplesIn_off hc hk]
    · rw [State.samplesRx_other h]
    · rw [State.firingRx_counts hu ht h]
    · rw [State.firingRx_other h]
    · rw [State.decisionRx_acts h ha]
    · rw [State.decisionRx_other h]
    · rw [if_pos h]
    · rw [if_neg (by simp [hf, hj])]
  case config =>
    rintro s u k w d h dets seqs arms hs rfl
    rw [exec_configMsgRx hs, exec_configMsgRx hs, exec_configMsgRx hs, exec_configMsgRx hs, State.configRx_detector,
      State.configRx_delay, State.configRx_handover, State.configRx_handArms]
    refine ⟨fun hf ht => ?_, fun h => ?_, fun h => ?_, fun hj hp => ?_, fun hf => ?_, fun hf => ?_, fun hw => ?_,
      fun hw => ?_⟩
    · rw [if_pos ⟨hf, ht⟩]; rfl
    · rw [if_neg (by rcases h with h | h <;> simp [h])]
    · rw [if_pos h]
    · rw [if_neg (by simp [hj, hp])]
    · rw [if_pos hf]
    · rw [if_neg (Bool.eq_false_iff.mp hf)]
    · rw [if_pos hw]
    · rw [if_neg (Bool.eq_false_iff.mp hw)]
  case arms =>
    intro s a n x cause hs
    rw [exec_armMsgRx hs, exec_armMsgRx hs, exec_armMsgRx hs, exec_armMsgRx hs, exec_armMsgRx hs, State.armRx_summary,
      State.armRx_go, State.armRx_unequal, State.armRx_withdraw, State.armRx_stop]
    refine ⟨fun h => ?_, fun h hw => ?_, fun h => ?_, fun h => ?_, fun h => ?_, fun h => ?_, fun h => ?_⟩
    · rw [if_pos h]
    · rw [if_pos (by rw [h, hw]; rfl)]
    · rw [if_pos h]
    · rw [if_pos h]
    · rw [if_pos h]
    · rw [h]; exact ⟨rfl, rfl, rfl⟩
    · rw [h]; exact ⟨rfl, rfl⟩
  case control =>
    intro s j i m n k p g o b l a c ok ramp hs
    refine ⟨fun h => ?_, fun own hj ho => ?_, fun own hj ho => ?_, fun h ht => ?_, fun h hp => ?_, fun h => ?_,
      exec_controlMsgRx hs _, exec_controlMsgRx hs _, fun h ht hf => ?_, fun h ht hf => ?_, fun h => ?_, fun h => ?_,
      fun h ht => ?_⟩
    · rw [exec_controlMsgRx hs, State.controlRx_join, if_neg (Bool.eq_false_iff.mp h)]
    · rw [exec_controlMsgRx hs, State.controlRx_joined hj, ho]; rfl
    · rw [exec_controlMsgRx hs, State.controlRx_joined hj, ho]; rfl
    · rw [exec_controlMsgRx hs, State.controlRx_phaseOk, h, ht]; rfl
    · rw [exec_controlMsgRx hs, State.controlRx_split, h, hp]; rfl
    · rw [exec_controlMsgRx hs, State.controlRx_splitReady, if_pos h]
    · rw [exec_controlMsgRx hs, State.controlRx_skewRun, h, ht, hf]; rfl
    · rw [exec_controlMsgRx hs, State.controlRx_skewRun, h, ht, hf]; rfl
    · rw [exec_controlMsgRx hs, State.controlRx_twinState, if_pos]
      rwa [Bool.or_eq_true, Option.isSome_iff_ne_none]
    · rw [exec_controlMsgRx hs, State.controlRx_linesFor, if_pos h]
    · rw [exec_controlMsgRx hs, State.controlRx_twinSet, h, ht]; rfl
  case controlOther =>
    intro s j i n l ok hs
    refine ⟨fun h => ?_, fun h => ?_, fun h => ?_, fun h => ?_, fun h => ?_, fun h ht => ?_, fun h => ?_, fun c hc => ?_,
      fun c hc => ?_, fun hc => ?_, exec_controlMsgRx hs _⟩
    · rw [exec_controlMsgRx hs, State.controlRx_join, if_pos h]
    · rcases h with hj | ⟨own, hj, ho⟩
      · rw [exec_controlMsgRx hs, State.controlRx_joined_none hj]
      · rw [exec_controlMsgRx hs, State.controlRx_joined hj, if_pos ho]
    · rw [exec_controlMsgRx hs, State.controlRx_phaseOk, if_neg (by rcases h with h | h <;> simp [h])]
    · rw [exec_controlMsgRx hs, State.controlRx_split, if_neg (by rcases h with h | h <;> simp [h])]
    · rw [exec_controlMsgRx hs, State.controlRx_splitReady, if_neg (Bool.eq_false_iff.mp h)]
    · rw [exec_controlMsgRx hs, State.controlRx_skewRun, h, ht]; rfl
    · rw [exec_controlMsgRx hs, State.controlRx_skewRun, h]; rfl
    · rw [exec_controlMsgRx hs, State.controlRx_skewBusy hc]
    · rw [exec_controlMsgRx hs, State.controlRx_skewDone hc]
    · rw [exec_controlMsgRx hs, exec_controlMsgRx hs, State.controlRx_skewBusy_none hc, State.controlRx_skewDone_none hc]
      exact ⟨rfl, rfl⟩

end Sys2Proof.Machine
end

section
/-!
PROOFS. Stimulus sequences: loading, starting, the decision samples and boundaries, the steering descriptors, under-runs,
poison, saturation and the ends of a sequence (R476 to R501).
-/
namespace Sys2Proof.Machine

section Lemmas

variable {s u v : State} {d : Desc} {x r : StimRun}

section Commands

section Starts

variable {q : Fin 64}

theorem exec_stimLoad (h : s.starts q 0x40 d = true) : exec (.stimLoad q) s = .next (s.keep
    ((s.begin q d).loadStart d.begun ((s.begin q d).stimBad d.begun loadMasks) 4 ((s.begin q d).stm.run.map (·.part)))) :=
  s.act_start _ h

theorem exec_patLoad (h : s.starts q 0x50 d = true) : exec (.patLoad q) s = .next (s.keep
    ((s.begin q d).loadStart d.begun ((s.begin q d).patBad d.begun loadMasks) 5 ((s.begin q d).pat.run.map (·.part)))) :=
  s.act_start _ h

theorem exec_stimSeqLoad (h : s.starts q 0x41 d = true) (w : List Word) :
    exec (.stimSeqLoad q w) s = .next (s.keep ((s.begin q d).seqLoad d.begun w)) := s.act_start _ h

theorem exec_stimStart (h : s.starts q 0x42 d = true) :
    exec (.stimStart q) s = .next (s.keep ((s.begin q d).stimStart d.begun)) := s.act_start _ h

theorem exec_stimStop (h : s.starts q 0x43 d = true) (k : BitVec 64) :
    exec (.stimStop q k) s = .next (s.keep ((s.begin q d).stimStop d.begun k.toNat)) := s.act_start _ h

theorem exec_stimJump (h : s.starts q 0x44 d = true) (k : BitVec 64) :
    exec (.stimJump q k) s = .next (s.keep ((s.begin q d).stimJump d.begun k.toNat)) := s.act_start _ h

theorem exec_stimGo (h : s.starts q 0x45 d = true) (k : BitVec 64) :
    exec (.stimGo q k) s = .next (s.keep ((s.begin q d).stimGo d.begun k.toNat)) := s.act_start _ h

end Starts

variable (h : s.runs = true)
include h

theorem exec_stimLoadComplete (q : Fin 64) (data : List Word) :
    exec (.stimLoadComplete q data) s = .next (s.keep (s.loadDone q 0x40 data)) := s.act_running _ h

theorem exec_patLoadComplete (q : Fin 64) (data : List Word) :
    exec (.patLoadComplete q data) s = .next (s.keep (s.loadDone q 0x50 data)) := s.act_running _ h

theorem exec_stimReady : exec .stimReady s = .next (s.keep s.stimFilled) := s.act_running _ h

theorem exec_patReady : exec .patReady s = .next (s.keep s.patFilled) := s.act_running _ h

theorem exec_stimFirstSample (ofs : Nat) (ph : Fin 16) :
    exec (.stimFirstSample ofs ph) s = .next (s.keep (s.firstSample ofs ph)) := s.act_running _ h

theorem exec_stimDecisionSample : exec .stimDecisionSample s = .next (s.keep s.stimDecide) := s.act_running _ h

theorem exec_stimSegmentBoundary (ofs : Nat) :
    exec (.stimSegmentBoundary ofs) s = .next (s.keep (s.stimBoundary ofs)) := s.act_running _ h

theorem exec_stimUnderrunStart (k : BitVec 64) :
    exec (.stimUnderrunStart k) s = .next (s.keep (s.underrunStart k.toNat)) := s.act_running _ h

theorem exec_stimUnderrunEnd (k : BitVec 64) :
    exec (.stimUnderrunEnd k) s = .next (s.keep (s.underrunEnd k.toNat)) := s.act_running _ h

theorem exec_stimPoisonLine (l : Nat) : exec (.stimPoisonLine l) s = .next (s.keep (s.stimPoison l)) := s.act_running _ h

theorem exec_stimSaturation (o : Fin 2) (k : BitVec 64) :
    exec (.stimSaturation o k) s = .next (s.keep (s.stimSat o k.toNat)) := s.act_running _ h

end Commands

section Loads

variable {bad : Bool} {ty : Nat} {busy : Option Nat}

theorem State.loadStart_bad
    (h : bad = true ∨ d.f 4 0 31 = 0 ∨ d.f 8 0 6 ≠ 0 ∨ s.ptLen (d.f 2 0 4) < d.f 3 0 31 + d.f 4 0 31) :
    s.loadStart d bad ty busy = s.finish d .badDescriptor [] := by
  unfold State.loadStart
  dsimp only
  rw [if_pos]
  simp only [Desc.haddrBad, Bool.or_eq_true, decide_eq_true_eq, bne_iff_ne, Nat.blt_eq]
  tauto

theorem State.loadStart_good (hb : bad = false) (hn : d.f 4 0 31 ≠ 0) (ha : d.f 8 0 6 = 0)
    (hl : d.f 3 0 31 + d.f 4 0 31 ≤ s.ptLen (d.f 2 0 4)) : s.loadStart d bad ty busy =
    if s.partBad d (d.f 2 0 4) ty then s.finish d .partitionFault []
    else if busy == some (d.f 2 0 4) then (s.raise 229 (d.f 2 0 4) (s.routeRing d.ring)).finish d .refusedPlaying []
    else s := by
  unfold State.loadStart
  dsimp only
  rw [if_neg]
  simp only [Desc.haddrBad, Bool.or_eq_true, decide_eq_true_eq, bne_iff_ne, Nat.blt_eq, not_or]
  exact ⟨⟨⟨by simp [hb], hn⟩, by simp [ha]⟩, Nat.not_lt.mpr hl⟩

theorem State.loadDone_running {q op : Nat} {data : List Word} (h : s.running q op = some d) : s.loadDone q op data =
    if data.length = 8 * d.f 4 0 31 then (s.loadWrites d data).finish d .ok [BitVec.ofNat 32 (d.f 4 0 31)] else s := by
  rw [State.loadDone, h]

end Loads

section Table

/-- STIM_SEQ_LOAD after its check of the owner (R479). -/
theorem State.seqLoad_eq {w : List Word} {n : Nat} (hn : d.f 2 0 11 = n) : s.seqLoad d w =
    if s.stimForeign d then s.finish d .badDescriptor []
    else if s.stimState != 0 then (s.raise 229 0x100 (s.routeRing d.ring)).finish d .refusedPlaying []
    else if s.stimBad d [(2, 0x7FF), (8, 0xFFFFFFFF), (9, 0xFFFFFFFF)] || d.haddrBad || n = 0 || Nat.blt 1024 n
      || tableBad w n then s.finish d .badDescriptor []
    else ((s.setRegs (R.STM_SEQ 0 0) (w.take (4 * n))).setFld F.STM_SEQ_LEN.V n).finish d .ok [BitVec.ofNat 32 n] := by
  subst hn; rfl

/-- The state in which an accepted STIM_START leaves its sequence (R480). -/
theorem State.stimStart_accepted {x : Nat} (h : s.stimStatus d = none) (hx : d.n 3 + 2 ^ 32 * d.f 4 0 16 = x) :
    s.stimStart d = ((((({ s with stm := { s.stm with run := some {
      seq := d.seq, ring := d.ring, part := d.f 2 0 4, start := d.f 2 8 2, line := d.f 2 12 2
      next := some (.entry (d.f 2 16 10)) } } }).setFld F.STM_STAT.STATE 1).setFlag F.STM_STAT.DUAL
      (d.f 2 4 1 == 1)).setRegs R.STM_UNDERRUNS [0, 0, 0, 0]).setReg64 R.STM_RATE_LO
      (if x = 0 then 0 else max x (2 ^ 42))).setFlag (F.MEM_PT_CFG.IN_USE (d.f 2 0 4)) true := by
  subst hx
  unfold State.stimStart
  rw [h]

theorem State.stimStart_refused {st : Status} (h : s.stimStatus d = some st) : s.stimStart d = s.finish d st [] := by
  rw [State.stimStart, h]

end Table

section First

theorem State.stimFilled_run (h : s.stm.run = some r) : s.stimFilled =
    if s.stimState == 1 && s.memActive then
      (s.setRun { r with headBad := s.headPoison r, relAt := s.time.elapsed }).setFld F.STM_STAT.STATE 2 else s := by
  rw [State.stimFilled, h]

theorem State.stimFilled_none (h : s.stm.run = none) : s.stimFilled = s := by
  rw [State.stimFilled, h]

theorem State.stimFilled_unready (h : s.stm.run = none ∨ s.stimState ≠ 1 ∨ s.memActive = false) : s.stimFilled = s := by
  cases hr : s.stm.run with
  | none => exact State.stimFilled_none hr
  | some r =>
    rw [State.stimFilled_run hr, if_neg]
    rcases h with h | h | h
    · simp [hr] at h
    · simp [h]
    · simp [h]

theorem State.patFilled_run {p : PatRun} (h : s.pat.run = some p) : s.patFilled =
    if s.patState == 1 && s.memActive then
      (s.setPat { p with relAt := s.time.elapsed }).setFld F.PAT_STAT2.STATE 2 else s := by
  rw [State.patFilled, h]

theorem State.patFilled_none (h : s.pat.run = none) : s.patFilled = s := by
  rw [State.patFilled, h]

theorem State.patFilled_unready (h : s.pat.run = none ∨ s.patState ≠ 1 ∨ s.memActive = false) : s.patFilled = s := by
  cases hr : s.pat.run with
  | none => exact State.patFilled_none hr
  | some r =>
    rw [State.patFilled_run hr, if_neg]
    rcases h with h | h | h
    · simp [hr] at h
    · simp [h]
    · simp [h]

theorem State.firstSample_none (h : s.stm.run = none) (ofs ph : Nat) : s.firstSample ofs ph = s := by
  rw [State.firstSample, h]

variable {e ofs ph : Nat}

theorem State.firstSample_entry (h : s.stm.run = some r) (hn : r.next = some (.entry e)) :
    s.firstSample ofs ph = if s.stimState == 2 && (r.start == 0 || r.released) && s.firstDue r.start r.relAt then
      (((s.setFld F.STM_STAT.STATE 3).setTime R.STM_START_TIME_0 (s.instant ofs)).passBegin { r with
        phase := if r.start = 1 then ph else 0
        acc := -((min ofs (s.cycleLen / 2 ^ 24) * 2 ^ 24 * s.dacFcw * 100000000 : Nat) : Int) } e 0).raise 224
        (match s.descOf r.seq with | some d => d.tag.toNat | none => 0) (s.routeRing r.ring)
      else s := by
  rw [State.firstSample, h]
  dsimp only
  rw [hn] <;> rfl

theorem State.firstSample_undecided (h : s.stm.run = some r) (hn : ∀ n, r.next ≠ some (.entry n)) :
    s.firstSample ofs ph = s := by
  rw [State.firstSample, h]
  dsimp only
  cases hx : r.next with
  | none => rfl
  | some y =>
    cases y with
    | entry n => exact absurd hx (hn n)
    | finish c => rfl

theorem State.firstSample_waits (h : s.stm.run = some r) (hw : (∀ n, r.next ≠ some (.entry n)) ∨ s.stimState ≠ 2 ∨
    (r.start ≠ 0 ∧ r.released = false) ∨ s.firstDue r.start r.relAt = false) : s.firstSample ofs ph = s := by
  by_cases hn : ∃ e, r.next = some (.entry e)
  · obtain ⟨e, hn⟩ := hn
    rw [State.firstSample_entry h hn, if_neg]
    rcases hw with hw | hw | ⟨h0, h1⟩ | hw
    · exact absurd hn (hw e)
    · simp [hw]
    · simp [h0, h1]
    · simp [hw]
  · exact State.firstSample_undecided h (fun e he => hn ⟨e, he⟩)

end First

section Places

/-- Nothing ends the sequence at or before sample k. -/
theorem State.reaches_iff {k : Nat} :
    s.reaches r k = true ↔ s.stimState = 3 ∧ ∀ e, r.ending = some e → k < e.count := by
  cases he : r.ending <;> simp [State.reaches, he, -Nat.blt_eq, Nat.blt_eq]

theorem State.plays_iff : s.plays r = true ↔ s.stimState = 3 ∧ r.ending = none := by
  simp [State.plays]

theorem State.presented_stopped {k : Nat} (h : s.stimState ≠ 3) : s.presented r k = 0 := if_neg h

theorem State.presented_playing {k : Nat} (h : s.stimState = 3) : s.presented r k =
    if r.next.isSome then max (r.cycleStart (s.countAt r k)) (s.boundary r - 384) else r.cycleStart (s.countAt r k) :=
  if_pos h

variable {rank code count k : Nat} {e : StimEnd}

theorem StimRun.cause_first (h : r.ending = none) :
    r.cause rank code count k = { r with ending := some ⟨(k + r.phase) / 16, rank, code, count⟩ } := by
  unfold StimRun.cause
  rw [h]

theorem StimRun.cause_second (h : r.ending = some e) : r.cause rank code count k =
    if (k + r.phase) / 16 < e.cycle ∨ ((k + r.phase) / 16 = e.cycle ∧ e.rank < rank) then
      { r with ending := some ⟨(k + r.phase) / 16, rank, code, count⟩ } else r := by
  unfold StimRun.cause
  rw [h]
  simp

end Places

section Idle

variable (h : s.stm.run = none)
include h

theorem State.stimDecide_none : s.stimDecide = s := by rw [State.stimDecide, h]

theorem State.stimBoundary_none (ofs : Nat) : s.stimBoundary ofs = s := by rw [State.stimBoundary, h]

theorem State.underrunStart_none (k : Nat) : s.underrunStart k = s := by rw [State.underrunStart, h]

theorem State.underrunEnd_none (k : Nat) : s.underrunEnd k = s := by rw [State.underrunEnd, h]

theorem State.stimPoison_none (l : Nat) : s.stimPoison l = s := by rw [State.stimPoison, h]

theorem State.stimSat_none (o k : Nat) : s.stimSat o k = s := by rw [State.stimSat, h]

theorem State.soOut_none (o k : Nat) : s.soOut o k = s.soIdle o := by rw [State.soOut, h]

end Idle

section Decisions

variable {r1 : StimRun} {used : Option Nat} {taken : Bool}

theorem State.stimDecide_passed (hr : s.stm.run = some r)
    (hn : s.reaches r (s.boundary r - 384) = false ∨ r.next ≠ none) : s.stimDecide = s := by
  unfold State.stimDecide
  rw [hr]
  dsimp only
  rw [if_pos]
  rcases hn with h | h
  · simp [h]
  · simp [Option.isSome_iff_ne_none.mpr h]

theorem State.stimDecide_decides (hr : s.stm.run = some r) (hp : s.reaches r (s.boundary r - 384) = true)
    (hn : r.next = none) (ho : s.stimOutcome r (s.fld F.STM_ENTRY.V) ((s.boundary r : Int) - 384) = (r1, used, taken))
    (hu : (((((s.setRun (r1.clearLatches ((s.boundary r : Int) - 384))).bumpBy R.STM_REACT_DROP
      (r.drops ((s.boundary r : Int) - 384) used)).setFld F.STM_STAT.LOOP_DEPTH r1.loops.length).setFld
      F.STM_STAT.CALL_DEPTH r1.calls.length).setReg64 R.STM_SCOUNT_LO ((s.boundary r : Int) - 384).toNat) = u) :
    s.stimDecide = if taken then (u.bump R.STM_REACT_TAKEN).raise 227 (used.getD 0) (s.routeRing r.ring) else u := by
  unfold State.stimDecide
  rw [hr]
  dsimp only
  rw [if_neg (by simp [hp, hn]), ho]
  subst hu
  rfl

variable {e : Nat} {dd : Int}

theorem State.stimOutcome_stop (h : latched dd r.stop = true) :
    s.stimOutcome r e dd = ({ r with next := some (.finish Status.ok.code) }, none, false) := if_pos h

theorem State.stimOutcome_jump {q t p : Nat} (h : latched dd r.stop = false) (hj : r.jump = some (q, t, p))
    (hp : (p : Int) < dd) : s.stimOutcome r e dd = ({ r with
      next := some (.entry t), jump := none, acting := some (q, t), calls := [], loops := s.keptLoops r.loops t }, none,
      false) := by
  have hf : r.jump.filter (fun j => latched dd (some j.2.2)) = some (q, t, p) := by simp [hj, latched, hp]
  unfold State.stimOutcome
  dsimp only
  rw [if_neg (Bool.eq_false_iff.mp h), hf]

/-- The rows of Table 19.6 below the stop, where no jump waits. -/
theorem State.stimOutcome_entry (h : latched dd r.stop = false) (hj : r.jump = none) : s.stimOutcome r e dd =
    if (s.seqEntry e).ren && latched dd (SMap.get noLatch r.react (s.seqEntry e).rline) then
      ({ r with next := some (.entry (s.seqEntry e).rtarget), calls := []
                loops := s.keptLoops r.loops (s.seqEntry e).rtarget }, some (s.seqEntry e).rline, true)
    else if (s.seqEntry e).ctrl = 5 then
      if latched dd (r.waitLatch (s.seqEntry e)) then
        ({ r with next := some (s.inTable (.entry (e + 1))) },
          if (s.seqEntry e).count % 4 = 0 then some (s.seqEntry e).rline else none, false)
      else ({ r with next := some (.entry e) }, none, false)
    else ({ r with next := some (s.inTable (s.stimCtrl r e).1), loops := (s.stimCtrl r e).2.1
                   calls := (s.stimCtrl r e).2.2 }, none, false) := by
  have hf : r.jump.filter (fun j => latched dd (some j.2.2)) = none := by simp [hj]
  unfold State.stimOutcome
  dsimp only
  rw [if_neg (Bool.eq_false_iff.mp h), hf]

variable {ofs code : Nat}

theorem State.stimBoundary_passed (hr : s.stm.run = some r) (hn : s.reaches r (s.boundary r) = false ∨ r.next = none) :
    s.stimBoundary ofs = s := by
  unfold State.stimBoundary
  rw [hr]
  dsimp only
  by_cases hp : s.reaches r (s.boundary r) = true
  · have hx : r.next = none := by simpa [hp] using hn
    rw [if_neg (by simp [hp]), hx]
  · rw [if_pos (by simp [hp])]

theorem State.stimBoundary_finish (hr : s.stm.run = some r) (hp : s.reaches r (s.boundary r) = true)
    (hn : r.next = some (.finish code)) : s.stimBoundary ofs =
      s.setRun (r.cause (if code = Status.ok.code then 1 else 3) code (s.boundary r) (s.boundary r - 1)) := by
  unfold State.stimBoundary
  rw [hr]
  dsimp only
  rw [if_neg (by simp [hp]), hn]

theorem State.stimBoundary_entry (hr : s.stm.run = some r) (hp : s.reaches r (s.boundary r) = true)
    (hn : r.next = some (.entry e)) : s.stimBoundary ofs =
      (s.jumpDone r (s.boundary r) (s.instant ofs)).passBegin r e (s.boundary r) := by
  unfold State.stimBoundary
  rw [hr]
  dsimp only
  rw [if_neg (by simp [hp]), hn]

end Decisions

section Steering

variable {k : Nat}

theorem State.stimStop_bad (hb : s.stimBad d [(2, 1)] = true) : s.stimStop d k = s.finish d .badDescriptor [] := if_pos hb

theorem State.stimStop_idle (hb : s.stimBad d [(2, 1)] = false) (hr : s.stm.run = none) :
    s.stimStop d k = s.finish d .ok [0] := by
  rw [State.stimStop, if_neg (Bool.eq_false_iff.mp hb), hr]

theorem State.stimStop_run (hb : s.stimBad d [(2, 1)] = false) (hr : s.stm.run = some x) : s.stimStop d k =
    (if s.stimState != 3 || d.f 2 0 1 = 1 then s.stimHalt x 4 Status.truncated.code k
      else s.setRun { x with stop := some (x.stop.getD (s.presented x k)) }).finish d .ok [1] := by
  rw [State.stimStop, if_neg (Bool.eq_false_iff.mp hb), hr]

theorem State.stimJump_bad {t : Nat} (ht : d.f 2 0 10 = t) (h : (s.stimBad d [(2, 0x3FF)] || Nat.ble (s.fld F.STM_SEQ_LEN.V) t
    || !(s.seqEntry t).head || Nat.blt s.stimState 2) = true ∨ s.stm.run = none) :
    s.stimJump d k = s.finish d .badDescriptor [] := by
  subst ht
  unfold State.stimJump
  dsimp only
  split
  · rfl
  next hb =>
    rw [h.resolve_left hb]

theorem State.stimJump_run {t : Nat} (ht : d.f 2 0 10 = t) (hb : (s.stimBad d [(2, 0x3FF)]
    || Nat.ble (s.fld F.STM_SEQ_LEN.V) t || !(s.seqEntry t).head || Nat.blt s.stimState 2) = false)
    (hr : s.stm.run = some x) :
    s.stimJump d k = (s.abortDesc (x.jump.map (·.1))).setRun { x with jump := some (d.seq, t, s.presented x k) } := by
  subst ht
  unfold State.stimJump
  dsimp only
  rw [if_neg (Bool.eq_false_iff.mp hb), hr]

theorem State.stimGo_bad (hb : s.stimBad d [] = true) : s.stimGo d k = s.finish d .badDescriptor [] := if_pos hb

theorem State.stimGo_idle (hb : s.stimBad d [] = false) (hr : s.stm.run = none) : s.stimGo d k = s.finish d .ok [0] := by
  rw [State.stimGo, if_neg (Bool.eq_false_iff.mp hb), hr]

theorem State.stimGo_run {v : State} {taken : Bool} (hb : s.stimBad d [] = false) (hr : s.stm.run = some x)
    (hv : s.stimRelease x 3 s.time.elapsed = (v, taken)) : s.stimGo d k =
    (if taken || s.stimState == 1 then v else v.setRun { x with go := some (x.go.getD (s.presented x k)) }).finish d .ok
      [if s.stimState == 1 then 0 else 1] := by
  rw [State.stimGo, if_neg (Bool.eq_false_iff.mp hb), hr]
  dsimp only
  rw [hv]

variable {start t : Nat}

/-- A release in LOADING is missed. -/
theorem State.stimRelease_loading (hs : x.start = start) (hr : x.released = false) (h : s.stimState = 1) :
    s.stimRelease x start t = (s.setFlag F.STM_STAT.MISSED_RELEASE true, true) := by
  rw [State.stimRelease, if_neg (by simp [hs, hr]), if_pos (by simp [h])]

theorem State.stimRelease_ready (hs : x.start = start) (hr : x.released = false) (h : s.stimState = 2) :
    s.stimRelease x start t = (s.setRun { x with released := true, relAt := t }, true) := by
  rw [State.stimRelease, if_neg (by simp [hs, hr]), if_neg (by simp [h]), if_pos (by simp [h])]

/-- A release that the sequence does not wait for is left for its latch. -/
theorem State.stimRelease_latch (h : s.stimState = 3 ∨ x.start ≠ start ∨ x.released = true) :
    s.stimRelease x start t = (s, false) := by
  unfold State.stimRelease
  rcases h with h | h | h
  · simp [h]
  · simp [h]
  · simp [h]

end Steering

section Playing

variable {k k0 l e i o : Nat}

theorem State.underrunStart_starts (hr : s.stm.run = some r) (hp : s.plays r = true) (hu : r.under = none)
    (hk : s.fetchKept = false) (hc : s.countAt r k = k) (hn : s.needsFifo r k = true) :
    s.underrunStart k = (s.setRun { r with under := some k, tainted := true }).setFlag F.STM_STAT.UNDERRUN true := by
  rw [State.underrunStart, hr]
  exact if_pos (by simp [hp, hu, hk, hc, hn])

theorem State.underrunStart_kept (hr : s.stm.run = some r) (h : s.plays r = false ∨ r.under ≠ none ∨ s.fetchKept = true ∨
    s.countAt r k ≠ k ∨ s.needsFifo r k = false) : s.underrunStart k = s := by
  rw [State.underrunStart, hr]
  refine if_neg ?_
  rcases h with h | h | h | h | h <;> simp [h]

theorem State.underrunOver_some (hu : r.under = some k0) : s.underrunOver r k =
    (((((s.setRun { r with under := none }).setFlag F.STM_STAT.UNDERRUN false).setFlag F.STM_STAT.UNDERRUN_SEEN true).bump
      R.STM_UNDERRUNS).bumpSat F.STM_HELD.V (k - k0)).each s.stimOuts (fun t o =>
        t.raise 226 (o + 2 ^ 8 * satNat (2 ^ 24 - 1) ((k - k0) / 64)) (t.routeRing r.ring)) := by
  rw [State.underrunOver, hu]

/-- The head store or the FIFO holds every frame of the STIM cycle of sample k. -/
theorem State.framesHeld_iff : (s.memActive || (List.range 16).all (fun i => !(s.needsFifo r (k + i)))) = true ↔
    s.memActive = true ∨ ∀ j < 16, s.needsFifo r (k + j) = false := by
  simp

theorem State.underrunEnd_ends (hr : s.stm.run = some r) (hp : s.plays r = true) (hc : s.countAt r k = k)
    (hs : r.cycleStart k = k) (hu : r.under = some k0) (hk : k0 < k)
    (hf : s.memActive = true ∨ ∀ j < 16, s.needsFifo r (k + j) = false) : s.underrunEnd k = s.underrunOver r k := by
  rw [State.underrunEnd, hr]
  refine if_pos ?_
  rw [Bool.and_eq_true]
  refine ⟨?_, State.framesHeld_iff.mpr hf⟩
  rw [hu]
  simp [hp, hc, hs, hk]

theorem State.underrunEnd_stays (hr : s.stm.run = some r) (h : s.plays r = false ∨ s.countAt r k ≠ k ∨ r.cycleStart k ≠ k ∨
    r.under = none ∨ (∃ k0, r.under = some k0 ∧ k ≤ k0) ∨
      (s.memActive = false ∧ ∃ j < 16, s.needsFifo r (k + j) = true)) : s.underrunEnd k = s := by
  rw [State.underrunEnd, hr]
  refine if_neg ?_
  rcases h with h | h | h | h | ⟨k0, h, hk⟩ | ⟨hm, j, hj, hn⟩
  · simp [h]
  · simp [h]
  · simp [h]
  · simp [h]
  · rw [h]
    simp [Nat.not_lt.mpr hk]
  · rw [Bool.and_eq_true, State.framesHeld_iff]
    rintro ⟨-, h | h⟩
    · simp [hm] at h
    · simp [h j hj] at hn

theorem State.stimPoison_counts (hr : s.stm.run = some r) (he : s.fld F.STM_ENTRY.V = e)
    (hi : (l - s.frameLine r e 0) * (32 / stimFrame s.stimDual) = i) (hp : s.plays r = true) (hu : r.under = none)
    (hl : s.frameLine r e 0 ≤ l) (hn : i < (s.seqEntry e).len) (hb : s.framePoison r e i = true) (hs : l ∉ r.seen) :
    s.stimPoison l = ((s.setRun { r with tainted := true, seen := l :: r.seen }).bumpSat F.STM_POISON.V 1).raise 230 l
      (s.routeRing r.ring) := by
  subst he hi
  rw [State.stimPoison, hr]
  exact if_pos (by simp [hp, hu, hl, hn, hb, hs])

theorem State.stimPoison_other (hr : s.stm.run = some r) (he : s.fld F.STM_ENTRY.V = e)
    (hi : (l - s.frameLine r e 0) * (32 / stimFrame s.stimDual) = i) (h : s.plays r = false ∨ r.under ≠ none ∨
      l < s.frameLine r e 0 ∨ (s.seqEntry e).len ≤ i ∨ s.framePoison r e i = false ∨ l ∈ r.seen) :
    s.stimPoison l = s := by
  subst he hi
  rw [State.stimPoison, hr]
  refine if_neg ?_
  rcases h with h | h | h | h | h | h
  · simp [h]
  · simp [h]
  · simp [Nat.not_le.mpr h]
  · simp [Nat.not_lt.mpr h]
  · simp [h]
  · simp [h]

/-- A code saturates where it lies beyond 8191 either way. -/
theorem clampInt_ne_iff {lo hi y : Int} : clampInt lo hi y ≠ y ↔ y < lo ∨ hi < y := by
  unfold clampInt
  split
  · omega
  · split <;> omega

theorem State.stimSat_eq (hr : s.stm.run = some r) : s.stimSat o k =
    if s.countAt r k == k && s.sounds r o k && s.soCode o (s.resampled r o k) != s.soRaw o (s.resampled r o k) then
      s.raiseOnce (satFld o) 231 o (s.routeRing r.ring) else s := by
  rw [State.stimSat, hr]

theorem State.soOut_run (hr : s.stm.run = some r) : s.soOut o k =
    if s.sounds r o k then clampInt (-8191) 8191 (s.soRaw o (s.resampled r o k)) else s.soIdle o := by
  rw [State.soOut, hr]
  rfl

end Playing

section Ends

theorem State.stimOver_ended {e : StimEnd} (hr : s.stm.run = some r) (he : r.ending = some e) :
    s.stimOver = s.stimEnd r e.code e.count := by
  unfold State.stimOver
  rw [hr]
  dsimp only
  rw [he]

theorem State.stimOver_open (hr : s.stm.run = some r) (he : r.ending = none) : s.stimOver = s := by
  unfold State.stimOver
  rw [hr]
  dsimp only
  rw [he]

/-- An end that completes the descriptor of the sequence, where it is still there, with its payload (R500). -/
theorem State.stimEnd_eq {code k st : Nat} {last : Word}
    (hl : (((s.underrunOver r k).abortDesc (r.acting.map (·.1))).abortDesc (r.jump.map (·.1))).lastEntry r = (last, u))
    (hst : (if code = 0 ∧ r.tainted = true then 10 else code) = st)
    (hv : (((((({ u with stm := { u.stm with run := none } }).setReg64 R.STM_SCOUNT_LO k).setFld F.STM_STAT.STATE 0).setFld
      F.STM_STAT.LOOP_DEPTH 0).setFld F.STM_STAT.CALL_DEPTH 0).setFlag F.STM_STAT.DUAL false).setFlag
      (F.MEM_PT_CFG.IN_USE r.part) false = v) : s.stimEnd r code k =
    match (v.raise 225 st (s.routeRing r.ring)).descOf r.seq with
    | some d => ((v.raise 225 st (s.routeRing r.ring)).completeCode d st
        [lo32 k, hi32 k, u.reg R.STM_HELD, u.reg R.STM_POISON, u.reg R.STM_REACT_TAKEN, last]).flushRefused d.ring 8
    | none => v.raise 225 st (s.routeRing r.ring) := by
  have hst' : (if code = Status.ok.code && r.tainted then Status.degraded.code else code) = st := by
    rw [← hst]
    refine if_congr ?_ rfl rfl
    rw [Bool.and_eq_true, decide_eq_true_eq]
    rfl
  unfold State.stimEnd
  dsimp only
  rw [hl, hst']
  dsimp only
  rw [hv] <;> rfl

end Ends

end Lemmas

/-- Settles O58: each command of a sequence by its equation in the state it meets, and the rows of Table 19.6 and the causes
of an end by the cases of their definitions. -/
theorem stimulusSequences : Obligations.StimulusSequences := by
  unfold Obligations.StimulusSequences
  refine ⟨?load, ?loadDone, ?table, ?start, ?ready, ?first, ?idle, ?counts, ?decide, ?outcome, ?boundary, ?pass, ?stop, ?jump,
    ?go, ?play, ?finish⟩
  case load =>
    rintro s u q d k ty op bad busy c hc hs rfl rfl
    have he : exec c s = .next (s.keep ((s.begin q d).loadStart d.begun bad ty busy)) := by
      rcases hc with ⟨rfl, rfl, rfl, rfl, rfl⟩ | ⟨rfl, rfl, rfl, rfl, rfl⟩
      · exact exec_stimLoad hs
      · exact exec_patLoad hs
    rw [he]
    refine ⟨fun h => ?_, fun hb hn ha hl => ⟨fun hp => ?_, fun hp hk => ?_, fun hp hk => ?_⟩⟩
    · rw [State.loadStart_bad h]
    · rw [State.loadStart_good hb hn ha hl, if_pos hp]
    · rw [State.loadStart_good hb hn ha hl, if_neg (Bool.eq_false_iff.mp hp), if_pos (by simp [hk])]
      rfl
    · rw [State.loadStart_good hb hn ha hl, if_neg (Bool.eq_false_iff.mp hp), if_neg (by simp [hk])]
  case loadDone =>
    intro s q data d op c hs hc hd
    have he : exec c s = .next (s.keep (s.loadDone q op data)) := by
      rcases hc with ⟨rfl, rfl⟩ | ⟨rfl, rfl⟩
      · exact exec_stimLoadComplete hs q data
      · exact exec_patLoadComplete hs q data
    rw [he, State.loadDone_running hd]
    refine ⟨fun h => ?_, fun h => ?_⟩
    · rw [if_pos h]
    · rw [if_neg h]
  case table =>
    rintro s u q d w n bad hs rfl hn hb
    rw [exec_stimSeqLoad hs, State.seqLoad_eq hn, hb]
    refine ⟨fun h => ?_, fun h hp => ?_, fun h hp ht => ?_, fun h hp ht => ?_⟩
    · rw [if_pos h]
    · rw [if_neg (Bool.eq_false_iff.mp h), if_pos (by simpa [State.stimState] using hp)]
      rfl
    · rw [if_neg (Bool.eq_false_iff.mp h), if_neg (by simpa [State.stimState] using hp), if_pos ht]
    · rw [if_neg (Bool.eq_false_iff.mp h), if_neg (by simpa [State.stimState] using hp), if_neg (Bool.eq_false_iff.mp ht)]
  case start =>
    rintro s u v q d x hs rfl hx rfl
    rw [exec_stimStart hs]
    refine ⟨fun st h => ?_, fun h => ?_⟩
    · rw [State.stimStart_refused h]
    · rw [State.stimStart_accepted h hx]; rfl
  case ready =>
    intro s hs
    rw [exec_stimReady hs, exec_patReady hs]
    refine ⟨fun r hr h1 hm => ?_, fun h => ?_, fun r hr h1 hm => ?_, fun h => ?_⟩
    · rw [State.stimFilled_run hr, if_pos (by simp [h1, hm])]
    · rw [State.stimFilled_unready h]
    · rw [State.patFilled_run hr, if_pos (by simp [h1, hm])]
    · rw [State.patFilled_unready h]
  case first =>
    rintro s u ofs ph r e y hs ⟨hr, rfl⟩ hu
    rw [exec_stimFirstSample hs]
    refine ⟨fun hn h2 hrel hd => ?_, fun h => ?_⟩
    · have hdue : (s.stimState == 2 && (r.start == 0 || r.released) && s.firstDue r.start r.relAt) = true := by
        simpa [h2, hd] using hrel
      rw [State.firstSample_entry hr hn, if_pos hdue, hu] <;> rfl
    · rw [State.firstSample_waits hr h]
  case idle =>
    intro s ofs l ph k o hs hr
    rw [exec_stimFirstSample hs, exec_stimDecisionSample hs, exec_stimSegmentBoundary hs, exec_stimUnderrunStart hs,
      exec_stimUnderrunEnd hs, exec_stimPoisonLine hs, exec_stimSaturation hs, State.firstSample_none hr,
      State.stimDecide_none hr, State.stimBoundary_none hr, State.underrunStart_none hr, State.underrunEnd_none hr,
      State.stimPoison_none hr, State.stimSat_none hr]
    exact ⟨rfl, rfl, rfl, rfl, rfl, rfl, rfl, State.soOut_none hr _ _⟩
  case counts =>
    intro s r k hr
    refine ⟨State.reaches_iff, State.plays_iff, State.presented_stopped, fun h hn => ?_, fun h hn => ?_,
      fun rank code count h => StimRun.cause_first h, fun rank code count e h hc => ?_, fun rank code count e h hc => ?_,
      fun e he => State.stimOver_ended hr he, State.stimOver_open hr⟩
    · rw [State.presented_playing h, if_neg (by simp [hn])]
    · rw [State.presented_playing h, if_pos (Option.isSome_iff_ne_none.mpr hn)]
    · rw [StimRun.cause_second h, if_pos hc]
    · rw [StimRun.cause_second h, if_neg (by omega)]
  case decide =>
    rintro s u r r1 used taken dd hs ⟨hr, rfl⟩ ho hu
    rw [exec_stimDecisionSample hs]
    refine ⟨fun hp hn ht => ?_, fun hp hn ht => ?_, fun h => ?_⟩
    · rw [State.stimDecide_decides hr hp hn ho hu, if_neg (Bool.eq_false_iff.mp ht)]
    · rw [State.stimDecide_decides hr hp hn ho hu, if_pos ht]
    · rw [State.stimDecide_passed hr h]
  case outcome =>
    rintro s r e dd x rfl
    refine ⟨State.stimOutcome_stop, fun q t p => State.stimOutcome_jump, fun h hj hr hl => ?_, fun h hj hr hc hl => ?_,
      fun h hj hr hc => ?_⟩
    · rw [State.stimOutcome_entry h hj, if_pos (by rw [hr, hl]; rfl)]
    · rw [State.stimOutcome_entry h hj, if_neg (by simp [hr]), if_pos hc, if_neg (Bool.eq_false_iff.mp hl)]
    · rw [State.stimOutcome_entry h hj, if_neg (by simp [hr]), if_neg hc]
  case boundary =>
    intro s ofs r hs hr
    rw [exec_stimSegmentBoundary hs]
    refine ⟨fun code hp hn => ?_, fun e hp hn => ?_, fun h => ?_⟩
    · rw [State.stimBoundary_finish hr hp hn]; rfl
    · rw [State.stimBoundary_entry hr hp hn]
    · rw [State.stimBoundary_passed hr h]
  case pass =>
    rintro s u r e k x rfl rfl
    exact ⟨fun h => if_pos h, fun h => if_neg (Bool.eq_false_iff.mp h)⟩
  case stop =>
    rintro s u q d p bad hs rfl rfl
    rw [exec_stimStop hs]
    refine ⟨fun hb => ?_, fun hb hr => ?_, fun x hb hr h3 => ?_, fun x hb hr h3 hi => ?_, fun x hb hr h3 hi => ?_⟩
    · rw [State.stimStop_bad hb]
    · rw [State.stimStop_idle hb hr]
    · rw [State.stimStop_run hb hr, if_pos (by simp [h3]), State.stimHalt, if_neg h3]
    · rw [State.stimStop_run hb hr, if_pos (by simp [hi]), State.stimHalt, if_pos h3]
    · rw [State.stimStop_run hb hr, if_neg (by simp [h3, hi])]
  case jump =>
    rintro s u q d p t bad hs rfl ht hb
    rw [exec_stimJump hs]
    refine ⟨fun h => ?_, fun x h hr => ?_⟩
    · rw [State.stimJump_bad ht (by rwa [hb])]
    · rw [State.stimJump_run ht (hb.trans h) hr]; rfl
  case go =>
    rintro s u q d p bad hs rfl rfl
    rw [exec_stimGo hs]
    refine ⟨fun hb => ?_, fun hb hr => ?_, fun x hb hr h1 hx hf => ?_, fun x hb hr h2 hx hf => ?_, fun x hb hr h1 h => ?_⟩
    · rw [State.stimGo_bad hb]
    · rw [State.stimGo_idle hb hr]
    · rw [State.stimGo_run hb hr (State.stimRelease_loading hx hf h1), if_pos (by simp), if_pos (by simp [h1])]
    · rw [State.stimGo_run hb hr (State.stimRelease_ready hx hf h2), if_pos (by simp), if_neg (by simp [h2])]
    · rw [State.stimGo_run hb hr (State.stimRelease_latch h), if_neg (by simp [h1]), if_neg (by simp [h1])]
  case play =>
    rintro s k n l e i o r code ⟨hs, rfl⟩ ⟨hr, hcode⟩ ⟨he, hi⟩
    rw [exec_stimUnderrunStart hs, exec_stimUnderrunEnd hs, exec_stimPoisonLine hs, exec_stimSaturation hs,
      State.stimSat_eq hr, State.soOut_run hr]
    refine ⟨fun hp hu hk hc hn => ?_, fun h => ?_, fun k0 hp hc hy hu hk hf => ?_, fun h => ?_, fun hp hu hl hn hb hw => ?_,
      fun h => ?_, fun hc hp hx => ?_, fun h => ?_, fun h => ?_, fun h => ?_⟩
    · rw [State.underrunStart_starts hr hp hu hk hc hn]
    · rw [State.underrunStart_kept hr h]
    · rw [State.underrunEnd_ends hr hp hc hy hu hk hf, State.underrunOver_some hu]
    · rw [State.underrunEnd_stays hr h]
    · rw [State.stimPoison_counts hr he hi hp hu hl hn hb hw]
    · rw [State.stimPoison_other hr he hi h]
    · have hsat := clampInt_ne_iff.mpr hx
      rw [if_pos]
      · rfl
      · simp [hc, hp, hcode, State.soCode, hsat]
    · rw [if_neg]
      rcases h with h | h | h
      · simp [h]
      · simp [h]
      · have hsame : clampInt (-8191) 8191 code = code := not_not.mp (clampInt_ne_iff.not.mpr (by omega))
        simp [hcode, State.soCode, hsame]
    · rw [if_pos h, hcode]
    · rw [if_neg (Bool.eq_false_iff.mp h)]
  case finish =>
    intro s u v r code k st last hl hst hv
    rw [State.stimEnd_eq hl hst hv]
    refine ⟨fun d hd => ?_, fun hd => ?_⟩
    · rw [hd]
    · rw [hd]

end Sys2Proof.Machine
end
